-- ==== Sys2Proof/Word.lean ====
section
/-! DEFINITION. The word types of the Kuryn KS1024's packets, frames, records and registers (R7), and nothing else. -/

namespace Sys2Proof

/-- One byte of a packet, frame, record or memory image (R7). -/
abbrev Byte := BitVec 8

/-- A 16-bit field of a packet: an opcode, a status, a role generation, a role epoch (R287, R288). -/
abbrev Half := BitVec 16

/-- A 32-bit state word (R58, R82, R141, ...). -/
abbrev Word := BitVec 32

end Sys2Proof
end

