-- ==== Sys2Proof/Syntax.lean ====
section
/-! DEFINITION. The commands of the KS1024 as a block: the operand types, and `Instr`, one constructor per
row of the operation and event table.  An opcode of the host takes a whole `Request` (its opcode is the
constructor); a happening takes what the rule of its row lets the outside world choose (a measured value, the
bytes of a transfer, a received frame).  Its docstrings name the row's mnemonic and governing rule. -/

namespace Sys2Proof

/-- The two host ports (R287, R307): the two-wire target and the SPI target. -/
inductive Port where
  | tw
  | spi
  deriving DecidableEq, Repr, Inhabited

/-- A request whose CRC is good (R287), as the Yard takes it: its header fields but OPCODE (which the
constructor says), and its parameter bytes.  A packet whose length, CRC or opcode is wrong is BAD_REQUEST. -/
structure Request where
  port : Port := .tw
  ver : Byte := 0x10#8
  tag : Byte := 1#8
  epoch : Half := 0xFFFF#16
  params : List Byte := []
  deriving DecidableEq, Repr, Inhabited

/-- The fast-path values of one channel latched at a tick boundary (R61, R62, R75, R236): V_IN of the common-mode monitor in
mV, VOUTn and ISPn − ISNn of the fast decimators in nV at the pins (R9 sign, R519), GATE_OK, and whether the KS240 current
limit is active. -/
structure ChLatch where
  vIn : Int := 0
  vm : Int := 0
  vs : Int := 0
  gateOk : Bool := false
  limiting : Bool := false
  deriving DecidableEq, Repr, Inhabited

/-- The values of one rail latched at a tick boundary (R110, R111): the mean of the error-ADC window in µV at the
pins, whether the window was saturated for the whole tick (below −1, above 1, else 0), and for each phase the mean
code of its last samples in µV. -/
structure RailLatch where
  win : Int := 0
  sat : Int := 0
  phases : List Int := []
  deriving DecidableEq, Repr, Inhabited

/-- The values of one battery terminal latched at a tick boundary (R226, R236): BTPj − BTNj, and the shunt voltage of the
current into the module, of the fast decimators in nV at the pins (R519). -/
structure TermLatch where
  vm : Int := 0
  vs : Int := 0
  deriving DecidableEq, Repr, Inhabited

/-- A period of a lane net as measured (R353): the lane, and its high and low time in steps of the interpolator. -/
structure LaneMeas where
  lane : Nat := 0
  high : Nat := 0
  low : Nat := 0
  deriving DecidableEq, Repr, Inhabited

/-- Everything the engines latch at one tick boundary (R26).  Entry `n` of a list belongs to channel, rail or
terminal `n`; a list that ends sooner leaves the later ones as they were latched before. -/
structure Latch where
  chs : List ChLatch := []
  rails : List RailLatch := []
  terms : List TermLatch := []
  /-- a valid die-link frame arrived in the tick (R23) -/
  dieLink : Bool := true
  /-- lane periods that ended in the tick, as the net showed them (R353) -/
  lanes : List LaneMeas := []
  /-- per downstream bus: a line reads low after the recovery that a block reset of the downstream block runs in this
  tick (R333, R409); an entry that is missing reads high -/
  dsLow : List Bool := []
  /-- per downstream bus: its clock line has read low through the whole tick (R334); an entry that is missing has not -/
  dsClockLow : List Bool := []
  /-- VINA, VINB, VKA: the supply lies out of its range, though it may not be low (R481); an entry that is missing does not -/
  supplyOut : List Bool := []
  deriving DecidableEq, Repr, Inhabited

/-- The three supply feeds that are watched (R363, R481). -/
inductive Feed where
  | vina
  | vinb
  | vka
  deriving DecidableEq, Repr, Inhabited

/-- The strap pins as the Ostler measures them at a wake, in mV (R1, R321, R514). -/
structure Straps where
  role : Int := 0
  addr0 : Int := 0
  addr1 : Int := 0
  addr2 : Int := 0
  deriving DecidableEq, Repr, Inhabited

/-- What a window monitor sees of its input: µV, and for how many cycles of 10 ns the comparison has come out alike (R277,
R278). -/
structure HeldInput where
  uV : Int := 0
  cycles : Nat := 0
  deriving DecidableEq, Repr, Inhabited

/-- The level of a window monitor (R277). -/
inductive Level where
  | inWindow
  | above
  | below
  deriving DecidableEq, Repr, Inhabited

/-- The two watchdogs (R416). -/
inductive Dog where
  | wd0
  | wd1
  deriving DecidableEq, Repr, Inhabited

/-- What fired a capture definition (R447). -/
inductive TrigCause where
  /-- a sticky bit of this source ID was set -/
  | source (id : Half)
  /-- any severity-3 source was set; the source ID -/
  | critical (id : Half)
  /-- an edge on this capture timer -/
  | timer (t : Fin 16)
  /-- REC_TRIGGER of the host -/
  | host
  deriving DecidableEq, Repr, Inhabited

/-- The classes of work that carry an aging bound (R442). -/
inductive AgedClass where
  | ledger
  | flush
  | selfTest
  | estimator
  | scrub
  deriving DecidableEq, Repr, Inhabited

/-- A frame received on a Nymi port (R370-R374): its type byte, the hops so far, source and destination addresses, role
epoch, flags, frame identity, payload and CRC. -/
structure Frame where
  ftype : Byte := 0#8
  hops : Byte := 0#8
  src : Half := 0#16
  dst : Half := 0#16
  epoch : Half := 0#16
  flags : Byte := 0#8
  fid : Half := 0#16
  payload : List Byte := []
  crc : BitVec 32 := 0#32
  deriving DecidableEq, Repr, Inhabited

/-- Why a Nymi port is left (R378). -/
inductive DownCause where
  | noHello
  | crcErrors
  | noSignal
  | restart
  deriving DecidableEq, Repr, Inhabited

/-- How a transaction on a downstream bus ended (R334, R335): a result code of R334 and the bytes read. -/
structure BusOutcome where
  result : Byte := 0#8
  data : List Byte := []
  deriving DecidableEq, Repr, Inhabited

/-- What a load-link request frame with a good CRC carries beside its opcode (R181): its sequence field and its 24-bit
payload. -/
structure LlFrame where
  seq : BitVec 3 := 0#3
  arg : BitVec 24 := 0#24
  deriving DecidableEq, Repr, Inhabited

/-- The commands: one constructor per row of the operation and event table, in the table's order but that the rows without
an operand stand last (Lean's compiler numbers constructors that carry data with one byte). -/
inductive Instr where
  /-- TICK (R26). -/
  | tick (l : Latch)
  /-- BRIDGE_EVENT (R150). -/
  | bridgeEvent (r : Fin 16) (convs : List Int)
  /-- VIN_LOW (R481). -/
  | vinLow (f : Feed)
  /-- VIN_RETURN (R481). -/
  | vinReturn (f : Feed) (st : Straps)
  /-- STUDIO_ABSENT_REWAKE (R499). -/
  | studioAbsentRewake (st : Straps)
  /-- SHORT_CIRCUIT_TRIP (R88). -/
  | shortCircuitTrip (ch : Fin 32)
  /-- INSTANTANEOUS_TRIP (R89). -/
  | instantaneousTrip (ch : Fin 32)
  /-- CHARGE_PUMP_UV (R62). -/
  | chargePumpUv (ch : Fin 32)
  /-- INSERTION (R64). -/
  | insertion (ch : Fin 32)
  /-- REMOVAL (R65). -/
  | removal (ch : Fin 32)
  /-- INSERT_DELAY_EXPIRY (R66). -/
  | insertDelayExpiry (ch : Fin 32)
  /-- PRIMER_REARM (R73). -/
  | primerRearm (ch : Fin 32)
  /-- PRIMER_TIMEOUT (R71). -/
  | primerTimeout (ch : Fin 32)
  /-- CLOSE_TIMEOUT (R71). -/
  | closeTimeout (ch : Fin 32)
  /-- PRIMER_OVERLAP_END (R71). -/
  | primerOverlapEnd (ch : Fin 32)
  /-- KS_FAULT_TIMER (R75). -/
  | ksFaultTimer (ch : Fin 32)
  /-- RETRY_DUE (R100). -/
  | retryDue (ch : Fin 32)
  /-- RETRY_RESET (R102). -/
  | retryReset (ch : Fin 32)
  /-- RAIL_START (R120). -/
  | railStart (r : Fin 16)
  /-- RAIL_INPUT_UV (R129). -/
  | railInputUv (r : Fin 16)
  /-- OC_LATCH (R132). -/
  | ocLatch (r : Fin 16)
  /-- PHASE_OC (R133). -/
  | phaseOc (r : Fin 16) (phase : Fin 12) (a b : Int)
  /-- RAIL_OVERVOLTAGE (R134). -/
  | railOvervoltage (r : Fin 16)
  /-- STAGE_TEMP_READ (R136). -/
  | stageTempRead (r : Fin 16)
  /-- BURST_ENTER (R130). -/
  | burstEnter (r : Fin 16)
  /-- BURST_WAKE (R130). -/
  | burstWake (r : Fin 16)
  /-- CURRENT_BALANCE (R116). -/
  | currentBalance (r : Fin 16)
  /-- RECT_STATUS_AGE_EXPIRY (R144). -/
  | rectStatusAgeExpiry (ch : Fin 32)
  /-- BURST_END (R198). -/
  | burstEnd (n : Fin 8)
  /-- ADMIT_ATTEMPT (R207). -/
  | admitAttempt (j : Fin 12) (serial : Option (List Byte)) (profile : Option Nat) (temp : Option Int)
  /-- ADMIT_TEMP_RETRY (R207). -/
  | admitTempRetry (j : Fin 12)
  /-- BMS_POLL (R209). -/
  | bmsPoll (j : Fin 12) (serial : Option (List Byte)) (temp : Option Int)
  /-- BMS_LOST (R209). -/
  | bmsLost (j : Fin 12)
  /-- ESTIMATOR_STEP (R214). -/
  | estimatorStep (j : Fin 12)
  /-- REST_SAMPLE (R215). -/
  | restSample (j : Fin 12) (vMean : Int)
  /-- CEILING (R221). -/
  | ceiling (j : Fin 12)
  /-- FLOOR (R222). -/
  | floor (j : Fin 12)
  /-- TERM_LOSS (R227). -/
  | termLoss (j : Fin 12)
  /-- METER_SAMPLE (R237). -/
  | meterSample (o : Fin 44) (vs vm : Int)
  /-- SHUNT_TEMP_READ (R244). -/
  | shuntTempRead (o : Fin 44)
  /-- LEDGER_COMMIT (R257). -/
  | ledgerCommit (signGood : Bool)
  /-- SEQ_CONVERSION (R270). -/
  | seqConversion (k : Fin 8) (pos : Fin 20) (nv : Int)
  /-- SEQ_STOP_COMPLETE (R275). -/
  | seqStopComplete (k : Fin 8)
  /-- HOUSEKEEPING_READING (R269). -/
  | housekeepingReading (inp : BitVec 7) (c0 c1 c2 c3 : Int)
  /-- WM_LEVEL_CHANGE (R278). -/
  | wmLevelChange (m : Fin 24) (held : HeldInput) (st : Straps)
  /-- WINDOW_EVENT_DEFERRED (R279). -/
  | windowEventDeferred (m : Fin 24)
  /-- CAPTURE_STAMP (R282). -/
  | captureStamp (t : Fin 16) (src lvl : Byte) (at_ : Nat)
  /-- TW_WRITE_TRANSFER (R323). -/
  | twWriteTransfer (adr : BitVec 7) (bytes : List Byte)
  /-- TW_READ_TRANSFER (R324). -/
  | twReadTransfer (adr : BitVec 7) (n : Nat)
  /-- SPI_WRITE (R328). -/
  | spiWrite (bytes : List Byte)
  /-- SPI_READ (R328). -/
  | spiRead (n : Nat)
  /-- SPI_OTHER_COMMAND (R328). -/
  | spiOtherCommand (cmd : Byte)
  /-- RESPONDER_HELLO (R484). -/
  | responderHello (rq : Request)
  /-- RESPONDER_PING (R484). -/
  | responderPing (rq : Request)
  /-- RESPONDER_MODE_GET (R484). -/
  | responderModeGet (rq : Request)
  /-- RESPONDER_MODE_REQUEST (R484). -/
  | responderModeRequest (rq : Request) (st : Straps)
  /-- RESPONDER_FAULT_BLOCK_GET (R484). -/
  | responderFaultBlockGet (rq : Request)
  /-- RESPONDER_OTHER (R484). -/
  | responderOther (rq : Request) (opcode : Half)
  /-- HELLO (R307). -/
  | hello (rq : Request)
  /-- SUMMARY (R314). -/
  | summary (rq : Request)
  /-- PING (R317). -/
  | ping (rq : Request)
  /-- WD_CHALLENGE (R428). -/
  | wdChallenge (rq : Request)
  /-- WD_SERVE (R418). -/
  | wdServe (rq : Request) (received : Nat)
  /-- FENCE (R300). -/
  | fence (rq : Request)
  /-- FENCE_RELEASE (R300). -/
  | fenceRelease (p : Port)
  /-- FENCE_TIMEOUT (R300). -/
  | fenceTimeout (p : Port)
  /-- GOODBYE (R309). -/
  | goodbye (rq : Request)
  /-- EVENT_READ (R301). -/
  | eventRead (rq : Request)
  /-- MODE_GET (R57). -/
  | modeGet (rq : Request)
  /-- MODE_REQUEST (R37). -/
  | modeRequest (rq : Request)
  /-- SERVICE_SELECT (R47). -/
  | serviceSelect (rq : Request)
  /-- CH_GET (R81). -/
  | chGet (rq : Request)
  /-- CH_ON (R68). -/
  | chOn (rq : Request)
  /-- CH_OFF (R68). -/
  | chOff (rq : Request)
  /-- CH_DISABLE (R68). -/
  | chDisable (rq : Request)
  /-- CH_ENABLE (R68). -/
  | chEnable (rq : Request)
  /-- CH_STATE_ALL (R81). -/
  | chStateAll (rq : Request)
  /-- BRK_GET (R108). -/
  | brkGet (rq : Request)
  /-- BRK_CLEAR_LOCKOUT (R104). -/
  | brkClearLockout (rq : Request)
  /-- BRK_CURVE_GET (R108). -/
  | brkCurveGet (rq : Request)
  /-- BRK_EVAL (R108). -/
  | brkEval (rq : Request)
  /-- RAIL_GET (R140). -/
  | railGet (rq : Request)
  /-- RAIL_ON (R122). -/
  | railOn (rq : Request)
  /-- RAIL_OFF (R122). -/
  | railOff (rq : Request)
  /-- RAIL_DISABLE (R122). -/
  | railDisable (rq : Request)
  /-- RAIL_ENABLE (R122). -/
  | railEnable (rq : Request)
  /-- RAIL_SET (R140). -/
  | railSet (rq : Request)
  /-- RAIL_CLEAR_LATCH (R135). -/
  | railClearLatch (rq : Request)
  /-- RAIL_STATE_ALL (R140). -/
  | railStateAll (rq : Request)
  /-- RAIL_PHASES_GET (R140). -/
  | railPhasesGet (rq : Request)
  /-- ENERGY_GET (R173). -/
  | energyGet (rq : Request)
  /-- CAP_SET (R164). -/
  | capSet (rq : Request)
  /-- CHARGE_SET (R149). -/
  | chargeSet (rq : Request)
  /-- BRIDGE_GET (R173). -/
  | bridgeGet (rq : Request)
  /-- RECT_GET (R173). -/
  | rectGet (rq : Request)
  /-- LL_GET (R203). -/
  | llGet (rq : Request)
  /-- LL_STATE_ALL (R203). -/
  | llStateAll (rq : Request)
  /-- LL_DISABLE (R203). -/
  | llDisable (rq : Request)
  /-- LL_ENABLE (R203). -/
  | llEnable (rq : Request)
  /-- BAT_GET (R232). -/
  | batGet (rq : Request)
  /-- BAT_STATE_ALL (R232). -/
  | batStateAll (rq : Request)
  /-- BAT_ADMIT (R207). -/
  | batAdmit (rq : Request)
  /-- BAT_RELEASE (R228). -/
  | batRelease (rq : Request)
  /-- BAT_REST_GET (R232). -/
  | batRestGet (rq : Request)
  /-- BAT_PROFILE_GET (R232). -/
  | batProfileGet (rq : Request)
  /-- METER_GET (R263). -/
  | meterGet (rq : Request)
  /-- METER_ALL (R263). -/
  | meterAll (rq : Request)
  /-- SHELF_TOTALS_GET (R263). -/
  | shelfTotalsGet (rq : Request)
  /-- LEDGER_INFO (R263). -/
  | ledgerInfo (rq : Request)
  /-- LEDGER_READ (R263). -/
  | ledgerRead (rq : Request)
  /-- LEDGER_ACK (R258). -/
  | ledgerAck (rq : Request)
  /-- LEDGER_ATTEST (R263). -/
  | ledgerAttest (rq : Request)
  /-- LEDGER_SNAPSHOT (R254). -/
  | ledgerSnapshot (rq : Request)
  /-- CFG_INFO (R476). -/
  | cfgInfo (rq : Request)
  /-- CFG_READ (R476). -/
  | cfgRead (rq : Request)
  /-- CFG_STAGE_BEGIN (R468). -/
  | cfgStageBegin (rq : Request)
  /-- CFG_STAGE_WRITE (R468). -/
  | cfgStageWrite (rq : Request)
  /-- CFG_STAGE_END (R468). -/
  | cfgStageEnd (rq : Request)
  /-- CFG_COMMIT (R469). -/
  | cfgCommit (rq : Request)
  /-- FAULT_SCAN (R429). -/
  | faultScan (rq : Request)
  /-- FAULT_BLOCK_GET (R429). -/
  | faultBlockGet (rq : Request)
  /-- FAULT_CLEAR (R411). -/
  | faultClear (rq : Request)
  /-- FAULT_SEVERITY_SET (R413). -/
  | faultSeveritySet (rq : Request)
  /-- WD_GET (R429). -/
  | wdGet (rq : Request)
  /-- COUNTS_GET (R429). -/
  | countsGet (rq : Request)
  /-- WD_EXPIRY (R418). -/
  | wdExpiry (w : Dog)
  /-- WD0_SERVICE (R419). -/
  | wd0Service (seq token : Half)
  /-- REC_INFO (R453). -/
  | recInfo (rq : Request)
  /-- REC_READ (R453). -/
  | recRead (rq : Request)
  /-- REC_FREEZE (R449). -/
  | recFreeze (rq : Request)
  /-- REC_THAW (R449). -/
  | recThaw (rq : Request)
  /-- REC_TRIGGER (R447). -/
  | recTrigger (rq : Request)
  /-- CAPTURE_TRIGGER (R447). -/
  | captureTrigger (d : Fin 4) (cause : TrigCause)
  /-- CAPTURE_COMPLETE (R447). -/
  | captureComplete (d : Fin 4)
  /-- SKETCHBOOK_FLUSH (R442). -/
  | sketchbookFlush (readBackGood : Bool)
  /-- FW_INFO (R453). -/
  | fwInfo (rq : Request)
  /-- FW_STAGE_BEGIN (R438). -/
  | fwStageBegin (rq : Request)
  /-- FW_STAGE_WRITE (R438). -/
  | fwStageWrite (rq : Request)
  /-- FW_STAGE_END (R438). -/
  | fwStageEnd (rq : Request)
  /-- FW_VERIFY_DONE (R436). -/
  | fwVerifyDone (eccBad : Bool)
  /-- FW_ACTIVATE_TRIAL (R440). -/
  | fwActivateTrial (rq : Request)
  /-- FW_ACTIVATE_CONFIRM (R440). -/
  | fwActivateConfirm (rq : Request)
  /-- FW_ACTIVATE_REVERT (R440). -/
  | fwActivateRevert (rq : Request)
  /-- MRAM_SCRUB_PASS (R443). -/
  | mramScrubPass (corrected uncorrectable : List Nat)
  /-- AGING_BOUND_EXPIRY (R443). -/
  | agingBoundExpiry (c : AgedClass)
  /-- DRIVER_SELFTEST_PASS (R353). -/
  | driverSelftestPass (passed : Bool)
  /-- PAIR_HEALTH (R366). -/
  | pairHealth (rq : Request)
  /-- PAIR_GET (R366). -/
  | pairGet (rq : Request)
  /-- PAIR_HANDOVER (R361). -/
  | pairHandover (rq : Request)
  /-- MIRROR (R351). -/
  | mirror (payload : List Byte)
  /-- LINK_TRAIN (R378). -/
  | linkTrain (p : Fin 4)
  /-- LINK_HELLO_TIMER (R378). -/
  | linkHelloTimer (p : Fin 4)
  /-- LINK_HELLO (R378). -/
  | linkHello (p : Fin 4) (f : Frame)
  /-- LINK_DOWN (R378). -/
  | linkDown (p : Fin 4) (c : DownCause)
  /-- TIME_EXCHANGE (R382). -/
  | timeExchange (t1 : Nat)
  /-- TIME_REQ (R382). -/
  | timeReq (p : Fin 4) (f : Frame) (t2 t3 : Nat)
  /-- TIME_RESP (R382). -/
  | timeResp (p : Fin 4) (f : Frame) (t4 : Nat)
  /-- BROADCAST (R386). -/
  | broadcast (p : Fin 4) (f : Frame)
  /-- BARRIER_ARRIVE (R387). -/
  | barrierArrive (p : Fin 4) (f : Frame)
  /-- BARRIER_OPEN (R387). -/
  | barrierOpen (p : Fin 4) (f : Frame)
  /-- BARRIER_RELEASE (R388). -/
  | barrierRelease (p : Fin 4) (f : Frame)
  /-- SCHEDULE (R389). -/
  | schedule (p : Fin 4) (f : Frame)
  /-- SCHEDULE_REQ (R389). -/
  | scheduleReq (p : Fin 4) (f : Frame)
  /-- SCHEDULE_ANS (R389). -/
  | scheduleAns (p : Fin 4) (f : Frame)
  /-- MESSAGE (R394). -/
  | message (p : Fin 4) (f : Frame)
  /-- MESSAGE_ACK (R394). -/
  | messageAck (p : Fin 4) (f : Frame)
  /-- CAP_REPORT (R393). -/
  | capReport (p : Fin 4) (f : Frame)
  /-- CAP_ALLOC (R393). -/
  | capAlloc (p : Fin 4) (f : Frame)
  /-- COLLECT_REQ (R395). -/
  | collectReq (p : Fin 4) (f : Frame)
  /-- COLLECT_DATA (R396). -/
  | collectData (p : Fin 4) (f : Frame)
  /-- HALL_GET (R400). -/
  | hallGet (rq : Request)
  /-- HALL_TIME_GET (R400). -/
  | hallTimeGet (rq : Request)
  /-- HALL_BROADCAST (R386). -/
  | hallBroadcast (rq : Request)
  /-- HALL_BARRIER (R387). -/
  | hallBarrier (rq : Request)
  /-- STILL_LIFE_SCHEDULE (R389). -/
  | stillLifeSchedule (rq : Request)
  /-- HALL_RESET_SCHEDULE (R389). -/
  | hallResetSchedule (rq : Request)
  /-- SNAPSHOT_COLLECT_START (R395). -/
  | snapshotCollectStart (rq : Request)
  /-- SNAPSHOT_COLLECT_READ (R400). -/
  | snapshotCollectRead (rq : Request)
  /-- SNAPSHOT_COLLECT_STATUS (R400). -/
  | snapshotCollectStatus (rq : Request)
  /-- SNAPSHOT_COLLECT_CANCEL (R400). -/
  | snapshotCollectCancel (rq : Request)
  /-- HALL_SEND (R394). -/
  | hallSend (rq : Request)
  /-- MEAS_STATUS (R285). -/
  | measStatus (rq : Request)
  /-- SAR_READING (R285). -/
  | sarReading (rq : Request)
  /-- SEQ_START (R275). -/
  | seqStart (rq : Request)
  /-- SEQ_STOP (R275). -/
  | seqStop (rq : Request)
  /-- SEQ_GET (R285). -/
  | seqGet (rq : Request)
  /-- MEAS_RING_READ (R285). -/
  | measRingRead (rq : Request)
  /-- WM_GET_ALL (R285). -/
  | wmGetAll (rq : Request)
  /-- WM_SET (R278). -/
  | wmSet (rq : Request)
  /-- CAP_ARM (R285). -/
  | capArm (rq : Request)
  /-- CAP_READ (R285). -/
  | capRead (rq : Request)
  /-- SVC_CAL_READ (R318). -/
  | svcCalRead (rq : Request)
  /-- SVC_FET_EXERCISE (R318). -/
  | svcFetExercise (rq : Request)
  /-- DS_TRANSACT (R340). -/
  | dsTransact (rq : Request)
  /-- DS_STATUS (R340). -/
  | dsStatus (rq : Request)
  /-- DS_TRANSACTION (R331). -/
  | dsTransaction (k : Fin 4) (o : BusOutcome)
  /-- DS_ARB_LOST (R332). -/
  | dsArbLost (k : Fin 4)
  /-- ARB_STOP (R333). -/
  | arbStop (k : Fin 4) (dataHigh clockHigh : Bool)
  /-- ARB_BACKOFF_EXPIRY (R333). -/
  | arbBackoffExpiry (k : Fin 4)
  /-- DS_TIMEOUT (R334). -/
  | dsTimeout (k : Fin 4) (dataHigh clockHigh : Bool)
  /-- DS_RECOVERY_RETRY (R334). -/
  | dsRecoveryRetry (k : Fin 4) (dataHigh clockHigh : Bool)
  /-- SETV (R189). -/
  | setv (n : Fin 8) (f : LlFrame)
  /-- SETV_SETTLED (R190). -/
  | setvSettled (n : Fin 8)
  /-- SETTLE_TIMEOUT (R190). -/
  | settleTimeout (n : Fin 8)
  /-- SLEW (R189). -/
  | slew (n : Fin 8) (f : LlFrame)
  /-- BURST_REQ (R195). -/
  | burstReq (n : Fin 8) (f : LlFrame)
  /-- BURST_REL (R198). -/
  | burstRel (n : Fin 8) (f : LlFrame)
  /-- LL_HELLO (R188). -/
  | llHello (n : Fin 8) (f : LlFrame)
  /-- LL_READ (R193). -/
  | llRead (n : Fin 8) (f : LlFrame)
  /-- LL_PING (R184). -/
  | llPing (n : Fin 8) (f : LlFrame)
  /-- LL_BIT_TIMEOUT (R179). -/
  | llBitTimeout (n : Fin 8)
  /-- LINK_LOST (R187). -/
  | linkLost (n : Fin 8)
  /-- THROTTLE_IGNORED (R194). -/
  | throttleIgnored (n : Fin 8)
  /-- WAKEN_PULSE (R485). -/
  | wakenPulse (lowNs : Nat) (st : Straps)
  /-- KEEPALIVE_POWER_ON (R483). -/
  | keepalivePowerOn (st : Straps)
  /-- WAKE_STEP_TIMEOUT (R486). -/
  | wakeStepTimeout (rcUsable : Bool)
  /-- DEAD_STOP_RETRY (R493). -/
  | deadStopRetry (st : Straps)
  /-- RSTN_RELEASE (R491). -/
  | rstnRelease (st : Straps)
  /-- PLL_UNLOCK (R498). -/
  | pllUnlock (recovered : Bool)
  /-- TEMP_SAMPLE (R503). -/
  | tempSample (counts : List Nat)
  /-- OSTLER_TS0_READ (R506). -/
  | ostlerTs0Read (t : Int) (st : Straps := {})
  /-- BAD_REQUEST (R291). -/
  | badRequest (p : Port) (bytes : List Byte)
  /-- LL_REJECTED_FRAME (R185). -/
  | llRejectedFrame (n : Fin 8) (bits : BitVec 40)
  /-- LINK_CRC (R373). -/
  | linkCrc (p : Fin 4)
  /-- ARB_LOST_RETRY (R332). -/
  | arbLostRetry (k : Fin 4)
  /-- MODE_COMMIT (R38). -/
  | modeCommit
  /-- LOCKOUT_COMMIT (R48). -/
  | lockoutCommit
  /-- HOLD_AUTO_READY (R37). -/
  | holdAutoReady
  /-- STAGE_END (R39). -/
  | stageEnd
  /-- START_SOURCES_SPACING (R39). -/
  | startSourcesSpacing
  /-- STAGE_TIMEOUT (R40). -/
  | stageTimeout
  /-- SHORTFALL (R43). -/
  | shortfall
  /-- BRIDGE_DWELL_MET (R43). -/
  | bridgeDwellMet
  /-- HANDOVER_COMPLETE (R158). -/
  | handoverComplete
  /-- POWER_DOWN_FLUSH_END (R41). -/
  | powerDownFlushEnd (st : Straps := {}) (good : Bool := true)
  /-- SUPPLY_LOSS (R42). -/
  | supplyLoss
  /-- STUDIO_ABSENT (R23). -/
  | studioAbsent
  /-- GAP_HOLD (R357). -/
  | gapHold
  /-- ENERGY_STEP (R143). -/
  | energyStep
  /-- WEIGHT_UPDATE (R155). -/
  | weightUpdate
  /-- CAP_OVER (R167). -/
  | capOver
  /-- RECT_STATUS_POLL (R144). -/
  | rectStatusPoll
  /-- HALL_CAP_ROUND (R393). -/
  | hallCapRound
  /-- CAP_REPORT_DEADLINE (R393). -/
  | capReportDeadline
  /-- CAP_ALLOC_APPLY (R168). -/
  | capAllocApply
  /-- HALL_CAP_LOST (R169). -/
  | hallCapLost
  /-- CHECKPOINT (R247). -/
  | checkpoint
  /-- LEDGER_PERIOD_CLOSE (R252). -/
  | ledgerPeriodClose
  /-- TW_HELD (R320). -/
  | twHeld
  /-- OSTLER_RX_WAKE (R326). -/
  | ostlerRxWake
  /-- OSTLER_RX_SLEEP (R326). -/
  | ostlerRxSleep
  /-- CFG_STAGE_CHECKED (R467). -/
  | cfgStageChecked
  /-- MAILBOX_ENTRY (R433). -/
  | mailboxEntry
  /-- MAILBOX_TIMEOUT (R29). -/
  | mailboxTimeout
  /-- CFG_APPLY (R471). -/
  | cfgApply
  /-- YARD_RESTART (R439). -/
  | yardRestart
  /-- REC_SUMMARY (R446). -/
  | recSummary (good : Bool := true)
  /-- FREEZE_EFFECT (R449). -/
  | freezeEffect (good : Bool := true)
  /-- FW_ACTIVATE_RESTART (R440). -/
  | fwActivateRestart
  /-- HANDOVER_QUEUE_DRAINED (R361). -/
  | handoverQueueDrained
  /-- HANDOVER_RELINQUISH (R361). -/
  | handoverRelinquish
  /-- HANDOVER_ABORT (R361). -/
  | handoverAbort
  /-- ROLE_TAKE_AT_START (R348). -/
  | roleTakeAtStart
  /-- HEARTBEAT_LOSS (R355). -/
  | heartbeatLoss
  /-- TAKEOVER (R356). -/
  | takeover
  /-- DRIVER_RESUME (R356). -/
  | driverResume
  /-- FORCE_IN_RISE (R346). -/
  | forceInRise
  /-- FORCE_IN_FALL (R355). -/
  | forceInFall
  /-- FAILOVER_BLOCKED_TAKEOVER (R360). -/
  | failoverBlockedTakeover
  /-- RESYNC_DWELL (R354). -/
  | resyncDwell
  /-- BARRIER_TIMEOUT (R388). -/
  | barrierTimeout
  /-- SCHEDULE_REQ_TIMEOUT (R389). -/
  | scheduleReqTimeout
  /-- SCHEDULE_ACTION (R390). -/
  | scheduleAction
  /-- MESSAGE_TIMEOUT (R394). -/
  | messageTimeout
  /-- COLLECT_NO_REPLY (R395). -/
  | collectNoReply
  /-- SVC_CAL_READ_DONE (R318). -/
  | svcCalReadDone
  /-- FET_EXERCISE_HOLD_END (R318). -/
  | fetExerciseHoldEnd
  /-- WAKEN_LONG_LOW (R489). -/
  | wakenLongLow
  /-- WAKE_STEP_GOOD (R486). -/
  | wakeStepGood
  /-- WAKE_STEP_RETRY (R486). -/
  | wakeStepRetry
  /-- WAKE_COMPLETE (R487). -/
  | wakeComplete
  /-- RSTN_ASSERT (R491). -/
  | rstnAssert
  /-- XTAL_FAIL (R497). -/
  | xtalFail
  /-- XTAL_RETRY (R497). -/
  | xtalRetry
  /-- XTAL_RESTORE (R497). -/
  | xtalRestore
  /-- REFERENCE_TRIM (R506). -/
  | referenceTrim
  /-- RECT_MODE_POLL (R336). -/
  | rectModePoll
  /-- SERVICE_STOP_TIMEOUT (R47). -/
  | serviceStopTimeout
  /-- RC_CLOCK_FAIL (R498). -/
  | rcClockFail
  deriving DecidableEq, Repr

end Sys2Proof
end

