-- ==== Sys2Proof/Decode.lean ====
section
/-! DEFINITION. The word decoder.  The operation table gives none of its rows any bits (98_reader): a command is
no word, so no word spells one. -/

namespace Sys2Proof

/-- The command that a word of `nbits` bits spells by the table: the table gives no row any bits. -/
def decodeTableWord (_nbits _w : Nat) : Option Instr := none

end Sys2Proof
end

