-- ==== Sys2Proof/Config.lean ====
section
/-! DEFINITION. What the spec leaves to the part or leaves open: constants without a body, so that no proof can
see their values and a claim about the machine holds whatever they are.  Each is named in a log entry. -/

namespace Sys2Proof

/-- A free number: applied to the free counter of the state, one fresh value for each use (R416 challenges drawn
from the random source, R333 the backoff count, R268 the OVR flag near its edge). -/
opaque Config.freeNat : Nat → Nat

/-- Which way an inexact quotient is rounded where the spec states none; of the numerator and denominator. -/
opaque Config.roundUp : Int → Int → Bool

/-- The quotient by zero, where the spec states no result; of the numerator. -/
opaque Config.openQuotient : Int → Int

/-- The engine's error in T(m) and in the cooling step (R92); clamped to the stated tolerance where it is used.
Its arguments are the nominal value and the quantity it was computed from. -/
opaque Config.engineError : Int → Int → Int

/-- The device ID of OTP (R307), 8 bytes. -/
opaque Config.deviceId : Nat → Byte

/-- The Stable and Studio die revisions and the trusted ROM version (R315). -/
opaque Config.stableRev : Byte
opaque Config.studioRev : Byte
opaque Config.romVersion : Half

/-- The device's P-256 private key in OTP (R256), reduced into its range where it is used. -/
opaque Config.privateKey : Nat

/-- Where piece `k` of the retained state lies in its MRAM region (R432), and its length less 1: 0 and 1 the checkpoint
blocks, 2 and 3 the ledger position blocks, 4 and 5 the copies of the retained counts. -/
opaque Config.retainedPlace : Nat → Nat × Nat

/-- Where state block `k` lies in its MRAM region (R456), 0 or 1, and its length less 1. -/
opaque Config.cfgBlockPlace : Nat → Nat × Nat

/-- The RC's trim code after a time exchange steers it (R500): of the exchange's offset in ps and the code before. -/
opaque Config.rcSteer : Int → Int → Int

/-- The vendor's P-256 public key in the trusted ROM, X and Y (R436). -/
opaque Config.vendorKey : Nat × Nat

/-- The OTP table of the RC's trim (R500): temperature in 0.01 °C and trim code of point `k`, 0 to 7. -/
opaque Config.rcTable : Nat → Int × Int

/-- The OTP calibration of temperature sensor `k` (R501): the counts N1 and N2 of its two calibration points. -/
opaque Config.tsCal : Nat → Nat × Nat

/-- The reading, in 0.01 °C, of a temperature sensor or thermistor whose conversion the spec does not give. -/
opaque Config.openReading : Nat → Int → Int

/-- The trim in ppm that the OTP coefficients give (R506): of the trimmed kind (0 references, 1 comparator DACs, 2 modulators,
3 error ADCs) and the readings of TS0-TS7 in 0.01 °C, none for an excluded sensor. -/
opaque Config.trimTarget : Nat → List (Option Int) → Int

/-- H_MAX as a member outside a hall reports it (R374, R400), and the DST field of a frame that only the neighbour reads
(R372). -/
opaque Config.openHMax : Nat
opaque Config.openDst : Half

/-- What a signed field of `n` bytes shows of a value that it cannot hold, as the unsigned number of its bytes. -/
opaque Config.openField : Nat → Int → Nat

end Sys2Proof
end

