-- ==== Sys2Proof/Machine/Bytes.lean ====
section
/-! DEFINITION. Bytes of packets, frames, records and images: little-endian fields (R7), the CRCs of R289, R331
and R373, and reading a field out of a byte string. -/

namespace Sys2Proof.Machine

/-- The `n` bytes of an unsigned field, least significant first (R7). -/
def le : Nat → Nat → List Byte
  | 0, _ => []
  | n + 1, v => BitVec.ofNat 8 v :: le n (v / 256)

/-- The `n` bytes of a signed field, two's complement, least significant first (R7); what it shows of a value outside its
range is open. -/
def leI (n : Nat) (v : Int) : List Byte :=
  if -(2 ^ (8 * n - 1) : Nat) ≤ v ∧ v < (2 ^ (8 * n - 1) : Nat) then le n (v % (2 ^ (8 * n) : Nat)).toNat
  else le n (Config.openField n v)

/-- The value of a little-endian byte string (R7). -/
def ofLe : List Byte → Nat
  | [] => 0
  | b :: bs => b.toNat + 256 * ofLe bs

/-- The unsigned field of `n` bytes at offset `off`; bytes beyond the end read as zero. -/
def field (bs : List Byte) (off n : Nat) : Nat :=
  ofLe ((bs.drop off).take n)

/-- The signed field of `n` bytes at offset `off` (R7). -/
def fieldI (bs : List Byte) (off n : Nat) : Int :=
  let v := field bs off n
  if 2 ^ (8 * n) ≤ 2 * v then (v : Int) - (2 ^ (8 * n) : Nat) else v

/-- `n` zero bytes: a reserved field (R10). -/
def zeros (n : Nat) : List Byte := List.replicate n 0#8

/-- A byte string cut or padded with zeros to `n` bytes. -/
def fit (n : Nat) (bs : List Byte) : List Byte :=
  bs.take n ++ zeros (n - bs.length)

/-- Overwrites the bytes at offset `off`, within the string's length. -/
def patch (bs : List Byte) (off : Nat) (new : List Byte) : List Byte :=
  (bs.take off ++ new ++ bs.drop (off + new.length)).take bs.length

/-- `k` steps of a most-significant-bit-first 16-bit CRC register with polynomial 0x1021. -/
def crc16Bits : Nat → Half → Half
  | 0, r => r
  | k + 1, r => crc16Bits k (if r.msb then (r <<< 1) ^^^ 0x1021#16 else r <<< 1)

/-- One byte into the register of CRC-16/CCITT-FALSE (R289). -/
def crc16Byte (r : Half) (b : Byte) : Half :=
  crc16Bits 8 (r ^^^ ((b.setWidth 16) <<< 8))

/-- CRC-16/CCITT-FALSE (R289): initial value 0xFFFF, no reflection, no final XOR. -/
def crc16 (bs : List Byte) : Half := bs.foldl crc16Byte 0xFFFF#16

/-- `k` steps of the reflected CRC-32C register (polynomial 0x1EDC6F41, R373). -/
def crc32cBits : Nat → Word → Word
  | 0, r => r
  | k + 1, r => crc32cBits k (if r.getLsbD 0 then (r >>> 1) ^^^ 0x82F63B78#32 else r >>> 1)

/-- One byte into the CRC-32C register. -/
def crc32cByte (r : Word) (b : Byte) : Word :=
  crc32cBits 8 (r ^^^ b.setWidth 32)

/-- CRC-32C (R373): initial value and final XOR all ones, reflected. -/
def crc32c (bs : List Byte) : Word := ~~~ (bs.foldl crc32cByte 0xFFFFFFFF#32)

/-- `k` steps of the 8-bit register with polynomial 0x07. -/
def crc8Bits : Nat → Byte → Byte
  | 0, r => r
  | k + 1, r => crc8Bits k (if r.msb then (r <<< 1) ^^^ 0x07#8 else r <<< 1)

/-- CRC-8 with polynomial 0x07 and initial value zero. -/
def crc8 (bs : List Byte) : Byte := bs.foldl (fun r b => crc8Bits 8 (r ^^^ b)) 0#8

/-- Bit `i` of a byte string read as one little-endian number: the bitmaps of R428 and R429. -/
def bitAt (bs : List Byte) (i : Nat) : Bool :=
  (bs.getD (i / 8) 0#8).getLsbD (i % 8)

/-- The byte that packs eight flags, the first in bit 0. -/
def packByte (f : Nat → Bool) : Byte :=
  (List.range 8).foldl (fun b i => if f i then b ||| (1#8 <<< i) else b) 0#8

/-- A bitmap of `n` bytes from a predicate on bit numbers. -/
def bitmap (n : Nat) (f : Nat → Bool) : List Byte :=
  (List.range n).map fun k => packByte fun i => f (8 * k + i)

/-- A 32-bit word's bytes (R7). -/
def leW (w : Word) : List Byte := le 4 w.toNat

/-- A bit of a state word: `2 ^ i` when set. -/
def bitN (i : Nat) (b : Bool) : Nat := if b then 2 ^ i else 0

/-- An uncorrectable word lies in the `n` bytes at `base`. -/
def eccIn (bad : List Nat) (base n : Nat) : Bool := bad.any fun a => decide (base ≤ a + 7) && decide (a < base + n)

end Sys2Proof.Machine
end

