-- ==== Sys2Proof/Machine/Memory.lean ====
section
/-! DEFINITION. The measurement region of SRAM (R274, R276): bytes at addresses, held as a list of cells in one canonical
form, addresses strictly rising and no cell that holds what an unlisted address reads as. -/

namespace Sys2Proof.Machine

/-- Memory as a list of cells. -/
abbrev Memory := List Host.Cell

/-- What an unlisted address reads as (the spec gives no contents after power-on). -/
def Memory.blank : Byte := 0#8

/-- The byte at an address. -/
def Memory.read : Memory → Nat → Byte
  | [], _ => Memory.blank
  | (a, b) :: m, k => if a = k then b else Memory.read m k

/-- A byte written at an address; the canonical form is kept. -/
def Memory.write : Memory → Nat → Byte → Memory
  | [], k, v => if v = Memory.blank then [] else [(k, v)]
  | (a, b) :: m, k, v =>
    if k < a then (if v = Memory.blank then (a, b) :: m else (k, v) :: (a, b) :: m)
    else if k = a then (if v = Memory.blank then m else (k, v) :: m)
    else (a, b) :: Memory.write m k v

/-- The canonical form: addresses above `lo`, strictly rising, no blank cell. -/
def Memory.above : Nat → Memory → Bool
  | _, [] => true
  | lo, (a, b) :: m => decide (lo ≤ a) && b != Memory.blank && Memory.above (a + 1) m

/-- The canonical form holds. -/
def Memory.wf (m : Memory) : Bool := Memory.above 0 m

/-- Bytes written from an address on. -/
def Memory.writeBytes : Memory → Nat → List Byte → Memory
  | m, _, [] => m
  | m, a, b :: bs => Memory.writeBytes (Memory.write m a b) (a + 1) bs

/-- The 32-bit word at an address, little-endian (R7). -/
def Memory.readWord (m : Memory) (a : Nat) : Nat :=
  ofLe ((List.range 4).map fun i => Memory.read m (a + i))

/-- A 32-bit word written at an address. -/
def Memory.writeWord (m : Memory) (a w : Nat) : Memory := Memory.writeBytes m a (le 4 w)

end Sys2Proof.Machine
end

