-- ==== Sys2Proof/Machine/HostState.lean ====
section
/-! DEFINITION. The state of the host side: request and reply queues, version and station of each port, the FENCE
in progress, and the event queue (R287-R313). -/

namespace Sys2Proof.Machine

/-- The status codes (R293). -/
inductive Status where
  | ok | accepted | badCrc | badLength | badOpcode | badParam | outOfRange | version
  | notInMode | denied | roleChanged | channelDisabled | busyRetry | queueFull | timeout | aborted | standby
  | configInvalid | hwFault
  deriving DecidableEq, Repr, Inhabited

/-- A request that is answered or completed later: its port, its tag and its receipt number. -/
structure ReqRef where
  port : Port := .tw
  tag : Byte := 0#8
  receipt : Nat := 0
  deriving DecidableEq, Repr, Inhabited

/-- A formed reply (R288): everything its bytes hold. -/
structure Reply where
  ver : Byte := 0x10#8
  tag : Byte := 0#8
  status : Status := .ok
  data : List Byte := []
  credits : Nat := 8
  /-- ROLE_CHANGED_SEEN, MODE_CHANGED, EVENT_PENDING, MORE (R288) -/
  roleSeen : Bool := false
  modeChanged : Bool := false
  eventPending : Bool := false
  more : Bool := false
  deriving DecidableEq, Repr, Inhabited

/-- A place in a port's reply queue (R296): held from the taking of the request, filled when the reply is
formed. -/
structure Slot where
  receipt : Nat := 0
  reply : Option Reply := none
  deriving DecidableEq, Repr, Inhabited

/-- A FENCE in progress on a port (R300). -/
structure Fence where
  ref : ReqRef := {}
  bothPorts : Bool := false
  /-- the ledger SEQ that must be committed; none without LEDGER -/
  ledger : Option Nat := none
  /-- records closed before it that wait for their SEQs (R361) -/
  drafts : Nat := 0
  /-- the tick at which the timeout runs out -/
  deadline : Nat := 0
  deriving DecidableEq, Repr, Inhabited

/-- One host port (R294-R309, R320-R328). -/
structure PortState where
  /-- request queue: whole packets waiting to be taken, oldest first (R294, depth 8) -/
  queue : List (List Byte) := []
  /-- reply queue (R296, depth 8) -/
  replies : List Slot := []
  /-- agreed version, 0x10 at wake (R308) -/
  ver : Byte := 0x10#8
  /-- station ID of HELLO (R307) -/
  station : Half := 0#16
  /-- a mode change has committed since the last reply (R306) -/
  modeChanged : Bool := false
  /-- a role epoch or generation has changed since the last reply (R306) -/
  roleSeen : Bool := false
  fence : Option Fence := none
  /-- one above the receipt number of the last request taken from the port (R296) -/
  lastTaken : Nat := 0
  /-- the last packet received: its tick, and a free value for how long it moves out of the receive buffer (R325) -/
  received : Option (Nat × Nat) := none
  /-- the bytes that the last read returned to the host (model's own record of an output) -/
  lastRead : List Byte := []
  deriving DecidableEq, Repr, Inhabited

/-- An event record (R302). -/
structure EventRec where
  cls : Nat := 0
  tag : Byte := 0#8
  completion : Bool := false
  port : Port := .tw
  seq : Half := 0#16
  status : Status := .ok
  body : List Byte := []
  deriving DecidableEq, Repr, Inhabited

/-- The event queue (R301, R305), its sequence counter and its two dropped counts. -/
structure Events where
  queue : List EventRec := []
  nextSeq : Half := 0#16
  droppedRead : Nat := 0
  droppedWake : Nat := 0
  deriving DecidableEq, Repr, Inhabited

/-- SVC_CAL_READ and SVC_FET_EXERCISE in progress (R318). -/
structure SvcState where
  /-- object, request and end tick of the calibration reading that runs -/
  calRef : Option ReqRef := none
  calObj : Nat := 0
  calEnd : Nat := 0
  calSumI : Int := 0
  calSumV : Int := 0
  calN : Nat := 0
  /-- request, channel and hold time in ticks of the exercise that runs; the tick at which the hold ends -/
  exRef : Option ReqRef := none
  exCh : Nat := 0
  exHold : Nat := 0
  exEnd : Option Nat := none
  deriving DecidableEq, Repr, Inhabited

end Sys2Proof.Machine
end

