-- ==== Sys2Proof/Machine/ModeState.lean ====
section
/-! DEFINITION. The state of the modes (R35-R59) and of the faults and watchdogs (R403-R430). -/

namespace Sys2Proof.Machine

/-- The eight modes (R35). -/
inductive Mode where
  | off | wake | hold | ready | run | bridge | service | lockout
  deriving DecidableEq, Repr, Inhabited

/-- The role a member holds (R34, R58). -/
inductive RoleHeld where
  | none | active | standby
  deriving DecidableEq, Repr, Inhabited

/-- The ROLE strap (R1, R31). -/
inductive Strap where
  | solo | a | b
  deriving DecidableEq, Repr, Inhabited

/-- The mode change causes (R59). -/
inductive Cause where
  | powerOn | hostRequest | config | busSag | shortfall | acReturn | criticalFault | startMode
  | hostLoss | startTimeout | supplyLoss | wakeFailure | strapConflict | blackStart | stopTimeout | resetPin
  deriving DecidableEq, Repr, Inhabited

/-- The stages of a sequence (R39, R58). -/
inductive Stage where
  | none | startSources | startStore | startLoads | stopLoads | stopStore | stopSources | handover | powerDown
  deriving DecidableEq, Repr, Inhabited

/-- A mode change that commits at the next tick boundary (R38). -/
structure PendMode where
  mode : Mode := .off
  cause : Cause := .powerOn
  /-- tick in which it was asked for; it commits at a later boundary -/
  since : Nat := 0
  /-- the requests that asked for it, and those of them that the end of the sequence it begins completes -/
  asked : List ReqRef := []
  refs : List ReqRef := []
  /-- accepted requests for a change that this one replaced before it committed: the commit completes them ABORTED -/
  lost : List ReqRef := []
  deriving DecidableEq, Repr, Inhabited

/-- The mode and its transitions. -/
structure ModeState where
  mode : Mode := .off
  target : Mode := .off
  stage : Stage := .none
  cause : Cause := .powerOn
  role : RoleHeld := .none
  exhausted : Bool := false
  hostHold : Bool := false
  /-- hall time of the last committed mode change (R57) -/
  lastChange : Nat := 0
  /-- the role epoch (R57, R310) -/
  epoch : Nat := 0
  /-- service object (R47, R57): 0 none, 1 channel, 2 rail; and its index -/
  svcKind : Nat := 0
  svcIndex : Nat := 0
  /-- SERVICE is being left: its end mode waits for the object to be off, since this tick, with this cause -/
  svcStop : Option (Nat × Cause) := none
  /-- a mode change waiting for its boundary (R38) -/
  pend : Option PendMode := none
  /-- a severity-3 bit asks for LOCKOUT (R48), with its cause -/
  lockout : Option Cause := none
  /-- tick in which that bit set; the running stop sequence began in RUN (R51) -/
  lockoutAt : Nat := 0
  stopFromRun : Bool := false
  /-- tick at which the present stage began (R39) -/
  stageStart : Nat := 0
  /-- a stage other than stage 1 reached its bound in this sequence (R40) -/
  timedOut : Bool := false
  /-- cause with which the sequence ends (R40) -/
  seqCause : Cause := .hostRequest
  /-- MODE_REQUESTs that the end of the sequence or the service stop completes (R38, R57) -/
  refs : List ReqRef := []
  /-- stage 1: next channel to look at, and the tick from which it may start (R39) -/
  srcNext : Nat := 0
  srcDue : Nat := 0
  /-- ticks since which the bus has been high enough for stage 1 (R39), and the conditions of leaving BRIDGE have
  held (R43), and demand has exceeded rectifier power (R43) -/
  settleSince : Option Nat := none
  dwellSince : Option Nat := none
  shortSince : Option Nat := none
  /-- a READY that follows WAKE, at which START_MODE acts (R40) -/
  freshReady : Bool := false
  /-- objects of the present stage: the stage has started them already (R39, model's own mark) -/
  stageRails : Bool := false
  deriving DecidableEq, Repr, Inhabited

/-- States of a watchdog (R430). -/
inductive DogState where
  | disarmed | armed | expired
  deriving DecidableEq, Repr, Inhabited

/-- One watchdog (R416-R420). -/
structure Wd where
  state : DogState := .disarmed
  first : Bool := false
  seq : Nat := 0
  challenge : Nat := 0
  /-- hall times of the window opening and the deadline (R416) -/
  opening : Nat := 0
  deadline : Nat := 0
  /-- PERIOD of the cycle in progress, ms: a change takes effect at the next cycle (R421) -/
  period : Nat := 0
  /-- window fuse code (R416) -/
  win : Nat := 0
  /-- bound station ID of WD1 (R420) -/
  station : Half := 0#16
  deriving DecidableEq, Repr, Inhabited

/-- The watchdogs and the host-loss policy (R416-R423). -/
structure Dogs where
  wd0 : Wd := {}
  wd1 : Wd := {}
  /-- host-loss policy in force; its entry and exit pending at a tick boundary (R422) -/
  hostLoss : Bool := false
  enterPend : Bool := false
  exitPend : Bool := false
  /-- ticks of the recent WD0 expiries, newest first (R419) -/
  recent0 : List Nat := []
  deriving DecidableEq, Repr, Inhabited

/-- The retained counts and the last reset's cause, source and hall time (R424). -/
structure Counts where
  wd0 : Nat := 0
  wd1 : Nat := 0
  resets : Nat := 0
  flush : Nat := 0
  cause : Nat := 0
  source : Nat := 0
  w6Hall : Nat := 0
  deriving DecidableEq, Repr, Inhabited

/-- One of the two MRAM blocks of the counts (R424): what it holds, the number of its write, and its CRC-32C. -/
structure CountBlock where
  counts : Counts := {}
  turn : Nat := 0
  crc : Word := 0#32
  deriving DecidableEq, Repr, Inhabited

/-- The retained counts as they stand, and the two blocks that hold them (R424).  At reset the first block is good and its counts
are zero: the CRC is that of its zeros. -/
structure Retained extends Counts where
  blockA : CountBlock := { crc := 0x1ED37C4B#32 }
  blockB : CountBlock := {}
  deriving DecidableEq, Repr, Inhabited

/-- A run-time override of a source's severity and mask (R413). -/
structure SevSet where
  source : Nat := 0
  sev : Nat := 0
  mask : Nat := 0
  deriving DecidableEq, Repr, Inhabited

/-- The fault blocks (R403-R414): the set sticky and live source IDs in rising order, the overrides, the sources
whose reactions have not run yet, ERRn, and the ticks of the last block resets. -/
structure Faults where
  sticky : List Nat := []
  live : List Nat := []
  overrides : List SevSet := []
  fired : List Nat := []
  errn : Bool := false
  /-- source IDs that the last NMI forwarded to the Yard (R407) -/
  nmi : List Nat := []
  /-- per resettable block: tick of its last reset (R409) -/
  resets : List (Nat × Nat) := []
  deriving DecidableEq, Repr, Inhabited

end Sys2Proof.Machine
end

