-- ==== Sys2Proof/Machine/ChannelState.lean ====
section
/-! DEFINITION. The state and configuration record of a slot channel (R16-R22, R60-R108). -/

namespace Sys2Proof.Machine

/-- Channel states (R67). -/
inductive ChState where
  | off | waitPresent | cooling | precharge | closing | limiting | on | tripped | locked
  deriving DecidableEq, Repr, Inhabited

/-- Channel stop causes (R83). -/
inductive ChStop where
  | none | hostOff | disable | removed | primerTimeout | primerEnergy | closeTimeout | ksFaultTimer
  | chargePump | shortCircuit | instantaneous | curve | soa | mode
  deriving DecidableEq, Repr, Inhabited

/-- What a gate or pre-charge driver does (R63, R67, R23). -/
inductive Drive where
  | off | on | regulating | hiZ
  deriving DecidableEq, Repr, Inhabited

/-- The two pull-downs (R63). -/
inductive Pull where
  | soft | strong
  deriving DecidableEq, Repr, Inhabited

/-- The channel record of the configuration image (R16-R18, R21, R74, R75, R94, R98, R105). -/
structure ChCfg where
  role : Nat := 0
  guarded : Bool := false
  gen : Nat := 0
  /-- leader of the gang the channel belongs to and the gang's size; size 0 or 1: not ganged -/
  leader : Nat := 0
  gangSize : Nat := 0
  autoOn : Bool := false
  /-- slot kind and index that the channel serves (R14) -/
  slot : Nat := 0
  ks240 : Bool := false
  preR : Nat := 0
  preBudget : Nat := 0
  preTau : Nat := 0
  preRearm : Nat := 16384
  primerDv : Nat := 1000
  primerTimeout : Nat := 200
  primerOverlap : Nat := 50
  gateIsrc : Nat := 2000
  closeTimeout : Nat := 2000
  insertDelay : Nat := 100
  ksIlim : Nat := 1000
  ksFaultTime : Nat := 50
  ksDoneDv : Nat := 500
  deriving DecidableEq, Repr, Inhabited

/-- The breaker, retry and transistor-model part of the channel record (R94, R98, R105). -/
structure BrkCfg where
  rating : Nat := 0
  instMult : Nat := 393216
  scMult : Nat := 524288
  points : List (Nat × Nat) := []
  coolTau : Nat := 30000
  accWarn : Nat := 52429
  soaEnable : Bool := false
  rth : List Nat := []
  tau : List Nat := []
  rdsMax : Nat := 0
  tjWarn : Int := 13500
  tjTrip : Int := 15000
  therm : Nat := 0xFF
  trefFixed : Int := 8500
  retryInterval : Nat := 2000
  retryDuty : Nat := 655
  retryReset : Nat := 60
  retryLimit : Nat := 3
  deriving DecidableEq, Repr, Inhabited

/-- The breaker, the transistor model and the retries of a channel (R91-R104). -/
structure Brk where
  /-- A in units of 2^-40 (R92) -/
  acc : Nat := 0
  /-- comparator latches of the Stable die (R88, R89): set, with whether a driver was on as they set (R77) -/
  scLatch : Option Bool := none
  instLatch : Option Bool := none
  /-- dT[1..3] of the model, in 2^-20 of 0.01 °C (R96), and its last Tj and Tref in 0.01 °C;
no Tref before the first reading (R97) -/
  dT : List Int := [0, 0, 0]
  tj : Int := 0
  tref : Option Int := none
  /-- the thermistor was out of range; tick since which it has been back in range (R97) -/
  trefBad : Bool := false
  trefOk : Option Nat := none
  retries : Nat := 0
  /-- tick at which the pending attempt is due (R100) -/
  due : Option Nat := none
  /-- the next attempt counts as a retry after a removal in TRIPPED (R103, R535) -/
  retryNext : Bool := false
  /-- the running or last attempt was a retry, and the ticks its main driver was on (R100) -/
  wasRetry : Bool := false
  onTicks : Nat := 0
  /-- tick since which the channel has been ON (R102) -/
  onSince : Option Nat := none
  /-- hall time of the last trip, largest member current at it, member that tripped the model (R108) -/
  lastTrip : Nat := 0
  tripMax : Int := 0
  tripMember : Nat := 0xFF
  /-- codes of the member's two comparator DACs, computed at the last commit (R86) -/
  instCode : Nat := 0
  scCode : Nat := 0
  /-- a trip held while the member's drivers are suspended (R358) -/
  held : List ChStop := []
  /-- the bank member whose model tripped, among the causes held (R108, R358) -/
  heldMember : Nat := 0xFF
  deriving DecidableEq, Repr, Inhabited

/-- The fast-path values of one channel that the engines work on (R61): V_IN and V_OUT in mV, the channel's own shunt current in mA
(R9 sign), GATE_OK, and whether the KS240 current limit is active. -/
structure ChFast where
  vIn : Int := 0
  vOut : Int := 0
  i : Int := 0
  gateOk : Bool := false
  limiting : Bool := false
  deriving DecidableEq, Repr, Inhabited

/-- The fast-path values of one battery terminal (R226): mV, and mA into the module. -/
structure TermFast where
  v : Int := 0
  i : Int := 0
  deriving DecidableEq, Repr, Inhabited

/-- One slot channel (R60-R84). -/
structure Ch where
  state : ChState := .off
  lastStop : ChStop := .none
  disabled : Bool := false
  intentOn : Bool := false
  main : Drive := .off
  pre : Drive := .off
  pull : Pull := .soft
  /-- insertion recognised (R64) -/
  present : Bool := false
  /-- the removal pull-down holds the gate and pre-charge pins low, until insertion is recognised (R65) -/
  cut : Bool := false
  /-- tick at which INSERT_DELAY ends (R66) -/
  insertDue : Option Nat := none
  /-- waiting for its start stage (R51) -/
  stageWait : Bool := false
  /-- heat estimate H in 10^-9 µJ (R72) -/
  heat : Int := 0
  /-- consecutive ticks with |dV| below the threshold (R71, R75) -/
  n : Nat := 0
  /-- ticks of the start of PRECHARGE and of CLOSING (R71) -/
  t0 : Nat := 0
  t1 : Nat := 0
  /-- tick at which the pre-charge driver turns off (R71) -/
  overlapEnd : Option Nat := none
  /-- KS240 fault timer in ticks (R75) -/
  ksTimer : Nat := 0
  /-- values latched at the last tick boundary (R61) -/
  lat : ChFast := {}
  /-- hall time of the last change of STATE (R81) -/
  lastChange : Nat := 0
  /-- ACCEPTED requests that the next state change of the attempt completes (R69, R318) -/
  refs : List ReqRef := []
  /-- the running attempt is an SVC_FET_EXERCISE (R318) -/
  exercise : Bool := false
  brk : Brk := {}
  deriving DecidableEq, Repr, Inhabited

/-- A channel command in the setpoint queue (R29, R68). -/
inductive ChCmd where
  | on | off | disable | enable | exercise (hold : Nat)
  deriving DecidableEq, Repr, Inhabited

/-- An entry of the channels' setpoint queue: channel, generation the request carried, command, and the request:
whether its reply is formed already (then a completion record reports the outcome). -/
structure ChSet where
  ch : Nat := 0
  gen : Nat := 0xFFFF
  cmd : ChCmd := .off
  ref : ReqRef := {}
  replied : Bool := false
  deriving DecidableEq, Repr, Inhabited

end Sys2Proof.Machine
end

