-- ==== Sys2Proof/Machine/PowerState.lean ====
section
/-! DEFINITION. The state and configuration records of the converter rails (R109-R142), of the bus energy
(R143-R175) and of the load links (R176-R205). -/

namespace Sys2Proof.Machine

/-- Rail states (R119). -/
inductive RailState where
  | off | rampUp | on | burst | rampDown | armed | bridging | latched | otStop | wait
  deriving DecidableEq, Repr, Inhabited

/-- Rail stop causes (R141). -/
inductive RailStop where
  | none | hostOff | disable | overcurrent | phaseOc | overvoltage | overtemp | inputUv | feedOpen | mode
  deriving DecidableEq, Repr, Inhabited

/-- Structure and timing of a rail's record (R109, R137). -/
structure RailCfg where
  bus : Bool := false
  buckBoost : Bool := false
  firstLane : Nat := 0
  lanes : Nat := 0
  im : List Nat := []
  autoOn : Bool := false
  pwmPeriod : Nat := 2400
  laneMinPulse : Nat := 40
  dutyMax : Nat := 58982
  bbDmax : Nat := 64225
  senseDiv : Nat := 65536
  vinSrc : Nat := 0
  imGain : Int := 1000
  imOffset : Int := 0
  vTarget : Nat := 0
  vMin : Nat := 500
  vMax : Nat := 80000
  ssSlew : Nat := 1000
  setSlew : Nat := 5000
  iSlew : Nat := 10000
  b0 : Int := 0
  b1 : Int := 0
  b2 : Int := 0
  deriving DecidableEq, Repr, Inhabited

/-- Regulation and protection of a rail's record (R137). -/
structure RailProt where
  a1 : Int := 0
  a2 : Int := 0
  kpI : Int := 0
  kiI : Int := 0
  armIdleI : Nat := 500
  balEnable : Bool := true
  balPeriod : Nat := 100
  balGain : Nat := 262144
  balTrimMax : Nat := 480
  balMinI : Nat := 2000
  iLim : Nat := 1000
  fbKnee : Nat := 48000
  fbLow : Nat := 36000
  fbMin : Nat := 250
  ocLatch : Nat := 200
  phOc : Nat := 1000
  ovMargin : Nat := 6554
  inUv : Nat := 40000
  inUvHyst : Nat := 2000
  bridgePNom : Nat := 0
  deriving DecidableEq, Repr, Inhabited

/-- Stage temperature and burst parameters of a rail's record (R137). -/
structure RailAux where
  tempIn : Nat := 0xFF
  tempSlope : Nat := 8000
  tempOffset : Int := 600000
  otWarnSet : Int := 11500
  otWarnClear : Int := 10500
  otSdSet : Int := 13000
  otSdClear : Int := 11000
  otDerate : Nat := 49152
  burstEnable : Bool := false
  burstEnter : Nat := 1500
  burstExit : Nat := 3000
  burstDwell : Nat := 10
  burstSleep : Nat := 1000
  burstHigh : Nat := 30
  burstLow : Nat := 30
  deriving DecidableEq, Repr, Inhabited

/-- The edges of a phase's present period, in 1/16 counts of CK_PWM from the period's start (R112, R113): leg A is high up
to `a`; leg B is low up to `b`. -/
structure PhaseEdges where
  a : Int := 0
  b : Int := 0
  deriving DecidableEq, Repr, Inhabited

/-- The PWM engine of a rail (R112, R113, R115). -/
structure Pwm where
  /-- 1/16 counts since the present rail period began, and the phase that leads in it (n mod N) -/
  pos : Nat := 0
  lead : Nat := 0
  /-- the loop output that the last load instant took: phases that start a period apply it -/
  loaded : Int := 0
  /-- per phase its edges; none while it has not started a period, at mid level -/
  edges : List (Option PhaseEdges) := []
  deriving DecidableEq, Repr, Inhabited

/-- The loop engine of a rail (R110-R117). -/
structure Loop where
  /-- reference: µV in voltage control, µA in current control (R125) -/
  ref : Int := 0
  /-- output u, Q16 (R114), and bridge preset u_B (R153) -/
  u : Int := 0
  uB : Int := 0
  /-- compensator and error histories (R117) -/
  uc1 : Int := 0
  uc2 : Int := 0
  e1 : Int := 0
  e2 : Int := 0
  eI1 : Int := 0
  /-- tracking DAC, mV at the pins (R110) -/
  dac : Int := 0
  lat : RailLatch := {}
  /-- output that the next step is to give without a step (R118, R153) -/
  preset : Option Int := none
  /-- V_RAIL in µV, phase currents and I_RAIL in mA, V_INPUT in mV as latched (R110, R111, R117) -/
  vRail : Int := 0
  iPh : List Int := []
  iRail : Int := 0
  vInput : Int := 0
  /-- trims in steps, and for each phase the consecutive adjustments at the bound (R116) -/
  trims : List Int := []
  trimSat : List Nat := []
  balNext : Nat := 0
  /-- main loop in control is the current loop (LOOP), current limit in control (LIMIT) (R117, R141) -/
  loopI : Bool := false
  limit : Bool := false
  /-- lanes switching, and their PWM engine -/
  switching : Bool := false
  pwm : Pwm := {}
  deriving DecidableEq, Repr, Inhabited

/-- One rail (R119-R142). -/
structure Rail where
  state : RailState := .off
  lastStop : RailStop := .none
  disabled : Bool := false
  intentOn : Bool := false
  idle : Bool := false
  otWarn : Bool := false
  foldback : Bool := false
  bal : Bool := false
  vTarget : Nat := 0
  setSlew : Nat := 5000
  /-- charge setpoint, mA (R147) -/
  chargeSet : Int := 0
  lp : Loop := {}
  /-- consecutive ticks with V_INPUT below IN_UV (R129) and above the over-voltage level (R134) -/
  uvTicks : Nat := 0
  ovTicks : Nat := 0
  /-- ticks since which LIMIT has been set (R132) and |I_RAIL| below BURST_ENTER_I (R130) -/
  limSince : Option Nat := none
  lowSince : Option Nat := none
  /-- in BURST: sleeping since this tick; sum and count of |I_RAIL| in the present burst (R130) -/
  sleepSince : Option Nat := none
  /-- the burst has filled the output: its lanes go to mid at this tick, a period boundary of the phase that switched last
  having passed (R130) -/
  burstOff : Option Nat := none
  burstSum : Nat := 0
  burstN : Nat := 0
  /-- stage temperature in 0.01 °C, shutdown level set, input bad and since when good (R136) -/
  temp : Option Int := none
  otSd : Bool := false
  tempBad : Bool := false
  tempOk : Option Nat := none
  /-- tick from which the next reading is due (R136) -/
  tempNext : Nat := 0
  /-- a stop stage asked for the ramp-down (R124); BAT_RELEASE asked for it (R228) -/
  modeStop : Bool := false
  release : Bool := false
  /-- waiting for its start stage (R51) -/
  stageWait : Bool := false
  /-- the bridge event came in RAMP_UP: BRIDGING at the next tick boundary (R153) -/
  takeNext : Bool := false
  /-- handover ramp: reference (µA) and tick at its start (R158) -/
  hand : Option (Int × Nat) := none
  lastChange : Nat := 0
  /-- ACCEPTED requests that the ramp's end completes (R124) -/
  refs : List ReqRef := []
  deriving DecidableEq, Repr, Inhabited

/-- A rail command in the rails' setpoint queue (R29, R122, R140, R189). -/
inductive RailCmd where
  | on | off | disable | enable
  | set (kind : Nat) (value : Int)
  deriving DecidableEq, Repr, Inhabited

/-- An entry of the rails' setpoint queue; link writes carry their link and no request (R186). -/
structure RailSet where
  rail : Nat := 0
  cmd : RailCmd := .off
  ref : ReqRef := {}
  replied : Bool := false
  link : Option Nat := none
  deriving DecidableEq, Repr, Inhabited

/-- CHARGE_MODE (R149). -/
inductive ChargeMode where
  | auto | hold | limit
  deriving DecidableEq, Repr, Inhabited

/-- The bus-energy record (R171). -/
structure EnergyCfg where
  busSenseCh : Nat := 0
  vBusSet : Nat := 54000
  vBridge : Nat := 52500
  bridgeConfirm : Nat := 2
  vBridgeReg : Nat := 53300
  bridgeDroop : Nat := 400
  bridgeFf : Nat := 3277
  bridgeSinkMax : Nat := 0
  bridgeRaiseSlew : Nat := 50
  bridgeEff : Nat := 62915
  wMin : Nat := 3277
  weightPeriod : Nat := 100
  rectStatusPeriod : Nat := 10
  rectStandoff : Nat := 1000
  shareKi : Nat := 32768
  shareTrimMax : Nat := 500
  busKi : Nat := 3277
  busTrimMax : Nat := 1000
  rectWriteMin : Nat := 10
  deriving DecidableEq, Repr, Inhabited

/-- Charge and cap parameters of the bus-energy record (R171). -/
structure CapCfg where
  chargeMargin : Nat := 6554
  chargePMax : Nat := 36000000
  shelfCap : Nat := 0
  capShave : Bool := true
  capTol : Nat := 1311
  capGrace : Nat := 1000
  capFloor : Nat := 0
  hallCapFallback : Nat := 0
  throttleMin : Nat := 32768
  lowStoreTime : Nat := 60
  deriving DecidableEq, Repr, Inhabited

/-- Setpoints of the energy class (R29, R147, R155, R156, R158). -/
inductive EnergySet where
  | charge (rail : Nat) (mA : Int)
  | weight (slot w : Nat)
  | bridgeAll
  | handover
  | bridgeRef (mV : Int)
  | cap (hall : Bool) (mW : Nat) (ref : ReqRef)
  | chargeMode (mode : ChargeMode) (limit : Option Nat) (ref : ReqRef)
  deriving DecidableEq, Repr, Inhabited

/-- The energy policy (R143-R170). -/
structure Energy where
  vBus : Int := 0
  demand : Int := 0
  pRo : Int := 0
  pAv : Int := 0
  pChg : Int := 0
  /-- demand of the values latched at the last tick boundary (R143) -/
  tickDemand : Int := 0
  /-- shelf cap in force, hall cap of CAP_SET, hall allocation; 0 none (R164, R168) -/
  shelfCap : Nat := 0
  hallCap : Nat := 0
  hallAlloc : Nat := 0
  hallLive : Bool := false
  roundsMissed : Nat := 0
  /-- allocation received in the present round, and hall time at which it applies (R168) -/
  allocNext : Option (Nat × Nat) := none
  /-- throttle T, Q16 (R166); it has been below 1.0 with P_REF latched (R194) -/
  throttle : Nat := 65536
  vBref : Int := 53300
  raise : Bool := false
  busTrim : Int := 0
  eStore : Nat := 0
  eRide : Nat := 0
  /-- E_EARMARK, E_FREE and the rectifier headroom H as last formed (R160) -/
  eEarmark : Nat := 0
  eFree : Nat := 0
  headroom : Int := 0
  capState : Nat := 0
  lowStore : Bool := false
  earmarkOver : Bool := false
  shortfall : Bool := false
  rectBlind : Bool := false
  chargeMode : ChargeMode := .auto
  hostLimit : Nat := 0
  deriving DecidableEq, Repr, Inhabited

/-- Bookkeeping of the energy policy. -/
structure EnergyBook where
  /-- tick since which P_RO has been above the cap with tolerance, or at or below the cap (R167) -/
  overSince : Option Nat := none
  underSince : Option Nat := none
  capOver : Bool := false
  /-- hall time of the last energy step (R173) -/
  stepHall : Nat := 0
  /-- ticks summed since the last energy step, and per channel the sum of power in mW (R143) -/
  n : Nat := 0
  sums : List Int := []
  /-- over the same ticks, the sums of demand and of rectifier output, each of powers not below zero (R143) -/
  demandSum : Int := 0
  roSum : Int := 0
  means : List Int := []
  /-- discharge power given in the last step, mW, and the charge that would be taken without a cap (R147, R165, R168) -/
  given : Int := 0
  uncapped : Int := 0
  /-- ticks from which the next energy step and the next weight update fall due (R143, R155) -/
  nextStep : Nat := 0
  nextWeight : Nat := 0
  /-- per battery slot: weight Q16 (R155), applied -/
  weights : List Nat := []
  /-- setpoint queue of the energy class -/
  queue : List EnergySet := []
  deriving DecidableEq, Repr, Inhabited

/-- One rectifier channel's sharing and status (R144-R146, R173). -/
structure Rect where
  written : Int := 0
  trim : Int := 0
  target : Int := 0
  sharing : Bool := false
  avail : Bool := false
  /-- a setpoint that waits for room in the bus queue; the last write failed, the last status read failed (R146) -/
  writing : Option Int := none
  writeFail : Bool := false
  readFail : Bool := false
  /-- last good status: tick, hall time, input good, output fault -/
  goodTick : Option Nat := none
  goodHall : Nat := 0
  inputGood : Bool := false
  fault : Bool := false
  /-- status age limit has run out (R144, R172) -/
  aged : Bool := false
  /-- capability in mW reported; 0 none -/
  capability : Nat := 0
  failedReads : Nat := 0
  /-- tick at which the channel last entered ON -/
  onTick : Nat := 0
  /-- reads that wait for room in the bus queue: status, VOUT_MODE, MFR_POUT_MAX (R331) -/
  wantStatus : Bool := false
  wantMode : Bool := false
  wantPower : Bool := false
  /-- exponent of the latest good VOUT_MODE read, and whether the latest read was good (R336, R337) -/
  exponent : Option Int := none
  modeGood : Bool := false
  deriving DecidableEq, Repr, Inhabited

/-- LINK states (R187). -/
inductive LinkState where
  | down | up | lost
  deriving DecidableEq, Repr, Inhabited

/-- GRANT (R204). -/
inductive Grant where
  | none | pending | full | partial_ | refused | withdrawn | ended | released
  deriving DecidableEq, Repr, Inhabited

/-- Refusal and withdrawal reasons (R197). -/
inductive Refuse where
  | none | notInMode | hostLoss | feedOff | throttled | earmarkOver | energy | lockout | feedOpen | linkDisabled
  deriving DecidableEq, Repr, Inhabited

/-- Reject reasons (R185). -/
inductive Reject where
  | none | crc | bitTimeout | badOpcode | noHello | version | outOfRange | badParam | busy | noRail | railState
  | grantActive | noGrant | linkDisabled | badAddress
  deriving DecidableEq, Repr, Inhabited

/-- The load-link record (R177, R201). -/
structure LinkCfg where
  channel : Nat := 0
  rail : Nat := 0xFF
  enable : Bool := true
  burstPMax : Nat := 10000000
  burstDMax : Nat := 10000
  burstMinFrac : Nat := 32768
  settleWin : Nat := 20
  settleTime : Nat := 20
  settleMax : Nat := 10
  pollMax : Nat := 10
  timeout : Nat := 1000
  deriving DecidableEq, Repr, Inhabited

/-- One load link (R178-R204). -/
structure Link where
  link : LinkState := .down
  version : Nat := 0
  lastSeq : Nat := 0
  disabled : Bool := false
  attn : Bool := false
  llak : Bool := false
  lastReject : Reject := .none
  rejSeq : Nat := 0
  rejOp : Nat := 0
  accepted : Nat := 0
  rejected : Nat := 0
  /-- last accepted SETV or BURST_REQ: opcode, SEQ, payload (R183) -/
  lastReq : Option (Nat × Nat × Nat) := none
  /-- a SETV transition runs: tick of acceptance, and ticks settled so far (R190) -/
  setv : Option (Nat × Nat) := none
  /-- LLAKn, raised for a repeat, falls at the next tick boundary (R183) -/
  repeatFall : Bool := false
  /-- the bound rail was in RAMP_UP, ON or BURST at the last boundary (R193) -/
  railUp : Bool := false
  /-- tick of the last valid frame (R187) -/
  lastFrame : Nat := 0
  /-- bits of the response sent to the load (the model's own record of an output) -/
  response : Option (BitVec 40) := none
  deriving DecidableEq, Repr, Inhabited

/-- The burst and throttle side of a load link (R194-R198). -/
structure Burst where
  grant : Grant := .none
  refusal : Refuse := .none
  reqP : Nat := 0
  reqD : Nat := 0
  power : Nat := 0
  rectPart : Nat := 0
  storePart : Nat := 0
  /-- duration in ms, tick and hall time of the start (R197) -/
  dur : Nat := 0
  start : Nat := 0
  startHall : Nat := 0
  running : Bool := false
  /-- a decision waits for the tick boundary that ends its energy step (R197): result, refusal -/
  decided : Option (Grant × Refuse) := none
  /-- a BURST_REL was accepted (R198) -/
  releasing : Bool := false
  pRef : Int := 0
  ceiling : Option Int := none
  /-- tick since which the draw has exceeded the ceiling (R194) -/
  overSince : Option Nat := none
  deriving DecidableEq, Repr, Inhabited

end Sys2Proof.Machine
end

