-- ==== Sys2Proof/Machine/BatteryState.lean ====
section
/-! DEFINITION. The state and configuration records of the battery slots and their estimator (R206-R234). -/

namespace Sys2Proof.Machine

/-- The battery-slot record (R14, R15, R230): feed channel (leader), BUS-class rail, and the slot's parameters. -/
structure BatCfg where
  channel : Nat := 0
  rail : Nat := 0
  bmsBus : Nat := 0
  bmsAddr : Nat := 8
  pRating : Nat := 100000
  resBottom : Nat := 9830
  resTop : Nat := 3277
  bmsPoll : Nat := 1000
  bmsLoss : Nat := 10
  fitRmsMax : Nat := 5
  floorRearm : Nat := 1311
  driftTol : Nat := 3277
  driftCount : Nat := 3
  driftMin : Nat := 6554
  sohMin : Nat := 19661
  sohGain : Nat := 16384
  deriving DecidableEq, Repr, Inhabited

/-- A chemistry profile (R210). -/
structure Profile where
  id : Nat := 0
  ocvT : List Int := []
  /-- OCV[t][0..31] for t = 0, 1, 2, mV -/
  ocv : List (List Nat) := []
  rSer : Nat := 0
  rFast : Nat := 1
  cFast : Nat := 1
  rSlow : Nat := 1
  cSlow : Nat := 1
  hMag : Nat := 0
  vFloor : Nat := 1000
  vCeil : Nat := 80000
  eNom : Nat := 3600000000
  iChg : Nat := 0
  iDis : Nat := 0
  tChgMin : Int := 0
  tChgMax : Int := 0
  tDisMin : Int := 0
  tDisMax : Int := 0
  deriving DecidableEq, Repr, Inhabited

/-- ADMIT (R233). -/
inductive Admit where
  | empty | identifying | admitted | refused | released
  deriving DecidableEq, Repr, Inhabited

/-- REFUSE (R233). -/
inductive BatRefuse where
  | none | noBms | unknownProfile | duplicate | voltage | temperature | serialChanged | termLoss
  deriving DecidableEq, Repr, Inhabited

/-- SOC_Q (R233). -/
inductive SocQ where
  | none | initial | fitted
  deriving DecidableEq, Repr, Inhabited

/-- What the estimator latches at a fit (R224): state of charge in 0.01 %, net terminal export in µJ, commanded energy
in nJ, hall time. -/
structure FitLatch where
  soc : Nat := 0
  met : Int := 0
  cmd : Int := 0
  hall : Nat := 0
  deriving DecidableEq, Repr, Inhabited

/-- The rest in progress or the last one (R215, R216). -/
structure Rest where
  /-- tick and hall time of its start -/
  start : Nat := 0
  startHall : Nat := 0
  /-- samples in µV, first at 1 s -/
  samples : List Int := []
  fitDone : Bool := false
  vEq : Int := 0
  aF : Int := 0
  aS : Int := 0
  rms : Nat := 0
  ocv : Int := 0
  soc : Nat := 0
  deriving DecidableEq, Repr, Inhabited

/-- The slot's MRAM record (R219). -/
structure BatRec where
  serial : List Byte := []
  eUse : Nat := 0
  soc : Nat := 0
  hall : Nat := 0
  deriving DecidableEq, Repr, Inhabited

/-- The estimator of a slot (R213-R225). -/
structure Estim where
  eUse : Nat := 0
  /-- value of R225 that takes effect at the next WEIGHT_PERIOD -/
  eUseNext : Option Nat := none
  sLast : Int := 0
  /-- branch voltages of the model, µV -/
  vF : Int := 0
  vS : Int := 0
  /-- tick of the step's start; commanded energy of the step and since admission, nJ -/
  stepStart : Nat := 0
  eStep : Int := 0
  eTotal : Int := 0
  pCmd : Int := 0
  residual : Int := 0
  rest : Rest := {}
  lastFit : Option FitLatch := none
  lastFitHall : Nat := 0
  driftBad : Nat := 0
  driftGood : Nat := 0
  lastD : Int := 0
  deriving DecidableEq, Repr, Inhabited

/-- The values that a module's BMS is asked for (R206). -/
inductive BmsValue where
  | serial | profile | temp
  deriving DecidableEq, Repr, Inhabited

/-- Reads of a module's BMS that were asked for together (R207, R209): the entries that still wait for room in the bus
queue, how many have not ended, and the values that passed their range checks. -/
structure BmsRead where
  id : Nat := 0
  poll : Bool := false
  want : List BmsValue := []
  left : Nat := 0
  serial : Option (List Byte) := none
  profile : Option Nat := none
  temp : Option Int := none
  deriving DecidableEq, Repr, Inhabited

/-- One battery slot (R206-R234). -/
structure Bat where
  admState : Admit := .empty
  refuse : BatRefuse := .none
  socQ : SocQ := .none
  /-- state of charge in 10^-12 -/
  soc : Nat := 0
  resting : Bool := false
  floor : Bool := false
  ceiling : Bool := false
  drift : Bool := false
  bmsLost : Bool := false
  tempLimit : Bool := false
  slow : Bool := false
  serial : List Byte := []
  profile : Nat := 0
  temp : Int := 0
  /-- failed reads of the admission in progress, and the tick of its next attempt (R207) -/
  attempts : Nat := 0
  attemptDue : Nat := 0
  /-- tick of the next admission after a temperature refusal (R207) -/
  tempRetry : Option Nat := none
  /-- BMS reads in progress or ended and not yet acted on, and the number of the last ones -/
  read : Option BmsRead := none
  readId : Nat := 0
  /-- the member's own estimator is initialised (R219, R229) -/
  known : Bool := false
  /-- the slot was closed with its presence pin still seated (R227) -/
  closed : Bool := false
  /-- tick of the last good BMS read, and of the next poll (R209) -/
  lastGood : Nat := 0
  pollNext : Nat := 0
  /-- the checks of R207 passed: ADMITTED at the next tick boundary (R253) -/
  passed : Bool := false
  /-- BAT_RELEASE runs (R228) -/
  releasing : Bool := false
  /-- the slot's rail switched at the last tick boundary (R215) -/
  switched : Bool := false
  /-- ADMIT goes to EMPTY at the next tick boundary (R226) -/
  removed : Bool := false
  /-- consecutive ticks of the conditions of CEILING, FLOOR and TERM_LOSS (R221, R222, R227) -/
  ceilTicks : Nat := 0
  floorTicks : Nat := 0
  lowTicks : Nat := 0
  badTicks : Nat := 0
  ceilSoc : Nat := 0
  admitHall : Nat := 0
  est : Estim := {}
  /-- BAT_ADMIT requests waiting, BAT_RELEASE requests waiting (R232) -/
  admitRefs : List ReqRef := []
  releaseRefs : List ReqRef := []
  deriving DecidableEq, Repr, Inhabited

end Sys2Proof.Machine
end

