-- ==== Sys2Proof/Machine/MeterState.lean ====
section
/-! DEFINITION. The state and configuration records of metering and of the energy ledger (R235-R265). -/

namespace Sys2Proof.Machine

/-- The metering record of an object (R261). -/
structure MeterCfg where
  rShunt : Nat := 100
  iGain : Nat := 65536
  vGain : Nat := 65536
  iOffset : Int := 0
  vOffset : Int := 0
  shuntTc : Int := 0
  tCal : Int := 2500
  shuntTherm : Nat := 0xFF
  creepI : Nat := 0
  iRated : Nat := 0
  ledgerCh : Bool := false
  deriving DecidableEq, Repr, Inhabited

/-- A thermistor record (R464): pairs of a reading in µV and a temperature in 0.01 °C. -/
structure Thermistor where
  points : List (Int × Int) := []
  deriving DecidableEq, Repr, Inhabited

/-- The accrued record flags (R250). -/
structure RecFlags where
  comp : Bool := false
  cal : Bool := false
  ovr : Bool := false
  gap : Bool := false
  unc : Bool := false
  deriving DecidableEq, Repr, Inhabited

/-- One metering object (R237-R244). -/
structure Meter where
  imp : Nat := 0
  exp : Nat := 0
  /-- residues in pJ -/
  resImp : Nat := 0
  resExp : Nat := 0
  /-- shunt temperature of the last thermistor reading within range -/
  temp : Option Int := none
  compLost : Bool := false
  /-- the calibration last in force (R250) -/
  cal : Option MeterCfg := none
  /-- tick since which the readings have been within range again; tick of the next reading (R244) -/
  okSince : Option Nat := none
  nextRead : Nat := 0
  /-- tick of the last clamped current and voltage sample (R243) -/
  iOvr : Option Nat := none
  vOvr : Option Nat := none
  /-- samples of the last 1 ms, newest first: µV, µA, µW -/
  window : List (Int × Int × Int) := []
  /-- hall time of the last register update, and its tick: one sample completes at a boundary (R236) -/
  updated : Nat := 0
  sampled : Option Nat := none
  /-- flags since the object's previous record, and since its shelf object's previous record; it has entered a total
  since then (R250) -/
  flags : RecFlags := {}
  shelfFlags : RecFlags := {}
  contributed : Bool := false
  /-- hall time of the object's latest record with UNCERTIFIED (R224) -/
  uncHall : Option Nat := none
  deriving DecidableEq, Repr, Inhabited

/-- The four shelf totals in mJ and their residues in µJ (R242): SUPPLIED, DELIVERED, CHARGED, DISCHARGED. -/
structure Totals where
  sums : List Nat := [0, 0, 0, 0]
  res : List Nat := [0, 0, 0, 0]
  deriving DecidableEq, Repr, Inhabited

/-- A checkpoint block (R247, R248): registers and residues of each object, totals, hall time, CRC good. -/
structure Checkpoint where
  regs : List (Nat × Nat × Nat × Nat) := []
  totals : Totals := {}
  hall : Nat := 0
  /-- count of checkpoints written when this one was -/
  turn : Nat := 0
  good : Bool := true
  deriving DecidableEq, Repr, Inhabited

/-- The metering engine's own records. -/
structure MeterBook where
  totals : Totals := {}
  ckA : Checkpoint := {}
  ckB : Checkpoint := {}
  /-- tick of the next checkpoint (R247) -/
  ckNext : Nat := 0
  /-- flags of the shelf objects 0x30 and 0x31: GAP and UNCERTIFIED (R250) -/
  shelf0 : RecFlags := {}
  shelf1 : RecFlags := {}
  /-- no checkpoint block was good at this wake (R248) -/
  ckLost : Bool := false
  deriving DecidableEq, Repr, Inhabited

/-- A closed record waiting for its commit (R257): its SEQ, its 64 bytes, whether it is signed, the tick of its close. -/
structure LedgerRec where
  seq : Nat := 0
  body : List Byte := []
  signed : Bool := false
  tick : Nat := 0
  deriving DecidableEq, Repr, Inhabited

/-- An entry of the ledger region (R249): body and signature slot. -/
structure LedgerEntry where
  seq : Nat := 0
  body : List Byte := []
  sig : Option (List Byte) := none
  deriving DecidableEq, Repr, Inhabited

/-- A ledger position block in MRAM (R257). -/
structure LedgerPos where
  nextSeq : Nat := 0
  slot : Nat := 0
  head : List Byte := List.replicate 32 0#8
  ack : Option Nat := none
  /-- open sessions: slot and MODULE_SERIAL, in rising slot order -/
  sessions : List (Nat × List Byte) := []
  /-- count of block writes when this one was written; its CRC-32C is good -/
  turn : Nat := 0
  good : Bool := true
  deriving DecidableEq, Repr, Inhabited

/-- A record that is closed before its SEQ is known: the fields of its body, and the LEDGER_SNAPSHOT that waits for its
SEQ (R361). -/
structure LedgerDraft where
  typ : Nat := 0
  flags : Nat := 0
  obj : Nat := 0
  aux : Nat := 0
  hall : Nat := 0
  payload : List Byte := []
  signed : Bool := false
  tick : Nat := 0
  host : Option ReqRef := none
  deriving DecidableEq, Repr, Inhabited

/-- A LEDGER_ATTEST that waits for its signature (R263, R297). -/
structure AttestReq where
  ref : ReqRef
  nonce : List Byte := []
  tick : Nat := 0
  deriving DecidableEq, Repr

/-- What the next tick boundary is to close (R254, R534): STILL_LIFE snapshots, HOST snapshots asked for, sessions to close with their cause, sessions to open. -/
structure LedgerWork where
  stillLife : Bool := false
  hosts : List ReqRef := []
  closes : List (Nat × Nat) := []
  opens : List Nat := []
  deriving DecidableEq, Repr, Inhabited

/-- The energy ledger (R249-R260). -/
structure Ledger where
  /-- region held in MRAM, oldest first; the position in force, and its two blocks -/
  entries : List LedgerEntry := []
  pos : LedgerPos := {}
  posA : LedgerPos := {}
  posB : LedgerPos := {}
  /-- closed records, in SEQ order: the first 256 stand in the commit queue (R29) -/
  queue : List LedgerRec := []
  /-- SEQ and PREV of the next record to be closed; table of open sessions -/
  nextSeq : Nat := 0
  prev : List Byte := List.replicate 32 0#8
  sessions : List (Nat × List Byte) := []
  overwrites : Nat := 0
  nearFull : Bool := false
  commitHall : Nat := 0
  /-- period in force and the one that follows the period in progress, minutes; hall time of the last close (R252) -/
  period : Nat := 15
  periodNext : Option Nat := none
  lastClose : Nat := 0
  /-- metering ran at the last tick boundary -/
  ran : Bool := false
  /-- sessions left open by a wake without a flush, to be closed before the first admission, with their restored registers
  (R253) -/
  orphans : List (Nat × Nat × Nat) := []
  work : LedgerWork := {}
  /-- records closed while the position that the former active leaves is not known; SEQ of the first that got its number
  with the last such position (R361) -/
  drafts : Option (List LedgerDraft) := none
  settledAt : Nat := 0
  attests : List AttestReq := []
  deriving DecidableEq, Repr, Inhabited

end Sys2Proof.Machine
end

