-- ==== Sys2Proof/Machine/SenseState.lean ====
section
/-! DEFINITION. The state and configuration records of the SAR bank, the window monitors and the capture timers
(R266-R286). -/

namespace Sys2Proof.Machine

/-- One step of a sequence (R267, R270). -/
structure SeqStep where
  input : Nat := 0
  format : Nat := 0
  diff : Bool := false
  deriving DecidableEq, Repr, Inhabited

/-- The sequence record (R276). -/
structure SeqCfg where
  steps : List SeqStep := []
  rateDiv : Nat := 1
  interleave : Bool := false
  base : Nat := 0x00200000
  words : Nat := 4096
  watermark : Nat := 2048
  autoStart : Bool := false
  deriving DecidableEq, Repr, Inhabited

/-- STATE of a sequence (R285). -/
inductive SeqState where
  | stopped | running | stopping
  deriving DecidableEq, Repr, Inhabited

/-- One sequence and its ring (R270-R275). -/
structure Seq where
  state : SeqState := .stopped
  /-- next step; the conversion in progress at a stop has been written -/
  step : Nat := 0
  final : Bool := false
  /-- counters modulo 2^32, and how many of the words before WPTR the ring holds -/
  wptr : Nat := 0
  rptr : Nat := 0
  held : Nat := 0
  lost : Nat := 0
  overrun : Bool := false
  hit : Bool := false
  /-- a start found the sequence STOPPING (R275) -/
  startPend : Bool := false
  /-- SEQ_STOPs that wait for the stop's end -/
  refs : List ReqRef := []
  /-- one above the tick of the frame of its last conversion, and the tick of that conversion's frame and its place there, since
  the start (R269, R270, R272) -/
  frame : Nat := 0
  last : Option (Nat × Nat) := none
  /-- tick of the boundary that applied the stop; the record that a commit has replaced, in force until the stop completes;
  the counters go to zero then (R275) -/
  stopAt : Nat := 0
  old : Option SeqCfg := none
  zero : Bool := false
  deriving DecidableEq, Repr, Inhabited

/-- A SEQ_START or SEQ_STOP in the setpoint queue (R275). -/
structure SeqSet where
  seq : Nat := 0
  start : Bool := false
  ref : ReqRef := {}
  deriving DecidableEq, Repr, Inhabited

/-- The window monitor record (R281). -/
structure MonCfg where
  input : Nat := 0
  low : Nat := 0
  high : Nat := 1023
  deglitch : Nat := 0
  irqMask : Nat := 0
  event : Bool := false
  wakeOn : Nat := 0
  deriving DecidableEq, Repr, Inhabited

/-- One window monitor (R277-R279). -/
structure Mon where
  level : Level := .inWindow
  /-- level before the last change -/
  was : Level := .inWindow
  low : Nat := 0
  high : Nat := 1023
  deglitch : Nat := 0
  /-- tick of the last window event, level changes since it, and a change waits for the next event (R279) -/
  lastEvent : Option Nat := none
  /-- level changes reported, which the capture timers stamp (R282) -/
  edges : Nat := 0
  changes : Nat := 0
  deferred : Bool := false
  /-- ticks of the last change of LOW or HIGH and of the last change of the input index (R278) -/
  setTick : Nat := 0
  moved : Option Nat := none
  deriving DecidableEq, Repr, Inhabited

/-- A stamp of a capture timer (R282). -/
structure Stamp where
  hall : Nat := 0
  level : Byte := 0#8
  count : Nat := 0
  deriving DecidableEq, Repr, Inhabited

/-- One capture timer (R282). -/
structure CapTimer where
  source : Byte := 0#8
  edge : Byte := 0#8
  armed : Bool := false
  /-- of a monitor the level changes, of a presence pin its level, up to which the timer has stamped (R282) -/
  seen : Nat := 0
  count : Nat := 0
  fifo : List Stamp := []
  overflow : Nat := 0
  deriving DecidableEq, Repr, Inhabited

/-- What interrupts the Yard (R274, R279). -/
inductive YardIrq where
  | ring (k : Nat)
  | monitor (m : Nat)
  deriving DecidableEq, Repr

/-- The measurement block's own records. -/
structure Sense where
  /-- sequence requests waiting for the tick boundary -/
  queue : List SeqSet := []
  /-- entries of the slow-results queue, and its drop count (R29) -/
  slow : Nat := 0
  slowDrops : Nat := 0
  /-- the thermal throttle's cap is in force (R272) -/
  capped : Bool := false
  /-- interrupts to the Yard since the last tick boundary -/
  irqs : List YardIrq := []
  /-- tick from which the housekeeping scan is judged (R284) -/
  hkSince : Nat := 0
  /-- the input whose reading the scan made last, and its tick (R269) -/
  hkLast : Option (Nat × Nat) := none
  hkStale : Bool := false
  deriving DecidableEq, Repr, Inhabited

end Sys2Proof.Machine
end

