-- ==== Sys2Proof/Machine/DownState.lean ====
section
/-! DEFINITION. The state of the downstream two-wire controllers TW0-TW3 (R330-R342). -/

namespace Sys2Proof.Machine

/-- A pass-through transaction of the host (R340). -/
structure Pass where
  handle : Nat := 0
  addr : Nat := 0
  kind : Nat := 2
  pec : Bool := false
  wdata : List Byte := []
  rlen : Nat := 0
  ref : ReqRef := {}
  deriving DecidableEq, Repr, Inhabited

/-- An entry of a bus queue (R331, R336): pass-through, or a rectifier's STATUS_WORD, VOUT_MODE or MFR_POUT_MAX read,
VOUT_COMMAND write and its read-back, by channel; one value of a module's BMS, by slot and number of its reads (R338). -/
inductive DsEntry where
  | pass (p : Pass)
  | status (ch : Nat)
  | mode (ch : Nat)
  | power (ch : Nat)
  | write (ch word : Nat)
  | readBack (ch word : Nat)
  | bms (slot id : Nat) (what : BmsValue)
  deriving DecidableEq, Repr, Inhabited

/-- What a transaction puts on the wires (R330, R336, R338): the 7-bit address, the command code of the controller's own
ones, the kind (1 write, 2 read, 3 write then read), the packet error code. -/
structure DsWire where
  addr : Nat := 0
  code : Option Nat := none
  kind : Nat := 3
  pec : Bool := false
  deriving DecidableEq, Repr, Inhabited

/-- The transaction in progress (R332-R334): tick of its first START, arbitration losses, ARB_STOPs; waiting for a free
bus since an arbitration loss at a tick, or for the end of a backoff. -/
structure DsRun where
  entry : DsEntry := .status 0
  wire : DsWire := {}
  start : Nat := 0
  losses : Nat := 0
  stops : Nat := 0
  waitFree : Option Nat := none
  backoff : Option Nat := none
  deriving DecidableEq, Repr, Inhabited

/-- Result of a completed pass-through transaction (R340). -/
structure DsResult where
  handle : Nat := 0
  result : Nat := 0
  data : List Byte := []
  deriving DecidableEq, Repr, Inhabited

/-- One downstream bus (R331-R341). -/
structure DsBus where
  queue : List DsEntry := []
  run : Option DsRun := none
  stuck : Bool := false
  /-- tick of the next recovery while STUCK -/
  recoverDue : Nat := 0
  /-- tick at which the recovery sequence in progress ends (R333); ticks for which the clock line has read low (R334) -/
  recoverEnd : Nat := 0
  lowTicks : Nat := 0
  last : Nat := 0
  handle : Nat := 0
  completed : Nat := 0
  arbStops : Nat := 0
  timeouts : Nat := 0
  ranges : Nat := 0
  /-- results of the last 8 completed pass-through transactions, oldest first -/
  results : List DsResult := []
  deriving DecidableEq, Repr, Inhabited

/-- The polling of the rectifiers: ticks at which status and mode polls fall due (R144, R336). -/
structure DsPoll where
  statusNext : Nat := 0
  modeNext : Nat := 0
  deriving DecidableEq, Repr, Inhabited

end Sys2Proof.Machine
end

