-- ==== Sys2Proof/Machine/PairState.lean ====
section
/-! DEFINITION. The state and configuration record of the stablemate pair (R344-R368). -/

namespace Sys2Proof.Machine

/-- The pair record (R364). -/
structure PairCfg where
  resyncDwell : Nat := 30
  vbusTol : Nat := 250
  refTol : Nat := 2500
  laneTol : Nat := 1311
  deriving DecidableEq, Repr, Inhabited

/-- The fixed fields of a mirror frame (R349). -/
structure MirrorHead where
  epoch : Nat := 0
  active : Bool := false
  ready : Bool := false
  handover : Bool := false
  strap : Nat := 0
  modeWord : Nat := 0
  seq : Nat := 0
  vBus : Int := 0
  ref : Int := 0
  handT : Nat := 0
  deriving DecidableEq, Repr, Inhabited

/-- The standby's watch over one channel's gate pins (R353). -/
structure PinWatch where
  /-- hall time of the last shadow trip seen -/
  tripSeen : Nat := 0
  bad : Nat := 0
  /-- tick of a shadow trip whose gate has not cleared yet -/
  tripSince : Option Nat := none
  gateWas : Bool := false
  /-- GATE_OK cleared while the shadow is ON and has decided no trip -/
  lost : Bool := false
  deriving DecidableEq, Repr, Inhabited

/-- Progress of a handover (R361): the freeze before the tick number is announced, the frames that carry it, and the
wait for the partner after the role is given up. -/
inductive HandPhase where
  | idle
  | draining
  | announced (t : Nat)
  | gone (t : Nat)
  deriving DecidableEq, Repr, Inhabited

/-- Registers latched for snapshots that are written later (R361, R390): meters, their book, hall time. -/
structure RegLatch where
  meters : List Meter := []
  book : MeterBook := {}
  hall : Nat := 0
  deriving DecidableEq, Repr, Inhabited

/-- What the member receives from its partner (R349-R355). -/
structure Partner where
  head : Option MirrorHead := none
  /-- tick numbers of the good frames not judged yet, and the heartbeats received and missed in a row -/
  got : List Nat := []
  seen : Nat := 0
  missed : Nat := 0
  lost : Bool := false
  missedTotal : Nat := 0
  /-- the received image, slices received in a row, the slice expected next -/
  image : List Byte := []
  slices : Nat := 0
  nextSlice : Nat := 0
  /-- ledger next SEQ of the last frame, and the tick since which it and the words of the hash have stood (R352) -/
  posSeq : Option (Nat × Nat) := none
  /-- frames in a row whose cross-check failed -/
  crossBad : Nat := 0
  deriving DecidableEq, Repr, Inhabited

/-- READY and the checks of a standby (R353, R354). -/
structure Shadow where
  ready : Bool := false
  /-- tick at which condition 3 was met; RESYNC_DWELL has passed since -/
  cond3 : Option Nat := none
  dwelt : Bool := false
  /-- last complete self-test: passed, its end tick; hall time of the last one that passed -/
  selfOk : Bool := false
  selfTick : Option Nat := none
  selfHall : Nat := 0
  pins : List PinWatch := []
  /-- periods in a row in which each lane was outside -/
  lanes : List Nat := []
  pinBad : Bool := false
  diverge : Bool := false
  cross : Bool := false
  mismatches : Nat := 0
  divergences : Nat := 0
  deriving DecidableEq, Repr, Inhabited

/-- What the member sends (R349-R352). -/
structure MirrorOut where
  /-- the image as last sent word by word, and the words that wait -/
  image : List Byte := []
  changes : List Nat := []
  slice : Nat := 0
  /-- the consistent ledger position in the frames, and the position whose hash is being sent, with that hash (R352) -/
  seq : Nat := 0
  nextSeq : Nat := 0
  hash : List Byte := List.replicate 32 0#8
  /-- payload of the last frame sent (the model's record of an output) -/
  frame : List Byte := []
  deriving DecidableEq, Repr, Inhabited

/-- Kinds of the last switch-over (R366). -/
inductive SwitchKind where
  | none | start | heartbeat | forceFall | handover | forced | blocked
  deriving DecidableEq, Repr, Inhabited

/-- The member's side of the pair (R346-R368). -/
structure Pair where
  forceIn : Bool := false
  forceOut : Bool := false
  /-- FORCE_IN has fallen since the last boundary, and had fallen at the last boundary (R355) -/
  fell : Bool := false
  fellNow : Bool := false
  /-- drivers at high impedance in the gap hold; tick at which they resume (R356, R357) -/
  gapHold : Bool := false
  resumeAt : Option Nat := none
  /-- consecutive ticks without a valid die-link frame (R23) -/
  noLink : Nat := 0
  /-- tick at which W7 ended, while the member listens for a role (R348); a frame with ACTIVE was received -/
  listen : Option Nat := none
  heard : Bool := false
  /-- the role epoch of the last frame received, and the one retained in MRAM (R348) -/
  heardEpoch : Nat := 0
  retEpoch : Nat := 0
  /-- hall time last received from the partner (R383), kept for the next wake -/
  heardHall : Nat := 0
  /-- tick since which FORCE_IN has read low with the heartbeats missed, as a standby that is not READY (R360) -/
  blockedSince : Option Nat := none
  hand : HandPhase := .idle
  handRef : Option ReqRef := none
  /-- FORCE_IN has risen since the role was given up in the handover (R361) -/
  handRose : Bool := false
  /-- role epoch given up in a handover whose new active has not been seen yet -/
  handEpoch : Option Nat := none
  /-- power-down follows the handover (R55); THERM_SHUTDOWN follows it (R505) -/
  handOff : Bool := false
  handHot : Bool := false
  kind : SwitchKind := .none
  before : Nat := 0xFF
  switchHall : Nat := 0
  failovers : Nat := 0
  handovers : Nat := 0
  deriving DecidableEq, Repr, Inhabited

/-- The whole pair block. -/
structure PairBlock where
  me : Pair := {}
  partner : Partner := {}
  shadow : Shadow := {}
  out : MirrorOut := {}
  deriving DecidableEq, Repr, Inhabited

end Sys2Proof.Machine
end

