-- ==== Sys2Proof/Machine/HallState.lean ====
section
/-! DEFINITION. The state and configuration record of the Nymi link and the hall (R369-R402, R168, R169). -/

namespace Sys2Proof.Machine

/-- The hall record (R398). -/
structure HallCfg where
  enable : Bool := false
  pairId : Nat := 0
  pairs : Nat := 1
  barrierPart : Bool := true
  timePeriod : Nat := 1000
  asym : List Int := [0, 0, 0, 0]
  barrierTimeout : Nat := 1000
  msgTimeout : Nat := 10
  collectRate : Nat := 40
  deriving DecidableEq, Repr, Inhabited

/-- States of a port (R378, R400). -/
inductive NpState where
  | down | training | up | topology
  deriving DecidableEq, Repr, Inhabited

/-- What a neighbour's last LINK_HELLO said (R374). -/
structure Neighbour where
  pairId : Nat := 0xFFFF
  strap : Nat := 0
  active : Bool := false
  locked : Bool := false
  degraded : Bool := false
  isolated : Bool := false
  uplinkDown : Bool := false
  hops : Nat := 0
  hMax : Nat := 0
  deriving DecidableEq, Repr, Inhabited

/-- One Nymi port (R378). -/
structure NpPort where
  state : NpState := .down
  near : Option Neighbour := none
  good : Nat := 0
  crc : Nat := 0
  /-- ticks of the CRC errors of the last millisecond; tick of the last valid frame and of the next LINK_HELLO -/
  recent : List Nat := []
  lastValid : Nat := 0
  helloNext : Nat := 0
  /-- frames that the last command sent (the model's record of an output) -/
  sent : List Frame := []
  deriving DecidableEq, Repr, Inhabited

/-- The time exchange (R381-R384).  Stamps are hall time in 10 ns / 256. -/
structure TimeSync where
  /-- request in flight: its FRAME_ID and t1; the last exchange without its t3: t1, t2, t4; the next one falls due -/
  ask : Option (Nat × Nat) := none
  last : Option (Nat × Nat × Nat) := none
  next : Nat := 0
  /-- t3 of the last answer given on each port -/
  lastT3 : List Nat := []
  offset : Int := 0
  delay : Int := 0
  rate : Int := 0
  good : Nat := 0
  bad : Nat := 0
  locked : Bool := false
  /-- tick since which LOCKED has been clear with a time parent -/
  unlockedSince : Option Nat := none
  /-- hall time that the next boundary is to take with the remainder in ps that is then slewed, and hall time of the last
  step (R383).  The sub-unit fraction of hall time is zero at every boundary (R26); between two the stamps carry it. -/
  step : Option (Nat × Int) := none
  stepHall : Nat := 0
  /-- the time parent's port number; none where there is no parent -/
  parent : Option Nat := none
  deriving DecidableEq, Repr, Inhabited

/-- Aggregate of one port in a barrier: count and flags. -/
structure Arrival where
  count : Nat := 0
  incomplete : Bool := false
  conflict : Bool := false
  deriving DecidableEq, Repr, Inhabited

/-- The barrier that a member gathers (R387, R388). -/
structure Barrier where
  id : Nat := 0
  /-- BARRIER_OPEN was received at this tick -/
  openAt : Option Nat := none
  own : Bool := false
  /-- aggregates received, by port -/
  arrived : List (Nat × Arrival) := []
  conflict : Bool := false
  sent : Bool := false
  ref : Option ReqRef := none
  deriving DecidableEq, Repr, Inhabited

/-- A schedule held (R389-R392): action byte, origin, scheduled hall time. -/
structure Sched where
  act : Nat := 0
  origin : Nat := 0
  at_ : Nat := 0
  deriving DecidableEq, Repr, Inhabited

/-- A schedule request that waits for its answer (R389). -/
structure SchedAsk where
  fid : Nat := 0
  at_ : Nat := 0
  ref : ReqRef := {}
  sent : Nat := 0
  deriving DecidableEq, Repr, Inhabited

/-- A HALL_SEND that waits for its answer (R394). -/
structure MsgAsk where
  fid : Nat := 0
  dst : Nat := 0
  ref : ReqRef := {}
  sent : Nat := 0
  deriving DecidableEq, Repr, Inhabited

/-- A cap frame that may be sent once more (R393). -/
structure CapFrame where
  frame : Frame := {}
  deriving DecidableEq, Repr, Inhabited

/-- States of a collection (R400). -/
inductive CollState where
  | idle | running | waiting | done | cancelled
  deriving DecidableEq, Repr, Inhabited

/-- The collector (R395, R396). -/
structure Collect where
  state : CollState := .idle
  at_ : Nat := 0
  /-- node asked now, tick of the request, stream bytes received of it and the part that is not a whole unit yet -/
  node : Nat := 0
  asked : Nat := 0
  /-- the node has sent something since the last request -/
  heard : Bool := false
  got : Nat := 0
  part : List Byte := []
  finished : Nat := 0
  noReply : Nat := 0
  units : Nat := 0
  buf : List (List Byte) := []
  ref : Option ReqRef := none
  deriving DecidableEq, Repr, Inhabited

/-- A collection request that waits for its entries to be committed (R395). -/
structure CollAsk where
  src : Nat := 0
  fid : Nat := 0
  at_ : Nat := 0
  off : Nat := 0
  deriving DecidableEq, Repr, Inhabited

/-- A stream on its way to a collector (R396): its node, the FRAME_ID to echo, the parts still to send (offset, LAST and bytes),
and the payload bytes that COLLECT_RATE allows by now. -/
structure CollOut where
  dst : Nat := 0
  fid : Nat := 0
  parts : List (Nat × Bool × List Byte) := []
  credit : Nat := 0
  deriving DecidableEq, Repr, Inhabited

/-- How the member stood at the last Still Life it acted on (R391, R395). -/
structure StillMark where
  at_ : Nat := 0
  /-- 0 TAKEN, 1 MISSED, 2 NO_METERING -/
  status : Nat := 0
  epoch : Nat := 0
  deriving DecidableEq, Repr, Inhabited

/-- A hall cap round (R168, R169, R393). -/
structure CapRound where
  /-- present round number and its start; the member's report of it went up; reports received, and the last ones, by
  child pair -/
  round : Nat := 0
  start : Nat := 0
  open_ : Bool := false
  sent : Bool := false
  reports : List (Nat × Nat × Nat) := []
  last : List (Nat × Nat × Nat) := []
  /-- the present round's allocation was applied, or counted as not received -/
  settled : Bool := false
  /-- cap frames sent in the round that may be sent once more -/
  frames : List CapFrame := []
  deriving DecidableEq, Repr, Inhabited

/-- The hall side of a member (R375-R402). -/
structure Hall where
  ports : List NpPort := []
  frameId : Nat := 0
  time : TimeSync := {}
  isolated : Bool := false
  /-- broadcast number last given by the root, and the last 16 numbers delivered -/
  bcast : Nat := 0
  recent : List Nat := []
  received : Nat := 0
  discarded : Nat := 0
  barrier : Option Barrier := none
  still : Option Sched := none
  reset : Option Sched := none
  asks : List SchedAsk := []
  msgs : List MsgAsk := []
  cap : CapRound := {}
  coll : Collect := {}
  /-- collection requests that wait, and streams on their way, oldest first: one of each collector -/
  collAsk : List CollAsk := []
  collOut : List CollOut := []
  /-- last Still Lifes acted on, newest first; registers latched at one at which the member was not active, until the active partner is known to
  have recorded it (R390) -/
  marks : List StillMark := []
  stillLatch : Option RegLatch := none
  /-- a Still Life whose first record waits for its SEQ: its hall time, and the record's place among the drafts (R361) -/
  stillTell : Option (Nat × Nat) := none
  /-- a hall-reset event to be posted after the Yard's restart (R402) -/
  resetEvent : Option Sched := none
  deriving DecidableEq, Repr, Inhabited

end Sys2Proof.Machine
end

