-- ==== Sys2Proof/Machine/RecState.lean ====
section
/-! DEFINITION. The state of the Tack Room and the Yard's images, of the Sketchbook (R431-R455), of the configuration
slots and staging (R456-R479), of the Ostler, the wake and the clocks, and of the temperature sensors (R480-R508). -/

namespace Sys2Proof.Machine

/-! ## Sketchbook -/

/-- A capture definition of the recorder record (R451). -/
structure CapDef where
  enable : Bool := false
  seq : Nat := 0
  pre : Nat := 16384
  post : Nat := 32768
  source : Nat := 0
  critical : Bool := true
  timer : Nat := 0xFF
  deriving DecidableEq, Repr, Inhabited

/-- The recorder record (R451). -/
structure RecCfg where
  period : Nat := 60
  faultMin : Nat := 1
  defs : List CapDef := []
  deriving DecidableEq, Repr, Inhabited

/-- An event on its way to the recorder (R445): its record but for SEQ and CRC, and the tick it was posted. -/
structure RecEvent where
  kind : Nat := 0
  sev : Nat := 0
  source : Nat := 0
  hall : Nat := 0
  detail : List Byte := []
  tick : Nat := 0
  deriving DecidableEq, Repr, Inhabited

/-- A capture (R447): while it runs, and as it waits for its flush. -/
structure Capture where
  defn : Nat := 0
  seq : Nat := 0
  /-- trigger code and source or timer of the header -/
  trig : Nat := 0
  source : Nat := 0
  hall : Nat := 0
  w : Nat := 0
  pre : List Word := []
  post : List Word := []
  want : Nat := 0
  truncated : Bool := false
  preShort : Bool := false
  overrun : Bool := false
  /-- tick at which it was complete -/
  tick : Nat := 0
  deriving DecidableEq, Repr, Inhabited

/-- A trigger (R447): its definition and cause, and, at the instant of it, W, the words the ring held before W, and hall time. -/
structure Trig where
  defn : Nat := 0
  cause : TrigCause := .host
  w : Nat := 0
  held : Nat := 0
  hall : Nat := 0
  deriving DecidableEq, Repr, Inhabited

/-- A stored unit of an area: its number and its bytes. -/
structure RecUnit where
  num : Nat := 0
  bytes : List Byte := []
  deriving DecidableEq, Repr, Inhabited

/-- The Sketchbook (R444-R449). -/
structure Sketch where
  /-- event queue (256), running captures by definition, complete captures waiting for their flush -/
  queue : List RecEvent := []
  running : List Capture := []
  done : List Capture := []
  /-- the three areas as MRAM holds them, oldest first; capture slots by number -/
  events : List RecUnit := []
  summaries : List RecUnit := []
  slots : List (Option RecUnit) := []
  nextEvent : Nat := 0
  nextSummary : Nat := 0
  nextCapture : Nat := 0
  /-- triggers that no capture has started on yet -/
  trigs : List Trig := []
  ignored : Nat := 0
  /-- events dropped since the last summary, since wake, while frozen -/
  dropSummary : Nat := 0
  dropWake : Nat := 0
  dropFrozen : Nat := 0
  summaryNext : Nat := 0
  /-- slow-results drops already told (R446) -/
  slowTold : Nat := 0
  /-- freeze in progress since this tick; in effect; its cause and source, hall time at which it took effect (R449) -/
  pending : Option Nat := none
  frozen : Bool := false
  cause : Nat := 0
  source : Nat := 0
  frozenHall : Nat := 0
  /-- severity-3 sets that met the freeze in the tick of the last one: tick and source (R449) -/
  lateSet : List (Nat × Nat) := []
  suspended : Bool := false
  deriving DecidableEq, Repr, Inhabited

/-! ## Tack Room -/

/-- Kinds of mailbox entries (R433). -/
inductive BoxKind where
  | clearLockout | clearLatch | severity | commit | activate (op : Nat)
  deriving DecidableEq, Repr, Inhabited

/-- An entry of the protection mailbox: the request it comes from, with its opcode and parameter bytes, and the tick at which
the Yard offered it (R29, R433). -/
structure BoxEntry where
  kind : BoxKind := .severity
  opcode : Nat := 0
  ref : ReqRef := {}
  params : List Byte := []
  tick : Nat := 0
  /-- role generation of the channel it names, as the request was taken (R20) -/
  gen : Nat := 0
  deriving DecidableEq, Repr, Inhabited

/-- What mailbox entries are judged on: the channels LOCKED, the rails LATCHED and the bits set at the start of the tick
(R434). -/
structure BoxView where
  locked : List Nat := []
  latched : List Nat := []
  sticky : List Nat := []
  deriving DecidableEq, Repr, Inhabited

/-- Validity of a firmware slot (R453). -/
inductive FwValid where
  | empty | valid | invalid | staging | rolledBack
  deriving DecidableEq, Repr, Inhabited

/-- A firmware slot (R435-R441). -/
structure FwSlot where
  valid : FwValid := .empty
  result : Nat := 0xFF
  version : Nat := 0
  rollback : Nat := 0
  bytes : List Byte := []
  deriving DecidableEq, Repr, Inhabited

/-- Staging of firmware (R438, R454). -/
inductive FwStage where
  | none | opened | verifying | verified
  deriving DecidableEq, Repr, Inhabited

/-- The firmware of a member (R435-R441). -/
structure Fw where
  yard : List FwSlot := []
  patch : List FwSlot := []
  /-- running Yard slot and patch slot: 0 A, 1 B; a verified patch runs -/
  run : Nat := 0
  patchSlot : Nat := 0
  patchRuns : Bool := false
  /-- TRIAL with its target; the fallback was started (R441) -/
  trial : Bool := false
  trialTarget : Nat := 0
  fallback : Bool := false
  recovery : Bool := false
  stage : FwStage := .none
  stageTarget : Nat := 0
  stageLen : Nat := 0
  staged : List Byte := []
  endRef : Option ReqRef := none
  /-- an activation waits for its restart: target, the request whose reply is to be read, tick of the reply (R440) -/
  restart : Option (Nat × ReqRef × Nat) := none
  /-- the Yard is stopped and restarts; its activation is to be told after it -/
  yardStop : Bool := false
  told : Option (Nat × Nat) := none
  activeHall : Nat := 0
  deriving DecidableEq, Repr, Inhabited

/-- OTP fuses that the spec names (R416, R436, R458). -/
structure Otp where
  customerKey : Bool := false
  /-- the customer public key, X and Y; without meaning while `customerKey` is clear -/
  customerPub : Nat × Nat := (0, 0)
  signRequired : Bool := false
  rollback : Nat := 0
  win0 : Nat := 0
  win1 : Nat := 0
  deriving DecidableEq, Repr, Inhabited

/-- MRAM words that read with an uncorrectable error, by byte address; tick at which the last scrub pass and the last
self-test pass ended (R443). -/
structure Mram where
  bad : List Nat := []
  scrubTick : Nat := 0
  deriving DecidableEq, Repr, Inhabited

/-! ## Configuration -/

/-- A configuration state block (R456): the committed slot, its image's SEQUENCE, the write count, and the CRC of the three. -/
structure CfgBlock where
  slot : Nat := 0
  seq : Nat := 0
  count : Nat := 0
  crc : Word := 0#32
  deriving DecidableEq, Repr, Inhabited

/-- STAGE (R478). -/
inductive CfgStage where
  | none | opened | verifying | verified
  deriving DecidableEq, Repr, Inhabited

/-- Outcome of the checks (R467, R477): code, TYPE, INDEX and offset of the failing record. -/
structure CfgCheck where
  code : Nat := 0
  typ : Nat := 0
  idx : Nat := 0
  off : Nat := 0xFFFFFFFF
  deriving DecidableEq, Repr, Inhabited

/-- A commit that copies and checks before its flip (R469): source, image, request, tick at which its entry was taken. -/
structure CfgCopy where
  src : Nat := 0
  expected : Nat := 0
  raw : List Byte := []
  ref : ReqRef := {}
  since : Nat := 0
  deriving DecidableEq, Repr, Inhabited

/-- The configuration slots and staging (R456-R478). -/
structure Cfg where
  slotA : List Byte := []
  slotB : List Byte := []
  blocks : List CfgBlock := []
  stage : CfgStage := .none
  stagePort : Port := .tw
  stageLen : Nat := 0
  staged : List Byte := []
  endRef : Option ReqRef := none
  copying : Option CfgCopy := none
  /-- a commit has flipped and applies at the next boundary: the image, the request, the tick of the flip -/
  apply : Option (List Byte × ReqRef × Nat) := none
  slot : Nat := 0
  lastCheck : Nat := 0
  flipHall : Nat := 0
  /-- a reset or a power-down discarded a stage; the next W7 tells (R468) -/
  discarded : Bool := false
  deriving DecidableEq, Repr, Inhabited

/-! ## Ostler, wake and heat -/

/-- The wake record of the keep-alive registers (R483). -/
structure WakeRec where
  code : Nat := 0
  retries : Nat := 0
  attempts : Nat := 0
  deriving DecidableEq, Repr, Inhabited

/-- The Ostler (R480-R495). -/
structure Ostler where
  /-- the keep-alive domain has power -/
  alive : Bool := false
  /-- reset cause for the next wake (0 NONE), and how the present OFF was entered (R484, R487) -/
  cause : Nat := 0
  offCause : Cause := .powerOn
  record : WakeRec := {}
  /-- settings of WM0-WM3 of the last commit -/
  mons : List MonCfg := []
  deadStop : Bool := false
  retryDue : Option Nat := none
  /-- retries made in the present series (R493) -/
  series : Nat := 0
  /-- a wake request waits for a supply and for TS0 (R485), or for the end of the power-down (R489) -/
  waiting : Bool := false
  wakeAfter : Bool := false
  /-- wake step in progress, 0 none; the tick at which it began; its attempts so far; the tick at which a discharge or
  PLL reset ends and the step is tried again (R486) -/
  step : Nat := 0
  stepAt : Nat := 0
  tries : Nat := 0
  discharge : Option Nat := none
  /-- an OFF request during WAKE waits for the step's end (R489) -/
  offAsked : Bool := false
  /-- a step passed only on a retry; the crystal failed at W4 (R486) -/
  stepRetried : Bool := false
  xtalFailed : Bool := false
  /-- the wake follows a CHIP_RESET or FIRMWARE reset; its source had severity 3 (R410) -/
  resetting : Bool := false
  resetCrit : Bool := false
  /-- supplies that are not low: each is low from its lower threshold until it returns (R481) -/
  vinA : Bool := false
  vinB : Bool := false
  vka : Bool := false
  /-- VINA, VINB, VKA: out of range at the last boundary, low or not (R367, R481) -/
  supplyOut : List Bool := []
  /-- TS0 as the Ostler read it last, in 0.01 °C (R506) -/
  ts0 : Int := 0
  /-- RSTn is low -/
  rstn : Bool := false
  /-- tick of the last OFF request, and of the wake request that began the last wake (R490) -/
  offTick : Option Nat := none
  wakeTick : Option Nat := none
  /-- tag of the accepted wake request of the responder (R484) -/
  wakeTag : Option Byte := none
  /-- the two-wire receiver is awake; tick of the last transaction addressed to it (R326) -/
  rxAwake : Bool := false
  rxLast : Nat := 0
  /-- ticks of recent STUDIO_ABSENT wakes; tick at which the absence asks for a wake (R499) -/
  absences : List Nat := []
  rewakeAt : Option Nat := none
  /-- while degraded: tick at which the crystal is tried again; tick since which it passes (R497) -/
  xtalNext : Nat := 0
  xtalOk : Option Nat := none
  /-- tick at which the power-down began (R41); the backstop of R504 asked for it -/
  flushAt : Option Nat := none
  thermal : Bool := false
  deriving DecidableEq, Repr, Inhabited

/-- One temperature sensor (R501-R503). -/
structure Sensor where
  t : Int := 2500
  valid : Bool := true
  /-- samples in a row away from the median; samples in a row back near it -/
  away : Nat := 0
  back : Nat := 0
  /-- the previous sample was at or above SET, at or below CLEAR, of warning, throttle and shutdown -/
  hi : List Bool := [false, false, false]
  lo : List Bool := [false, false, false]
  lvl : List Bool := [false, false, false]
  /-- the previous sample was at or above 150.00 °C (R504) -/
  top : Bool := false
  deriving DecidableEq, Repr, Inhabited

/-- The temperature side of a member (R501-R506). -/
structure Heat where
  sensors : List Sensor := []
  levels : List Bool := [false, false, false]
  degraded : Bool := false
  /-- tick of the last sample near a level, tick from which the next sample may come -/
  nearAt : Option Nat := none
  next : Nat := 0
  /-- reference trims computed and in force, in ppm: references, comparator DACs, modulators, error ADCs (R506) -/
  trimNext : List Int := [0, 0, 0, 0]
  trim : List Int := [0, 0, 0, 0]
  trimDue : Nat := 0
  /-- trim code of the 50 MHz RC, and the mean of TS8-TS11 at which it was last applied (R500) -/
  rcCode : Int := 0
  rcAt : Option Int := none
  deriving DecidableEq, Repr, Inhabited

end Sys2Proof.Machine
end

