-- ==== Sys2Proof/Machine/State.lean ====
section
/-! DEFINITION. The whole state of the block. -/

namespace Sys2Proof.Machine

/-- Mode parameters (R56). -/
structure ModeCfg where
  startRun : Bool := false
  blackStart : Bool := false
  startTimeout : Nat := 5000
  stopTimeout : Nat := 1000
  runBusSettle : Nat := 100
  shortfallTime : Nat := 5
  returnMargin : Nat := 6554
  exitHyst : Nat := 1000
  exitDwell : Nat := 5000
  handover : Nat := 2000
  deriving DecidableEq, Repr, Inhabited

/-- Watchdog and fault parameters (R425) and the fault record's entries (R406, R407). -/
structure DogCfg where
  wd0Period : Nat := 100
  wd1Period : Nat := 0
  wd1Disarm : Bool := false
  hostlossCap : Nat := 0
  faultEventMin : Nat := 1
  entries : List SevSet := []
  deriving DecidableEq, Repr, Inhabited

/-- The configuration image in force, as its records say (R460). -/
structure Image where
  chs : List ChCfg := []
  brks : List BrkCfg := []
  /-- RECT_POWER and rectifier addresses of RECTIFIER channels -/
  rails : List (Option RailCfg) := []
  prots : List RailProt := []
  auxs : List RailAux := []
  energy : EnergyCfg := {}
  caps : CapCfg := {}
  links : List (Option LinkCfg) := []
  modes : ModeCfg := {}
  dogs : DogCfg := {}
  rectPower : List Nat := []
  profiles : List Profile := []
  /-- records of the battery slots; none where the slot is not configured (R15) -/
  bats : List (Option BatCfg) := []
  /-- metering records by object code; none where the object has no calibration (R239, R261) -/
  meters : List (Option MeterCfg) := []
  ledgerPeriod : Nat := 15
  nearFullFrac : Nat := 49152
  /-- thermistor records by SAR input (R464) -/
  therms : List (Option Thermistor) := []
  seqs : List (Option SeqCfg) := []
  mons : List (Option MonCfg) := []
  /-- bus and address of each RECTIFIER channel's rectifier; DS_RATE in kHz and DS_PEC of each bus (R330) -/
  rectBus : List (Nat × Nat) := []
  dsBus : List (Nat × Bool) := []
  pair : PairCfg := {}
  hall : HallCfg := {}
  recs : RecCfg := {}
  /-- FORMAT 1 header facts: SEQUENCE, SIGNED, DIGEST (R457) -/
  seqNo : Nat := 0
  signed : Bool := false
  digest : List Byte := List.replicate 32 0#8
  deriving DecidableEq, Repr, Inhabited

/-- The last housekeeping reading of a SAR input (R269, R285). -/
structure HkRead where
  taken : Bool := false
  uV : Int := 0
  code : Int := 0
  ovr : Bool := false
  hall : Nat := 0
  tick : Nat := 0
  deriving DecidableEq, Repr, Inhabited

/-- The clock of the part: ticks since the keep-alive start, hall time in 10 ns (R8), and the counter of free
values drawn. -/
structure Clock where
  tick : Nat := 0
  hall : Nat := 0
  fresh : Nat := 0
  /-- the metering clock does not run from the crystal (R497) -/
  degraded : Bool := false
  deriving DecidableEq, Repr, Inhabited

/-- Everything the block holds but the queue of commands. -/
structure Chip where
  clk : Clock := {}
  strap : Strap := .solo
  mode : ModeState := {}
  img : Image := {}
  imgValid : Bool := false
  chs : List Ch := []
  chQueue : List ChSet := []
  rails : List Rail := []
  railQueue : List RailSet := []
  /-- battery terminals as latched (R226) -/
  terms : List TermFast := []
  bats : List Bat := []
  /-- the slots' MRAM records, kept without power (R219) -/
  batRecs : List BatRec := []
  hk : List HkRead := []
  /-- measurement region of SRAM (R274) -/
  sram : Memory := []
  seqs : List Seq := []
  mons : List Mon := []
  caps : List CapTimer := []
  sense : Sense := {}
  ds : List DsBus := []
  dsPoll : DsPoll := {}
  /-- the thermal throttle level is set (R503) -/
  throttled : Bool := false
  energy : Energy := {}
  book : EnergyBook := {}
  rects : List Rect := []
  links : List Link := []
  bursts : List Burst := []
  meters : List Meter := []
  meterBook : MeterBook := {}
  ledger : Ledger := {}
  tw : PortState := {}
  spi : PortState := {}
  /-- straps ADDR[2:0] as read at wake (R321); the status byte last shifted out on SPI (R328, the model's record of
  an output) -/
  addr : Nat := 0
  spiStatus : Byte := 0#8
  receipts : Nat := 0
  /-- requests with a receipt below this one are forgotten: no event completes them (R313) -/
  deadBelow : Nat := 0
  events : Events := {}
  svc : SvcState := {}
  faults : Faults := {}
  dogs : Dogs := {}
  retained : Retained := {}
  pair : PairBlock := {}
  net : Hall := {}
  sketch : Sketch := {}
  /-- protection mailbox, requests that wait for room in it, entries taken that apply at the next boundary (R433) -/
  box : List BoxEntry := []
  boxWait : List BoxEntry := []
  boxDue : List BoxEntry := []
  /-- receipt numbers that a mailbox entry has used (R433) -/
  boxUsed : List Nat := []
  boxSeen : BoxView := {}
  fw : Fw := {}
  otp : Otp := {}
  mram : Mram := {}
  cfg : Cfg := {}
  ostler : Ostler := {}
  heat : Heat := {}
  deriving DecidableEq, Repr, Inhabited

/-- The whole machine: the commands waiting, first in, first out, and the block. -/
structure State where
  pending : List Instr := []
  chip : Chip := {}
  deriving DecidableEq, Repr, Inhabited

/-- The state with a command's effect on the block; the queue is as it was. -/
def State.on (s : State) (f : Chip → Chip) : State := { s with chip := f s.chip }

/-- Stops of the machine: the spec gives every command an effect, so there is none. -/
inductive Fault where
  deriving DecidableEq, Repr

/-- Refusals of the machine. -/
inductive Refusal where
  | notModelled (mnemonic : String)
  deriving DecidableEq, Repr

/-- A member whose keep-alive domain has no power yet, as it leaves the factory: every table at its full length, and
every gate held off with the strong pull-down (R23, R63). -/
def Chip.blank : Chip :=
  { chs := List.replicate 32 { pull := .strong }, rails := List.replicate 16 {},
    terms := List.replicate 12 {}, bats := List.replicate 12 {}, batRecs := List.replicate 12 {}, hk := List.replicate 128 {}, seqs := List.replicate 8 {}, mons := List.replicate 24 {},
    caps := List.replicate 16 {}, ds := List.replicate 4 {}, rects := List.replicate 32 {}, links := List.replicate 8 {},
    bursts := List.replicate 8 {}, meters := List.replicate 44 {}, net := { ports := List.replicate 4 {} },
    sketch := { slots := List.replicate 32 none },
    fw := { yard := [{ valid := .valid, result := 0 }, {}], patch := [{}, {}] },
    cfg := { blocks := [{}, {}] }, ostler := { mons := List.replicate 4 {} }, heat := { sensors := List.replicate 12 {} } }

/-- The machine right after reset: OFF, no supply, no command waiting. -/
def State.reset : State := { pending := [], chip := Chip.blank }

end Sys2Proof.Machine
end

