-- ==== Sys2Proof/Machine/FaultTable.lean ====
section
/-! DEFINITION. The table of fault sources: which source IDs exist and their default severity, as each chapter's
table lists them (R80, R107, R139, R172, R202, R231, R262, R284, R343, R365, R399, R426, R452, R475, R508), the
default reaction masks (R407) and the resettable blocks (R409). -/

namespace Sys2Proof.Machine

/-- One row of a source table: first and last source ID, default severity. -/
structure SourceRow where
  lo : Nat
  hi : Nat
  sev : Nat
  deriving DecidableEq, Repr

/-- Blocks 0x01 to 0x04. -/
def sourcesPower : List SourceRow :=
  [⟨0x0100, 0x011F, 1⟩, ⟨0x0120, 0x013F, 1⟩, ⟨0x0140, 0x015F, 2⟩, ⟨0x0160, 0x017F, 1⟩, ⟨0x0180, 0x019F, 2⟩,
   ⟨0x01A0, 0x01BF, 0⟩, ⟨0x0200, 0x021F, 2⟩, ⟨0x0220, 0x023F, 2⟩, ⟨0x0240, 0x025F, 1⟩, ⟨0x0260, 0x027F, 0⟩,
   ⟨0x0280, 0x029F, 2⟩, ⟨0x0300, 0x031F, 2⟩, ⟨0x0320, 0x033F, 0⟩, ⟨0x0340, 0x035F, 1⟩]
  ++ [⟨0x0400, 0x040F, 2⟩, ⟨0x0410, 0x041F, 0⟩, ⟨0x0420, 0x042F, 2⟩, ⟨0x0430, 0x043F, 2⟩, ⟨0x0440, 0x044F, 1⟩,
   ⟨0x0450, 0x045F, 1⟩, ⟨0x0460, 0x046F, 2⟩, ⟨0x0470, 0x047F, 1⟩, ⟨0x0480, 0x048F, 1⟩]

/-- Blocks 0x05 to 0x09. -/
def sourcesShelf : List SourceRow :=
  [⟨0x0500, 0x0500, 0⟩, ⟨0x0501, 0x0501, 1⟩, ⟨0x0502, 0x0502, 1⟩, ⟨0x0503, 0x0503, 1⟩, ⟨0x0504, 0x0504, 1⟩,
   ⟨0x0505, 0x0505, 2⟩, ⟨0x0520, 0x053F, 1⟩, ⟨0x0600, 0x0607, 0⟩, ⟨0x0608, 0x060F, 0⟩, ⟨0x0610, 0x0617, 1⟩,
   ⟨0x0618, 0x061F, 1⟩, ⟨0x0620, 0x0627, 1⟩]
  ++ [⟨0x0700, 0x070B, 1⟩, ⟨0x0710, 0x071B, 1⟩, ⟨0x0720, 0x072B, 2⟩, ⟨0x0730, 0x073B, 2⟩, ⟨0x0740, 0x074B, 1⟩,
   ⟨0x0750, 0x075B, 0⟩, ⟨0x0760, 0x076B, 1⟩, ⟨0x0770, 0x077B, 1⟩]
  ++ [⟨0x0800, 0x082B, 1⟩, ⟨0x0840, 0x086B, 1⟩, ⟨0x08C0, 0x08C0, 1⟩, ⟨0x08C1, 0x08C1, 1⟩, ⟨0x08C2, 0x08C2, 2⟩,
   ⟨0x08C3, 0x08C3, 2⟩, ⟨0x08C4, 0x08C4, 2⟩, ⟨0x0900, 0x0907, 0⟩, ⟨0x0910, 0x0910, 1⟩, ⟨0x0911, 0x0911, 2⟩,
   ⟨0x0920, 0x092F, 0⟩]

/-- Blocks 0x0A to 0x13. -/
def sourcesSystem : List SourceRow :=
  [⟨0x0A00, 0x0A03, 0⟩, ⟨0x0A04, 0x0A04, 1⟩, ⟨0x0B00, 0x0B03, 0⟩, ⟨0x0B04, 0x0B07, 1⟩, ⟨0x0B08, 0x0B0B, 2⟩,
   ⟨0x0B0C, 0x0B0F, 1⟩, ⟨0x0B10, 0x0B13, 1⟩, ⟨0x0B14, 0x0B17, 0⟩]
  ++ [⟨0x0C00, 0x0C00, 3⟩, ⟨0x0C01, 0x0C01, 1⟩, ⟨0x0C02, 0x0C02, 1⟩, ⟨0x0C03, 0x0C03, 2⟩, ⟨0x0C04, 0x0C04, 2⟩,
   ⟨0x0C05, 0x0C05, 1⟩, ⟨0x0C06, 0x0C06, 2⟩, ⟨0x0C07, 0x0C07, 1⟩, ⟨0x0C08, 0x0C08, 2⟩, ⟨0x0C09, 0x0C09, 1⟩]
  ++ [⟨0x0D00, 0x0D03, 1⟩, ⟨0x0D04, 0x0D07, 0⟩, ⟨0x0D08, 0x0D0B, 2⟩, ⟨0x0D0C, 0x0D0C, 1⟩, ⟨0x0D0D, 0x0D0D, 1⟩,
   ⟨0x0D0E, 0x0D0E, 0⟩, ⟨0x0D0F, 0x0D0F, 0⟩, ⟨0x0D10, 0x0D10, 1⟩, ⟨0x0D11, 0x0D11, 0⟩]
  ++ [⟨0x0E00, 0x0E00, 1⟩, ⟨0x0E01, 0x0E01, 1⟩, ⟨0x0E02, 0x0E02, 3⟩, ⟨0x0E10, 0x0E1B, 1⟩, ⟨0x0E20, 0x0E20, 2⟩]
  ++ [⟨0x0F00, 0x0F02, 1⟩, ⟨0x0F08, 0x0F09, 1⟩, ⟨0x0F0A, 0x0F0A, 2⟩, ⟨0x0F0B, 0x0F0B, 0⟩, ⟨0x0F11, 0x0F16, 2⟩,
   ⟨0x0F18, 0x0F1A, 2⟩, ⟨0x0F20, 0x0F20, 1⟩]
  ++ [⟨0x1000, 0x1000, 0⟩, ⟨0x1001, 0x1001, 2⟩, ⟨0x1002, 0x1002, 2⟩, ⟨0x1003, 0x1003, 1⟩, ⟨0x1004, 0x1004, 1⟩,
   ⟨0x1005, 0x1005, 1⟩, ⟨0x1100, 0x1100, 2⟩, ⟨0x1101, 0x1101, 1⟩, ⟨0x1102, 0x1102, 2⟩, ⟨0x1103, 0x1103, 3⟩,
   ⟨0x1104, 0x1104, 1⟩, ⟨0x1105, 0x1105, 1⟩]
  ++ [⟨0x1200, 0x1200, 2⟩, ⟨0x1201, 0x1201, 2⟩, ⟨0x1202, 0x1202, 2⟩, ⟨0x1203, 0x1203, 0⟩, ⟨0x1204, 0x1204, 0⟩,
   ⟨0x1300, 0x1301, 1⟩, ⟨0x1302, 0x1302, 2⟩, ⟨0x1303, 0x1303, 1⟩, ⟨0x1304, 0x1304, 1⟩, ⟨0x1305, 0x1305, 1⟩,
   ⟨0x1306, 0x1306, 2⟩, ⟨0x1307, 0x1307, 0⟩]

/-- All source tables. -/
def sourceRows : List SourceRow := sourcesPower ++ (sourcesShelf ++ sourcesSystem)

/-- The default severity of a source; none for a reserved source (R403, R406). -/
def defaultSev (id : Nat) : Option Nat :=
  (sourceRows.find? fun r => decide (r.lo ≤ id ∧ id ≤ r.hi)).map SourceRow.sev

/-- The source exists: it is not reserved in its block. -/
def sourceExists (id : Nat) : Bool := (defaultSev id).isSome

/-- The sources whose severity is fixed at 3 (R33, R413, R426). -/
def sevFixed (id : Nat) : Bool := id == 0x0C00 || id == 0x1103

/-- Default reaction mask of a severity (R407). -/
def defaultMask (sev : Nat) : Nat :=
  match sev with
  | 0 => 0x00
  | 1 => 0x01
  | 2 => 0x11
  | _ => 0x13

/-- The blocks that can be reset (R409). -/
def resettable (block : Nat) : Bool :=
  block == 0x06 || block == 0x09 || block == 0x0A || block == 0x0B || block == 0x0D || block == 0x13

end Sys2Proof.Machine
end

