-- ==== Sys2Proof/Machine/Fixed.lean ====
section
/-! DEFINITION. Arithmetic of the engines on integers: quotients whose rounding the spec leaves open, saturating
counts, and fixed-point logarithm and power for the breaker curve (R91) and exponentials (R96). -/

namespace Sys2Proof.Machine

/-- A quotient where the spec states no rounding: exact where it is exact, else rounded to one of the two
neighbouring integers, and nothing says which; by zero, an open value. -/
def rdiv (a b : Int) : Int :=
  if b = 0 then Config.openQuotient a
  else if a % b = 0 then a / b
  else a / b + (if Config.roundUp a b then 1 else 0)

/-- The same on counts. -/
def rdivN (a b : Nat) : Nat := (rdiv a b).toNat

/-- A quotient rounded to the nearest integer, halves away from zero upwards (R86, R108). -/
def roundDiv (a b : Nat) : Nat := (2 * a + b) / (2 * b)

/-- A quotient rounded to the nearest integer, halves away from zero (R237). -/
def roundAway (a b : Int) : Int :=
  let q : Int := ((2 * a.natAbs + b.natAbs) / (2 * b.natAbs) : Nat)
  if (0 ≤ a) = (0 ≤ b) then q else -q

/-- A count that saturates at `m`. -/
def satAdd (m a b : Nat) : Nat := min m (a + b)

/-- A uint32 count that saturates at 0xFFFF_FFFF. -/
def sat32 (a b : Nat) : Nat := satAdd 0xFFFFFFFF a b

/-- A value held within bounds. -/
def clampI (lo hi v : Int) : Int := max lo (min hi v)

/-- 1.0 in the fixed point of this file. -/
def fxOne : Nat := 2 ^ 60

/-- The fractional bits of log2 of `x / 2^60` in [1, 2), by repeated squaring. -/
def log2Frac : Nat → Nat → Nat → Nat
  | 0, _, acc => acc
  | k + 1, x, acc =>
    let y := x * x / fxOne
    if 2 * fxOne ≤ y then log2Frac k (y / 2) (2 * acc + 1) else log2Frac k y (2 * acc)

/-- log2 (a / b) with 40 fractional bits, for `b ≤ a`, both positive. -/
def fxLog2 (a b : Nat) : Nat :=
  let e := (a / b).log2
  e * 2 ^ 40 + log2Frac 40 (a * fxOne / (b * 2 ^ e)) 0

/-- 2^(2^-i) for i = 1, 2, ..., with 60 fractional bits. -/
def pow2Table : List Nat :=
  [1630477228166597777, 1371062456318104878, 1257269815929830109, 1203965700457697123, 1178167198179750971]
  ++ [1165475996665667822, 1159181754367685998, 1156047391917129430, 1154483390303177194, 1153702183144312517]
  ++ [1153311777820267002, 1153116624702523244, 1153019060527275927, 1152970281535252809, 1152945892813103188]
  ++ [1152933698645489088, 1152927601610046619, 1152924553104416455, 1152923028854624131, 1152922266730483658]
  ++ [1152921885668602343, 1152921695137708916, 1152921599872274010, 1152921552239559509, 1152921528423202997]
  ++ [1152921516515024925, 1152921510560935935, 1152921507583891452, 1152921506095369213, 1152921505351108094]
  ++ [1152921504978977535, 1152921504792912256, 1152921504699879616, 1152921504653363296, 1152921504630105136]
  ++ [1152921504618476056, 1152921504612661516, 1152921504609754246, 1152921504608300611, 1152921504607573793]

/-- The product of the table's entries at the set bits of a fraction, most significant first. -/
def exp2Frac : List Nat → Nat → Nat → Nat
  | [], _, acc => acc
  | c :: cs, f, acc =>
    if 2 ^ 40 ≤ 2 * f then exp2Frac cs (2 * f - 2 ^ 40) (acc * c / fxOne)
    else exp2Frac cs (2 * f) acc

/-- 2^(-y) with 60 fractional bits, y a non-negative number with 40 fractional bits. -/
def fxExp2Neg (y : Nat) : Nat :=
  let n := y / 2 ^ 40
  let f := y % 2 ^ 40
  if f = 0 then fxOne / 2 ^ n
  else exp2Frac pow2Table (2 ^ 40 - f) fxOne / 2 ^ (n + 1)

/-- e^(-a / b) with 60 fractional bits, near the exact value. -/
def fxExpNeg (a b : Nat) : Nat :=
  fxExp2Neg (a * 1586259972792 / b)

end Sys2Proof.Machine
end

