-- ==== Sys2Proof/Machine/Tab.lean ====
section
/-! DEFINITION. Tables: lists addressed by number, in which a place never written holds the default record, and
the accessors of the state's tables. -/

namespace Sys2Proof.Machine

/-- Entry `n` of a table. -/
def tget {α : Type} [Inhabited α] (l : List α) (n : Nat) : α := l.getD n default

/-- The table with entry `n` replaced; the table grows with default entries where it is shorter. -/
def tset {α : Type} [Inhabited α] : List α → Nat → α → List α
  | [], 0, v => [v]
  | [], n + 1, v => default :: tset [] n v
  | _ :: xs, 0, v => v :: xs
  | x :: xs, n + 1, v => x :: tset xs n v

/-- The value of the free counter's constant, and the state with the counter advanced. -/
def Chip.draw (s : Chip) : Nat := Config.freeNat s.clk.fresh
def Chip.drawn (s : Chip) : Chip := { s with clk := { s.clk with fresh := s.clk.fresh + 1 } }

def Chip.now (s : Chip) : Nat := s.clk.tick
def Chip.hall (s : Chip) : Nat := s.clk.hall

def Chip.ch (s : Chip) (n : Nat) : Ch := tget s.chs n
def Chip.setCh (s : Chip) (n : Nat) (c : Ch) : Chip := { s with chs := tset s.chs n c }
def Chip.modCh (s : Chip) (n : Nat) (f : Ch → Ch) : Chip := s.setCh n (f (s.ch n))

def Chip.rail (s : Chip) (n : Nat) : Rail := tget s.rails n
def Chip.setRail (s : Chip) (n : Nat) (r : Rail) : Chip := { s with rails := tset s.rails n r }
def Chip.modRail (s : Chip) (n : Nat) (f : Rail → Rail) : Chip := s.setRail n (f (s.rail n))

def Chip.rect (s : Chip) (n : Nat) : Rect := tget s.rects n
def Chip.setRect (s : Chip) (n : Nat) (r : Rect) : Chip := { s with rects := tset s.rects n r }
def Chip.modRect (s : Chip) (n : Nat) (f : Rect → Rect) : Chip := s.setRect n (f (s.rect n))

def Chip.link (s : Chip) (n : Nat) : Link := tget s.links n
def Chip.setLink (s : Chip) (n : Nat) (l : Link) : Chip := { s with links := tset s.links n l }
def Chip.modLink (s : Chip) (n : Nat) (f : Link → Link) : Chip := s.setLink n (f (s.link n))

def Chip.burst (s : Chip) (n : Nat) : Burst := tget s.bursts n
def Chip.setBurst (s : Chip) (n : Nat) (b : Burst) : Chip := { s with bursts := tset s.bursts n b }
def Chip.modBurst (s : Chip) (n : Nat) (f : Burst → Burst) : Chip := s.setBurst n (f (s.burst n))

def Chip.bat (s : Chip) (j : Nat) : Bat := tget s.bats j
def Chip.setBat (s : Chip) (j : Nat) (b : Bat) : Chip := { s with bats := tset s.bats j b }
def Chip.modBat (s : Chip) (j : Nat) (f : Bat → Bat) : Chip := s.setBat j (f (s.bat j))

def Chip.port (s : Chip) : Port → PortState
  | .tw => s.tw
  | .spi => s.spi
def Chip.setPort (s : Chip) : Port → PortState → Chip
  | .tw, p => { s with tw := p }
  | .spi, p => { s with spi := p }
def Chip.modPort (s : Chip) (p : Port) (f : PortState → PortState) : Chip := s.setPort p (f (s.port p))

/-- Configuration records of the image in force. -/
def Chip.chCfg (s : Chip) (n : Nat) : ChCfg := tget s.img.chs n
def Chip.brkCfg (s : Chip) (n : Nat) : BrkCfg := tget s.img.brks n
def Chip.railCfg? (s : Chip) (n : Nat) : Option RailCfg := tget s.img.rails n
def Chip.railCfg (s : Chip) (n : Nat) : RailCfg := (s.railCfg? n).getD {}
def Chip.prot (s : Chip) (n : Nat) : RailProt := tget s.img.prots n
def Chip.aux (s : Chip) (n : Nat) : RailAux := tget s.img.auxs n
def Chip.linkCfg? (s : Chip) (n : Nat) : Option LinkCfg := tget s.img.links n
def Chip.linkCfg (s : Chip) (n : Nat) : LinkCfg := (s.linkCfg? n).getD {}

/-- Runs a function over the numbers below `n`, in order. -/
def forEach {σ : Type} (n : Nat) (f : Nat → σ → σ) (s : σ) : σ := (List.range n).foldl (fun a k => f k a) s

end Sys2Proof.Machine
end

