-- ==== Sys2Proof/Machine/Flags.lean ====
section
/-! DEFINITION. The codes and state words that replies and events carry (R16, R35, R58, R59, R67, R82, R83, R119,
R141, R174, R204, R293, R430). -/

namespace Sys2Proof.Machine

/-- Status codes (R293). -/
def Status.code : Status → Nat
  | .ok => 0x0000 | .accepted => 0x0001 | .badCrc => 0x0010 | .badLength => 0x0011 | .badOpcode => 0x0012
  | .badParam => 0x0013 | .outOfRange => 0x0014 | .version => 0x0015 | .notInMode => 0x0020 | .denied => 0x0021
  | .roleChanged => 0x0022 | .channelDisabled => 0x0023 | .busyRetry => 0x0024 | .queueFull => 0x0025
  | .timeout => 0x0026 | .aborted => 0x0027 | .standby => 0x0028 | .configInvalid => 0x0030 | .hwFault => 0x0040

/-- Port numbers (R302, R307). -/
def portCode : Port → Nat
  | .tw => 0
  | .spi => 1

/-- Mode codes (R35). -/
def Mode.code : Mode → Nat
  | .off => 0 | .wake => 1 | .hold => 2 | .ready => 3 | .run => 4 | .bridge => 5 | .service => 6 | .lockout => 7

/-- The mode of a code (R35). -/
def Mode.ofCode : Nat → Option Mode
  | 0 => some .off | 1 => some .wake | 2 => some .hold | 3 => some .ready | 4 => some .run | 5 => some .bridge
  | 6 => some .service | 7 => some .lockout | _ => none

/-- ROLE field (R58). -/
def RoleHeld.code : RoleHeld → Nat
  | .none => 0 | .active => 1 | .standby => 2

/-- ROLE strap field (R307). -/
def Strap.code : Strap → Nat
  | .solo => 0 | .a => 1 | .b => 2

/-- CAUSE codes (R59). -/
def Cause.code : Cause → Nat
  | .powerOn => 0x0 | .hostRequest => 0x1 | .config => 0x2 | .busSag => 0x3 | .shortfall => 0x4 | .acReturn => 0x5
  | .criticalFault => 0x6 | .startMode => 0x7 | .hostLoss => 0x8 | .startTimeout => 0x9 | .supplyLoss => 0xA
  | .wakeFailure => 0xB | .strapConflict => 0xC | .blackStart => 0xD | .stopTimeout => 0xE | .resetPin => 0xF

/-- The cause of a code (R59). -/
def Cause.ofCode (n : Nat) : Cause :=
  tget [.powerOn, .hostRequest, .config, .busSag, .shortfall, .acReturn, .criticalFault, .startMode, .hostLoss,
    .startTimeout, .supplyLoss, .wakeFailure, .strapConflict, .blackStart, .stopTimeout, .resetPin] n

/-- STAGE codes (R58). -/
def Stage.code : Stage → Nat
  | .none => 0 | .startSources => 1 | .startStore => 2 | .startLoads => 3 | .stopLoads => 4 | .stopStore => 5
  | .stopSources => 6 | .handover => 7 | .powerDown => 8

/-- The stage of a code (R58); a code without meaning has none (R10). -/
def Stage.ofCode (n : Nat) : Option Stage :=
  [Stage.none, .startSources, .startStore, .startLoads, .stopLoads, .stopStore, .stopSources, .handover,
    .powerDown][n]?

/-- The mode state word (R58). -/
def modeWord (m : ModeState) : Nat :=
  m.mode.code + m.cause.code * 2 ^ 8 + m.stage.code * 2 ^ 12 + m.target.code * 2 ^ 16 + bitN 24 m.hostHold
    + bitN 25 m.exhausted + m.role.code * 2 ^ 26

/-- Channel state codes (R67). -/
def ChState.code : ChState → Nat
  | .off => 0 | .waitPresent => 1 | .cooling => 2 | .precharge => 3 | .closing => 4 | .limiting => 5 | .on => 6
  | .tripped => 7 | .locked => 8

/-- Channel stop cause codes (R83). -/
def ChStop.code : ChStop → Nat
  | .none => 0x0 | .hostOff => 0x1 | .disable => 0x2 | .removed => 0x3 | .primerTimeout => 0x4
  | .primerEnergy => 0x5 | .closeTimeout => 0x6 | .ksFaultTimer => 0x7 | .chargePump => 0x8
  | .shortCircuit => 0x9 | .instantaneous => 0xA | .curve => 0xB | .soa => 0xC | .mode => 0xD

/-- The channel's gang has two members or more, and `n` leads it (R21). -/
def leads (s : Chip) (n : Nat) : Bool := decide (2 ≤ (s.chCfg n).gangSize) && (s.chCfg n).leader == n

/-- The members that act with leader `n`: the gang's, or the channel alone (R76). -/
def members (s : Chip) (n : Nat) : List Nat :=
  if leads s n then (List.range (s.chCfg n).gangSize).map (n + ·) else [n]

/-- A gang member that is not its leader (R22). -/
def followsLeader (s : Chip) (n : Nat) : Bool := decide (2 ≤ (s.chCfg n).gangSize) && (s.chCfg n).leader != n

/-- The channel that speaks for channel `n`: its gang's leader, or itself. -/
def leaderOf (s : Chip) (n : Nat) : Nat := if followsLeader s n then (s.chCfg n).leader else n

/-- The transistor model runs on the channel (R95): ganged, rated above 60 A, KS240, or enabled; on a SPARE channel it
does not run (R85). -/
def soaRuns (s : Chip) (n : Nat) : Bool :=
  (s.chCfg n).role != 0 && (decide (2 ≤ (s.chCfg n).gangSize) || decide (60000 < (s.brkCfg n).rating)
    || (s.chCfg n).ks240 || (s.brkCfg n).soaEnable)

/-- Presence is ignored for SPARE and BUS_TIE channels and for gang members other than the leader (R64). -/
def presenceIgnored (s : Chip) (n : Nat) : Bool :=
  (s.chCfg n).role == 0 || (s.chCfg n).role == 4 || followsLeader s n

/-- PRESENT (R82): insertion recognised, or presence ignored. -/
def isPresent (s : Chip) (n : Nat) : Bool := (s.ch n).present || presenceIgnored s n

/-- The channel state word of a leader or single channel (R82). -/
def chWord (s : Chip) (n : Nat) : Nat :=
  let c := s.ch n
  let g := s.chCfg n
  c.state.code + c.brk.retries % 8 * 2 ^ 8 + c.lastStop.code * 2 ^ 12 + bitN 16 (soaRuns s n) + bitN 17 g.ks240
    + bitN 18 c.intentOn + bitN 19 c.disabled + bitN 20 (isPresent s n) + bitN 21 g.guarded
    + (if leads s n then (g.gangSize - 1) % 4 else 0) * 2 ^ 22 + g.role % 256 * 2 ^ 24

/-- The state word as CH_STATE_ALL gives it (R81): a gang member shows its leader's word with its own ROLE. -/
def chWordAll (s : Chip) (n : Nat) : Nat :=
  chWord s (leaderOf s n) % 2 ^ 24 + (s.chCfg n).role % 256 * 2 ^ 24

/-- Rail state codes (R119). -/
def RailState.code : RailState → Nat
  | .off => 0 | .rampUp => 1 | .on => 2 | .burst => 3 | .rampDown => 4 | .armed => 5 | .bridging => 6
  | .latched => 7 | .otStop => 8 | .wait => 9

/-- Rail stop cause codes (R141). -/
def RailStop.code : RailStop → Nat
  | .none => 0 | .hostOff => 1 | .disable => 2 | .overcurrent => 3 | .phaseOc => 4 | .overvoltage => 5
  | .overtemp => 6 | .inputUv => 7 | .feedOpen => 8 | .mode => 9

/-- Number of phases of a rail record (R109): one lane each for buck, two for buck-boost. -/
def phases (c : RailCfg) : Nat := if c.buckBoost then c.lanes / 2 else c.lanes

/-- The rail state word (R141); an unconfigured rail shows PHASES 0 and STATE OFF (R137). -/
def railWord (s : Chip) (k : Nat) : Nat :=
  match s.railCfg? k with
  | none => 0
  | some c =>
    let r := s.rail k
    r.state.code + bitN 10 r.foldback + bitN 11 r.bal + bitN 12 r.otWarn + bitN 13 r.lp.limit + bitN 14 r.lp.loopI
      + bitN 15 r.intentOn + bitN 16 r.disabled + bitN 17 c.buckBoost + bitN 18 c.bus + bitN 19 r.idle
      + phases c % 16 * 2 ^ 20 + r.lastStop.code * 2 ^ 24

/-- CHARGE_MODE field (R174). -/
def ChargeMode.code : ChargeMode → Nat
  | .auto => 0 | .hold => 1 | .limit => 2

/-- LINK field (R204). -/
def LinkState.code : LinkState → Nat
  | .down => 0 | .up => 1 | .lost => 2

/-- GRANT field (R204). -/
def Grant.code : Grant → Nat
  | .none => 0 | .pending => 1 | .full => 2 | .partial_ => 3 | .refused => 4 | .withdrawn => 5 | .ended => 6
  | .released => 7

/-- Refusal and withdrawal codes (R197). -/
def Refuse.code : Refuse → Nat
  | .none => 0x0 | .notInMode => 0x1 | .hostLoss => 0x2 | .feedOff => 0x3 | .throttled => 0x4
  | .earmarkOver => 0x5 | .energy => 0x6 | .lockout => 0x7 | .feedOpen => 0x8 | .linkDisabled => 0x9

/-- Reject codes (R185). -/
def Reject.code : Reject → Nat
  | .none => 0x00 | .crc => 0x01 | .bitTimeout => 0x02 | .badOpcode => 0x03 | .noHello => 0x04 | .version => 0x05
  | .outOfRange => 0x06 | .badParam => 0x07 | .busy => 0x08 | .noRail => 0x09 | .railState => 0x0A
  | .grantActive => 0x0B | .noGrant => 0x0C | .linkDisabled => 0x0D | .badAddress => 0x0E

/-- Binding of battery slot `j` (R15). -/
def batBind (s : Chip) (j : Nat) : Option BatCfg := tget s.img.bats j

/-- The battery slot whose rail is `k` (R15). -/
def slotOfRail (s : Chip) (k : Nat) : Option Nat :=
  (List.range 12).find? fun j => (batBind s j).any fun b => b.rail == k

/-- The battery slot fed through channel `n` (R15). -/
def slotOfCh (s : Chip) (n : Nat) : Option Nat :=
  (List.range 12).find? fun j => (batBind s j).any fun b => b.channel == n

/-- ADMIT, REFUSE and SOC_Q fields (R233). -/
def Admit.code : Admit → Nat
  | .empty => 0 | .identifying => 1 | .admitted => 2 | .refused => 3 | .released => 4
def BatRefuse.code : BatRefuse → Nat
  | .none => 0 | .noBms => 1 | .unknownProfile => 2 | .duplicate => 3 | .voltage => 4 | .temperature => 5
  | .serialChanged => 6 | .termLoss => 7
def SocQ.code : SocQ → Nat
  | .none => 0 | .initial => 1 | .fitted => 2

/-- Chip of charge in 0.01 % (R8): exact after a fit; where the carried value lies between two units the spec states
no rounding. -/
def socField (b : Bat) : Nat := rdivN b.soc 100000000

/-- The battery state word (R233). -/
def batWord (s : Chip) (j : Nat) : Nat :=
  let b := s.bat j
  socField b % 2 ^ 14 + bitN 15 b.slow + bitN 16 b.tempLimit + bitN 17 b.bmsLost + bitN 18 b.drift + bitN 19 b.ceiling
    + bitN 20 b.floor + bitN 21 b.resting + b.socQ.code * 2 ^ 22 + b.refuse.code * 2 ^ 24 + b.admState.code * 2 ^ 28

/-- The battery slot is admitted (R207, R120). -/
def slotAdmitted (s : Chip) (j : Nat) : Bool := (s.bat j).admState == .admitted

/-- The rail of battery slot `j` is BRIDGING. -/
def slotBridging (s : Chip) (j : Nat) : Bool :=
  (batBind s j).any fun b => (s.rail b.rail).state == .bridging

/-- The energy state word (R174). -/
def energyWord (s : Chip) : Nat :=
  let e := s.energy
  (List.range 12).foldl (fun a j => a + bitN j (slotBridging s j)) 0 + e.chargeMode.code * 2 ^ 16
    + bitN 18 e.rectBlind + bitN 19 e.raise + bitN 20 e.shortfall + bitN 21 e.earmarkOver + bitN 22 e.lowStore
    + bitN 23 e.hallLive + e.capState % 16 * 2 ^ 24

def isPaired (s : Chip) : Bool := s.strap != .solo

/-- A hold or the switch-over gap keeps a paired member's drivers at high impedance, or FORCE_IN is high (R346, R356,
R357). -/
def inGap (s : Chip) : Bool := isPaired s && (s.pair.me.forceIn || s.pair.me.gapHold || s.pair.me.resumeAt.isSome)

/-- Level of the net LLAKn as the member knows it: its own level, which a standby forms as the active does; low while an
active member's drivers are in a gap, where nothing drives the net (R192, R200). -/
def llakNet (s : Chip) (n : Nat) : Bool := (s.link n).llak && !(s.mode.role == .active && inGap s)

/-- The link state word (R204). -/
def linkWord (s : Chip) (n : Nat) : Nat :=
  let l := s.link n
  let b := s.burst n
  l.lastSeq % 8 + l.link.code * 2 ^ 3 + bitN 5 l.disabled + bitN 6 l.attn + bitN 7 (llakNet s n) + l.version % 256 * 2 ^ 8
    + b.refusal.code * 2 ^ 16 + b.grant.code * 2 ^ 20 + l.lastReject.code * 2 ^ 24

/-- STATE field of a watchdog (R430). -/
def DogState.code : DogState → Nat
  | .disarmed => 0 | .armed => 1 | .expired => 2

/-- The watchdog state word (R430). -/
def wdWord (w : Wd) (isWd1 hostLoss : Bool) : Nat :=
  w.seq % 2 ^ 16 + bitN 21 isWd1 + bitN 22 w.first + bitN 23 (isWd1 && hostLoss) + w.state.code * 2 ^ 24
    + w.win % 4 * 2 ^ 26

end Sys2Proof.Machine
end

