-- ==== Sys2Proof/Machine/Ops.lean ====
section
/-! DEFINITION. Operations that many commands share: events and completions (R301-R305), replies and their slots
(R288, R296, R306), the checks of a request (R291), sticky bits (R403-R407), the mode's admissions. -/

namespace Sys2Proof.Machine

/-! ## Events -/

/-- Posts one record to the event queue; a full queue drops it (R301, R302, R305). -/
def postRecord (s : Chip) (cls : Nat) (body : List Byte) (done : Option (ReqRef × Status)) : Chip :=
  let e := s.events
  if e.queue.length < 256 then
    let r : EventRec :=
      { cls := cls, seq := e.nextSeq, body := fit 16 body, completion := done.isSome,
        tag := (done.map fun d => d.1.tag).getD 0#8, port := (done.map fun d => d.1.port).getD .tw,
        status := (done.map fun d => d.2).getD .ok }
    { s with events := { e with queue := e.queue ++ [r], nextSeq := e.nextSeq + 1#16 } }
  else
    { s with events := { e with droppedRead := sat32 e.droppedRead 1, droppedWake := sat32 e.droppedWake 1 } }

/-- Posts an event: one record for each request it completes, or one that completes none (R304); requests from before a
restart of the Yard are completed no more (R313). -/
def post (s : Chip) (cls : Nat) (body : List Byte) (done : List (ReqRef × Status)) : Chip :=
  match done.filter fun d => decide (s.deadBelow ≤ d.1.receipt) with
  | [] => postRecord s cls body none
  | ds => ds.foldl (fun a d => postRecord a cls body (some d)) s

/-- Completions of a list of requests with one status. -/
def allWith (refs : List ReqRef) (st : Status) : List (ReqRef × Status) := refs.map fun r => (r, st)

/-! ## Replies -/

/-- The limit of a port on LEN (R290). -/
def portLimit : Port → Nat
  | .tw => 248
  | .spi => 4096

/-- Free entries of the port's request queue (R288, R294). -/
def credits (p : PortState) : Nat := 8 - p.queue.length

/-- CREDITS of a reply: the responder that answers in OFF holds one request (R484). -/
def creditsNow (s : Chip) (p : PortState) : Nat := if s.mode.mode == .off then 1 else credits p

/-- The reply as it is formed on a port: its flags and credits are those of this moment (R288, R306). -/
def newReply (s : Chip) (p : Port) (tag : Byte) (st : Status) (data : List Byte) (more : Bool) : Reply :=
  let ps := s.port p
  { ver := ps.ver, tag := tag, status := st, data := data, credits := creditsNow s ps, roleSeen := ps.roleSeen,
    modeChanged := ps.modeChanged, eventPending := !s.events.queue.isEmpty, more := more }

/-- The two change flags are spent by the reply that carries them (R306). -/
def clearFlags (s : Chip) (p : Port) : Chip :=
  s.modPort p fun ps => { ps with roleSeen := false, modeChanged := false }

/-- The slot of the request has no reply yet. -/
def awaiting (s : Chip) (r : ReqRef) : Bool :=
  (s.port r.port).replies.any fun sl => sl.receipt == r.receipt && sl.reply.isNone

/-- Forms the reply in the slot that the request holds (R296), where it still holds one (R313). -/
def formReply (s : Chip) (r : ReqRef) (st : Status) (data : List Byte) (more : Bool := false) : Chip :=
  if awaiting s r then
    let rep := newReply s r.port r.tag st data more
    let s := s.modPort r.port fun ps =>
      { ps with replies := ps.replies.map fun sl => if sl.receipt == r.receipt then { sl with reply := some rep } else sl }
    clearFlags s r.port
  else s

/-- Data of a STANDBY reply (R293). -/
def standbyData (s : Chip) : List Byte := le 2 s.mode.epoch ++ le 1 s.mode.role.code ++ zeros 1

/-- Role-change data of kind 0x01, role epoch (R293). -/
def epochData (s : Chip) : List Byte :=
  le 2 s.mode.epoch ++ le 1 s.mode.role.code ++ le 1 1 ++ le 1 0xFF ++ zeros 1 ++ le 2 0xFFFF

/-- Role-change data of kind 0x02, role generation of channel `n`, or of its gang's leader (R293). -/
def genData (s : Chip) (n : Nat) : List Byte :=
  let k := leaderOf s n
  le 2 s.mode.epoch ++ le 1 s.mode.role.code ++ le 1 2 ++ le 1 k ++ zeros 1 ++ le 2 (s.chCfg k).gen

/-- The mode state word's bytes: data of a NOT_IN_MODE reply (R293). -/
def modeData (s : Chip) : List Byte := le 4 (modeWord s.mode)

/-! ## Requests -/

/-- The Yard is alive and takes requests: from HOLD onwards (R291, R317). -/
def yardAlive (s : Chip) : Bool :=
  match s.mode.mode with
  | .off | .wake => false
  | _ => true

/-- The Yard's own work goes on: no restart is under way (R431, R439). -/
def yardWorks (s : Chip) : Bool := yardAlive s && !s.fw.yardStop && !s.fw.recovery

/-- The Studio die runs: its engines step and record (R23, R36). -/
def studioRuns (s : Chip) : Bool := yardAlive s

/-- The Stable die's own protective paths act: in WAKE from the completion of step W3, and from HOLD onwards (R24, R36,
R65). -/
def stableActs (s : Chip) : Bool := studioRuns s || (s.mode.mode == .wake && decide (4 ≤ s.ostler.step))

/-- A sequence, handover or power-down is in progress (R51). -/
def inSequence (s : Chip) : Bool := s.mode.stage != .none

/-- What an opcode's table row says of its request: which LEN suits it, whether it is active-only, and which modes
admit it beyond R41. -/
structure OpRow where
  lenLo : Nat := 4
  lenHi : Nat := 4
  /-- LEN is a multiple of this -/
  lenUnit : Nat := 1
  activeOnly : Bool := false
  /-- accepted during power-down (R41) -/
  inPowerDown : Bool := false
  /-- answered in recovery (R437) -/
  inRecovery : Bool := false
  /-- accepted whatever VER holds (HELLO, R307) -/
  anyVer : Bool := false
  /-- setpoint queue the request's command enters (R29): 0 none, 1 channels, 2 rails, 3 energy -/
  queue : Nat := 0
  deriving DecidableEq, Repr

/-- What serving a request answers: a reply now, or a reply formed later in the slot it holds. -/
inductive Ans where
  | reply (st : Status) (data : List Byte) (more : Bool := false)
  | later
  deriving Repr

/-- A reply without data. -/
def Ans.bare (st : Status) : Ans := .reply st []

/-- A NOT_IN_MODE reply (R293). -/
def Ans.notInMode (s : Chip) : Ans := .reply .notInMode (modeData s)

/-- The first nine checks of R291 that a whole request with a good CRC and a known opcode still has to pass:
LEN within the port's limit, VER, TAG, LEN for the opcode, EPOCH16, the active-only rule and power-down. -/
def firstChecks (row : OpRow) (rq : Request) (s : Chip) : Option Ans :=
  let n := rq.params.length
  if portLimit rq.port < n then some (.bare .badLength)
  else if !row.anyVer && rq.ver != (s.port rq.port).ver then some (.reply .version [0x10#8, 0x10#8])
  else if rq.tag == 0#8 then some (.bare .badParam)
  else if n < row.lenLo || row.lenHi < n || n % row.lenUnit != 0 then some (.bare .badLength)
  else if rq.epoch != 0xFFFF#16 && rq.epoch.toNat != s.mode.epoch then some (.reply .roleChanged (epochData s))
  else if row.activeOnly && s.mode.role == .standby then some (.reply .standby (standbyData s))
  else if (s.mode.stage == .powerDown && !row.inPowerDown) || (s.fw.recovery && !row.inRecovery) then some (.notInMode s)
  else none

/-- The bytes of a request packet on the wire (R287, R289). -/
def requestBytes (opcode : Nat) (rq : Request) : List Byte :=
  let h := [rq.ver, rq.tag] ++ le 2 opcode ++ le 2 rq.params.length ++ le 2 rq.epoch.toNat ++ rq.params
  h ++ le 2 (crc16 h).toNat

/-- The handover's freeze: no host request is taken, no new setpoint applied; sequences, the energy step and admission
pause (R361). -/
def handFrozen (s : Chip) : Bool :=
  match s.pair.me.hand with
  | .draining | .announced _ => true
  | _ => false

/-- The Yard takes requests from the port: it runs, the reply queue has room, no FENCE holds the port, and no handover
freezes it (R296, R300, R313, R361). -/
def takes (s : Chip) (p : Port) : Bool :=
  yardAlive s && decide ((s.port p).replies.length < 8) && (s.port p).fence.isNone && !s.fw.yardStop && !handFrozen s

def otherPort : Port → Port
  | .tw => .spi
  | .spi => .tw

/-- While both ports have requests waiting, the Yard takes one from each in turn (R296); a port from which it takes none now
is passed over. -/
def inTurn (s : Chip) (p : Port) : Bool :=
  (s.port p).queue.isEmpty || (s.port (otherPort p)).queue.isEmpty || !takes s (otherPort p)
    || decide ((s.port p).lastTaken ≤ (s.port (otherPort p)).lastTaken)

/-- The packet is the oldest that waits at its port (R299), and the port's turn has come.  A packet that comes while none
waits is the oldest. -/
def isNext (s : Chip) (p : Port) (bytes : List Byte) : Bool :=
  ((s.port p).queue.head?.all fun q => q == bytes) && inTurn s p

/-- The setpoint queue of the request's class has room (R29, R296). -/
def queueRoom (s : Chip) (cls : Nat) : Bool :=
  match cls with
  | 1 => decide (s.chQueue.length < 64)
  | 2 => decide (s.railQueue.length < 64)
  | 3 => decide (s.book.queue.length < 64)
  | _ => true

/-- The request leaves the head of the port's queue, where it waits there (R294), and a slot of the reply queue is
held for it (R296). -/
def takeRequest (s : Chip) (p : Port) (tag : Byte) (bytes : List Byte) : ReqRef × Chip :=
  let r : ReqRef := { port := p, tag := tag, receipt := s.receipts }
  let s := s.modPort p fun ps =>
    { ps with queue := if ps.queue.head? == some bytes then ps.queue.tail else ps.queue,
              replies := ps.replies ++ [{ receipt := r.receipt, reply := none }], lastTaken := r.receipt + 1 }
  (r, { s with receipts := s.receipts + 1 })

/-- The meaning of an opcode after the shared checks: what it answers and the state it leaves. -/
abbrev Body := Request → ReqRef → Chip → Ans × Chip

/-- Forms the answer's reply, or leaves the slot open. -/
def answer (r : ReqRef) : Ans × Chip → Chip
  | (.reply st data more, s) => formReply s r st data more
  | (.later, s) => s

/-- ACCEPTED is answered before what the request sets off can complete it (R299); `data` shows what it has set off. -/
def acceptFirst (r : ReqRef) (data : Chip → List Byte) (act : Chip → Chip) (s : Chip) : Ans × Chip :=
  (.later, act (formReply s r .accepted (data (act s))))

/-- The Yard takes the request, checks it in the order of R291, and answers it (R291, R292). -/
def serve (opcode : Nat) (row : OpRow) (body : Body) (rq : Request) (s : Chip) : Chip :=
  if takes s rq.port && queueRoom s row.queue && isNext s rq.port (requestBytes opcode rq) then
    let t := takeRequest s rq.port rq.tag (requestBytes opcode rq)
    match firstChecks row rq t.2 with
    | some a => answer t.1 (a, t.2)
    | none => answer t.1 (body rq t.1 t.2)
  else s

/-- A role change of a commit waits for its boundary, before which no inrush starts (R20, R28). -/
def rolesWait (s : Chip) : Bool := s.cfg.apply.isSome

/-! ## Parameters -/

/-- The unsigned parameter field of `n` bytes at `off` (R7). -/
def arg (rq : Request) (off n : Nat) : Nat := field rq.params off n

/-- Whole units of a run that fit one reply (R290): how many of `total` units of `size` bytes fit beside `head`
bytes. -/
def unitsThatFit (p : Port) (head size : Nat) : Nat := (portLimit p - head) / size

/-! ## Sticky bits -/

/-- Inserts a number into a rising list. -/
def insertUp (n : Nat) : List Nat → List Nat
  | [] => [n]
  | x :: xs => if n < x then n :: x :: xs else if n = x then x :: xs else x :: insertUp n xs

/-- The override in force for a source: the run-time setting, else the image's fault record (R407, R413). -/
def sevEntry (s : Chip) (id : Nat) : Option SevSet :=
  (s.faults.overrides.find? fun e => e.source == id).orElse fun _ => s.img.dogs.entries.find? fun e => e.source == id

/-- Severity in force of a source (R406). -/
def sevOf (s : Chip) (id : Nat) : Nat :=
  if sevFixed id then 3 else ((sevEntry s id).map SevSet.sev).getD ((defaultSev id).getD 0)

/-- Reaction mask in force of a source (R407): its entry's, else the default of its severity. -/
def maskOf (s : Chip) (id : Nat) : Nat :=
  ((sevEntry s id).map SevSet.mask).getD (defaultMask (sevOf s id))

/-- The source's STICKY bit is set. -/
def isSticky (s : Chip) (id : Nat) : Bool := s.faults.sticky.contains id

/-- Code of a comparator DAC (R86): rating in mA times a Q16 multiple times the shunt in µΩ, in steps of 150 µV, rounded. -/
def comparatorCode (rating mult shunt : Nat) : Nat := roundDiv (rating * mult * shunt) (65536 * 150000)

/-- The set sticky bits of a block. -/
def stickyOf (s : Chip) (block : Nat) : List Nat := s.faults.sticky.filter fun i => i / 256 == block

/-- A severity-3 sticky bit is set in some block (R37, R49). -/
def critical (s : Chip) : Bool := s.faults.sticky.any fun i => sevOf s i == 3

/-- Writes the LIVE bit of a source's latest evaluation (R403). -/
def setLive (s : Chip) (id : Nat) (on : Bool) : Chip :=
  let l := s.faults.live
  { s with faults := { s.faults with live := if on then insertUp id l else l.filter (· != id) } }

/-! ## Sketchbook events and capture triggers (R445, R447, R449) -/

/-- Posts an event to the recorder: dropped and counted while the Sketchbook is frozen or its queue of 256 is full
(R29, R449). -/
def recPost (s : Chip) (kind sev source : Nat) (detail : List Byte) : Chip :=
  let k := s.sketch
  if k.frozen then
    { s with sketch := { k with dropFrozen := sat32 k.dropFrozen 1, dropWake := sat32 k.dropWake 1,
                                dropSummary := sat32 k.dropSummary 1 } }
  else if 256 ≤ k.queue.length then
    { s with sketch := { k with dropWake := sat32 k.dropWake 1, dropSummary := sat32 k.dropSummary 1 } }
  else
    let e : RecEvent := { kind := kind, sev := sev, source := source, hall := s.hall, detail := detail, tick := s.now }
    { s with sketch := { k with queue := k.queue ++ [e] } }

/-- A trigger of definition `d` reaches the recorder: it is kept with W and the hall time of this instant for its capture, or is ignored and counted while the
definition captures already, while captures are suspended, after the boundary that started a freeze, and while the
Sketchbook is frozen (R448, R449). -/
def addTrigger (s : Chip) (d : Nat) (cause : TrigCause) : Chip :=
  let k := s.sketch
  let busy := k.running.any (fun c => c.defn == d) || k.trigs.any fun t => t.defn == d
  let late := k.frozen || (k.pending.any fun t => decide (t < s.now))
  if busy || late || k.suspended then { s with sketch := { k with ignored := sat32 k.ignored 1 } }
  else
    let q : Seq := tget s.seqs (tget s.img.recs.defs d : CapDef).seq
    let t : Trig := { defn := d, cause := cause, w := q.wptr, held := q.held, hall := s.hall }
    { s with sketch := { k with trigs := k.trigs ++ [t] } }

/-- The definitions whose trigger `f` accepts, enabled ones only (R447). -/
def trigWhere (s : Chip) (f : CapDef → Bool) (cause : TrigCause) : Chip :=
  (List.range 4).foldl (fun a d =>
    let c := tget s.img.recs.defs d
    if c.enable && f c then addTrigger a d cause else a) s

/-- A stamp of capture timer `t` (R447). -/
def trigTimer (s : Chip) (t : Fin 16) : Chip := trigWhere s (fun c => c.timer == t.val) (.timer t)

/-- A freeze starts, where none runs or holds (R449); cause 1 CRITICAL, 2 HOST. -/
def startFreeze (s : Chip) (cause source : Nat) : Chip :=
  let k := s.sketch
  if k.frozen || k.pending.isSome then
    let late := if cause = 1 then k.lateSet.filter (fun x => x.1 == s.now) ++ [(s.now, source)] else k.lateSet
    { s with sketch := { k with lateSet := late } }
  else { s with sketch := { k with pending := some s.now, cause := cause, source := source } }

/-- The definition names the source; the definition takes any severity-3 source, this one not by name (R447). -/
def CapDef.named (id : Nat) (c : CapDef) : Bool := c.source == id && id != 0
def CapDef.anyCritical (id : Nat) (c : CapDef) : Bool := c.critical && c.source != id

/-- A sticky bit sets: the definitions that name the source, and at severity 3 the critical ones (R447). -/
def trigFault (s : Chip) (id sev : Nat) : Chip :=
  let s := trigWhere s (CapDef.named id) (.source (BitVec.ofNat 16 id))
  if sev == 3 then trigWhere s (CapDef.anyCritical id) (.critical (BitVec.ofNat 16 id)) else s

/-- What the recorder does with a sticky bit that sets: its FAULT record, the freeze, the triggers (R445, R447, R449). -/
def recordSet (s : Chip) (id sev mask : Nat) : Chip :=
  let s := if s.img.recs.faultMin ≤ sev then recPost s 1 sev id (le 1 mask) else s
  let s := if sev == 3 then startFreeze s 1 id else s
  trigFault s id sev

/-- Body of a fault and watchdog event (R427). -/
def faultBody (kind sev source word hall : Nat) : List Byte :=
  le 1 kind ++ le 1 sev ++ le 2 source ++ le 4 word ++ le 8 hall

/-- A cause is found: STICKY goes from clear to set, with its event, its recorder entry and its reactions; a bit
that is set already absorbs it (R403, R404, R407, R427). -/
def setFault (s : Chip) (id : Nat) : Chip :=
  if !sourceExists id || isSticky s id then s
  else
    let sev := sevOf s id
    let mask := maskOf s id
    let f := s.faults
    let s := { s with faults := { f with sticky := insertUp id f.sticky, fired := f.fired ++ [id] } }
    let s := if s.img.dogs.faultEventMin ≤ sev then post s 0x09 (faultBody 1 sev id mask s.hall) [] else s
    let s := recordSet s id sev mask
    if sev == 3 && (s.mode.role == .active || id == 0x0C00) then
      { s with mode := { s.mode with
          lockout := some (if id == 0x0C00 then .strapConflict else s.mode.lockout.getD .criticalFault),
          lockoutAt := if s.mode.lockout.isSome then s.mode.lockoutAt else s.now } }
    else s

/-- A source with a lasting condition is evaluated: LIVE follows it, and STICKY sets where it holds (R403). -/
def evalFault (s : Chip) (id : Nat) (on : Bool) : Chip :=
  let s := setLive s id on
  if on then setFault s id else s

/-- Digest byte of a list of set bits of a block (R316). -/
def digest (s : Chip) (ids : List Nat) : Nat :=
  if ids.isEmpty then 0
  else min 31 ids.length + 32 + (ids.foldl (fun m i => max m (sevOf s i)) 0) * 64

/-! ## Background work (R442) -/

/-- Base level, AGING_INTERVAL and work time at level 7 of a class, the times in µs (R442). -/
def agingRow : AgedClass → Nat × Nat × Nat
  | .ledger => (2, 10000000, 10000000)
  | .flush => (3, 250000, 1000000)
  | .selfTest => (3, 1000000, 6000000)
  | .estimator => (4, 200000, 400000)
  | .scrub => (0, 10800000000, 10800000000)

/-- The level of an item of the class that has waited so long (R442). -/
def agedLevel (c : AgedClass) (waited : Nat) : Nat := min 7 ((agingRow c).1 + waited / (agingRow c).2.1)

/-- The bound of a class (R442): until level 7, and its work time there. -/
def agedBound (c : AgedClass) : Nat := (7 - (agingRow c).1) * (agingRow c).2.1 + (agingRow c).2.2

/-! ## Modes -/

/-- A start sequence is in progress (R39). -/
def inStart (s : Chip) : Bool :=
  match s.mode.stage with
  | .startSources | .startStore | .startLoads => true
  | _ => false

/-- A stop sequence is in progress (R39). -/
def inStop (s : Chip) : Bool :=
  match s.mode.stage with
  | .stopLoads | .stopStore | .stopSources => true
  | _ => false

/-- The modes in which outputs run as commanded. -/
def running (s : Chip) : Bool := s.mode.mode == .run || s.mode.mode == .bridge

/-- The member is active, or SOLO (R34). -/
def isActive (s : Chip) : Bool := s.mode.role == .active

/-- The member is a standby (R34). -/
def isStandby (s : Chip) : Bool := s.mode.role == .standby

/-- The number of the start stage of a channel role (R39): sources, store, loads. -/
def roleStage (role : Nat) : Nat :=
  match role with
  | 1 => 1
  | 2 => 2
  | 3 => 3
  | 4 => 3
  | _ => 0

/-- During a start sequence, the stage is not yet reached (R51). -/
def stageAhead (s : Chip) (stage : Nat) : Bool := inStart s && decide (s.mode.stage.code < stage)

end Sys2Proof.Machine
end

