-- ==== Sys2Proof/Machine/PowerOps.lean ====
section
/-! DEFINITION. The acts on rails, load links and channels that several commands share: state changes with their
events, stops, the turning off of drivers and lanes, the withdrawal of grants (R63-R70, R99, R100, R119-R128,
R197, R198). -/

namespace Sys2Proof.Machine

/-! ## Rails -/

/-- Body of a rail event (R142). -/
def railBody (s : Chip) (k kind : Nat) : List Byte :=
  le 1 k ++ le 1 kind ++ zeros 2 ++ le 4 (railWord s k) ++ le 8 s.hall

/-- Changes STATE of a rail and posts its event, which completes the given requests (R142). -/
def setRailState (s : Chip) (k : Nat) (st : RailState) (done : List (ReqRef × Status)) : Chip :=
  if (s.rail k).state == st then
    if done.isEmpty then s else post s 0x03 (railBody s k 1) done
  else
    let s := s.modRail k fun r => { r with state := st, lastChange := s.hall }
    let s := post s 0x03 (railBody s k 1) done
    if st == .latched || st == .otStop then recPost s 4 0 0 (le 1 k ++ zeros 3 ++ le 4 (railWord s k)) else s

/-- LIMIT takes a value; a change posts its event (R142). -/
def setLimit (s : Chip) (k : Nat) (on : Bool) : Chip :=
  if (s.rail k).lp.limit == on then s
  else
    let s := s.modRail k fun r => { r with lp := { r.lp with limit := on } }
    post s 0x03 (railBody s k 2) []

/-- The lanes of a rail at mid level: its PWM engine rests, no phase in a period. -/
def Loop.rest (l : Loop) : Loop := { l with switching := false, pwm := { l.pwm with edges := [] } }

/-- Every lane of the rail goes to mid level (R123).  DESIGN CHOICE: LOOP keeps the last loop in control while none runs; the
spec gives its reset alone (R141). -/
def lanesMid (s : Chip) (k : Nat) : Chip :=
  (setLimit s k false).modRail k fun r =>
    { r with lp := r.lp.rest, idle := false, sleepSince := none, burstOff := none,
             hand := none, limSince := none, lowSince := none, bal := false }

/-- A stop of a rail: lanes at mid level, the cause recorded, the state entered; waiting RAIL_ONs complete with
ABORTED (R123, R124, R304). -/
def railStop (s : Chip) (k : Nat) (cause : RailStop) (st : RailState) : Chip :=
  let refs := (s.rail k).refs
  let s := lanesMid s k
  let s := s.modRail k fun r => { r with lastStop := cause, refs := [], modeStop := false, release := false }
  setRailState s k st (allWith refs .aborted)

/-- The rail switches or holds its lanes armed: it can be stopped. -/
def railLive (r : Rail) : Bool :=
  match r.state with
  | .rampUp | .on | .burst | .rampDown | .armed | .bridging => true
  | _ => false

/-- The bound feed channel has left ON: lanes mid, and WAIT with cause FEED_OPEN, or OFF where INTENT_ON is clear
(R128). -/
def railFeedOpen (s : Chip) (k : Nat) : Chip :=
  let r := s.rail k
  if railLive r then railStop s k .feedOpen (if r.intentOn then .wait else .off) else s

/-- DISABLE of a rail as an act: lanes at mid level at once and OFF with the cause (R122, R124). -/
def railKill (s : Chip) (k : Nat) (cause : RailStop) : Chip :=
  let r := s.rail k
  if railLive r then railStop s k cause .off
  else
    match r.state with
    | .wait | .otStop =>
      let refs := r.refs
      let s := s.modRail k fun r => { r with refs := [], modeStop := false, release := false }
      setRailState s k .off (allWith refs .aborted)
    | _ => s

/-! ## Load links -/

/-- Body of a load-link event (R205). -/
def linkBody (s : Chip) (n kind : Nat) : List Byte :=
  le 1 n ++ le 1 kind ++ zeros 2 ++ le 4 (linkWord s n) ++ le 8 s.hall

/-- Posts a load-link event (R205). -/
def postLink (s : Chip) (n kind : Nat) : Chip := post s 0x05 (linkBody s n kind) []

/-- A running grant ends: GRANT takes its end value, earmark and rectifier part are released, and an event is
posted; WITHDRAWN sets ATTN (R193, R198). -/
def endGrant (s : Chip) (n : Nat) (g : Grant) (why : Refuse) : Chip :=
  let s := s.modBurst n fun b =>
    { b with grant := g, refusal := why, running := false, power := 0, rectPart := 0, storePart := 0, releasing := false }
  let s := if g == .withdrawn then s.modLink n fun l => { l with attn := true } else s
  postLink s n 3

/-- A pending request is refused, and LLAKn falls (R197, R203). -/
def refuseBurst (s : Chip) (n : Nat) (why : Refuse) : Chip :=
  if (s.burst n).grant == .pending then
    let s := s.modBurst n fun b => 
      { b with grant := .refused, refusal := why, decided := none, power := 0, rectPart := 0, storePart := 0 }
    let s := s.modLink n fun l => { l with llak := l.setv.isSome }
    postLink s n 2
  else s

/-- Earmark of a grant that remains, in µJ: it falls linearly from its store part times its duration (R161). -/
def earmarkLeft (s : Chip) (b : Burst) : Nat :=
  if b.running then
    let total := b.dur * 1000
    rdivN (b.storePart * b.dur * (total - (s.now - b.start))) total
  else 0

/-- The decision is a grant, full or partial (R197). -/
def grants (d : Grant × Refuse) : Bool := d.1 == .full || d.1 == .partial_

/-- Withdraws the running grants of the links bound to channel `n`; one decided but not yet started becomes a refusal
(R196, R198). -/
def withdrawFeed (s : Chip) (n : Nat) : Chip :=
  forEach 8 (fun k s =>
    if (s.linkCfg? k).any fun c => c.channel == n then
      if (s.burst k).running then endGrant s k .withdrawn .feedOpen
      else if (s.burst k).decided.any grants then
        s.modBurst k fun b => { b with decided := some (.refused, .feedOff), power := 0, rectPart := 0, storePart := 0 }
      else s
    else s) s

/-! ## Channels -/

/-- Body of a channel event (R84). -/
def chBody (s : Chip) (n kind : Nat) : List Byte :=
  le 1 n ++ le 1 kind ++ le 2 (s.chCfg n).gen ++ le 4 (chWord s n) ++ le 8 s.hall

/-- What follows when a channel leaves ON: its BUS-class rail stops (R128) and its links' grants are withdrawn
(R198). -/
def leftOn (s : Chip) (n : Nat) : Chip :=
  let s := match (slotOfCh s n).bind (batBind s) with
    | some b => railFeedOpen s b.rail
    | none => s
  withdrawFeed s n

/-- Changes STATE of a channel and posts its event, which completes the given requests (R84, R304). -/
def setChState (s : Chip) (n : Nat) (st : ChState) (done : List (ReqRef × Status)) : Chip :=
  let was := (s.ch n).state
  if was == st then
    if done.isEmpty then s else post s 0x02 (chBody s n 1) done
  else
    let s := s.modCh n fun c =>
      { c with state := st, lastChange := s.hall,
               brk := { c.brk with onSince := if st == .on then some s.now else none } }
    let s := post s 0x02 (chBody s n 1) done
    if was == .on then leftOn s n else s

/-- Turns the drivers of a channel and of its gang's members off with a pull-down (R63, R76). -/
def driversOff (s : Chip) (n : Nat) (p : Pull) : Chip :=
  (members s n).foldl (fun s m => s.modCh m fun c =>
    { c with main := .off, pre := .off, pull := p, overlapEnd := none }) s

/-- A driver of the channel is on (R77). -/
def driverOn (c : Ch) : Bool := c.main == .on || c.main == .regulating || c.pre == .on

/-- The channel runs an inrush sequence or is ON (R65). -/
def chLive (c : Ch) : Bool :=
  match c.state with
  | .precharge | .closing | .limiting | .on => true
  | _ => false

/-- The recorder's CHANNEL_STOP record, for the causes 0x3 to 0xC (R445). -/
def chanStopRecord (s : Chip) (n : Nat) (cause : ChStop) : Chip :=
  if 3 ≤ cause.code && cause.code ≤ 0xC then
    recPost s 3 0 0 (le 1 n ++ le 1 cause.code ++ zeros 2 ++ leI 4 (s.ch n).brk.tripMax ++ le 4 (chWord s n))
  else s

/-- An exercise goes on until the channel returns to OFF, which completes it (R318).  DESIGN CHOICE: a retry meanwhile holds its
own full hold. -/
def goesOn (c : Ch) (st : ChState) : Bool := c.exercise && st != .off

/-- A stop of a channel: drivers off, cause recorded, state entered, and the requests that wait for the attempt
completed (R69, R99, R304). -/
def chStop (s : Chip) (n : Nat) (cause : ChStop) (p : Pull) (st : ChState) (status : Status) : Chip :=
  let go := goesOn (s.ch n) st
  let refs := if go then [] else (s.ch n).refs
  let s := driversOff s n p
  let s := s.modCh n fun c =>
    { c with lastStop := cause, refs := if go then c.refs else [], n := 0, ksTimer := 0, stageWait := false, insertDue := none,
             exercise := go }
  chanStopRecord (setChState s n st (allWith refs status)) n cause

/-- Goes to a state without drivers to turn off: from WAIT_PRESENT, COOLING or TRIPPED (R69). -/
def chIdle (s : Chip) (n : Nat) (st : ChState) (status : Status) : Chip :=
  let go := goesOn (s.ch n) st
  let refs := if go then [] else (s.ch n).refs
  let s := s.modCh n fun c =>
    { c with refs := if go then c.refs else [], stageWait := false, insertDue := none, exercise := go,
             brk := { c.brk with due := none, retryNext := false } }
  setChState s n st (allWith refs status)

/-- SERVICE_SELECT has selected this channel or gang, or the BUS-class rail it feeds (R47). -/
def svcPicks (s : Chip) (n : Nat) : Bool :=
  (s.mode.svcKind == 1 && s.mode.svcIndex == n) ||
    (s.mode.svcKind == 2 && (slotOfRail s s.mode.svcIndex).any fun j => (batBind s j).any fun b => b.channel == n)

/-- A channel command of SERVICE names an object other than the selected one (R47). -/
def svcOther (s : Chip) (n : Nat) : Bool := s.mode.mode == .service && !svcPicks s n

/-- The mode test of R68 for ON, against the sequence during one (R51): RUN, BRIDGE, or SERVICE for the selected
object. -/
def admitsCh (s : Chip) (n : Nat) : Bool :=
  !inStop s && (running s || (s.mode.mode == .service && svcPicks s n))

/-- The mode admits ON at all: the part of the mode test that names no object (R68, R122, R291 check 9). -/
def modeAdmitsOn (s : Chip) : Bool := running s || s.mode.mode == .service

/-- Sum of the members' latched currents (R76, R91). -/
def chCurrent (s : Chip) (n : Nat) : Int := (members s n).foldl (fun a m => a + (s.ch m).lat.i) 0

/-- |V_IN − V_OUT| of the leader in mV (R61, R76). -/
def chDv (s : Chip) (n : Nat) : Nat := ((s.ch n).lat.vIn - (s.ch n).lat.vOut).natAbs

/-- Power at a channel in mW, summed over a gang's members (R9, R81). -/
def chPower (s : Chip) (n : Nat) : Int :=
  (members s n).foldl (fun a m => a + rdiv ((s.ch m).lat.vOut * (s.ch m).lat.i) 1000) 0

/-- The pre-charge resistor has cooled to the rearm level: H ≤ PRE_REARM × PRE_BUDGET (R71, R73). -/
def heatRearmed (s : Chip) (n : Nat) : Bool :=
  decide ((s.ch n).heat * 65536 ≤ (((s.chCfg n).preRearm * (s.chCfg n).preBudget * 1000000000 : Nat) : Int))

/-- The main array is turned on at GATE_ISRC and CLOSING begins (R71, R75). -/
def chClose (s : Chip) (n : Nat) : Chip :=
  let s := (members s n).foldl (fun s m => s.modCh m fun c => { c with main := .on }) s
  let s := s.modCh n fun c => { c with t1 := s.now, n := 0 }
  setChState s n .closing []

/-- Primer begins once the resistor has cooled: straight to closing where the slot side is already at bus voltage,
else with the pre-charge driver (R71). -/
def primerGo (s : Chip) (n : Nat) : Chip :=
  if chDv s n < (s.chCfg n).primerDv then chClose s n
  else
    let s := s.modCh n fun c => { c with pre := .on, t0 := s.now, n := 0 }
    setChState s n .precharge []

/-- The configured inrush method starts (R69, R71, R75); `retry` says whether the attempt counts as one (R100). -/
def startInrush (s : Chip) (n : Nat) (retry : Bool) : Chip :=
  let s := s.modCh n fun c =>
    { c with stageWait := false, insertDue := none, n := 0, ksTimer := 0,
             brk := { c.brk with due := none, retryNext := false, wasRetry := retry, onTicks := 0 } }
  if (s.chCfg n).ks240 then
    let s := (members s n).foldl (fun s m => s.modCh m fun c => { c with main := .regulating }) s
    setChState s n .limiting []
  else if heatRearmed s n then primerGo s n
  else setChState s n .cooling []

/-- A retry starts: RETRIES steps, and the attempt counts as one (R100, R535). -/
def startRetry (s : Chip) (n : Nat) : Chip :=
  let s := s.modCh n fun c => { c with brk := { c.brk with retries := min 7 (c.brk.retries + 1) } }
  startInrush s n true

/-- ON of a channel whose mode admits it: the attempt starts, or waits in WAIT_PRESENT for the slot or for its
start stage (R51, R69). -/
def chBegin (s : Chip) (n : Nat) : Chip :=
  if stageAhead s (roleStage (s.chCfg n).role) then
    let s := s.modCh n fun c => { c with stageWait := true }
    setChState s n .waitPresent []
  else if isPresent s n then startInrush s n false
  else setChState s n .waitPresent []

/-- Source ID of a channel fault: kind × 32 + channel in block `b` (R80, R107). -/
def chSource (b kind n : Nat) : Nat := b * 256 + kind * 32 + n

/-- The sticky bit of each stop cause (R80, R107). -/
def stopSource (cause : ChStop) (n : Nat) : Option Nat :=
  match cause with
  | .primerTimeout => some (chSource 1 0 n)
  | .primerEnergy => some (chSource 1 1 n)
  | .closeTimeout => some (chSource 1 2 n)
  | .ksFaultTimer => some (chSource 1 3 n)
  | .chargePump => some (chSource 1 4 n)
  | .shortCircuit => some (chSource 2 0 n)
  | .instantaneous => some (chSource 2 1 n)
  | .curve => some (chSource 2 2 n)
  | .soa => some (chSource 3 0 n)
  | _ => none

/-- The largest single-member current of a channel at this boundary (R108). -/
def largestMember (s : Chip) (n : Nat) : Int :=
  (members s n).foldl (fun a m => max a ((s.ch m).lat.i.natAbs : Int)) 0

/-- When the retry after this trip is due (R100): RETRY_INTERVAL on, and after a retry no sooner than the duty rule
allows. -/
def retryDue (s : Chip) (n : Nat) : Nat :=
  let b := s.brkCfg n
  let c := (s.ch n).brk
  let due := s.now + b.retryInterval * 1000
  if c.wasRetry then max due (s.now + rdivN (c.onTicks * (65536 - b.retryDuty)) b.retryDuty) else due

/-- A trip (R99, R100): every cause sets its sticky bit, LAST_STOP takes the first, the drivers take the strong
pull-down, and the channel waits for its retry in TRIPPED, or a guarded channel out of retries locks. -/
def trip (s : Chip) (n : Nat) (causes : List ChStop) (member : Nat) : Chip :=
  match causes with
  | [] => s
  | first :: _ =>
    let s := causes.foldl (fun s c => ((stopSource c n).map (setFault s)).getD s) s
    let due := retryDue s n
    let lock := (s.chCfg n).guarded && decide ((s.brkCfg n).retryLimit ≤ (s.ch n).brk.retries)
    let big := largestMember s n
    let s := s.modCh n fun c =>
      { c with brk := { c.brk with lastTrip := s.hall, tripMax := big, retryNext := false,
                                   tripMember := if first == .soa then member else 0xFF,
                                   due := if lock then none else some due } }
    if lock then
      let s := setFault s (chSource 2 4 n)
      chStop s n first .strong .locked .aborted
    else chStop s n first .strong .tripped .aborted

/-- The switch-over gap as this member sees it: it has taken the role and its drivers have yet to resume, or it is a READY
standby whose partner holds FORCE_IN high no more (R356, R358). -/
def switchGap (s : Chip) : Bool :=
  s.pair.me.resumeAt.isSome || (isPaired s && isStandby s && s.pair.shadow.ready && !s.pair.me.forceIn)

/-- A trip, or in the switch-over gap its causes held until the drivers resume (R358). -/
def tripOrHold (s : Chip) (n : Nat) (causes : List ChStop) (member : Nat) : Chip :=
  if switchGap s then
    s.modCh n fun c =>
      { c with brk := { c.brk with held := c.brk.held ++ causes.filter fun x => !c.brk.held.contains x,
                                   heldMember := if c.brk.heldMember == 0xFF then member else c.brk.heldMember } }
  else trip s n causes member

/-- The causes held in the gap act with the strong pull-down (R356, R358). -/
def heldTrip (s : Chip) (n : Nat) : Chip :=
  let held := (s.ch n).brk.held
  if held.isEmpty then s
  else
    let member := (s.ch n).brk.heldMember
    let s := s.modCh n fun c => { c with brk := { c.brk with held := [], heldMember := 0xFF } }
    if chLive (s.ch n) || driverOn (s.ch n) then trip s n held member else s

/-- The inrush causes that the channel's timers and its heat estimate have met, in the order of R83 (R71, R75, R99). -/
def inrushCauses (s : Chip) (n : Nat) (hot : Bool) : List ChStop :=
  let c := s.ch n
  let g := s.chCfg n
  (if c.state == .precharge && decide (g.primerTimeout * 1000 ≤ s.now - c.t0) then [ChStop.primerTimeout] else [])
    ++ (if hot then [.primerEnergy] else [])
    ++ (if c.state == .closing && decide (g.closeTimeout ≤ s.now - c.t1) then [.closeTimeout] else [])
    ++ (if c.state == .limiting && decide (g.ksFaultTime * 1000 ≤ c.ksTimer) then [.ksFaultTimer] else [])

/-- INTENT_ON of every channel and rail clears at a commit of READY, HOLD or LOCKOUT, and at a power-down (R68, R122); a
channel in TRIPPED goes to OFF (R100). -/
def clearIntents (s : Chip) : Chip :=
  let s := forEach 32 (fun n s =>
    let s := s.modCh n fun c => { c with intentOn := false }
    if (s.ch n).state == .tripped then chIdle s n .off .aborted else s) s
  forEach 16 (fun k s => s.modRail k fun r => { r with intentOn := false }) s

/-- Start stage of a rail (R39). -/
def railStage (s : Chip) (k : Nat) : Nat := if (s.railCfg k).bus then 2 else 3

/-- An object that waited for its start stage begins: in an INSERT_DELAY only when that ends (R51, R66). -/
def releaseChannel (s : Chip) (n : Nat) : Chip :=
  let s := s.modCh n fun c => { c with stageWait := false }
  if isPresent s n && (s.ch n).state == .waitPresent && (s.ch n).insertDue.all fun d => decide (d ≤ s.now) then
    startInrush s n false
  else s

/-- Objects that waited for the stage begin (R51), on a standby in its shadow (R79). -/
def releaseStage (s : Chip) : Chip :=
  let stage := s.mode.stage.code
  let s := forEach 32 (fun n s =>
    if (s.ch n).stageWait && decide (roleStage (s.chCfg n).role ≤ stage) then releaseChannel s n else s) s
  forEach 16 (fun k s =>
    if (s.rail k).stageWait && decide (railStage s k ≤ stage) then s.modRail k fun r => { r with stageWait := false }
    else s) s

/-- The checks that every channel opcode with an index makes (R81, R22, R20). -/
def chChecks (rq : Request) (s : Chip) : Option Ans :=
  let n := arg rq 0 1
  let g := arg rq 2 2
  if 31 < n then some (.bare .outOfRange)
  else if followsLeader s n then some (.bare .badParam)
  else if g != 0xFFFF && g != (s.chCfg n).gen then some (.reply .roleChanged (genData s n))
  else none

/-- The checks of a channel command: in SERVICE, another object than the selected one is refused (R47, R81, R291). -/
def chCmdChecks (rq : Request) (s : Chip) : Option Ans :=
  let n := arg rq 0 1
  if n ≤ 31 && !followsLeader s n && svcOther s n then some (.notInMode s) else chChecks rq s

end Sys2Proof.Machine
end

