-- ==== Sys2Proof/Machine/Curve.lean ====
section
/-! DEFINITION. The breaker curve and the transistor model as computations (R86, R91, R92, R96), and the engines'
step of one channel on the latched values. -/

namespace Sys2Proof.Machine

/-- A value with the engine's error, which is at most 0.1 % of it (R92). -/
def withinEngine (site v : Int) : Int :=
  let b : Int := v.natAbs / 1000
  if b = 0 then v else v + clampI (-b) b (Config.engineError site v)

/-- T(m) of R91 in 2^-20 µs for m = num / den, before the engine's error; none below M_0.  Points are (M in Q16,
T in µs). -/
def curveNominal : List (Nat × Nat) → Nat → Nat → Option Nat
  | [], _, _ => none
  | [(m0, t0)], num, den => if m0 * den ≤ num * 65536 then some (t0 * 2 ^ 20) else none
  | (m0, t0) :: (m1, t1) :: rest, num, den =>
    if num * 65536 < m0 * den then none
    else if m1 * den ≤ num * 65536 then curveNominal ((m1, t1) :: rest) num den
    else
      let lm := fxLog2 (num * 65536) (m0 * den)
      let span := fxLog2 m1 m0
      let drop := fxLog2 t0 t1
      some (t0 * fxExp2Neg (if span = 0 then 0 else lm * drop / span) / 2 ^ 40)

/-- T(m) as the engine computes it (R92), in 2^-20 µs. -/
def curveTime (b : BrkCfg) (num den : Nat) : Option Nat :=
  (curveNominal b.points num den).map fun t => (withinEngine num t).toNat

/-- What a tick at T adds to the accumulator, in 2^-40 (R91, R92). -/
def curveStep (t : Nat) : Nat := rdivN (2 ^ 60) t

/-- What a tick of cooling takes from the accumulator (R91, R92). -/
def coolStep (acc tau : Nat) : Nat := (withinEngine acc (rdiv acc (tau * 1000))).toNat

/-- 1.0 of the accumulator (R92). -/
def accOne : Nat := 2 ^ 40

/-- RATING of a channel: the sum over a gang's members (R21, R94). -/
def ratingOf (s : Chip) (n : Nat) : Nat := (members s n).foldl (fun a m => a + (s.brkCfg m).rating) 0

/-- The breaker engine steps the accumulator of a channel or gang (R91), and says whether it trips. -/
def breakerStep (s : Chip) (n : Nat) (drivers : Bool) : Chip × Bool :=
  let b := s.brkCfg n
  let a := (s.ch n).brk.acc
  let rating := ratingOf s n
  let cooled := a - coolStep a b.coolTau
  let hot := if drivers && rating != 0 then curveTime b (chCurrent s n).natAbs rating else none
  let a' := match hot with
    | some t => a + curveStep t
    | none => cooled
  let warn := drivers && decide (b.accWarn * accOne ≤ a' * 65536)
  let full := drivers && decide (accOne ≤ a')
  let s := s.modCh n fun c => { c with brk := { c.brk with acc := min accOne a' } }
  let s := if drivers then evalFault s (chSource 2 3 n) warn else s
  (s, full)

/-- One exponential cell of the Foster network (R96): dT in 2^-20 of 0.01 °C, power in pW, RTH in mK/W, TAU in µs. -/
def fosterStep (dT pW : Int) (rth tau : Nat) : Int :=
  let a := fxExpNeg 1 tau
  rdiv (dT * a * 10000000000000 + pW * rth * 2 ^ 20 * (fxOne - a)) (fxOne * 10000000000000)

/-- Power in a member's array in pW (R96). -/
def memberPower (c : Ch) (mainOn : Bool) (rds : Nat) : Int :=
  if mainOn then
    let p : Int := (((c.lat.vIn - c.lat.vOut).natAbs * c.lat.i.natAbs * 1000000 : Nat) : Int)
    if c.lat.gateOk then max p (c.lat.i * c.lat.i * rds) else p
  else 0

/-- Tref of a channel: the thermistor while it is named and in range, else, and before its first reading, the fixed
value (R97). -/
def trefOf (s : Chip) (n : Nat) : Int :=
  let b := s.brkCfg n
  let k := (s.ch n).brk
  if b.therm == 0xFF || k.trefBad then b.trefFixed else k.tref.getD b.trefFixed

/-- The SOA engine steps one member with the leader's parameters (R95, R96); answers whether the member reaches
TJ_WARN, and TJ_TRIP with its main driver on.  DESIGN CHOICE: the Tj kept for BRK_GET is the estimate rounded down to
0.01 °C; the spec states no rounding of it (R108). -/
def soaMember (s : Chip) (n m : Nat) : Chip × Bool × Bool :=
  let b := s.brkCfg n
  let c := s.ch m
  let on := c.main == .on || c.main == .regulating
  let p := memberPower c on b.rdsMax
  let dT := (List.range 3).map fun k => fosterStep (tget c.brk.dT k) p (tget b.rth k) (tget b.tau k)
  let sum := dT.foldl (· + ·) 0 + trefOf s n * 2 ^ 20
  let s := s.setCh m { c with brk := { c.brk with dT := dT, tj := sum / 2 ^ 20 } }
  (s, decide (b.tjWarn * 2 ^ 20 ≤ sum), on && decide (b.tjTrip * 2 ^ 20 ≤ sum))

/-- The SOA engine steps a channel or gang (R95, R96): the state, and the first member that trips. -/
def soaStep (s : Chip) (n : Nat) (drivers : Bool) : Chip × Option Nat :=
  if soaRuns s n then
    let r := (members s n).foldl (fun (acc : Chip × Bool × Option Nat) m =>
      let t := soaMember acc.1 n m
      (t.1, acc.2.1 || t.2.1, if t.2.2 && acc.2.2.isNone then some (m - n) else acc.2.2)) (s, false, none)
    let s := evalFault r.1 (chSource 3 1 n) r.2.1
    (s, if drivers then r.2.2 else none)
  else (s, none)

/-- The heat estimate H steps (R72): it takes I²R while the pre-charge driver is on and cools always. -/
def heatStep (s : Chip) (n : Nat) : Chip :=
  let g := s.chCfg n
  s.modCh n fun c =>
    let p : Int := if c.pre == .on then chCurrent s n * chCurrent s n * g.preR else 0
    { c with heat := c.heat + p - (if c.heat = 0 then 0 else rdiv c.heat (g.preTau * 1000)) }

/-- H has reached PRE_BUDGET (R71). -/
def heatFull (s : Chip) (n : Nat) : Bool :=
  decide (((s.chCfg n).preBudget * 1000000000 : Nat) ≤ (s.ch n).heat)

/-- The comparator latches of the members are read and cleared; each says whether a trip is to be recorded: one
whose latch set while a driver was on (R77, R88, R89). -/
def readLatches (s : Chip) (n : Nat) : Chip × Bool × Bool :=
  let sc := (members s n).any fun m => (s.ch m).brk.scLatch == some true
  let inst := (members s n).any fun m => (s.ch m).brk.instLatch == some true
  ((members s n).foldl (fun s m =>
    s.modCh m fun c => { c with brk := { c.brk with scLatch := none, instLatch := none } }) s, sc, inst)

/-- |dV| has stayed below the threshold in this tick: the count of consecutive ticks (R71, R75). -/
def countBelow (s : Chip) (n dv : Nat) : Chip :=
  s.modCh n fun c => { c with n := if chDv s n < dv then c.n + 1 else 0 }

/-- The channel reaches ON: the requests that wait complete with OK, but an exercise holds on (R69, R71, R318). -/
def chOn (s : Chip) (n : Nat) : Chip :=
  let c := s.ch n
  let g := s.chCfg n
  let s := s.modCh n fun c =>
    { c with refs := if c.exercise then c.refs else [],
             overlapEnd := if c.pre == .on then some (s.now + g.primerOverlap) else none }
  let s := setChState s n .on (if c.exercise then [] else allWith c.refs .ok)
  let s := s.modRect n fun r => { r with onTick := s.now, aged := false }
  if c.exercise then { s with svc := { s.svc with exEnd := some (s.now + s.svc.exHold) } } else s

/-- The KS240 fault timer counts the ticks in which the limit is active (R75). -/
def ksStep (s : Chip) (n : Nat) : Chip :=
  if (s.ch n).state == .limiting then
    s.modCh n fun c => { c with ksTimer := if c.lat.limiting then c.ksTimer + 1 else 0 }
  else s

/-- The inrush sequence moves on by one tick (R71, R75): a timer that has run out keeps the sequence from
completing, and its own command aborts it (R70). -/
def inrushStep (s : Chip) (n : Nat) : Chip :=
  let g := s.chCfg n
  match (s.ch n).state with
  | .precharge =>
    let s := countBelow s n g.primerDv
    if 4 ≤ (s.ch n).n && decide (s.now - (s.ch n).t0 < g.primerTimeout * 1000) then chClose s n else s
  | .limiting =>
    let s := countBelow s n g.ksDoneDv
    if 4 ≤ (s.ch n).n && decide ((s.ch n).ksTimer < g.ksFaultTime * 1000) then chClose s n else s
  | .closing =>
    if (members s n).all (fun m => (s.ch m).lat.gateOk) && decide (s.now - (s.ch n).t1 < g.closeTimeout) then chOn s n
    else s
  | _ => s

/-- A trip recorded on a channel whose drivers its own pull-down or another stop has turned off by the boundary (R77,
R88, R99, R108). -/
def recordTrip (s : Chip) (n : Nat) (causes : List ChStop) (member : Nat) : Chip :=
  let s := causes.foldl (fun s c => ((stopSource c n).map (setFault s)).getD s) s
  let first := causes.headD .none
  let big := largestMember s n
  s.modCh n fun c =>
    { c with lastStop := first,
             brk := { c.brk with lastTrip := s.hall, tripMax := big, tripMember := if first == .soa then member else 0xFF } }

/-- One tick of a channel or gang: latches, model, curve, heat, then a trip by the causes met, in the order of
R99, or the inrush sequence's next step (R70, R91-R99); in the switch-over gap the causes are held, and DESIGN CHOICE: on a
standby whose gap ends without its taking the role they trip its shadow then (R358).  An inrush
timer that runs out alone stops the channel by its own command; beside another cause it joins that cause's trip. -/
def chTick (s : Chip) (n : Nat) : Chip :=
  if followsLeader s n then s
  else
    let s := if switchGap s then s else heldTrip s n
    let drivers := driverOn (s.ch n)
    let mainOn := (s.ch n).main == .on || (s.ch n).main == .regulating
    let spare := (s.chCfg n).role == 0
    let l := readLatches s n
    let m := if spare then (l.1, none) else soaStep l.1 n drivers
    let b := if spare then (m.1, false) else breakerStep m.1 n drivers
    let s := ksStep (heatStep b.1 n) n
    let s := if mainOn then s.modCh n fun c => { c with brk := { c.brk with onTicks := c.brk.onTicks + 1 } } else s
    let inrush := (s.ch n).state == .precharge || ((s.ch n).state == .closing && !(s.chCfg n).ks240)
    let hot := inrush && heatFull s n
    let early :=
      (if l.2.1 then [ChStop.shortCircuit] else []) ++ (if l.2.2 then [.instantaneous] else [])
        ++ (if m.2.isSome then [.soa] else []) ++ (if b.2 then [.curve] else [])
    let causes := early ++ inrushCauses s n hot
    if early.isEmpty && !hot then inrushStep s n
    else if switchGap s || chLive (s.ch n) then tripOrHold s n causes (m.2.getD 0xFF)
    else recordTrip s n causes (m.2.getD 0xFF)

end Sys2Proof.Machine
end

