-- ==== Sys2Proof/Machine/Channels.lean ====
section
/-! DEFINITION. Slot channels: what requests do to a channel when they are applied, the channel opcodes and the
happenings on a channel (R60-R84). -/

namespace Sys2Proof.Machine

/-! ## Setpoints applied at the boundary (R27, R68-R70) -/

/-- The outcome of a channel command that was queued: its reply if it has none yet, else its completion record
where the outcome ends it (R304, R311). -/
def chAnswer (s : Chip) (e : ChSet) (st : Status) (data : List Byte) : Chip :=
  if e.replied then post s 0x02 (chBody s e.ch 1) [(e.ref, st)] else formReply s e.ref st data

/-- The state word's bytes of a channel. -/
def chData (s : Chip) (n : Nat) : List Byte := le 4 (chWord s n)

/-- ON of a channel in OFF whose request was or is now accepted: INTENT_ON sets and the attempt begins; the request
waits for its end (R68, R69). -/
def chAccept (s : Chip) (e : ChSet) (exercise : Bool) : Chip :=
  let s := s.modCh e.ch fun c => { c with intentOn := true, refs := c.refs ++ [e.ref], exercise := exercise }
  let s := chBegin s e.ch
  if e.replied then s else formReply s e.ref .accepted (chData s e.ch)

/-- ON applied (R68, R69). -/
def chApplyOn (s : Chip) (e : ChSet) : Chip :=
  let c := s.ch e.ch
  if inStop s then chAnswer s e .aborted []
  else if !admitsCh s e.ch then chAnswer s e .notInMode (modeData s)
  else if c.disabled then chAnswer s e .channelDisabled []
  else
    match c.state with
    | .off => chAccept s e false
    | .locked => chAnswer s e .denied []
    | .on => chAnswer s e .ok (chData s e.ch)
    | _ =>
      if e.replied then s.modCh e.ch fun c => { c with refs := c.refs ++ [e.ref] }
      else formReply s e.ref .ok (chData s e.ch)

/-- OFF of a channel as an act (R69): INTENT_ON clears, the sequence or the pending attempt ends, and RETRIES
returns to zero where the channel goes to OFF (R102). -/
def chActOff (s : Chip) (n : Nat) : Chip :=
  let s := s.modCh n fun c => { c with intentOn := false }
  match (s.ch n).state with
  | .off | .locked => s
  | .waitPresent | .cooling | .tripped =>
    let s := s.modCh n fun c => { c with brk := { c.brk with retries := 0 } }
    chIdle s n .off .aborted
  | _ =>
    let s := s.modCh n fun c => { c with brk := { c.brk with retries := 0 } }
    chStop s n .hostOff .soft .off .aborted

/-- DISABLE of a channel as an act (R68, R69): as OFF, but an inrush sequence ends with the strong pull-down. -/
def chActDisable (s : Chip) (n : Nat) : Chip :=
  let s := s.modCh n fun c => { c with intentOn := false, disabled := true }
  match (s.ch n).state with
  | .off | .locked => s
  | .waitPresent | .cooling | .tripped =>
    let s := s.modCh n fun c => { c with brk := { c.brk with retries := 0 } }
    chIdle s n .off .aborted
  | .on =>
    let s := s.modCh n fun c => { c with brk := { c.brk with retries := 0 } }
    chStop s n .disable .soft .off .aborted
  | _ =>
    let s := s.modCh n fun c => { c with brk := { c.brk with retries := 0 } }
    chStop s n .disable .strong .off .aborted

/-- A stop of a channel by a stop stage, by LOCKOUT or by the end of SERVICE: INTENT_ON clears and a channel that
runs stops with cause MODE (R48, R63, R68). -/
def chActMode (s : Chip) (n : Nat) (p : Pull) : Chip :=
  let s := s.modCh n fun c => { c with intentOn := false }
  match (s.ch n).state with
  | .off | .locked => s
  | .waitPresent | .cooling | .tripped => chIdle s n .off .aborted
  | _ => chStop s n .mode p .off .aborted

/-- SVC_FET_EXERCISE applied: the inrush starts as CH_ON would start it, on a channel that is OFF without intent
(R318). -/
def chApplyExercise (s : Chip) (e : ChSet) (hold : Nat) : Chip :=
  let c := s.ch e.ch
  if inStop s then chAnswer s e .aborted []
  else if !admitsCh s e.ch then chAnswer s e .notInMode (modeData s)
  else if (s.chCfg e.ch).role == 0 then chAnswer s e .denied []
  else if c.disabled then chAnswer s e .channelDisabled []
  else if c.state == .off && !c.intentOn then
    let s := { s with svc := { s.svc with exRef := some e.ref, exCh := e.ch, exHold := hold * 1000, exEnd := none } }
    chAccept s e true
  else chAnswer s e .denied []

/-- OFF, DISABLE and ENABLE are forbidden only to an object that SERVICE has not selected (R28, R47, R68). -/
def chBarred (s : Chip) (e : ChSet) : Bool :=
  match e.cmd with
  | .off | .disable | .enable => svcOther s e.ch
  | _ => false

/-- An inrush timer that has run out stops the channel: a protective stop comes before a host request (R70). -/
def timerStops (s : Chip) (n : Nat) : Chip := tripOrHold s n (inrushCauses s n false) 0xFF

/-- One entry of the channels' setpoint queue takes effect; a command queued before a role change completes with
ROLE_CHANGED (R20, R27), one that a new mode forbids with NOT_IN_MODE (R28). -/
def applyCh (s : Chip) (e : ChSet) : Chip :=
  let s := timerStops s e.ch
  if e.gen != (s.chCfg e.ch).gen then chAnswer s e .roleChanged (genData s e.ch)
  else if chBarred s e then chAnswer s e .notInMode (modeData s)
  else
    match e.cmd with
    | .on => chApplyOn s e
    | .off =>
      let s := chActOff s e.ch
      chAnswer s e .ok (chData s e.ch)
    | .disable =>
      let s := chActDisable s e.ch
      chAnswer s e .ok (chData s e.ch)
    | .enable =>
      let s := s.modCh e.ch fun c => { c with disabled := false }
      chAnswer s e .ok (chData s e.ch)
    | .exercise hold => chApplyExercise s e hold

/-- The whole channel queue takes effect, in queue order (R29, R70). -/
def applyChQueue (s : Chip) : Chip :=
  let q := s.chQueue
  q.foldl applyCh { s with chQueue := [] }

/-! ## Opcodes -/

/-- Puts a command into the channels' setpoint queue (R29), with the generation in force when it was taken.  The Yard takes
a request of the class only while the queue has room (`queueRoom`). -/
def queueCh (s : Chip) (n : Nat) (cmd : ChCmd) (r : ReqRef) (replied : Bool) : Chip :=
  if queueRoom s 1 then
    { s with chQueue := s.chQueue ++ [{ ch := n, gen := (s.chCfg n).gen, cmd := cmd, ref := r, replied := replied }] }
  else s

/-- CH_GET's reply data (R81). -/
def chGetData (s : Chip) (n : Nat) : List Byte :=
  let c := s.ch n
  chData s n ++ leI 4 c.lat.vIn ++ leI 4 c.lat.vOut ++ leI 4 (chCurrent s n) ++ leI 4 (chPower s n)
    ++ le 8 (if (s.chCfg n).ks240 then 0 else (c.heat / 1000000000).toNat) ++ le 8 c.lastChange
    ++ le 2 (s.chCfg n).gen ++ zeros 2

/-- CH_GET (R81). -/
def bodyChGet : Body := fun rq _ s =>
  match chChecks rq s with
  | some a => (a, s)
  | none => (.reply .ok (chGetData s (arg rq 0 1)), s)

/-- CH_ON (R68, R69, R81): a channel in OFF with nothing queued for it is answered ACCEPTED at once; in any other
state the answer is formed when the command is applied.  DESIGN CHOICE: a channel that is SPARE and DISABLED answers
DENIED, the role before DISABLED; the spec orders the two statuses nowhere. -/
def bodyChOn : Body := fun rq r s =>
  let n := arg rq 0 1
  if inStop s then (.bare .aborted, s)
  else if !modeAdmitsOn s then (.notInMode s, s)
  else
    match chCmdChecks rq s with
    | some a => (a, s)
    | none =>
      if (s.chCfg n).role == 0 then (.bare .denied, s)
      else if (s.ch n).disabled then (.bare .channelDisabled, s)
      else if (s.ch n).state == .locked then (.bare .denied, s)
      else if (s.ch n).state == .off && !(s.chQueue.any fun e => e.ch == n) then
        (.reply .accepted (chData s n), queueCh s n .on r true)
      else (.later, queueCh s n .on r false)

/-- CH_OFF, CH_DISABLE and CH_ENABLE (R68, R81): answered when they are applied. -/
def bodyChSet (cmd : ChCmd) : Body := fun rq r s =>
  match chCmdChecks rq s with
  | some a => (a, s)
  | none => (.later, queueCh s (arg rq 0 1) cmd r false)

/-- CH_STATE_ALL (R81). -/
def bodyChStateAll : Body := fun _ _ s =>
  (.reply .ok ((List.range 32).flatMap fun n => le 4 (chWordAll s n)), s)

def execChGet (rq : Request) (s : State) : Host.Outcome State Fault Refusal :=
  .next (s.on (serve 0x0201 {} bodyChGet rq))

def execChOn (rq : Request) (s : State) : Host.Outcome State Fault Refusal :=
  .next (s.on (serve 0x0202 { activeOnly := true, queue := 1 } bodyChOn rq))

def execChOff (rq : Request) (s : State) : Host.Outcome State Fault Refusal :=
  .next (s.on (serve 0x0203 { activeOnly := true, queue := 1 } (bodyChSet .off) rq))

def execChDisable (rq : Request) (s : State) : Host.Outcome State Fault Refusal :=
  .next (s.on (serve 0x0204 { activeOnly := true, queue := 1 } (bodyChSet .disable) rq))

def execChEnable (rq : Request) (s : State) : Host.Outcome State Fault Refusal :=
  .next (s.on (serve 0x0205 { activeOnly := true, queue := 1 } (bodyChSet .enable) rq))

def execChStateAll (rq : Request) (s : State) : Host.Outcome State Fault Refusal :=
  .next (s.on (serve 0x0206 {} bodyChStateAll rq))

/-! ## Happenings -/

/-- CP_UV on channel `n`, while a driver is on: both drivers take the strong pull-down and the channel stops with
cause CHARGE_PUMP (R62, R99, R100). -/
def chargePumpUv (n : Nat) (s : Chip) : Chip :=
  let n := leaderOf s n
  if studioRuns s && driverOn (s.ch n) then tripOrHold s n [.chargePump] 0xFF else s

def execChargePumpUv (ch : Fin 32) (s : State) : Host.Outcome State Fault Refusal := .next (s.on (chargePumpUv ch))

/-- INSERT_DELAY has ended with the slot still in: the attempt starts, as a retry where the slot was removed in
TRIPPED (R66, R103, R535).  DESIGN CHOICE: the due time of the cancelled attempt (R100, R101) is not waited for; that
the attempt obeys R100 and R101 is taken of RETRIES and of the attempt after it.  An object of a start stage not yet
reached waits on (R51). -/
def insertDelayExpiry (n : Nat) (s : Chip) : Chip :=
  let c := s.ch n
  if (c.insertDue.any fun d => d ≤ s.now) && c.state == .waitPresent && !c.stageWait && isPresent s n && admitsCh s n
      && !rolesWait s then
    if c.brk.retryNext then startRetry s n else startInrush s n false
  else s

def execInsertDelayExpiry (ch : Fin 32) (s : State) : Host.Outcome State Fault Refusal :=
  .next (s.on (insertDelayExpiry ch))

/-- The resistor has cooled to the rearm level: the waiting attempt starts (R71, R73). -/
def primerRearm (n : Nat) (s : Chip) : Chip :=
  if (s.ch n).state == .cooling && heatRearmed s n && !rolesWait s then primerGo s n else s

def execPrimerRearm (ch : Fin 32) (s : State) : Host.Outcome State Fault Refusal := .next (s.on (primerRearm ch))

/-- The pre-charge has run for PRIMER_TIMEOUT (R71). -/
def primerTimeout (n : Nat) (s : Chip) : Chip :=
  if (s.ch n).state == .precharge && decide ((s.chCfg n).primerTimeout * 1000 ≤ s.now - (s.ch n).t0) then
    tripOrHold s n [.primerTimeout] 0xFF
  else s

def execPrimerTimeout (ch : Fin 32) (s : State) : Host.Outcome State Fault Refusal := .next (s.on (primerTimeout ch))

/-- GATE_OK has not been reached in CLOSE_TIMEOUT (R71, R75). -/
def closeTimeout (n : Nat) (s : Chip) : Chip :=
  if (s.ch n).state == .closing && decide ((s.chCfg n).closeTimeout ≤ s.now - (s.ch n).t1) then
    tripOrHold s n [.closeTimeout] 0xFF
  else s

def execCloseTimeout (ch : Fin 32) (s : State) : Host.Outcome State Fault Refusal := .next (s.on (closeTimeout ch))

/-- PRIMER_OVERLAP has ended: the pre-charge driver turns off with the soft pull-down; no event (R63, R69, R71). -/
def primerOverlapEnd (n : Nat) (s : Chip) : Chip :=
  if (s.ch n).overlapEnd.any fun d => d ≤ s.now then
    s.modCh n fun c => { c with pre := .off, pull := .soft, overlapEnd := none }
  else s

def execPrimerOverlapEnd (ch : Fin 32) (s : State) : Host.Outcome State Fault Refusal :=
  .next (s.on (primerOverlapEnd ch))

/-- The KS240 fault timer has reached KS_FAULT_TIME (R75). -/
def ksFaultTimer (n : Nat) (s : Chip) : Chip :=
  if (s.ch n).state == .limiting && decide ((s.chCfg n).ksFaultTime * 1000 ≤ (s.ch n).ksTimer) then
    tripOrHold s n [.ksFaultTimer] 0xFF
  else s

def execKsFaultTimer (ch : Fin 32) (s : State) : Host.Outcome State Fault Refusal := .next (s.on (ksFaultTimer ch))

end Sys2Proof.Machine
end

