-- ==== Sys2Proof/Machine/SlotLimit.lean ====
section
/-! DEFINITION. The profile of a battery slot's module (R210) and the slot limits in force (R223). -/

namespace Sys2Proof.Machine

/-- The profile of an admitted slot (R210). -/
def profileOf (s : Chip) (id : Nat) : Option Profile := s.img.profiles.find? fun p => p.id == id

def slotProfile (s : Chip) (j : Nat) : Profile := (profileOf s (s.bat j).profile).getD {}

/-- Charge limit in force, mA (R223). -/
def slotChargeMax (s : Chip) (j : Nat) : Nat :=
  let b := s.bat j
  let p := slotProfile s j
  if !slotAdmitted s j || b.bmsLost || b.ceiling || decide (b.temp < p.tChgMin) || decide (p.tChgMax < b.temp) then 0
  else p.iChg

/-- Discharge limit in force, mA (R223). -/
def slotDischargeMax (s : Chip) (j : Nat) : Nat :=
  let b := s.bat j
  let p := slotProfile s j
  if !slotAdmitted s j || b.bmsLost || b.floor || decide (b.temp < p.tDisMin) || decide (p.tDisMax < b.temp) then 0
  else p.iDis

end Sys2Proof.Machine
end

