-- ==== Sys2Proof/Machine/RailLoop.lean ====
section
/-! DEFINITION. The loop engine of a rail on one tick: latched values, current limit, bridge preset and reference,
the two loops, the ramp, and the changes of state they make (R110-R134, R153, R154, R158). -/

namespace Sys2Proof.Machine

/-- Source ID of a rail fault: kind × 16 + rail (R139). -/
def railSource (kind k : Nat) : Nat := 0x0400 + kind * 16 + k

/-- V_INPUT of a rail in mV (R117): the named channel's V_IN, or the terminal voltage of the slot. -/
def railInput (s : Chip) (k : Nat) : Int :=
  let c := s.railCfg k
  if c.bus then ((slotOfRail s k).map fun j => (tget s.terms j).v).getD 0 else (s.ch c.vinSrc).lat.vIn

/-- A phase current in mA from its code in µV (R111). -/
def phaseCurrent (c : RailCfg) (code : Int) : Int := rdiv ((code - c.imOffset) * 1000) c.imGain

/-- The loop engine latches V_RAIL, the phase currents and V_INPUT (R110, R111). -/
def railLatch (s : Chip) (k : Nat) : Chip :=
  let c := s.railCfg k
  let vin := railInput s k
  s.modRail k fun r =>
    let iPh := r.lp.lat.phases.map (phaseCurrent c)
    { r with lp := { r.lp with
        vRail := rdiv ((r.lp.dac * 1000 + r.lp.lat.win) * 65536) c.senseDiv, iPh := iPh,
        iRail := iPh.foldl (· + ·) 0, vInput := vin } }

/-- Current limit after fold-back, before derating (R131). -/
def foldLimit (c : RailCfg) (p : RailProt) (vmV : Int) : Int :=
  if !c.bus || (p.fbKnee : Int) ≤ vmV then p.iLim
  else if vmV ≤ p.fbLow then p.fbMin
  else p.fbMin + rdiv ((p.iLim - p.fbMin : Int) * (vmV - p.fbLow)) (p.fbKnee - p.fbLow)

/-- The present current limit (R131). -/
def railLimit (s : Chip) (k : Nat) : Int :=
  let r := s.rail k
  let l := foldLimit (s.railCfg k) (s.prot k) (rdiv r.lp.vRail 1000)
  if r.otWarn then rdiv (l * (s.aux k).otDerate) 65536 else l

/-- The rail regulates in voltage: a LOAD-class rail, or a BRIDGING rail outside the handover ramp (R117, R119). -/
def voltageMain (s : Chip) (k : Nat) : Bool :=
  let r := s.rail k
  !(s.railCfg k).bus || (r.state == .bridging && r.hand.isNone)

/-- Weight of the slot of rail `k`, Q16 (R155). -/
def railWeight (s : Chip) (k : Nat) : Nat :=
  ((slotOfRail s k).map fun j => tget s.book.weights j).getD 0

/-- The slot's rail is ARMED or BRIDGING (R155). -/
def slotStands (s : Chip) (j : Nat) : Bool :=
  (batBind s j).any fun b => (s.rail b.rail).state == .armed || (s.rail b.rail).state == .bridging

/-- Sum of the weights of the ARMED and BRIDGING rails (R153). -/
def weightSum (s : Chip) : Nat :=
  (List.range 12).foldl (fun a j => if slotStands s j then a + tget s.book.weights j else a) 0

/-- The bridge preset u_B (R153). -/
def bridgePreset (s : Chip) (k : Nat) : Int :=
  let l := (s.rail k).lp
  let p := s.prot k
  let iff := rdiv (s.energy.tickDemand * railWeight s k * 1000) (weightSum s * l.vInput)
  rdiv (l.vRail * (65536 * p.iLim + s.img.energy.bridgeFf * iff)) (l.vInput * 1000 * p.iLim)

/-- Starting output of a rail (R118): V_RAIL ÷ V_INPUT, Q16. -/
def startPreset (r : Rail) : Int := rdiv (r.lp.vRail * 65536) (r.lp.vInput * 1000)

/-- Feed-forward term of the voltage loop for a reference in µV (R117). -/
def feedForward (l : Loop) (ref : Int) : Int := rdiv (ref * 65536) (l.vInput * 1000)

/-- The loop is preset to an output (R118, R153): its next step gives it, and its histories are those of a loop that
stands there.  DESIGN CHOICE: R153 says only that the next output equals it; the compensator's two outputs are the
preset less the feed-forward, and its two errors are zero. -/
def Loop.presetTo (l : Loop) (ref u : Int) : Loop :=
  { l with u := u, preset := some u, uc1 := u - feedForward l ref, uc2 := u - feedForward l ref, e1 := 0, e2 := 0 }

/-- FLOOR is set for the slot of the rail, which then takes no part in a bridge event (R222). -/
def railFloor (s : Chip) (k : Nat) : Bool := (slotOfRail s k).any fun j => (s.bat j).floor

/-- A battery rail that reaches ARMED goes on to BRIDGING: the mode is BRIDGE, outside the handover (R153, R222). -/
def joinsBridge (s : Chip) (k : Nat) : Bool :=
  s.mode.mode == .bridge && s.mode.stage != .handover && !railFloor s k

/-- Power sourced by the rail's feed channel, mW (R154). -/
def sourced (s : Chip) (k : Nat) : Int :=
  match (slotOfRail s k).bind (batBind s) with
  | some b => max 0 (-(chPower s b.channel))
  | none => 0

/-- The bus reference of a BRIDGING rail in µV (R154). -/
def bridgeRef (s : Chip) (k : Nat) : Int :=
  let e := s.img.energy
  let droop := rdiv ((e.bridgeDroop * 1000 : Int) * sourced s k * 65536) (railWeight s k * (s.prot k).bridgePNom)
  s.energy.vBref * 1000 - min droop (2000 * e.bridgeDroop)

/-- Greatest output of the mapping (R114). -/
def uMax (c : RailCfg) : Int :=
  if c.buckBoost then rdiv (c.bbDmax * 65536) (65536 - c.dutyMax) else c.dutyMax

/-- Duties of legs A and B for an output (R114). -/
def duties (c : RailCfg) (u : Int) : Nat × Nat :=
  if c.buckBoost then
    if u ≤ 65536 then ((rdiv (u * c.bbDmax) 65536).toNat, c.bbDmax)
    else (c.bbDmax, max (rdiv (c.bbDmax * 65536) u).toNat (65536 - c.dutyMax))
  else ((min u c.dutyMax).toNat, 0)

/-! ## The PWM engine (R112-R116) -/

/-- The switching period in 1/16 counts of CK_PWM (R112). -/
def pwmSteps (c : RailCfg) : Nat := c.pwmPeriod * 16

/-- Start of phase `i`'s period after the rail period's (R113). -/
def phaseOffset (c : RailCfg) (i : Nat) : Nat := i * pwmSteps c / phases c

/-- A pulse or a gap shorter than LANE_MIN_PULSE is not emitted, and the lane holds its level through that edge (R113):
`first` of `period` steps of 1/19.2 ns that the period's first level lasts. -/
def emitted (least period : Nat) (first : Int) : Int :=
  if first * 10 < least * 192 then 0 else if (period - first) * 10 < least * 192 then period else first

/-- The edges of a phase's period for an output (R113, R114): the trim lengthens the on-time of leg A where leg A
modulates, else the low time of leg B (R116). -/
def phaseEdges (c : RailCfg) (u trim : Int) : PhaseEdges :=
  let d := duties c u
  let a := rdiv (d.1 * pwmSteps c) 65536
  let b := rdiv ((65536 - d.2) * pwmSteps c) 65536
  let legA := !c.buckBoost || decide (u ≤ 65536)
  { a := emitted c.laneMinPulse (pwmSteps c) (if legA then a + trim else a),
    b := if c.buckBoost then emitted c.laneMinPulse (pwmSteps c) (if legA then b else b + trim) else 0 }

/-- The first load instant after `pos` (R115): in each rail period 1 count before the start of its leading phase; steps
from the present rail period's start. -/
def nextLoad (c : RailCfg) (pos lead : Nat) : Option Int :=
  ((List.range 3).map fun (j : Nat) =>
    ((j * pwmSteps c + phaseOffset c ((lead + j) % phases c) : Nat) : Int) - 16).find? fun t => decide ((pos : Int) < t)

/-- A phase's edges after the 19,200 steps of a tick: a period it starts takes the output loaded by then (R115). -/
def phaseStep (c : RailCfg) (p : Pwm) (u : Int) (trims : List Int) (i : Nat) : Option PhaseEdges :=
  let o := phaseOffset c i
  let t := if p.pos < o then o else o + pwmSteps c
  if p.pos + 19200 < t then tget p.edges i
  else some (phaseEdges c (if (nextLoad c p.pos p.lead).any fun x => decide (x ≤ (t : Int)) then u else p.loaded) (tget trims i))

/-- The PWM engine over one tick (R113, R115).  DESIGN CHOICE: a load instant inside a tick takes the output that the loop
had formed by the boundary before it. -/
def Pwm.advance (p : Pwm) (c : RailCfg) (u : Int) (trims : List Int) : Pwm :=
  if phases c = 0 then p
  else
    let pos := p.pos + 19200
    let wraps := decide (pwmSteps c ≤ pos)
    { edges := (List.range (phases c)).map (phaseStep c p u trims),
      loaded := if (nextLoad c p.pos p.lead).any fun x => decide (x ≤ (pos : Int)) then u else p.loaded,
      pos := if wraps then pos - pwmSteps c else pos, lead := if wraps then (p.lead + 1) % phases c else p.lead }

/-- The PWM engine starts rail period 0 with phase 0 leading, the others still at mid level (R113, R115, R118). -/
def pwmStart (c : RailCfg) (u : Int) (trims : List Int) : Pwm :=
  { loaded := u, edges := (List.range (phases c)).map fun i => if i = 0 then some (phaseEdges c u (tget trims 0)) else none }

/-- The bridge event's rewrite of the pending edges of every phase in a period; an IDLE rail starts a period on every
phase, and takes its offsets from that instant (R115, R152).  DESIGN CHOICE: the instant of the event within its tick is
not held, and stands at the tick boundary before it. -/
def Pwm.rewrite (p : Pwm) (c : RailCfg) (u : Int) (trims : List Int) (idle : Bool) : Pwm :=
  if idle then { loaded := u, edges := (List.range (phases c)).map fun i => some (phaseEdges c u (tget trims i)) }
  else { p with loaded := u, edges := (List.range (phases c)).map fun i =>
                                        (tget p.edges i).map fun _ => phaseEdges c u (tget trims i) }

/-- The rail's lanes begin to switch from mid level with u preset to V_RAIL ÷ V_INPUT (R118, R121, R130): a rail asleep
in BURST wakes in the next period of each phase, any other starts rail period 0; lanes that switch already go on. -/
def beginSwitching (s : Chip) (k : Nat) : Chip :=
  let c := s.railCfg k
  s.modRail k fun r =>
    if r.lp.switching then r
    else
      let u := startPreset r
      let l := r.lp.presetTo r.lp.ref u
      { r with idle := false, sleepSince := none, burstOff := none, lp := { l with
          switching := true,
          pwm := if r.sleepSince.isSome then { l.pwm with loaded := u, edges := [] } else pwmStart c u l.trims } }

/-- The rail enters BRIDGING with its voltage loop in control and the preset output, which its edges take at once (R152,
R153); the event completes a waiting RAIL_ON with OK (R124). -/
def enterBridging (s : Chip) (k : Nat) (uB : Int) : Chip :=
  let refs := (s.rail k).refs
  let c := s.railCfg k
  let ref := bridgeRef s k
  let u := clampI 0 (uMax c) uB
  let s := (setLimit s k false).modRail k fun r =>
    let l := { r.lp with ref := ref }.presetTo ref u
    { r with idle := false, hand := none, refs := [],
             lp := { l with switching := true, loopI := false, pwm := l.pwm.rewrite c u l.trims !r.lp.switching } }
  setRailState s k .bridging (allWith refs .ok)

/-- Sign of a number. -/
def sgn (i : Int) : Int := if 0 < i then 1 else if i < 0 then -1 else 0

/-- sign(I_RAIL) of the current limit (R117).  DESIGN CHOICE: at zero, of which the spec states no sign, the rail counts as
sourcing: a LOAD-class rail into its load, a BUS-class rail into the bus. -/
def railSign (bus : Bool) (i : Int) : Int := if i = 0 then (if bus then -1 else 1) else sgn i

/-- The limit in one direction (R131): of a BUS-class rail, lowered to the slot's charge or discharge limit (R223); in
BRIDGING the charging current is clamped as well (R154). -/
def limitTowards (s : Chip) (k : Nat) (charging : Bool) : Int :=
  let l := railLimit s k
  let l := match slotOfRail s k with
    | some j =>
      if (s.railCfg k).bus then
        min l (if charging then (slotChargeMax s j : Int) else (slotDischargeMax s j : Int))
      else l
    | none => l
  if (s.rail k).state == .bridging && charging then min l s.img.energy.bridgeSinkMax else l

/-- The limit that acts in the present direction of I_RAIL. -/
def actingLimit (s : Chip) (k : Nat) : Int := limitTowards s k (decide (0 < (s.rail k).lp.iRail))

/-- The current that a rail in current control regulates to, mA: the reference within the limits (R131, R223). -/
def heldRef (s : Chip) (k : Nat) : Int :=
  clampI (-(limitTowards s k false)) (limitTowards s k true) (rdiv (s.rail k).lp.ref 1000)

/-- `uv` lies on the side of `ui` that does not raise |I_RAIL| (R117): a LOAD-class current grows with the output, a
BUS-class current falls with it. -/
def safeSide (bus : Bool) (i uv ui : Int) : Bool :=
  if (decide (0 < railSign bus i)) != bus then decide (uv ≤ ui) else decide (ui ≤ uv)

/-- The reference of the voltage loop, µV: of a BUS-class rail under its current loop, the bus reference (R117, R154). -/
def voltageRef (s : Chip) (k : Nat) : Int := if voltageMain s k then (s.rail k).lp.ref else bridgeRef s k

/-- One step of the loop engine (R117); a preset output is taken as it stands. -/
def loopStep (s : Chip) (k : Nat) : Chip :=
  let c := s.railCfg k
  let p := s.prot k
  let r := s.rail k
  let l := r.lp
  let vmain := voltageMain s k
  let lim := actingLimit s k
  let vref := voltageRef s k
  let ff := feedForward l vref
  let e := rdiv ((vref - l.vRail) * c.senseDiv) (65536 * 500)
  let comp := rdiv (p.a1 * l.uc1 + p.a2 * l.uc2) 65536 + c.b0 * e + c.b1 * l.e1 + c.b2 * l.e2
  let uv := ff + comp
  let eI := if vmain then railSign c.bus l.iRail * lim - l.iRail else heldRef s k - l.iRail
  let ui := l.u + p.kpI * (eI - l.eI1) + p.kiI * eI
  let takeV := vmain && decide ((l.iRail.natAbs : Int) < lim) && safeSide c.bus l.iRail uv ui
  let raw := match l.preset with
    | some v => v
    | none => if takeV then uv else ui
  let u := clampI 0 (uMax c) raw
  let limit := vmain && l.preset.isNone && raw == ui
  (setLimit s k limit).modRail k fun r => { r with lp := { r.lp with
    u := u, preset := none, uc2 := l.uc1, uc1 := u - ff, e2 := l.e1, e1 := e, eI1 := eI, loopI := limit || !vmain } }

/-- The tracking DAC at the end of a tick (R110): it follows the reference in voltage mode, and steps 256 codes
towards the input at every other time and when the window was saturated.  DESIGN CHOICE: where the window was not
saturated the input is less than 256 codes away, and the step ends at it; a rail regulates in voltage mode also while its
current limit is in control. -/
def dacStep (s : Chip) (k : Nat) : Chip :=
  let c := s.railCfg k
  let vmode := voltageMain s k && (s.rail k).lp.switching
  s.modRail k fun r =>
    let l := r.lp
    let d :=
      if vmode && l.lat.sat == 0 then rdiv (l.ref * c.senseDiv) (65536 * 1000)
      else if l.lat.sat != 0 then l.dac + 256 * sgn l.lat.sat
      else l.dac + clampI (-256) 256 (rdiv l.lat.win 1000)
    { r with lp := { l with dac := clampI 0 4095 d } }

/-- Goal of the reference (R125): µV for a LOAD-class rail, µA for a BUS-class one. -/
def rampGoal (c : RailCfg) (r : Rail) : Int :=
  match r.state with
  | .rampUp => if c.bus then r.chargeSet * 1000 else if r.intentOn then r.vTarget * 1000 else 0
  | .on | .burst => if r.intentOn then r.vTarget * 1000 else 0
  | .armed => r.chargeSet * 1000
  | _ => 0

/-- Slew of the reference per tick (R125). -/
def rampSlew (c : RailCfg) (r : Rail) : Int :=
  if c.bus then c.iSlew
  else
    match r.state with
    | .on | .burst => r.setSlew
    | _ => c.ssSlew

/-- The end of a ramp-down: lanes mid; OFF with cause HOST_OFF or MODE, or WAIT with INTENT_ON kept after BAT_RELEASE
(R124, R126, R228). -/
def rampEnd (s : Chip) (k : Nat) : Chip :=
  let r := s.rail k
  if r.release then
    let s := lanesMid s k
    let s := s.modRail k fun r => { r with release := false, modeStop := false }
    setRailState s k .wait []
  else railStop s k (if r.modeStop then .mode else .hostOff) .off

/-- RAMP_UP has reached its goal: ON for a LOAD-class rail; for a BUS-class rail ARMED, or BRIDGING where the mode is
BRIDGE (R119, R125, R153). -/
def rampDone (s : Chip) (k : Nat) : Chip :=
  if (s.railCfg k).bus then
    if joinsBridge s k then enterBridging s k (bridgePreset s k)
    else
      let refs := (s.rail k).refs
      let s := s.modRail k fun r => { r with refs := [] }
      setRailState s k .armed (allWith refs .ok)
  else
    let refs := (s.rail k).refs
    let s := s.modRail k fun r => { r with refs := [] }
    setRailState s k .on (allWith refs .ok)

/-- The reference of a rail under its handover ramp falls linearly to zero over BRIDGE_HANDOVER; at zero the rail is
ARMED with charge setpoint zero (R158). -/
def handStep (s : Chip) (k : Nat) (h : Int × Nat) : Chip :=
  let total : Int := s.img.modes.handover * 1000
  let left := total - ((s.now - h.2 : Nat) : Int)
  if left ≤ 0 then
    let s := s.modRail k fun r => { r with hand := none, chargeSet := 0, lp := { r.lp with ref := 0 } }
    setRailState s k .armed []
  else s.modRail k fun r => { r with lp := { r.lp with ref := rdiv (h.1 * left) total } }

/-- A battery rail enters BRIDGING at this boundary: one that the bridge event met in RAMP_UP, or an ARMED one while the
mode is BRIDGE (R153, R222). -/
def bridgesNow (s : Chip) (k : Nat) : Bool :=
  (s.railCfg k).bus && (((s.rail k).state == .rampUp && (s.rail k).takeNext && !railFloor s k)
    || ((s.rail k).state == .armed && joinsBridge s k))

/-- The ramp step of a rail (R125, R126, R154, R158). -/
def rampStep (s : Chip) (k : Nat) : Chip :=
  let c := s.railCfg k
  let r := s.rail k
  if bridgesNow s k then enterBridging s k (bridgePreset s k) else
  match r.state with
  | .rampUp | .on | .burst | .rampDown | .armed =>
    let goal := rampGoal c r
    let step := rampSlew c r
    let ref := r.lp.ref + clampI (-step) step (goal - r.lp.ref)
    let s := s.modRail k fun r => { r with lp := { r.lp with ref := ref } }
    if r.state == .rampUp && ref == goal then rampDone s k
    else if r.state == .rampDown && ref == 0 then rampEnd s k
    else s
  | .bridging =>
    match r.hand with
    | some h => handStep s k h
    | none => s.modRail k fun r => { r with lp := { r.lp with ref := bridgeRef s k } }
  | _ => s

/-- IDLE of an ARMED rail (R121). -/
def idleStep (s : Chip) (k : Nat) : Chip :=
  let r := s.rail k
  if r.state == .armed then
    let small := decide (r.chargeSet.natAbs < (s.prot k).armIdleI)
    if !r.idle && small && r.lp.ref == r.chargeSet * 1000 then
      (setLimit s k false).modRail k fun r => { r with idle := true, lp := r.lp.rest }
    else if !small then beginSwitching s k
    else s
  else s

/-- While IDLE or asleep in BURST the loop stays preset (R118, R121, R130). -/
def holdPreset (s : Chip) (k : Nat) : Chip :=
  let r := s.rail k
  if !r.lp.switching && (r.idle || r.sleepSince.isSome) then
    let ref := voltageRef s k
    s.modRail k fun r => { r with lp := r.lp.presetTo ref (startPreset r) }
  else s

/-- The phase whose period began last, and the ticks to its next period boundary (R130). -/
def lastPhaseTicks (c : RailCfg) (p : Pwm) : Nat :=
  let since := (List.range (phases c)).foldl (fun a i =>
    min a ((p.pos + pwmSteps c - phaseOffset c i) % pwmSteps c)) (pwmSteps c)
  (pwmSteps c - since + 19199) / 19200

/-- BURST is left for ON (R130): the last burst carried enough current, or the output has fallen too far. -/
def burstLeaves (s : Chip) (k : Nat) : Bool :=
  let r := s.rail k
  let a := s.aux k
  (decide (0 < r.burstN) && decide (a.burstExit * r.burstN ≤ r.burstSum))
    || decide (r.lp.vRail ≤ (r.vTarget : Int) * 1000 - 2000 * a.burstLow)

/-- A burst of a rail begins: its current is summed anew. -/
def burstAnew (s : Chip) (k : Nat) : Chip := s.modRail k fun r => { r with burstSum := 0, burstN := 0 }

/-- A rail that wakes in BURST (R130): its lanes switch again, and it leaves for ON, or a new burst begins. -/
def burstWakes (s : Chip) (k : Nat) : Chip :=
  let leaves := burstLeaves s k
  let s := burstAnew (beginSwitching s k) k
  if leaves then setRailState s k .on [] else s

/-- In BURST (R130): once the output is high enough the burst ends at a period boundary of the phase that switched last,
and the lanes sleep at mid level; an output that has fallen too far wakes them. -/
def burstStep (s : Chip) (k : Nat) : Chip :=
  let r := s.rail k
  let a := s.aux k
  if r.state != .burst then s
  else if r.sleepSince.isSome then (if burstLeaves s k && decide (r.lp.vRail ≤ (r.vTarget : Int) * 1000 - 2000 * a.burstLow)
    then burstWakes s k else s)
  else
    let s := s.modRail k fun r => { r with burstSum := r.burstSum + r.lp.iRail.natAbs, burstN := r.burstN + 1 }
    match r.burstOff with
    | some t =>
      if t ≤ s.now then
        (setLimit s k false).modRail k fun r => { r with sleepSince := some s.now, burstOff := none, lp := r.lp.rest }
      else s
    | none =>
      if decide (r.lp.vRail ≤ (r.vTarget : Int) * 1000 - 2000 * a.burstLow) then setRailState (burstAnew s k) k .on []
      else if (r.vTarget : Int) * 1000 + 1000 * a.burstHigh ≤ r.lp.vRail then
        let n := lastPhaseTicks (s.railCfg k) r.lp.pwm
        s.modRail k fun r => { r with burstOff := some (s.now + n) }
      else s

/-- The level of the over-voltage check, in µV; none where it does not apply (R134): of a LOAD-class rail also in the sleep of
BURST (R130). -/
def ovLevel (s : Chip) (k : Nat) : Option Int :=
  let r := s.rail k
  let m : Int := 65536 + (s.prot k).ovMargin
  if (s.railCfg k).bus then
    if r.state == .bridging && decide (r.lp.iRail < 0) then some (rdiv (s.energy.vBref * 1000 * m) 65536) else none
  else if r.lp.switching || r.sleepSince.isSome then some (rdiv (r.vTarget * 1000 * m) 65536)
  else none

/-- Counts and marks that the protections of a rail are judged by (R129, R130, R132, R134). -/
def railWatch (s : Chip) (k : Nat) : Chip :=
  let r := s.rail k
  let p := s.prot k
  let uv := railLive r && decide (r.lp.vInput < p.inUv)
  let ov := (ovLevel s k).any fun l => l < r.lp.vRail
  let low := r.state == .on && (s.aux k).burstEnable && decide (r.lp.iRail.natAbs < (s.aux k).burstEnter)
  s.modRail k fun r =>
    { r with uvTicks := if uv then r.uvTicks + 1 else 0, ovTicks := if ov then r.ovTicks + 1 else 0,
             limSince := if r.lp.limit then some (r.limSince.getD s.now) else none,
             lowSince := if low then some (r.lowSince.getD s.now) else none }

/-- Balancing is active: enabled, two phases or more, enough current, lanes switching outside BURST (R116). -/
def balances (s : Chip) (k : Nat) : Bool :=
  let r := s.rail k
  let n := phases (s.railCfg k)
  (s.prot k).balEnable && decide (2 ≤ n) && r.lp.switching && r.state != .burst
    && decide ((s.prot k).balMinI * n ≤ r.lp.iRail.natAbs)

/-- FOLDBACK (R132): a BUS-class rail in limit below I_LIM, by fold-back or by derating. -/
def folds (s : Chip) (k : Nat) : Bool :=
  let r := s.rail k
  let lim := railLimit s k
  (s.railCfg k).bus && r.lp.switching && decide (lim < (s.prot k).iLim)
    && (r.lp.limit || (!voltageMain s k && decide (lim * 1000 < (r.lp.ref.natAbs : Int))))

/-- The PWM engine runs through the tick that ends, while the lanes switch and through a sleep in BURST (R113, R130). -/
def pwmStep (s : Chip) (k : Nat) : Chip :=
  let c := s.railCfg k
  s.modRail k fun r =>
    if r.lp.switching then { r with lp := { r.lp with pwm := r.lp.pwm.advance c r.lp.u r.lp.trims } }
    else if r.sleepSince.isSome then
      { r with lp := { r.lp with pwm := { r.lp.pwm.advance c r.lp.u r.lp.trims with edges := [] } } }
    else r

/-- One tick of a rail: latch, ramp, loop, and what follows from them (R110-R134). -/
def railTick (s : Chip) (k : Nat) : Chip :=
  if (s.railCfg? k).isNone then s
  else
    let s := pwmStep (railLatch s k) k
    let s := (rampStep s k).modRail k fun r => { r with takeNext := false }
    let s := idleStep s k
    let s := burstStep s k
    let s := if (s.rail k).lp.switching then loopStep s k else holdPreset s k
    let s := dacStep s k
    let s := railWatch s k
    let s := s.modRail k fun r => { r with bal := balances s k, foldback := folds s k }
    let s := evalFault s (railSource 1 k) (folds s k)
    if (s.rail k).state == .armed || (s.rail k).hand.isSome then
      s.modRail k fun r => { r with lp := { r.lp with uB := bridgePreset s k } }
    else s

/-! ## Stops that a tick's counts bring (R127, R129, R132, R134) -/

/-- V_INPUT has been below IN_UV for 10 ticks: lanes mid, WAIT with cause INPUT_UV, INPUT_UV sets (R129); a rail
whose INTENT_ON is clear goes to OFF instead. -/
def railInputUv (k : Nat) (s : Chip) : Chip :=
  if 10 ≤ (s.rail k).uvTicks && railLive (s.rail k) then
    let s := setFault s (railSource 4 k)
    let s := s.modRail k fun r => { r with uvTicks := 0 }
    railStop s k .inputUv (if (s.rail k).intentOn then .wait else .off)
  else s

/-- A LOAD-class rail has stayed in limit for OC_LATCH_TIME (R132). -/
def ocLatch (k : Nat) (s : Chip) : Chip :=
  if !(s.railCfg k).bus && railLive (s.rail k)
      && ((s.rail k).limSince.any fun t => t + (s.prot k).ocLatch ≤ s.now) then
    railStop (setFault s (railSource 0 k)) k .overcurrent .latched
  else s

/-- V_RAIL has exceeded its over-voltage level for two ticks (R134). -/
def railOvervoltage (k : Nat) (s : Chip) : Chip :=
  if 2 ≤ (s.rail k).ovTicks && railLive (s.rail k) then
    railStop (setFault s (railSource 3 k)) k .overvoltage .latched
  else s

/-- Protective stops of a rail that are due act before a mode change or a host request of their tick reaches it (R127). -/
def railStops (s : Chip) (k : Nat) : Chip := railInputUv k (railOvervoltage k (ocLatch k s))

end Sys2Proof.Machine
end

