-- ==== Sys2Proof/Machine/BatCalc.lean ====
section
/-! DEFINITION. What a battery slot's record, profile and estimator give the rest: energies and reserves (R220), limits
(R223), commanded power (R213), state of charge from voltage (R212) and the least-squares fit of a rest (R216). -/

namespace Sys2Proof.Machine

/-- E_FLOOR(j) = SoC × E_USE, µJ, of an admitted slot (R220). -/
def slotFloorEnergy (s : Chip) (j : Nat) : Nat :=
  if slotAdmitted s j then rdivN ((s.bat j).soc * (s.bat j).est.eUse) 1000000000000 else 0

/-- E_RESERVE(j) = RES_BOTTOM × E_USE (R220). -/
def slotReserve (s : Chip) (j : Nat) : Nat :=
  match batBind s j with
  | some c => if slotAdmitted s j then rdivN (c.resBottom * (s.bat j).est.eUse) 65536 else 0
  | none => 0

/-- Top hold-back, a state of charge in 10^-12 (R220). -/
def slotTop (s : Chip) (j : Nat) : Nat :=
  match batBind s j with
  | some c => rdivN ((65536 - c.resTop) * 1000000000000) 65536
  | none => 0

/-- Need of a slot for charge (R148): hold-back less state of charge, times usable energy. -/
def slotNeed (s : Chip) (j : Nat) : Nat :=
  if slotAdmitted s j then rdivN ((slotTop s j - (s.bat j).soc) * (s.bat j).est.eUse) 1000000000000 else 0

/-- Terminal voltage of a slot, mV. -/
def termV (s : Chip) (j : Nat) : Int := (tget s.terms j).v

/-- Commanded terminal power of a slot, mW (R213). -/
def commandedPower (s : Chip) (j : Nat) : Int :=
  match batBind s j with
  | none => 0
  | some b =>
    let r := s.rail b.rail
    let byRef := rdiv (r.lp.ref * termV s j) 1000000
    match r.state with
    | .rampUp | .rampDown => byRef
    | .armed => if r.idle then 0 else byRef
    | .bridging =>
      if r.hand.isSome then byRef
      else -(rdiv (s.energy.tickDemand * tget s.book.weights j * 65536) (weightSum s * s.img.energy.bridgeEff))
    | _ => 0

/-- A point of an OCV column at a temperature: linear between the two columns that bracket it, the nearest outside
(R212), in µV. -/
def ocvAt (p : Profile) (temp : Int) (i : Nat) : Int :=
  let v (t : Nat) : Int := (tget (tget p.ocv t) i : Nat) * 1000
  let t0 := tget p.ocvT 0
  let t1 := tget p.ocvT 1
  let t2 := tget p.ocvT 2
  if temp ≤ t0 then v 0
  else if temp < t1 then v 0 + rdiv ((v 1 - v 0) * (temp - t0)) (t1 - t0)
  else if temp < t2 then v 1 + rdiv ((v 2 - v 1) * (temp - t1)) (t2 - t1)
  else v 2

/-- The number of points at or below a voltage. -/
def ocvCount (p : Profile) (temp uV : Int) : Nat :=
  ((List.range 32).filter fun i => ocvAt p temp i ≤ uV).length

/-- Chip of charge in 10^-12 from an open-circuit voltage in µV (R212). -/
def socFromOcv (p : Profile) (temp uV : Int) : Nat :=
  let k := ocvCount p temp uV
  if k = 0 then 0
  else if 32 ≤ k then 1000000000000
  else
    let lo := ocvAt p temp (k - 1)
    let hi := ocvAt p temp k
    (rdiv ((((k - 1 : Nat) : Int) * (hi - lo) + (uV - lo)) * 1000000000000) (31 * (hi - lo))).toNat

/-- Open-circuit voltage in µV at a state of charge in 10^-12, the table read the other way (R214). -/
def ocvOfSoc (p : Profile) (temp : Int) (soc : Nat) : Int :=
  let x := soc * 31
  let i := min 30 (x / 1000000000000)
  let lo := ocvAt p temp i
  lo + rdiv ((ocvAt p temp (i + 1) - lo) * ((x : Int) - i * 1000000000000)) 1000000000000

/-- Time constants in µs (R211). -/
def tauFast (p : Profile) : Nat := p.rFast * p.cFast
def tauSlow (p : Profile) : Nat := p.rSlow * p.cSlow

/-- Row of the fit at the sample of number `k`, taken at 2^k s (R215, R216): the two exponentials, 60 fractional
bits. -/
def fitRow (p : Profile) (k : Nat) : Int × Int :=
  (fxExpNeg (2 ^ k * 1000000) (tauFast p), fxExpNeg (2 ^ k * 1000000) (tauSlow p))

/-- Determinant of a 3 × 3 matrix given by rows. -/
def det3 (a b c d e f g h i : Int) : Int := a * (e * i - f * h) - b * (d * i - f * g) + c * (d * h - e * g)

/-- Sum over the samples of `f row sample`. -/
def fitSum (p : Profile) (samples : List Int) (f : Int × Int → Int → Int) : Int :=
  (List.range samples.length).foldl (fun a k => a + f (fitRow p k) (tget samples k)) 0

/-- The least-squares fit V_EQ, a_F, a_S in nV (R216), by Cramer's rule on the normal equations. -/
def restFit (p : Profile) (samples : List Int) : Int × Int × Int :=
  let one : Int := fxOne
  let n : Int := samples.length * one * one
  let sF := one * fitSum p samples fun r _ => r.1
  let sS := one * fitSum p samples fun r _ => r.2
  let sFF := fitSum p samples fun r _ => r.1 * r.1
  let sFS := fitSum p samples fun r _ => r.1 * r.2
  let sSS := fitSum p samples fun r _ => r.2 * r.2
  let y := 1000 * one * one * fitSum p samples fun _ v => v
  let yF := 1000 * one * fitSum p samples fun r v => r.1 * v
  let yS := 1000 * one * fitSum p samples fun r v => r.2 * v
  let d := det3 n sF sS sF sFF sFS sS sFS sSS
  (rdiv (det3 y sF sS yF sFF sFS yS sFS sSS) d, rdiv (det3 n y sS sF yF sFS sS yS sSS) d,
   rdiv (det3 n sF y sF sFF yF sS sFS yS) d)

/-- The square root of a number, bit by bit from bit `k` down, rounded down. -/
def rootBits : Nat → Nat → Nat → Nat
  | 0, _, r => r
  | k + 1, n, r =>
    if (r + 2 ^ k) * (r + 2 ^ k) ≤ n then rootBits k n (r + 2 ^ k) else rootBits k n r

/-- A square root whose rounding the spec leaves open. -/
def root (n : Nat) : Nat :=
  let r := rootBits 48 n 0
  if r * r = n then r else if Config.roundUp n r then r + 1 else r

/-- Value of the model at sample `k`, nV. -/
def fitAt (p : Profile) (f : Int × Int × Int) (k : Nat) : Int :=
  let r := fitRow p k
  f.1 + rdiv (f.2.1 * r.1 + f.2.2 * r.2) fxOne

/-- Root mean square of the residuals, nV (R216). -/
def fitRms (p : Profile) (f : Int × Int × Int) (samples : List Int) : Nat :=
  let sum := (List.range samples.length).foldl (fun a k =>
    let d := (tget samples k * 1000 - fitAt p f k).natAbs
    a + d * d) 0
  root (rdivN sum samples.length)

end Sys2Proof.Machine
end

