-- ==== Sys2Proof/Machine/Rails.lean ====
section
/-! DEFINITION. Converter rails: what requests do when they are applied, the rail opcodes, and the happenings on a
rail (R116-R142). -/

namespace Sys2Proof.Machine

/-! ## Setpoints applied at the boundary (R122, R124, R127) -/

/-- The state word's bytes of a rail. -/
def railData (s : Chip) (k : Nat) : List Byte := le 4 (railWord s k)

/-- The outcome of a rail command that was queued; a link's write has no reply (R186). -/
def railAnswer (s : Chip) (e : RailSet) (st : Status) (data : List Byte) : Chip :=
  if e.link.isSome then s
  else if e.replied then post s 0x03 (railBody s e.rail 1) [(e.ref, st)]
  else formReply s e.ref st data

/-- The mode test of R122 for ON, against the sequence during one (R51): a BUS-class rail is also the object of its
slot's selection (R47). -/
def admitsRail (s : Chip) (k : Nat) : Bool :=
  !inStop s &&
    (running s || (s.mode.mode == .service && s.mode.svcKind == 2 && s.mode.svcIndex == k))

/-- A rail command of SERVICE names an object other than the selected one (R47). -/
def svcOtherRail (s : Chip) (k : Nat) : Bool :=
  s.mode.mode == .service && !(s.mode.svcKind == 2 && s.mode.svcIndex == k)

/-- ON applied (R122, R124). -/
def railApplyOn (s : Chip) (e : RailSet) : Chip :=
  let r := s.rail e.rail
  let wait (s : Chip) : Chip :=
    s.modRail e.rail fun r => { r with intentOn := true, refs := r.refs ++ [e.ref], modeStop := false, release := false }
  if inStop s then railAnswer s e .aborted []
  else if !admitsRail s e.rail then railAnswer s e .notInMode (modeData s)
  else if r.disabled then railAnswer s e .channelDisabled []
  else
    match r.state with
    | .off =>
      let s := (wait s).modRail e.rail fun r => { r with stageWait := stageAhead s (railStage s e.rail) }
      let s := setRailState s e.rail .wait []
      if e.replied then s else formReply s e.ref .accepted (railData s e.rail)
    | .rampDown =>
      let s := setRailState (wait s) e.rail .rampUp []
      if e.replied then s else formReply s e.ref .accepted (railData s e.rail)
    | .latched => railAnswer s e .denied []
    | .on | .burst | .armed | .bridging => railAnswer s e .ok (railData s e.rail)
    | _ =>
      if e.replied then s.modRail e.rail fun r => { r with refs := r.refs ++ [e.ref] }
      else formReply s e.ref .ok (railData s e.rail)

/-- OFF of a rail as an act; `mode` says that a stop stage asks (R124, R126): a BRIDGING rail that a stop stage
reaches goes to its current loop at its present current. -/
def railActOff (s : Chip) (k : Nat) (mode : Bool) : Chip :=
  let s := (railStops s k).modRail k fun r => { r with intentOn := false }
  let r := s.rail k
  let down (s : Chip) : Chip :=
    let refs := (s.rail k).refs
    let s := (beginSwitching s k).modRail k fun r =>
      { r with refs := [], modeStop := mode, release := false, burstOff := none }
    setRailState s k .rampDown (allWith refs .aborted)
  match r.state with
  | .wait | .otStop => railKill s k .hostOff
  | .rampUp | .on | .burst | .armed => down s
  | .rampDown => s.modRail k fun r => { r with modeStop := mode || r.modeStop, release := false }
  | .bridging =>
    if mode then
      down ((setLimit s k false).modRail k fun r =>
        { r with hand := none, lp := { r.lp with ref := r.lp.iRail * 1000, loopI := true, eI1 := 0 } })
    else s
  | _ => s

/-- DISABLE of a rail as an act (R122, R124). -/
def railActDisable (s : Chip) (k : Nat) : Chip :=
  let s := (railStops s k).modRail k fun r => { r with intentOn := false, disabled := true }
  railKill s k .disable

/-- A rail setpoint lies within the limit registers (R432): V_TARGET within V_MIN and V_MAX, a charge setpoint within
±I_LIM. -/
def withinLimit (s : Chip) (k kind : Nat) (v : Int) : Bool :=
  let c := s.railCfg k
  match kind with
  | 1 => decide ((c.vMin : Int) ≤ v) && decide (v ≤ c.vMax)
  | 2 => decide (v.natAbs ≤ (s.prot k).iLim)
  | _ => true

/-- RAIL_SET applied (R125, R140); an entry outside its limit leaves the previous value and sets SETPOINT_GUARD
(R432). -/
def railWrite (s : Chip) (k kind : Nat) (v : Int) : Chip :=
  if withinLimit s k kind v then
    s.modRail k fun r =>
      match kind with
      | 1 => { r with vTarget := v.toNat }
      | 2 => { r with chargeSet := v }
      | _ => { r with setSlew := v.toNat }
  else setFault s 0x1306

/-- A host write to V_TARGET of the rail bound to a link sets that link's ATTN (R186, R193). -/
def attnRail (s : Chip) (k : Nat) : Chip :=
  forEach 8 (fun n s =>
    if (s.linkCfg? n).any (fun c => c.rail == k) then s.modLink n fun l => { l with attn := true } else s) s

/-- OFF, DISABLE, ENABLE and RAIL_SET are forbidden to an object that SERVICE has not selected (R28, R47). -/
def railBarred (s : Chip) (e : RailSet) : Bool := e.cmd != .on && e.link.isNone && svcOtherRail s e.rail

/-- One entry of the rails' setpoint queue takes effect (R27, R122); one that a new mode forbids completes with
NOT_IN_MODE (R28).  DESIGN CHOICE: a link's SETV or SLEW that meets a DISABLED rail is dropped, as RAIL_SET is refused (R122,
R189). -/
def applyRail (s : Chip) (e : RailSet) : Chip :=
  let s := railStops s e.rail
  if railBarred s e then railAnswer s e .notInMode (modeData s) else
  match e.cmd with
  | .on => railApplyOn s e
  | .off =>
    if (s.rail e.rail).state == .bridging then railAnswer s e .denied []
    else
      let s := railActOff s e.rail false
      railAnswer s e .ok (railData s e.rail)
  | .disable =>
    let s := railActDisable s e.rail
    railAnswer s e .ok (railData s e.rail)
  | .enable =>
    let s := s.modRail e.rail fun r => { r with disabled := false }
    railAnswer s e .ok (railData s e.rail)
  | .set kind v =>
    if (s.rail e.rail).disabled then railAnswer s e .channelDisabled []
    else
      let old := (s.rail e.rail).vTarget
      let s := railWrite s e.rail kind v
      let s := if kind == 1 && e.link.isNone && (s.rail e.rail).vTarget != old then attnRail s e.rail else s
      railAnswer s e .ok (railData s e.rail)

/-- A host's RAIL_SET writes, in the same tick, the field that a link's SETV or SLEW has written (R186). -/
def overwrites (links : List RailSet) (s : Chip) (e : RailSet) : Bool :=
  !railBarred s e && !(s.rail e.rail).disabled &&
    match e.cmd with
    | .set kind _ => links.any fun x => x.rail == e.rail && (match x.cmd with | .set j _ => j == kind | _ => false)
    | _ => false

/-- A host request takes effect; over a link's write of the tick it sets ATTN, whatever the values are (R186). -/
def applyHostRail (links : List RailSet) (s : Chip) (e : RailSet) : Chip :=
  let t := applyRail s e
  if overwrites links s e then attnRail t e.rail else t

/-- The whole rail queue takes effect: link writes first, then host requests in queue order (R29, R127, R186). -/
def applyRailQueue (s : Chip) : Chip :=
  let q := s.railQueue
  let links := q.filter fun e => e.link.isSome
  (q.filter fun e => e.link.isNone).foldl (applyHostRail links) (links.foldl applyRail { s with railQueue := [] })

/-! ## Opcodes -/

/-- Puts a command into the rails' setpoint queue (R29).  A request is taken, and a link frame accepted, only while the
queue has room (`queueRoom`). -/
def queueRail (s : Chip) (k : Nat) (cmd : RailCmd) (r : ReqRef) (replied : Bool) (link : Option Nat := none) : Chip :=
  if queueRoom s 2 then
    { s with railQueue := s.railQueue ++ [{ rail := k, cmd := cmd, ref := r, replied := replied, link := link }] }
  else s

/-- Index and configuration of a rail request (R140, R137). -/
def railChecks (rq : Request) (s : Chip) : Option Ans :=
  let k := arg rq 0 1
  if 15 < k then some (.bare .outOfRange)
  else if (s.railCfg? k).isNone then some (.bare .configInvalid)
  else none

/-- The checks of a rail command: in SERVICE, another object than the selected one is refused (R47, R291). -/
def railCmdChecks (rq : Request) (s : Chip) : Option Ans :=
  if arg rq 0 1 ≤ 15 && svcOtherRail s (arg rq 0 1) then some (.notInMode s) else railChecks rq s

/-- RAIL_GET's reply data (R137, R140). -/
def railGetData (s : Chip) (k : Nat) : List Byte :=
  if (s.railCfg? k).isNone then zeros 40
  else
    let r := s.rail k
    railData s k ++ le 4 r.vTarget ++ leI 4 (rdiv r.lp.ref 1000) ++ leI 4 (rdiv r.lp.vRail 1000) ++ leI 4 r.lp.iRail
      ++ leI 4 (railLimit s k) ++ (match r.temp with | some t => leI 2 t | none => le 2 0x8000) ++ zeros 2
      ++ leI 4 r.lp.u ++ le 8 r.lastChange

/-- RAIL_GET (R140). -/
def bodyRailGet : Body := fun rq _ s =>
  let k := arg rq 0 1
  if 15 < k then (.bare .outOfRange, s) else (.reply .ok (railGetData s k), s)

/-- RAIL_ON (R122, R124, R140): a rail in OFF or RAMP_DOWN with nothing queued for it is answered ACCEPTED at once. -/
def bodyRailOn : Body := fun rq r s =>
  let k := arg rq 0 1
  if inStop s then (.bare .aborted, s)
  else if !modeAdmitsOn s then (.notInMode s, s)
  else
    match railCmdChecks rq s with
    | some a => (a, s)
    | none =>
      let st := (s.rail k).state
      if (s.rail k).disabled then (.bare .channelDisabled, s)
      else if st == .latched then (.bare .denied, s)
      else if (st == .off || st == .rampDown) && !(s.railQueue.any fun e => e.rail == k) then
        (.reply .accepted (railData s k), queueRail s k .on r true)
      else (.later, queueRail s k .on r false)

/-- RAIL_OFF, RAIL_DISABLE and RAIL_ENABLE (R122, R140): answered when they are applied. -/
def bodyRailCmd (cmd : RailCmd) : Body := fun rq r s =>
  match railCmdChecks rq s with
  | some a => (a, s)
  | none => (.later, queueRail s (arg rq 0 1) cmd r false)

/-- The value of a RAIL_SET kind lies in its range (R140). -/
def railSetInRange (s : Chip) (k kind : Nat) (v : Int) : Bool :=
  let c := s.railCfg k
  match kind with
  | 1 => decide ((c.vMin : Int) ≤ v ∧ v ≤ c.vMax)
  | 2 => decide (v.natAbs ≤ (s.prot k).iLim)
  | _ => decide (10 ≤ v ∧ v ≤ 100000)

/-- The kind is accepted for the rail's class in the present mode (R140). -/
def railSetAdmits (s : Chip) (k kind : Nat) : Bool :=
  let service := s.mode.mode == .service
  match kind with
  | 1 => !(s.railCfg k).bus || service
  | 2 => (s.railCfg k).bus && service
  | _ => !(s.railCfg k).bus

/-- RAIL_SET (R140). -/
def bodyRailSet : Body := fun rq r s =>
  let k := arg rq 0 1
  let kind := arg rq 1 1
  let v := fieldI rq.params 4 4
  if k ≤ 15 && svcOtherRail s k then (.notInMode s, s)
  else if kind == 0 || 3 < kind then (.bare .badParam, s)
  else
    match railChecks rq s with
    | some a => (a, s)
    | none =>
      if !railSetInRange s k kind v then (.bare .outOfRange, s)
      else if !railSetAdmits s k kind then (.bare .denied, s)
      else if (s.rail k).disabled then (.bare .channelDisabled, s)
      else (.later, queueRail s k (.set kind v) r false)

/-- RAIL_STATE_ALL (R140). -/
def bodyRailStateAll : Body := fun _ _ s =>
  (.reply .ok ((List.range 16).flatMap fun k => railData s k), s)

/-- One phase's entry of RAIL_PHASES_GET (R140). -/
def phaseEntry (c : RailCfg) (r : Rail) (i : Nat) : List Byte :=
  if i < phases c then
    le 1 (tget c.im i) ++ le 1 (c.firstLane + i * (if c.buckBoost then 2 else 1)) ++ leI 2 (tget r.lp.trims i)
      ++ leI 4 (tget r.lp.iPh i)
  else zeros 8

/-- RAIL_PHASES_GET (R140).  DESIGN CHOICE: a DISABLED rail answers it as any other does; R122 names it neither among the
commands that DISABLED leaves nor is CHANNEL_DISABLED among its statuses. -/
def bodyRailPhasesGet : Body := fun rq _ s =>
  match railChecks rq s with
  | some a => (a, s)
  | none =>
    let k := arg rq 0 1
    let c := s.railCfg k
    (.reply .ok (le 1 (phases c) ++ le 1 c.firstLane ++ le 2 c.pwmPeriod
      ++ (List.range 12).flatMap (phaseEntry c (s.rail k))), s)

def execRailGet (rq : Request) (s : State) : Host.Outcome State Fault Refusal :=
  .next (s.on (serve 0x0301 {} bodyRailGet rq))

def execRailOn (rq : Request) (s : State) : Host.Outcome State Fault Refusal :=
  .next (s.on (serve 0x0302 { activeOnly := true, queue := 2 } bodyRailOn rq))

def execRailOff (rq : Request) (s : State) : Host.Outcome State Fault Refusal :=
  .next (s.on (serve 0x0303 { activeOnly := true, queue := 2 } (bodyRailCmd .off) rq))

def execRailDisable (rq : Request) (s : State) : Host.Outcome State Fault Refusal :=
  .next (s.on (serve 0x0304 { activeOnly := true, queue := 2 } (bodyRailCmd .disable) rq))

def execRailEnable (rq : Request) (s : State) : Host.Outcome State Fault Refusal :=
  .next (s.on (serve 0x0305 { activeOnly := true, queue := 2 } (bodyRailCmd .enable) rq))

def execRailSet (rq : Request) (s : State) : Host.Outcome State Fault Refusal :=
  .next (s.on (serve 0x0306 { lenLo := 8, lenHi := 8, activeOnly := true, queue := 2 } bodyRailSet rq))

def execRailStateAll (rq : Request) (s : State) : Host.Outcome State Fault Refusal :=
  .next (s.on (serve 0x0308 {} bodyRailStateAll rq))

def execRailPhasesGet (rq : Request) (s : State) : Host.Outcome State Fault Refusal :=
  .next (s.on (serve 0x0309 {} bodyRailPhasesGet rq))

/-! ## Happenings -/

/-- All start conditions of R120 hold. -/
def railMayStart (s : Chip) (k : Nat) : Bool :=
  let c := s.railCfg k
  let p := s.prot k
  let r := s.rail k
  (s.railCfg? k).isSome && r.intentOn && admitsRail s k && !stageAhead s (railStage s k)
    && decide ((p.inUv + p.inUvHyst : Nat) ≤ railInput s k)
    && (!c.bus || (slotOfRail s k).any fun j =>
        slotAdmitted s j && (batBind s j).any fun b => (s.ch b.channel).state == .on)
    && !r.otSd && (r.temp.all fun t => t < (s.aux k).otSdClear)

/-- A rail in WAIT whose start conditions hold enters RAMP_UP, preset and with its trims at zero (R116, R118, R120):
a LOAD-class reference starts at V_RAIL, a BUS-class one at zero. -/
def railStart (k : Nat) (s : Chip) : Chip :=
  if (s.rail k).state == .wait && railMayStart s k then
    let c := s.railCfg k
    let s := s.modRail k fun r =>
      { r with stageWait := false, lp := { r.lp with
          ref := if c.bus then 0 else r.lp.vRail, eI1 := 0,
          trims := List.replicate (phases c) 0, trimSat := List.replicate (phases c) 0,
          balNext := s.now + (s.prot k).balPeriod } }
    setRailState (beginSwitching s k) k .rampUp []
  else s

def execRailStart (r : Fin 16) (s : State) : Host.Outcome State Fault Refusal := .next (s.on (railStart r))

def execRailInputUv (r : Fin 16) (s : State) : Host.Outcome State Fault Refusal := .next (s.on (railInputUv r))

def execOcLatch (r : Fin 16) (s : State) : Host.Outcome State Fault Refusal := .next (s.on (ocLatch r))

/-- Two consecutive samples of a phase current exceed PH_OC in magnitude (R133). -/
def phaseOc (k phase : Nat) (a b : Int) (s : Chip) : Chip :=
  let c := s.railCfg k
  let big (code : Int) : Bool := decide ((s.prot k).phOc < (phaseCurrent c code).natAbs)
  if (s.railCfg? k).isSome && decide (phase < phases c) && railLive (s.rail k) && big a && big b then
    railStop (setFault s (railSource 2 k)) k .phaseOc .latched
  else s

def execPhaseOc (r : Fin 16) (phase : Fin 12) (a b : Int) (s : State) : Host.Outcome State Fault Refusal :=
  .next (s.on (phaseOc r phase a b))

def execRailOvervoltage (r : Fin 16) (s : State) : Host.Outcome State Fault Refusal :=
  .next (s.on (railOvervoltage r))

/-- The warning level of the stage temperature; an input out of range counts as at or above OT_SD_SET, which lies above
OT_WARN_SET (R136, R137). -/
def otWarnLevel (a : RailAux) (was bad : Bool) (t : Int) : Bool :=
  if bad || decide (a.otWarnSet ≤ t) then true else if t ≤ a.otWarnClear then false else was

/-- The shutdown level of the stage temperature; an input out of range counts as at or above it (R136). -/
def otSdLevel (a : RailAux) (was bad : Bool) (t : Int) : Bool :=
  if bad || decide (a.otSdSet ≤ t) then true else if t ≤ a.otSdClear then false else was

/-- The stage temperature is read and its levels act (R136, R142). -/
def stageTempRead (k : Nat) (s : Chip) : Chip :=
  let a := s.aux k
  let h := tget s.hk a.tempIn
  if (s.railCfg? k).isNone || a.tempIn == 0xFF || !h.taken || decide (s.now < (s.rail k).tempNext) then s
  else
    let s := s.modRail k fun r => { r with tempNext := s.now + 1000 }
    let t := rdiv ((h.uV - a.tempOffset) * 100) a.tempSlope
    let out := decide (t < -4000) || decide (17500 < t)
    let s := evalFault s (railSource 7 k) out
    let r := s.rail k
    let okSince := if out then none else some (r.tempOk.getD s.now)
    let bad := out || (r.tempBad && !(okSince.any fun since => since + 100000 ≤ s.now))
    let warn := otWarnLevel a r.otWarn bad t
    let sd := otSdLevel a r.otSd bad t
    let s := s.modRail k fun r =>
      { r with temp := some t, tempBad := bad, tempOk := okSince, otWarn := warn, otSd := sd }
    let s := evalFault s (railSource 5 k) warn
    let s := evalFault s (railSource 6 k) sd
    let s := if warn != r.otWarn then post s 0x03 (railBody s k 3) [] else s
    if sd && railLive (s.rail k) then railStop s k .overtemp .otStop
    else if !sd && (s.rail k).state == .otStop && (s.rail k).intentOn then setRailState s k .wait []
    else s

def execStageTempRead (r : Fin 16) (s : State) : Host.Outcome State Fault Refusal := .next (s.on (stageTempRead r))

/-- |I_RAIL| has stayed below BURST_ENTER_I for BURST_DWELL: BURST (R130). -/
def burstEnter (k : Nat) (s : Chip) : Chip :=
  if (s.rail k).state == .on && (s.aux k).burstEnable && !(s.railCfg k).bus
      && ((s.rail k).lowSince.any fun t => t + (s.aux k).burstDwell * 1000 ≤ s.now) then
    setRailState (burstAnew s k) k .burst []
  else s

def execBurstEnter (r : Fin 16) (s : State) : Host.Outcome State Fault Refusal := .next (s.on (burstEnter r))

/-- A sleeping rail wakes when its output has fallen far enough, or after BURST_SLEEP (R130). -/
def burstWake (k : Nat) (s : Chip) : Chip :=
  let r := s.rail k
  let a := s.aux k
  match r.sleepSince with
  | some t =>
    if r.state == .burst && (decide (r.lp.vRail ≤ (r.vTarget : Int) * 1000 - 1000 * a.burstLow)
        || decide (t + a.burstSleep ≤ s.now)) then burstWakes s k
    else s
  | none => s

def execBurstWake (r : Fin 16) (s : State) : Host.Outcome State Fault Refusal := .next (s.on (burstWake r))

/-- A trim's new value (R116), from N times the distance of the phase's current from the mean.  DESIGN CHOICE: round()
takes halves away from zero. -/
def trimStep (p : RailProt) (n : Nat) (far d : Int) : Int :=
  clampI (-(p.balTrimMax : Int)) p.balTrimMax (d + roundAway (p.balGain * far) (65536000 * n))

/-- The balance adjustment, every BAL_PERIOD ticks while balancing is active (R116). -/
def currentBalance (k : Nat) (s : Chip) : Chip :=
  let r := s.rail k
  let p := s.prot k
  let n := phases (s.railCfg k)
  if balances s k && decide (r.lp.balNext ≤ s.now) then
    let trims := (List.range n).map fun i => trimStep p n (r.lp.iRail - n * tget r.lp.iPh i) (tget r.lp.trims i)
    let sat := (List.range n).map fun i =>
      if (tget trims i).natAbs = p.balTrimMax then tget r.lp.trimSat i + 1 else 0
    let s := s.modRail k fun r =>
      { r with bal := true, lp := { r.lp with trims := trims, trimSat := sat, balNext := s.now + p.balPeriod } }
    if sat.any fun c => 1000 ≤ c then setFault s (railSource 8 k) else s
  else s

def execCurrentBalance (r : Fin 16) (s : State) : Host.Outcome State Fault Refusal := .next (s.on (currentBalance r))

end Sys2Proof.Machine
end

