-- ==== Sys2Proof/Machine/LoadLink.lean ====
section
/-! DEFINITION. Load links: frames, transitions and their acknowledge level, throttle reads and burst requests
(R176-R205).  The admission of bursts is the energy step's. -/

namespace Sys2Proof.Machine

/-- A frame is rejected: it changes nothing but the reject record and count (R185). -/
def llReject (s : Chip) (n : Nat) (why : Reject) (seq op : Nat) : Chip :=
  let s := s.modLink n fun l =>
    { l with lastReject := why, rejSeq := seq % 8, rejOp := op % 16, rejected := sat32 l.rejected 1 }
  if why == .crc then setFault s (0x0600 + n) else s

/-- A frame is accepted (R185, R203). -/
def llAccept (s : Chip) (n seq : Nat) : Chip :=
  s.modLink n fun l => { l with lastSeq := seq % 8, accepted := sat32 l.accepted 1 }

/-- LINK changes, with its event (R187, R205); LINK_LOST is live while LINK is LOST (R202, R403). -/
def setLinkState (s : Chip) (n : Nat) (st : LinkState) : Chip :=
  if (s.link n).link == st then s
  else postLink (setLive (s.modLink n fun l => { l with link := st }) (0x0610 + n) (st == .lost)) n 1

/-- CRC-8 of a frame's bits 39:8 (R182). -/
def llCrc (hi : Nat) : Nat := (crc8 (le 4 hi).reverse).toNat

/-- The response frame (R181): START 0, ATTN, the request's opcode and SEQ, the payload, the CRC. -/
def llResponse (attn : Bool) (op seq payload : Nat) : BitVec 40 :=
  let hi := bitN 30 attn + op % 8 * 2 ^ 27 + seq % 8 * 2 ^ 24 + payload % 2 ^ 24
  BitVec.ofNat 40 (hi * 256 + llCrc hi)

/-- The active member answers with a response frame; a standby drives nothing (R180, R200). -/
def llRespond (s : Chip) (n op seq payload : Nat) : Chip :=
  s.modLink n fun l =>
    { l with response := if s.mode.role == .standby then none else some (llResponse l.attn op seq payload) }

/-- The bound rail of a link, where it has one (R177). -/
def linkRail (s : Chip) (n : Nat) : Option Nat :=
  let k := (s.linkCfg n).rail
  if k == 0xFF then none else some k

/-- The rail is in RAMP_UP, ON or BURST (R189). -/
def railRuns (s : Chip) (k : Nat) : Bool :=
  match (s.rail k).state with
  | .rampUp | .on | .burst => true
  | _ => false

/-- Version agreement (R188, R307): the lower of the two highest, if it is at least the higher of the two lowest. -/
def agree (theirHigh theirLow ourHigh ourLow : Nat) : Option Nat :=
  let v := min theirHigh ourHigh
  if max theirLow ourLow ≤ v then some v else none

/-- HELLO of a load (R187, R188). -/
def llHello (s : Chip) (n seq arg : Nat) : Chip :=
  match agree (arg / 65536 % 256) (arg / 256 % 256) 0x10 0x10 with
  | some v =>
    let s := llAccept s n seq
    let s := s.modLink n fun l => { l with version := v }
    let s := setLinkState s n .up
    llRespond s n 1 seq (v * 65536 + 0x1010)
  | none =>
    let s := llRespond s n 1 seq 0x1010
    llReject s n .version seq 1

/-- SETV's own checks and effect (R189, R190). -/
def llSetv (s : Chip) (n seq arg : Nat) : Chip :=
  match linkRail s n with
  | none => llReject s n .noRail seq 2
  | some k =>
    if !railSetInRange s k 1 (arg * 5) then llReject s n .outOfRange seq 2
    else if !railRuns s k then llReject s n .railState seq 2
    else if !queueRoom s 2 then llReject s n .busy seq 2
    else
      let s := llAccept s n seq
      let s := s.modLink n fun l => { l with llak := true, setv := some (s.now, 0), lastReq := some (2, seq % 8, arg) }
      queueRail s k (.set 1 (arg * 5)) {} false (some n)

/-- SLEW's own checks and effect (R189). -/
def llSlew (s : Chip) (n seq arg : Nat) : Chip :=
  match linkRail s n with
  | none => llReject s n .noRail seq 3
  | some k =>
    if !railSetInRange s k 3 arg then llReject s n .outOfRange seq 3
    else if !queueRoom s 2 then llReject s n .busy seq 3
    else queueRail (llAccept s n seq) k (.set 3 arg) {} false (some n)

/-- BURST_REQ's own checks and effect (R195): power in 10 W, duration in 10 ms steps.  DESIGN CHOICE: REFUSAL returns to
NONE with the new request. -/
def llBurstReq (s : Chip) (n seq arg : Nat) : Chip :=
  let c := s.linkCfg n
  let p := arg / 4096 % 4096 * 10000
  let d := arg % 4096 * 10
  if p == 0 || d == 0 then llReject s n .badParam seq 4
  else if c.burstPMax < p || c.burstDMax < d then llReject s n .outOfRange seq 4
  else if (s.burst n).grant == .full || (s.burst n).grant == .partial_ then llReject s n .grantActive seq 4
  else
    let s := llAccept s n seq
    let s := s.modLink n fun l => { l with llak := true, lastReq := some (4, seq % 8, arg) }
    s.modBurst n fun b => { b with grant := .pending, refusal := .none, reqP := p, reqD := d, decided := none }

/-- BURST_REL (R198). -/
def llBurstRel (s : Chip) (n seq : Nat) : Chip :=
  if (s.burst n).running then (llAccept s n seq).modBurst n fun b => { b with releasing := true }
  else llReject s n .noGrant seq 5

/-- Time remaining of a running grant in µs (R193). -/
def burstLeft (s : Chip) (b : Burst) : Nat := b.start + b.dur * 1000 - s.now

/-- The values READ returns (R193); none for a reserved address. -/
def llReadValue (s : Chip) (n a : Nat) : Option Nat :=
  let l := s.link n
  let b := s.burst n
  let i24 (v : Int) : Nat := (v % (2 ^ 24 : Nat)).toNat
  match a with
  | 0 => some (linkWord s n % 2 ^ 24)
  | 1 => some (l.lastReject.code * 2 ^ 16 + l.rejSeq % 8 * 2 ^ 13 + l.rejOp % 16 * 2 ^ 9)
  | 2 => some (if b.running then b.power / 10000 * 4096 + (burstLeft s b + 9999) / 10000 else 0)
  | 3 =>
    some (s.energy.throttle * 128 / 65536 * 2 ^ 16
      + (match b.ceiling with | some c => (rdiv c 10000).toNat % 2 ^ 16 | none => 0xFFFF))
  | 4 => some (match linkRail s n with | some k => (rdiv (s.rail k).lp.vRail 5000).toNat % 2 ^ 24 | none => 0)
  | 5 => some (match linkRail s n with | some k => rdivN (s.rail k).vTarget 5 % 2 ^ 24 | none => 0)
  | 6 => some (match linkRail s n with | some k => i24 (rdiv (s.rail k).lp.iRail 10) | none => 0)
  | 7 => some (l.version % 256 * 2 ^ 16 + 0x1010)
  | _ => none

/-- READ (R193): reading STATUS clears ATTN; a reserved address is answered with all ones and recorded as rejected. -/
def llRead (s : Chip) (n seq arg : Nat) : Chip :=
  let a := arg / 65536 % 256
  match llReadValue s n a with
  | some v =>
    let s := llRespond (llAccept s n seq) n 6 seq v
    if a == 0 then s.modLink n fun l => { l with attn := false } else s
  | none => llReject (llRespond s n 6 seq 0xFFFFFF) n .badAddress seq 6

/-- LINK is DOWN or no version is agreed (R185 test 4). -/
def llNoVersion (l : Link) : Bool := l.link == .down || l.version == 0

/-- A request frame with a good CRC is judged in the order of R185 and acted on.  DESIGN CHOICE: every frame with a good CRC
is valid for LINK_TIMEOUT (R187), also one that a later test rejects; a repeat, which is not executed again (R183), is not
counted as accepted, and LAST_SEQ stays. -/
def llFrame (n op seq arg : Nat) (s : Chip) : Chip :=
  if (s.linkCfg? n).isNone || !studioRuns s then s
  else
    let s := s.modLink n fun l => { l with lastFrame := s.now }
    let l := s.link n
    if op == 0 || 7 < op then llReject s n .badOpcode seq op
    else if l.disabled && !(op == 5 || op == 6 || op == 7) then llReject s n .linkDisabled seq op
    else if llNoVersion l && !(op == 1 || op == 6 || op == 7) then llReject s n .noHello seq op
    else if (op == 2 || op == 4) && l.lastReq == some (op, seq % 8, arg) then
      if l.llak then s else s.modLink n fun l => { l with llak := true, repeatFall := true }
    else if (op == 2 || op == 4) && l.llak then llReject s n .busy seq op
    else
      match op with
      | 1 => llHello s n seq arg
      | 2 => llSetv s n seq arg
      | 3 => llSlew s n seq arg
      | 4 => llBurstReq s n seq arg
      | 5 => llBurstRel s n seq
      | 6 => llRead s n seq arg
      | _ => llRespond (llAccept s n seq) n 7 seq arg

def execLlHello (n : Fin 8) (f : LlFrame) (s : State) : Host.Outcome State Fault Refusal :=
  .next (s.on (llFrame n 1 f.seq.toNat f.arg.toNat))

def execSetv (n : Fin 8) (f : LlFrame) (s : State) : Host.Outcome State Fault Refusal :=
  .next (s.on (llFrame n 2 f.seq.toNat f.arg.toNat))

def execSlew (n : Fin 8) (f : LlFrame) (s : State) : Host.Outcome State Fault Refusal :=
  .next (s.on (llFrame n 3 f.seq.toNat f.arg.toNat))

def execBurstReq (n : Fin 8) (f : LlFrame) (s : State) : Host.Outcome State Fault Refusal :=
  .next (s.on (llFrame n 4 f.seq.toNat f.arg.toNat))

def execBurstRel (n : Fin 8) (f : LlFrame) (s : State) : Host.Outcome State Fault Refusal :=
  .next (s.on (llFrame n 5 f.seq.toNat f.arg.toNat))

def execLlRead (n : Fin 8) (f : LlFrame) (s : State) : Host.Outcome State Fault Refusal :=
  .next (s.on (llFrame n 6 f.seq.toNat f.arg.toNat))

def execLlPing (n : Fin 8) (f : LlFrame) (s : State) : Host.Outcome State Fault Refusal :=
  .next (s.on (llFrame n 7 f.seq.toNat f.arg.toNat))

/-- A whole frame as received, its CRC judged first (R185): the row of frames that a test rejects. -/
def llRejectedFrame (n : Nat) (bits : BitVec 40) (s : Chip) : Chip :=
  let v := bits.toNat
  let hi := v / 256
  let seq := v / 2 ^ 32 % 8
  let op := v / 2 ^ 35 % 16
  if (s.linkCfg? n).isNone || !studioRuns s then s
  else if llCrc hi != v % 256 then llReject s n .crc seq op
  else llFrame n op seq (v / 256 % 2 ^ 24) s

def execLlRejectedFrame (n : Fin 8) (bits : BitVec 40) (s : State) : Host.Outcome State Fault Refusal :=
  .next (s.on (llRejectedFrame n bits))

/-- 2 µs have passed within a frame without an edge (R179): the frame is discarded; what its SEQ and opcode were is
not stated, so the reject record holds free values. -/
def llBitTimeout (n : Nat) (s : Chip) : Chip :=
  if (s.linkCfg? n).isNone || !studioRuns s then s
  else
    let s' := setFault s (0x0608 + n)
    llReject s'.drawn n .bitTimeout (s'.draw % 8) (s'.draw / 8 % 16)

def execLlBitTimeout (n : Fin 8) (s : State) : Host.Outcome State Fault Refusal := .next (s.on (llBitTimeout n))

/-- No valid frame for LINK_TIMEOUT while UP (R187). -/
def linkLost (n : Nat) (s : Chip) : Chip :=
  let c := s.linkCfg n
  if (s.linkCfg? n).isSome && (s.link n).link == .up && c.timeout != 0
      && decide ((s.link n).lastFrame + c.timeout * 1000 ≤ s.now) then
    setLinkState (setFault s (0x0610 + n)) n .lost
  else s

def execLinkLost (n : Fin 8) (s : State) : Host.Outcome State Fault Refusal := .next (s.on (linkLost n))

/-- The reference of the link's rail equals V_TARGET (R190). -/
def refArrived (s : Chip) (n : Nat) : Bool :=
  (linkRail s n).any fun k => (s.rail k).lp.ref == (s.rail k).vTarget * 1000

/-- The reference has arrived and V_RAIL has stayed near V_TARGET for SETTLE_TIME ticks: LLAKn falls (R190). -/
def setvSettled (n : Nat) (s : Chip) : Chip :=
  if refArrived s n && (s.link n).setv.any fun t => (s.linkCfg n).settleTime ≤ t.2 then
    s.modLink n fun l => { l with setv := none, llak := false }
  else s

def execSetvSettled (n : Fin 8) (s : State) : Host.Outcome State Fault Refusal := .next (s.on (setvSettled n))

/-- SETTLE_MAX has passed, or the rail has left RAMP_UP, ON and BURST (R190). -/
def settleTimeout (n : Nat) (s : Chip) : Chip :=
  let runs := (linkRail s n).any (railRuns s)
  if (s.link n).setv.any fun t => t.1 + (s.linkCfg n).settleMax * 1000 ≤ s.now || !runs then
    let s := s.modLink n fun l => { l with setv := none, llak := false }
    postLink (setFault s (0x0618 + n)) n 4
  else s

def execSettleTimeout (n : Fin 8) (s : State) : Host.Outcome State Fault Refusal := .next (s.on (settleTimeout n))

/-- The feed has drawn above the ceiling for 2 × LL_POLL_MAX (R194). -/
def throttleIgnored (n : Nat) (s : Chip) : Chip :=
  if (s.burst n).overSince.any fun t => t + 2 * (s.linkCfg n).pollMax * 1000 ≤ s.now then evalFault s (0x0620 + n) true
  else s

def execThrottleIgnored (n : Fin 8) (s : State) : Host.Outcome State Fault Refusal := .next (s.on (throttleIgnored n))

/-- A granted burst has run for its duration (R198). -/
def burstEnd (n : Nat) (s : Chip) : Chip :=
  let b := s.burst n
  if b.running && decide (b.start + b.dur * 1000 ≤ s.now) then
    if (s.link n).disabled then endGrant s n .withdrawn .linkDisabled else endGrant s n .ended .none
  else s

def execBurstEnd (n : Fin 8) (s : State) : Host.Outcome State Fault Refusal := .next (s.on (burstEnd n))

/-- The decision of the energy step applies (R197): GRANT and REFUSAL take their values, LLAKn falls, and a granted
burst starts. -/
def applyGrant (s : Chip) (n : Nat) : Chip :=
  match (s.burst n).decided with
  | none => s
  | some d =>
    let go := grants d
    let s := s.modBurst n fun b =>
      { b with grant := d.1, refusal := d.2, decided := none, running := go,
               start := if go then s.now else b.start, startHall := if go then s.hall else b.startHall }
    let s := s.modLink n fun l => { l with llak := l.setv.isSome }
    postLink s n 2

/-- One tick of a link: decisions and releases take effect, a repeat's acknowledge falls, the settle count runs, and
ATTN sets when the bound rail leaves its running states (R183, R190, R193, R197, R198). -/
def linkTick (s : Chip) (n : Nat) : Chip :=
  match s.linkCfg? n with
  | none => s
  | some c =>
    let s := applyGrant s n
    let s := if (s.burst n).releasing && (s.burst n).running then endGrant s n .released .none else s
    let runs := (linkRail s n).any (railRuns s)
    let settled := (linkRail s n).any fun k =>
      let r := s.rail k
      decide ((r.lp.vRail - r.vTarget * 1000).natAbs ≤ c.settleWin * 1000)
    s.modLink n fun l =>
      { l with llak := l.llak && !(l.repeatFall && l.setv.isNone && (s.burst n).grant != .pending), repeatFall := false,
               attn := l.attn || (l.railUp && !runs), railUp := runs,
               setv := l.setv.map fun t => (t.1, if settled then t.2 + 1 else 0) }

/-! ## Opcodes (R203) -/

/-- Index and configuration of a link request (R203). -/
def linkChecks (rq : Request) (s : Chip) : Option Ans :=
  let n := arg rq 0 1
  if 7 < n then some (.bare .outOfRange)
  else if (s.linkCfg? n).isNone then some (.bare .configInvalid)
  else none

/-- The link state word's bytes; an unconfigured link shows its reset word. -/
def linkData (s : Chip) (n : Nat) : List Byte := le 4 (linkWord s n)

/-- LL_GET's reply data (R203). -/
def linkGetData (s : Chip) (n : Nat) : List Byte :=
  let l := s.link n
  let b := s.burst n
  linkData s n ++ le 4 (((linkRail s n).map fun k => (s.rail k).vTarget).getD 0) ++ leI 4 (b.ceiling.getD (-1))
    ++ le 4 (if b.running then b.power else 0) ++ le 4 (if b.running then b.rectPart else 0) ++ le 4 b.reqP ++ le 4 (b.reqD * 1000) ++ le 8 (earmarkLeft s b)
    ++ le 8 (if b.running then b.startHall else 0) ++ le 4 l.accepted ++ le 4 l.rejected
    ++ le 2 (s.chCfg (s.linkCfg n).channel).gen ++ zeros 2

/-- LL_GET (R203). -/
def bodyLlGet : Body := fun rq _ s =>
  match linkChecks rq s with
  | some a => (a, s)
  | none => (.reply .ok (linkGetData s (arg rq 0 1)), s)

/-- LL_STATE_ALL (R203). -/
def bodyLlStateAll : Body := fun _ _ s => (.reply .ok ((List.range 8).flatMap (linkData s)), s)

/-- LL_DISABLE (R198, R203): a pending request is refused; a running burst runs to its end. -/
def llDisable (s : Chip) (n : Nat) : Chip :=
  let s := s.modLink n fun l => { l with disabled := true }
  refuseBurst s n .linkDisabled

def bodyLlDisable : Body := fun rq _ s =>
  match linkChecks rq s with
  | some a => (a, s)
  | none =>
    let s := llDisable s (arg rq 0 1)
    (.reply .ok (linkData s (arg rq 0 1)), s)

/-- LINK goes to DOWN, and no version is agreed until a HELLO (R187, R203). -/
def linkDown (s : Chip) (n : Nat) : Chip :=
  let s := setLinkState s n .down
  s.modLink n fun l => { l with version := 0 }

/-- LL_ENABLE (R203). -/
def bodyLlEnable : Body := fun rq _ s =>
  match linkChecks rq s with
  | some a => (a, s)
  | none =>
    let n := arg rq 0 1
    let s := linkDown (s.modLink n fun l => { l with disabled := false }) n
    (.reply .ok (linkData s n), s)

def execLlGet (rq : Request) (s : State) : Host.Outcome State Fault Refusal :=
  .next (s.on (serve 0x0410 {} bodyLlGet rq))

def execLlStateAll (rq : Request) (s : State) : Host.Outcome State Fault Refusal :=
  .next (s.on (serve 0x0411 {} bodyLlStateAll rq))

def execLlDisable (rq : Request) (s : State) : Host.Outcome State Fault Refusal :=
  .next (s.on (serve 0x0412 { activeOnly := true } bodyLlDisable rq))

def execLlEnable (rq : Request) (s : State) : Host.Outcome State Fault Refusal :=
  .next (s.on (serve 0x0413 { activeOnly := true } bodyLlEnable rq))

end Sys2Proof.Machine
end

