-- ==== Sys2Proof/Machine/Energy.lean ====
section
/-! DEFINITION. Bus energy: the energy step with its sharing, store, cap, throttle, burst and raise parts, the weights
and pools, and the energy opcodes (R143-R175, R194-R197). -/

namespace Sys2Proof.Machine

/-! ## Shelf quantities (R143, R144) -/

/-- Body of an energy event (R175). -/
def energyBody (s : Chip) (kind ch : Nat) : List Byte :=
  le 1 kind ++ le 1 ch ++ zeros 2 ++ le 4 (energyWord s) ++ le 8 s.hall

/-- Posts an energy event where a quantity has changed. -/
def energyEvent (s : Chip) (changed : Bool) (kind ch : Nat) : Chip :=
  if changed then post s 0x04 (energyBody s kind ch) [] else s

/-- Mean power of a channel over the last energy period, mW (R143). -/
def meanPower (s : Chip) (n : Nat) : Int := tget s.book.means n

/-- Channels with a role, leaders and single ones. -/
def channelsOf (s : Chip) (role : Nat) : List Nat :=
  (List.range 32).filter fun n => (s.chCfg n).role == role && !followsLeader s n

/-- Sum of `f` over a list of numbers. -/
def sumOver (l : List Nat) (f : Nat → Int) : Int := l.foldl (fun a n => a + f n) 0

/-- Status age limit in ticks (R144). -/
def ageLimit (s : Chip) : Nat := 3 * s.img.energy.rectStatusPeriod * 1000

/-- The last good read counts: it was taken since the channel entered ON (R144). -/
def goodSinceOn (r : Rect) : Option Nat := r.goodTick.filter fun t => r.onTick ≤ t

/-- The status age of a rectifier has run out (R144): from its last counting read, else from entering ON. -/
def ageOut (s : Chip) (n : Nat) : Bool :=
  let r := s.rect n
  decide ((goodSinceOn r).getD r.onTick + ageLimit s < s.now)

/-- The rectifier counts as available (R144). -/
def rectAvailable (s : Chip) (n : Nat) : Bool :=
  let r := s.rect n
  (s.ch n).state == .on && (goodSinceOn r).isSome && !ageOut s n && r.inputGood && !r.fault

/-- RECT_FAULT holds (R172): a status read within the age limit reports a fault, or the age limit has run out. -/
def rectFaulty (s : Chip) (n : Nat) : Bool :=
  let r := s.rect n
  (r.fault && r.goodTick.any fun t => s.now ≤ t + ageLimit s) || ((s.ch n).state == .on && ageOut s n)

/-- RECT_POWER of a rectifier channel (R171). -/
def rectRating (s : Chip) (n : Nat) : Nat := tget s.img.rectPower n

/-- Power an available rectifier adds to P_AV (R143, R144). -/
def rectPowerOf (s : Chip) (n : Nat) : Nat :=
  let p := rectRating s n
  let c := (s.rect n).capability
  if c == 0 then p else min p c

/-- RECT_BLIND (R144): no rectifier has a good read within the age limit while one RECTIFIER channel is ON. -/
def rectBlindNow (s : Chip) : Bool :=
  let on := (channelsOf s 1).filter fun n => (s.ch n).state == .on
  !on.isEmpty && on.all (ageOut s)

/-- The effective cap (R143): the lowest of the caps in force; none in SERVICE (R47, R164). -/
def effCap (s : Chip) : Option Nat :=
  if s.mode.mode == .service then none else
  let l := (if s.energy.shelfCap == 0 then [] else [s.energy.shelfCap])
    ++ (if s.energy.hallAlloc == 0 then [] else [s.energy.hallAlloc])
    ++ (if s.dogs.hostLoss && s.img.dogs.hostlossCap != 0 then [s.img.dogs.hostlossCap] else [])
  l.foldl (fun a c => some (match a with | some b => min b c | none => c)) none

/-- The cap where it acts: in RUN and BRIDGE (R164). -/
def actingCap (s : Chip) : Option Nat := if running s then effCap s else none

/-- The cap as it is reported: 0 none (R173). -/
def capField (s : Chip) : Nat := (effCap s).getD 0

/-- min (P, CAP), CAP absent being no bound. -/
def capped (s : Chip) (p : Int) : Int :=
  match effCap s with
  | some c => min p c
  | none => p

/-- Power of the loads, and output of the rectifiers, of the values latched at a boundary (R143). -/
def loadPower (s : Chip) : Int := sumOver (channelsOf s 3 ++ channelsOf s 4) fun k => max 0 (chPower s k)
def rectOutput (s : Chip) : Int := sumOver (channelsOf s 1) fun k => max 0 (-(chPower s k))

/-- The shelf quantities of the step: demand and P_RO means over the ticks since the last one, the others of the last
tick (R143). -/
def formQuantities (s : Chip) : Chip :=
  let n := s.book.n
  let means := (List.range 32).map fun k => if n == 0 then chPower s k else rdiv (tget s.book.sums k) n
  let pAv := sumOver ((channelsOf s 1).filter (rectAvailable s)) fun k => (rectPowerOf s k : Int)
  { s with
    book := { s.book with means := means, sums := [], demandSum := 0, roSum := 0, n := 0, stepHall := s.hall }
    energy := { s.energy with
      vBus := (s.ch s.img.energy.busSenseCh).lat.vIn,
      demand := if n == 0 then loadPower s else rdiv s.book.demandSum n,
      pRo := if n == 0 then rectOutput s else rdiv s.book.roSum n,
      pChg := sumOver (channelsOf s 2) (chPower s),
      pAv := if rectBlindNow s then 0 else pAv, rectBlind := rectBlindNow s } }

/-- Availability of each rectifier, with its event; one that joins starts with trim zero, one that leaves keeps its
trim (R144, R146).  DESIGN CHOICE: it joins with trim zero in BRIDGE too, where R146 freezes the trims. -/
def rectAvail (s : Chip) : Chip :=
  (channelsOf s 1).foldl (fun s n =>
    let now := rectAvailable s n
    let was := (s.rect n).avail
    let s := s.modRect n fun r => { r with avail := now, sharing := now, trim := if now && !was then 0 else r.trim }
    energyEvent (evalFault s (0x0520 + n) (rectFaulty s n)) (now != was) 4 n) s

/-! ## Rectifier sharing (R145, R146) -/

/-- Asks for a setpoint write where it moved enough or the last write failed (R145, R146). -/
def askWrite (s : Chip) (n : Nat) (mV : Int) : Chip :=
  let r := s.rect n
  if (s.img.energy.rectWriteMin : Int) ≤ ((mV - r.written).natAbs : Int) || r.writeFail then
    s.modRect n fun r => { r with writing := some mV, written := mV }
  else s

/-- The RUN setpoint of a rectifier with its present trims (R145). -/
def runSetpoint (s : Chip) (n : Nat) : Int := s.img.energy.vBusSet + s.energy.busTrim + (s.rect n).trim

/-- SHARE_RECTIFIERS (R145). -/
def shareRectifiers (s : Chip) : Chip :=
  let e := s.img.energy
  let set := (channelsOf s 1).filter fun n => (s.rect n).sharing
  let total := sumOver set fun n => -(chCurrent s n)
  let wsum := sumOver set fun n => (rectRating s n : Int)
  let bus := clampI (-(e.busTrimMax : Int)) e.busTrimMax
    (s.energy.busTrim + rdiv (e.busKi * (e.vBusSet - s.energy.vBus)) 65536)
  let s := { s with energy := { s.energy with busTrim := bus } }
  set.foldl (fun s n =>
    let i := -(chCurrent s n)
    let target := rdiv (total * rectRating s n) wsum
    let s := s.modRect n fun r =>
      { r with target := target,
               trim := if r.writeFail then r.trim else
                 clampI (-(e.shareTrimMax : Int)) e.shareTrimMax (r.trim + rdiv (e.shareKi * (target - i)) 65536000) }
    askWrite s n (runSetpoint s n)) s

/-- In BRIDGE every rectifier is written the bridge reference less RECT_STANDOFF (R146); in the handover each available
one its RUN setpoint with the frozen trims (R158).  DESIGN CHOICE: RECT_WRITE_MIN holds back these writes too. -/
def standoffRectifiers (s : Chip) : Chip :=
  (channelsOf s 1).foldl (fun s n =>
    if s.mode.stage == .handover then if (s.rect n).avail then askWrite s n (runSetpoint s n) else s
    else askWrite s n (s.energy.vBref - s.img.energy.rectStandoff)) s

/-! ## Pools (R160-R163) -/

/-- The slot counts (R160): admitted, feed ON, rail ARMED or BRIDGING. -/
def slotCounts (s : Chip) (j : Nat) : Bool :=
  slotAdmitted s j && slotStands s j && (batBind s j).any fun b => (s.ch b.channel).state == .on

/-- E_ABOVE of a slot (R160). -/
def slotAbove (s : Chip) (j : Nat) : Nat := slotFloorEnergy s j - slotReserve s j

/-- Sum over the slots that count. -/
def poolSum (s : Chip) (f : Nat → Nat) : Nat :=
  (List.range 12).foldl (fun a j => if slotCounts s j then a + f j else a) 0

/-- E_EARMARK (R160): the earmarks of all grants, a grant decided in this step with its whole earmark. -/
def earmarkSum (s : Chip) : Nat :=
  (List.range 8).foldl (fun a n =>
    let b := s.burst n
    a + (if b.decided.any grants then b.storePart * b.dur
      else earmarkLeft s b)) 0

/-- Rectifier parts of unreleased grants (R160). -/
def rectParts (s : Chip) : Nat :=
  (List.range 8).foldl (fun a n =>
    let b := s.burst n
    if b.running || b.decided.isSome then a + b.rectPart else a) 0

/-- The pools are formed anew, every WEIGHT_PERIOD and at every grant decision (R160, R162). -/
def formPools (s : Chip) : Chip :=
  let eff := s.img.energy.bridgeEff
  let store := rdivN (eff * poolSum s (slotAbove s)) 65536
  let marks := earmarkSum s
  { s with energy := { s.energy with
      eStore := store, eRide := rdivN (eff * poolSum s (slotFloorEnergy s)) 65536, eEarmark := marks,
      eFree := store - marks, headroom := max 0 (capped s s.energy.pAv - s.energy.demand - rectParts s) } }

/-- EARMARK_OVER and LOW_STORE (R162, R163), with their events. -/
def storeMarks (s : Chip) : Chip :=
  let e := s.energy
  let isOver := decide (e.eStore < e.eEarmark)
  let need := e.demand * 1000 * s.img.caps.lowStoreTime
  let low := if (e.eFree : Int) < need then true else if need * 11 < (e.eFree : Int) * 10 then false else e.lowStore
  let s := { s with energy := { s.energy with earmarkOver := isOver, lowStore := low } }
  let s := evalFault s 0x0503 isOver
  let s := evalFault s 0x0502 low
  let s := energyEvent s (low != e.lowStore) 2 0xFF
  energyEvent s (isOver != e.earmarkOver) 3 0xFF

/-! ## Store (R147, R148) -/

/-- Spreads a power over slots by weights, each clamped; what was clamped away is spread once more over the slots not
yet clamped (R148).  Entries are (slot, weight, bound); the answer is (slot, share). -/
def spread (p : Int) (slots : List (Nat × Nat × Int)) : List (Nat × Int) :=
  let wsum : Int := slots.foldl (fun a t => a + t.2.1) 0
  let first := slots.map fun t => (t, min t.2.2 (rdiv (p * t.2.1) wsum))
  let left := p - first.foldl (fun a t => a + t.2) 0
  let free := first.filter fun t => decide (t.2 < t.1.2.2)
  let wfree : Int := free.foldl (fun a t => a + t.1.2.1) 0
  first.map fun t =>
    if t.2 < t.1.2.2 && left != 0 then (t.1.1, min t.1.2.2 (t.2 + rdiv (left * t.1.2.1) wfree)) else (t.1.1, t.2)

/-- Rail of a slot. -/
def railOf (s : Chip) (j : Nat) : Nat := ((batBind s j).map BatCfg.rail).getD 0

/-- Slots whose rail is ARMED. -/
def armedSlots (s : Chip) : List Nat :=
  (List.range 12).filter fun j => (batBind s j).any fun b => (s.rail b.rail).state == .armed

/-- Power bound of a slot when charging and when discharging, mW (R148, R196). -/
def chargeBound (s : Chip) (j : Nat) : Int :=
  rdiv ((min (s.prot (railOf s j)).iLim (slotChargeMax s j) : Int) * railInput s (railOf s j) * 65536)
    (1000 * s.img.energy.bridgeEff)
def dischargeBound (s : Chip) (j : Nat) : Int :=
  rdiv ((min (s.prot (railOf s j)).iLim (slotDischargeMax s j) : Int) * railInput s (railOf s j) * s.img.energy.bridgeEff)
    65536000

/-- Charge setpoint of a share in mA (R148). -/
def chargeMa (s : Chip) (j : Nat) (p : Int) : Int :=
  rdiv (p * 1000 * s.img.energy.bridgeEff) (65536 * railInput s (railOf s j))
def dischargeMa (s : Chip) (j : Nat) (p : Int) : Int :=
  -(rdiv (p * 1000 * 65536) (s.img.energy.bridgeEff * railInput s (railOf s j)))

/-- A setpoint enters the energy class's queue, while it has room (R29). -/
def queueEnergy (s : Chip) (e : EnergySet) : Chip :=
  if s.book.queue.length < 64 then { s with book := { s.book with queue := s.book.queue ++ [e] } } else s

/-- Sets the charge setpoints of all ARMED rails: the listed shares, zero for the rest (R147). -/
def setCharges (s : Chip) (shares : List (Nat × Int)) : Chip :=
  (armedSlots s).foldl (fun s j =>
    let v := ((shares.find? fun t => t.1 == j).map (·.2)).getD 0
    queueEnergy s (.charge (railOf s j) v)) s

/-- discharge(P) (R148): the state and the power given. -/
def discharge (s : Chip) (p : Int) : Chip × Int :=
  let slots := (armedSlots s).filter fun j => slotAbove s j != 0
  let shares := if slots.isEmpty then [] else spread p (slots.map fun j => (j, slotAbove s j, dischargeBound s j))
  (setCharges s (shares.map fun t => (t.1, dischargeMa s t.1 t.2)), shares.foldl (fun a t => a + t.2) 0)

/-- Shares of a charge power (R148). -/
def chargeShares (s : Chip) (p : Int) : List (Nat × Int) :=
  let slots := (armedSlots s).filter fun j => slotNeed s j != 0
  if slots.isEmpty then [] else spread p (slots.map fun j => (j, slotNeed s j, chargeBound s j))

/-- charge(P) (R148). -/
def charge (s : Chip) (p : Int) : Chip := setCharges s ((chargeShares s p).map fun t => (t.1, chargeMa s t.1 t.2))

/-- Charge power R147 allows for a room. -/
def chargeFor (s : Chip) (room : Int) : Int :=
  let p := min room s.img.caps.chargePMax
  match s.energy.chargeMode with
  | .hold => 0
  | .auto => max 0 p
  | .limit => max 0 (min p s.energy.hostLimit)

/-- P_AV less the charge margin (R147). -/
def marginPower (s : Chip) : Int := rdiv (s.energy.pAv * (65536 - s.img.caps.chargeMargin)) 65536

/-- Charge the shelf would take without a cap (R165, R168): what the eligible slots take of it. -/
def uncappedCharge (s : Chip) : Int :=
  let p := chargeFor s (marginPower s - s.energy.demand)
  if s.energy.pAv < s.energy.demand || p ≤ 0 then 0 else (chargeShares s p).foldl (fun a t => a + t.2) 0

/-- Cap shaving is allowed: CAP_SHAVE, and not suspended by LOW_STORE (R163). -/
def shaves (s : Chip) : Bool := s.img.caps.capShave && !s.energy.lowStore

/-- STORE_STEP (R147): the state, and the unmet cap deficit to throttle. -/
def storeStep (s : Chip) : Chip × Int :=
  let e := s.energy
  let room := capped s (marginPower s) - e.demand
  let deficit := e.demand - capped s e.pAv
  let capBinds := (effCap s).any fun c => (c : Int) < e.pAv
  if 0 < deficit then
    let give := if capBinds && !shaves s then max 0 (e.demand - e.pAv) else deficit
    let d := discharge s give
    let s := { d.1 with book := { d.1.book with given := d.2 } }
    (s, if capBinds then max 0 (deficit - d.2) else 0)
  else
    let s := { s with book := { s.book with given := 0 } }
    if 0 < room && e.chargeMode != .hold then (charge s (chargeFor s room), 0) else (setCharges s [], 0)

/-! ## Caps and throttle (R164-R167, R194) -/

/-- Links that serve a LOAD_FEED channel. -/
def servedLinks (s : Chip) : List Nat := (List.range 8).filter fun n => (s.linkCfg? n).isSome

/-- Draw of a link's feed less its granted burst, mW (R194). -/
def linkDraw (s : Chip) (n : Nat) : Int :=
  meanPower s (s.linkCfg n).channel - (if (s.burst n).running then ((s.burst n).power : Int) else 0)

/-- The links follow T (R193, R194): P_REF is latched where T has just fallen below 1.0, the ceiling is T × P_REF while T is
below it, and a draw above the ceiling is timed; a change of T sets ATTN. -/
def throttleLinks (s : Chip) (changed : Bool) : Chip :=
  let t := s.energy.throttle
  (servedLinks s).foldl (fun s n =>
    let p := if (s.burst n).ceiling.isNone && t != 65536 then linkDraw s n else (s.burst n).pRef
    let ceil := if t == 65536 then none else some (rdiv (t * p) 65536)
    let above := ceil.any fun c => c * (65536 + s.img.caps.capTol) < linkDraw s n * 65536
    let s := s.modBurst n fun b =>
      { b with pRef := p, ceiling := ceil, overSince := if above then some (b.overSince.getD s.now) else none }
    let s := if above then s else setLive s (0x0620 + n) false
    if changed then s.modLink n fun l => { l with attn := true } else s) s

/-- THROTTLE (R166): T falls at once and rises by at most 1/64 per step; DESIGN CHOICE: at once to a THROTTLE_MIN that a commit
has raised above it.  A T outside its limits is not applied (R432). -/
def throttleStep (s : Chip) (unmet : Int) : Chip :=
  let pLl := sumOver (servedLinks s) fun n => meanPower s (s.linkCfg n).channel
  let target : Int := if unmet ≤ 0 || pLl ≤ 0 then 65536
    else max s.img.caps.throttleMin (65536 - rdiv (unmet * 65536) pLl)
  let was := s.energy.throttle
  let t : Nat := (if target < was then target else min target (max s.img.caps.throttleMin (was + 1024))).toNat
  if s.img.caps.throttleMin ≤ t && t ≤ 65536 then throttleLinks { s with energy := { s.energy with throttle := t } } (t != was)
  else throttleLinks (setFault s 0x1306) false

/-- The grace counts of CAP_OVER (R167). -/
def capCounts (s : Chip) : Chip :=
  match actingCap s with
  | none =>
    setLive { s with book := { s.book with overSince := none, underSince := none, capOver := false } } 0x0501 false
  | some c =>
    let isOver := decide ((c : Int) * (65536 + s.img.caps.capTol) < s.energy.pRo * 65536)
    let under := decide (s.energy.pRo ≤ c)
    let s := if s.book.capOver then setFault s 0x0501 else s
    { s with book := { s.book with
        overSince := if isOver then some (s.book.overSince.getD s.now) else none,
        underSince := if under then some (s.book.underSince.getD s.now) else none } }

/-- CAP_STATE of the active member (R165), with its event.  DESIGN CHOICE: where the cap lies below the demand, and neither the
store gives nor a throttle acts, it is CHARGE_LIMITED, also if no charge would have been taken. -/
def capStateStep (s : Chip) : Chip :=
  if !isActive s then s else
  let e := s.energy
  let st :=
    match actingCap s with
    | none => if e.throttle < 65536 then 3 else 0
    | some c =>
      if s.book.capOver then 4
      else if e.throttle < 65536 then 3
      else if s.mode.mode == .bridge then 0
      else if (c : Int) < e.pAv && 0 < s.book.given && decide (max 0 (e.demand - e.pAv) < s.book.given) then 2
      else if (c : Int) < e.demand + s.book.uncapped then 1
      else 0
  let was := e.capState
  energyEvent { s with energy := { s.energy with capState := st } } (st != was) 1 0xFF

/-- CAP_OVER sets or clears once its grace has passed (R167). -/
def capOver (s : Chip) : Chip :=
  let grace := s.img.caps.capGrace * 1000
  if !s.book.capOver && (s.book.overSince.any fun t => t + grace ≤ s.now) then
    capStateStep (evalFault { s with book := { s.book with capOver := true } } 0x0501 true)
  else if s.book.capOver && (s.book.underSince.any fun t => t + grace ≤ s.now) then
    capStateStep (setLive { s with book := { s.book with capOver := false } } 0x0501 false)
  else s

/-! ## Bursts (R195-R197) -/

/-- Store's power headroom P_SH (R196). -/
def storeHeadroom (s : Chip) : Int :=
  let sum := (List.range 12).foldl (fun a j => if slotCounts s j then a + dischargeBound s j else a) 0
  let parts : Nat := (List.range 8).foldl (fun a n =>
    let b := s.burst n
    if b.running || b.decided.isSome then a + b.storePart else a) 0
  max 0 (sum - max 0 (-s.energy.pChg) - parts)

/-- The reason for which a request is refused before any energy is looked at (R196). -/
def refuseFirst (s : Chip) (n : Nat) : Option Refuse :=
  if !running s then some .notInMode
  else if s.dogs.hostLoss then some .hostLoss
  else if (s.ch (s.linkCfg n).channel).state != .on then some .feedOff
  else if s.energy.throttle < 65536 then some .throttled
  else if s.energy.earmarkOver then some .earmarkOver
  else none

/-- The decision for one pending link (R196). -/
def decideLink (s : Chip) (n : Nat) : Chip :=
  let b := s.burst n
  match refuseFirst s n with
  | some why => s.modBurst n fun b => { b with decided := some (.refused, why), power := 0, rectPart := 0, storePart := 0 }
  | none =>
    let h : Int := if s.mode.mode == .run then s.energy.headroom else 0
    let p : Int := b.reqP
    let pr := min p h
    let st := min (storeHeadroom s) (rdiv s.energy.eFree b.reqD)
    let full := decide (p - pr ≤ st)
    let g := if full then p else (pr + st) / 10000 * 10000
    if !full && (decide (g * 65536 < (s.linkCfg n).burstMinFrac * p) || g ≤ 0) then
      s.modBurst n fun b => { b with decided := some (.refused, .energy), power := 0, rectPart := 0, storePart := 0 }
    else
      let rect := min g h
      s.modBurst n fun b =>
        { b with decided := some (if full then .full else .partial_, .none), power := g.toNat,
                 rectPart := rect.toNat, storePart := (g - rect).toNat, dur := b.reqD }

/-- BURST_DECISION for one pending link, on pools formed for it, and again after it (R160, R196). -/
def decideBurst (s : Chip) (n : Nat) : Chip :=
  let b := s.burst n
  if b.grant != .pending || b.decided.isSome then s else formPools (decideLink (formPools s) n)

/-- Every pending request is decided, in link order (R196). -/
def decideBursts (s : Chip) : Chip := forEach 8 (fun n s => decideBurst s n) s

/-! ## Bridge reference and mode conditions (R43, R45, R157) -/

/-- The rectifier condition of R43. -/
def rectReturned (s : Chip) : Bool :=
  decide (s.energy.demand * (65536 + s.img.modes.returnMargin) ≤ s.energy.pAv * 65536)

/-- The bus condition of R43. -/
def busReturned (s : Chip) : Bool :=
  decide (((s.img.energy.vBridge + s.img.modes.exitHyst : Nat) : Int) ≤ s.energy.vBus)

/-- BRIDGE_RAISE (R157): under R45 the bus alone is judged. -/
def raiseStep (s : Chip) : Chip :=
  if s.mode.mode == .bridge then
    let up := if s.energy.rectBlind then busReturned s else rectReturned s
    let goal : Int := if up then s.img.energy.vBusSet else s.img.energy.vBridgeReg
    let step : Int := s.img.energy.bridgeRaiseSlew
    { s with energy := { s.energy with raise := up, vBref := s.energy.vBref + clampI (-step) step (goal - s.energy.vBref) } }
  else { s with energy := { s.energy with raise := false, vBref := s.img.energy.vBridgeReg } }

/-- The dwell of R43 and the shortfall of R43 run while their conditions hold (R43-R45).  DESIGN CHOICE: the dwell counts only
where no stage of a sequence runs in BRIDGE. -/
def modeConditions (s : Chip) : Chip :=
  let dwell := s.mode.mode == .bridge && s.mode.stage == .none && busReturned s && (s.energy.rectBlind || rectReturned s)
  let short := s.mode.mode == .run && !s.energy.rectBlind && decide (s.energy.pAv < s.energy.demand)
  { s with mode := { s.mode with
      dwellSince := if dwell then some (s.mode.dwellSince.getD s.now) else none,
      shortSince := if short then some (s.mode.shortSince.getD s.now) else none } }

/-- SHORTFALL and RECT_BLIND (R45, R172). -/
def energyFaults (s : Chip) : Chip :=
  let short := !s.energy.rectBlind && decide (s.energy.pAv < s.energy.demand)
  let s := { s with energy := { s.energy with shortfall := short } }
  let s := evalFault s 0x0500 short
  evalFault s 0x0505 s.energy.rectBlind

/-- The parts of the step that the active member alone decides (R145-R166, R170).  DESIGN CHOICE: among them CAP_STATE, which a
standby keeps as it was; CAP_OVER each member evaluates from its own P_RO (R167). -/
def energyPolicy (s : Chip) : Chip :=
  let s := { s with book := { s.book with uncapped := uncappedCharge s } }
  let s := raiseStep s
  let r := if s.mode.mode == .run && !inSequence s then storeStep s else ({ s with book := { s.book with given := 0 } }, 0)
  let s := throttleStep r.1 r.2
  let s := match s.mode.mode with
    | .run => shareRectifiers s
    | .bridge => standoffRectifiers s
    | _ => s
  let s := capStateStep s
  let s := decideBursts s
  modeConditions s

/-- ENERGY_STEP (R143): once a millisecond, the quantities, then the active member's policy; a handover's freeze pauses it
(R361). -/
def energyStep (s : Chip) : Chip :=
  if yardWorks s && s.imgValid && !handFrozen s && decide (s.book.nextStep ≤ s.now) then
    let s := { s with book := { s.book with nextStep := s.now + 1000 } }
    let s := formQuantities s
    let s := rectAvail s
    let s := energyFaults s
    let s := capCounts (storeMarks s)
    if isActive s then energyPolicy s else throttleLinks s false
  else s

def execEnergyStep (s : State) : Host.Outcome State Fault Refusal := .next (s.on energyStep)

def execCapOver (s : State) : Host.Outcome State Fault Refusal := .next (s.on capOver)

/-- WEIGHT_UPDATE's weights (R155): energy to floor over the greatest, not below W_MIN; all 1.0 when all are zero. -/
def weightOf (s : Chip) (j : Nat) : Nat :=
  let top := (List.range 12).foldl (fun a k => if slotStands s k then max a (slotFloorEnergy s k) else a) 0
  if top == 0 then 65536 else max s.img.energy.wMin (rdivN (slotFloorEnergy s j * 65536) top)

/-- RECT_BLIND sets (R144): P_AV reads zero, and SHORTFALL is clear and not evaluated (R45, R172, R174). -/
def blindNow (s : Chip) : Chip :=
  let s := { s with energy := { s.energy with rectBlind := true, pAv := 0, shortfall := false } }
  evalFault (setLive s 0x0500 false) 0x0505 true

/-- The status age of a rectifier has run out (R144, R172). -/
def rectAgeExpiry (n : Nat) (s : Chip) : Chip :=
  if (s.chCfg n).role == 1 && (s.ch n).state == .on && ageOut s n && !(s.rect n).aged then
    let s := s.modRect n fun r => { r with aged := true }
    let s := evalFault s (0x0520 + n) true
    let was := (s.rect n).avail
    let s := s.modRect n fun r => { r with avail := false, sharing := false }
    let s := energyEvent s was 4 n
    if rectBlindNow s then blindNow s else s
  else s

def execRectStatusAgeExpiry (ch : Fin 32) (s : State) : Host.Outcome State Fault Refusal :=
  .next (s.on (rectAgeExpiry ch))

/-- BRIDGE is the mode, or the change that waits: what the preset of a SHORTFALL was queued for (R52, R156). -/
def bridgeComes (s : Chip) : Bool := s.mode.mode == .bridge || s.mode.pend.any fun p => p.mode == .bridge

/-- A BRIDGING rail goes to its current loop at its present current, without a step, and its handover ramp begins
(R158); a bridge event from here on finds its preset (R159). -/
def beginHand (s : Chip) (k : Nat) : Chip :=
  (setLimit s k false).modRail k fun r =>
    { r with hand := some (r.lp.iRail * 1000, s.now),
             lp := { r.lp with loopI := true, ref := r.lp.iRail * 1000, eI1 := 0, uB := bridgePreset s k } }

/-- Every BRIDGING rail that is not under its handover ramp begins it (R158). -/
def beginHands (s : Chip) : Chip :=
  forEach 16 (fun k s => if (s.rail k).state == .bridging && (s.rail k).hand.isNone then beginHand s k else s) s

/-- The energy queue takes effect (R27, R155, R156, R158); an entry outside its limit register is not applied (R432). -/
def applyEnergy (s : Chip) (e : EnergySet) : Chip :=
  match e with
  | .charge k mA =>
    if decide (mA.natAbs ≤ (s.prot k).iLim) then s.modRail k fun r => { r with chargeSet := mA } else setFault s 0x1306
  | .weight j w =>
    if decide (w ≤ 65536) then { s with book := { s.book with weights := tset s.book.weights j w } } else setFault s 0x1306
  | .bridgeAll => if bridgeComes s then forEach 16 (fun k s =>
      if (s.rail k).state == .armed && !railFloor s k then enterBridging s k (bridgePreset s k) else s) s else s
  | .handover => if s.mode.mode == .bridge && s.mode.stage == .handover then beginHands s else s
  | .bridgeRef mV => { s with energy := { s.energy with vBref := mV } }
  | .cap hall mW _ =>
    { s with energy := if hall then { s.energy with hallCap := mW } else { s.energy with shelfCap := mW } }
  | .chargeMode m limit _ =>
    { s with energy := { s.energy with chargeMode := m, hostLimit := limit.getD s.energy.hostLimit } }

/-- The request that a setpoint of the energy class answers to. -/
def EnergySet.ref? : EnergySet → Option ReqRef
  | .cap _ _ r | .chargeMode _ _ r => some r
  | _ => none

/-- The entry takes effect at this boundary: in a handover's freeze no new setpoint does, and BRIDGING alone begins (R156,
R361). -/
def takesEffect (s : Chip) (e : EnergySet) : Bool := !handFrozen s || e == .bridgeAll

/-- The energy queue takes effect, as far as no handover's freeze holds it. -/
def applyEnergyQueue (s : Chip) : Chip :=
  let q := s.book.queue
  (q.filter (takesEffect s)).foldl applyEnergy
    { s with book := { s.book with queue := q.filter fun e => !takesEffect s e } }

/-! ## Opcodes (R173) -/

/-- ENERGY_GET's reply data (R173). -/
def energyGetData (s : Chip) : List Byte :=
  let e := s.energy
  le 4 (energyWord s) ++ leI 4 e.vBus ++ leI 4 e.demand ++ leI 4 e.pRo ++ leI 4 e.pAv ++ leI 4 e.pChg
    ++ le 4 (capField s) ++ le 4 e.shelfCap ++ le 4 e.hallAlloc ++ leI 4 e.headroom ++ le 8 e.eStore
    ++ le 8 e.eEarmark ++ le 8 e.eFree ++ le 8 e.eRide ++ le 4 e.throttle
    ++ leI 4 (if s.mode.mode == .bridge then e.vBref else 0) ++ le 8 s.book.stepHall

def bodyEnergyGet : Body := fun _ _ s => (.reply .ok (energyGetData s), s)

/-- A cap value that CAP_SET accepts (R173). -/
def capInRange (c : Nat) : Bool := c == 0 || (decide (1000000 ≤ c) && decide (c ≤ 100000000))

/-- CHARGE_SET (R149, R173): a setpoint of the energy class (R27, R29, R170). -/
def bodyChargeSet : Body := fun rq r s =>
  let m := arg rq 0 1
  let limit := arg rq 4 4
  if 2 < m then (.bare .badParam, s)
  else if m == 2 && s.img.caps.chargePMax < limit then (.bare .outOfRange, s)
  else
    let mode : ChargeMode := if m == 0 then .auto else if m == 1 then .hold else .limit
    (.reply .ok (le 4 (energyWord s)), queueEnergy s (.chargeMode mode (if m == 2 then some limit else none) r))

/-- BRIDGE_GET's reply data (R173). -/
def bridgeGetData (s : Chip) : List Byte :=
  le 4 (energyWord s) ++ leI 4 s.energy.vBref ++ (List.range 12).flatMap fun j =>
    le 4 (if slotCounts s j then tget s.book.weights j else 0)
      ++ leI 4 (match batBind s j with | some b => chPower s b.channel | none => 0) ++ le 8 (slotFloorEnergy s j)

def bodyBridgeGet : Body := fun _ _ s => (.reply .ok (bridgeGetData s), s)

/-- RECT_GET's reply data (R173). -/
def rectGetData (s : Chip) (n : Nat) : List Byte :=
  let r := s.rect n
  leI 4 r.written ++ leI 4 r.trim ++ leI 4 (-(chCurrent s n)) ++ leI 4 r.target
    ++ le 4 (if rectAvailable s n then rectPowerOf s n else 0)
    ++ le 1 (bitN 0 (rectAvailable s n) + bitN 1 r.sharing + bitN 2 r.readFail + bitN 3 r.writeFail)
    ++ le 1 r.failedReads ++ le 2 (s.chCfg n).gen ++ le 8 r.goodHall

def bodyRectGet : Body := fun rq _ s =>
  let n := arg rq 0 1
  if n ≤ 31 && (s.chCfg n).role != 1 then (.bare .badParam, s)
  else
    match chChecks rq s with
    | some a => (a, s)
    | none => (.reply .ok (rectGetData s n), s)

def execEnergyGet (rq : Request) (s : State) : Host.Outcome State Fault Refusal :=
  .next (s.on (serve 0x0401 {} bodyEnergyGet rq))

def execChargeSet (rq : Request) (s : State) : Host.Outcome State Fault Refusal :=
  .next (s.on (serve 0x0403 { lenLo := 8, lenHi := 8, activeOnly := true, queue := 3 } bodyChargeSet rq))

def execBridgeGet (rq : Request) (s : State) : Host.Outcome State Fault Refusal :=
  .next (s.on (serve 0x0404 {} bodyBridgeGet rq))

def execRectGet (rq : Request) (s : State) : Host.Outcome State Fault Refusal :=
  .next (s.on (serve 0x0405 {} bodyRectGet rq))

end Sys2Proof.Machine
end

