-- ==== Sys2Proof/Machine/Sha.lean ====
section
/-! DEFINITION. SHA-256 of a byte string (R250, R255, R457; FIPS 180-4), in the byte order of that standard. -/

namespace Sys2Proof.Machine

/-- The 64 round constants. -/
def shaK : List Word :=
  [0x428a2f98#32, 0x71374491#32, 0xb5c0fbcf#32, 0xe9b5dba5#32, 0x3956c25b#32, 0x59f111f1#32, 0x923f82a4#32, 0xab1c5ed5#32]
  ++ [0xd807aa98#32, 0x12835b01#32, 0x243185be#32, 0x550c7dc3#32, 0x72be5d74#32, 0x80deb1fe#32, 0x9bdc06a7#32, 0xc19bf174#32]
  ++ [0xe49b69c1#32, 0xefbe4786#32, 0x0fc19dc6#32, 0x240ca1cc#32, 0x2de92c6f#32, 0x4a7484aa#32, 0x5cb0a9dc#32, 0x76f988da#32]
  ++ [0x983e5152#32, 0xa831c66d#32, 0xb00327c8#32, 0xbf597fc7#32, 0xc6e00bf3#32, 0xd5a79147#32, 0x06ca6351#32, 0x14292967#32]
  ++ [0x27b70a85#32, 0x2e1b2138#32, 0x4d2c6dfc#32, 0x53380d13#32, 0x650a7354#32, 0x766a0abb#32, 0x81c2c92e#32, 0x92722c85#32]
  ++ [0xa2bfe8a1#32, 0xa81a664b#32, 0xc24b8b70#32, 0xc76c51a3#32, 0xd192e819#32, 0xd6990624#32, 0xf40e3585#32, 0x106aa070#32]
  ++ [0x19a4c116#32, 0x1e376c08#32, 0x2748774c#32, 0x34b0bcb5#32, 0x391c0cb3#32, 0x4ed8aa4a#32, 0x5b9cca4f#32, 0x682e6ff3#32]
  ++ [0x748f82ee#32, 0x78a5636f#32, 0x84c87814#32, 0x8cc70208#32, 0x90befffa#32, 0xa4506ceb#32, 0xbef9a3f7#32, 0xc67178f2#32]

/-- The eight working words. -/
structure ShaWords where
  a : Word := 0x6a09e667#32
  b : Word := 0xbb67ae85#32
  c : Word := 0x3c6ef372#32
  d : Word := 0xa54ff53a#32
  e : Word := 0x510e527f#32
  f : Word := 0x9b05688c#32
  g : Word := 0x1f83d9ab#32
  h : Word := 0x5be0cd19#32
  deriving DecidableEq, Repr

def shaRound (w : ShaWords) (k m : Word) : ShaWords :=
  let s1 := w.e.rotateRight 6 ^^^ w.e.rotateRight 11 ^^^ w.e.rotateRight 25
  let t1 := w.h + s1 + ((w.e &&& w.f) ^^^ (~~~ w.e &&& w.g)) + k + m
  let s0 := w.a.rotateRight 2 ^^^ w.a.rotateRight 13 ^^^ w.a.rotateRight 22
  let t2 := s0 + ((w.a &&& w.b) ^^^ (w.a &&& w.c) ^^^ (w.b &&& w.c))
  { a := t1 + t2, b := w.a, c := w.b, d := w.c, e := w.d + t1, f := w.e, g := w.f, h := w.g }

/-- The rounds over the constants left; the window holds the next sixteen schedule words. -/
def shaRounds : List Word → List Word → ShaWords → ShaWords
  | [], _, w => w
  | k :: ks, m, w =>
    let x (i : Nat) : Word := m.getD i 0#32
    let g0 := (x 1).rotateRight 7 ^^^ (x 1).rotateRight 18 ^^^ ((x 1) >>> 3)
    let g1 := (x 14).rotateRight 17 ^^^ (x 14).rotateRight 19 ^^^ ((x 14) >>> 10)
    shaRounds ks (m.tail ++ [x 0 + g0 + x 9 + g1]) (shaRound w k (x 0))

/-- One 512-bit block. -/
def shaBlock (w : ShaWords) (m : List Word) : ShaWords :=
  let r := shaRounds shaK m w
  { a := w.a + r.a, b := w.b + r.b, c := w.c + r.c, d := w.d + r.d, e := w.e + r.e, f := w.f + r.f, g := w.g + r.g,
    h := w.h + r.h }

/-- Big-endian words of a byte string; `n` of them. -/
def beWords : Nat → List Byte → List Word
  | 0, _ => []
  | n + 1, bs =>
    (bs.take 4).foldl (fun w b => (w <<< 8) ||| b.setWidth 32) 0#32 :: beWords n (bs.drop 4)

/-- The blocks in order. -/
def shaBlocks : Nat → List Byte → ShaWords → ShaWords
  | 0, _, w => w
  | n + 1, bs, w => shaBlocks n (bs.drop 64) (shaBlock w (beWords 16 bs))

/-- `n` bytes of a number, most significant first. -/
def be : Nat → Nat → List Byte
  | 0, _ => []
  | n + 1, v => be n (v / 256) ++ [BitVec.ofNat 8 v]

/-- SHA-256 of a byte string. -/
def sha256 (bs : List Byte) : List Byte :=
  let pad := bs ++ [0x80#8] ++ List.replicate ((119 - bs.length % 64) % 64) 0#8 ++ be 8 (8 * bs.length)
  let w := shaBlocks (pad.length / 64) pad {}
  [w.a, w.b, w.c, w.d, w.e, w.f, w.g, w.h].flatMap fun x => be 4 x.toNat

end Sys2Proof.Machine
end

