-- ==== Sys2Proof/Machine/Metering.lean ====
section
/-! DEFINITION. Metering: a sample into energy (R237-R243), shunt temperature (R244), checkpoints (R247, R248) and the
meter opcodes (R263). -/

namespace Sys2Proof.Machine

def Chip.meter (s : Chip) (o : Nat) : Meter := tget s.meters o
def Chip.setMeter (s : Chip) (o : Nat) (m : Meter) : Chip := { s with meters := tset s.meters o m }
def Chip.modMeter (s : Chip) (o : Nat) (f : Meter → Meter) : Chip := s.setMeter o (f (s.meter o))

/-- Metering record of an object; none is no valid calibration (R239). -/
def meterCfg (s : Chip) (o : Nat) : Option MeterCfg := tget s.img.meters o

/-- The 44 metering objects (R235). -/
def isObject (o : Nat) : Bool := decide (o < 0x2C)

/-- Metering runs: from HOLD onwards, with a valid configuration in force (R36). -/
def meteringRuns (s : Chip) : Bool := yardAlive s && s.imgValid

/-- Greatest value of an energy register (R238). -/
def regMax : Nat := 2 ^ 64 - 1

/-- The shunt temperature of the computation (R244). -/
def shuntTemp (c : MeterCfg) (m : Meter) : Int :=
  if c.shuntTherm == 0xFF || m.compLost then c.tCal else m.temp.getD c.tCal

/-- Current in µA before CREEP_I (R237): vs in nV. -/
def sampleCurrent (c : MeterCfg) (t vs : Int) : Int :=
  roundAway (c.iGain * (vs - 1000 * c.iOffset) * 1000 * 100000000)
    (65536 * c.rShunt * (100000000 + c.shuntTc * (t - c.tCal)))

/-- Voltage in µV (R237): vm in nV. -/
def sampleVoltage (c : MeterCfg) (vm : Int) : Int :=
  roundAway (c.vGain * (vm - 1000 * c.vOffset)) (65536 * 1000)

/-- The linear ranges of the decimators, nV (R519). -/
def clampCurrent (vs : Int) : Int := clampI (-160000000) 160000000 vs
def clampVoltage (vm : Int) : Int := clampI (-1000000000) 88000000000 vm

/-- The decimator output stands at an end of its range (R243). -/
def atEnd (lo hi v : Int) : Bool := decide (v ≤ lo) || decide (hi ≤ v)

/-- Position of the shelf total that an object's import or export advances (R242). -/
def totalOf (s : Chip) (o : Nat) (importing : Bool) : Option Nat :=
  if o < 0x20 then
    match (s.chCfg o).role, importing with
    | 1, false => some 0
    | 3, true => some 1
    | 4, true => some 1
    | _, _ => none
  else if importing then some 2 else some 3

/-- One shelf total advanced by µJ through its residue (R242). -/
def addTotal (t : Totals) (k uJ : Nat) : Totals :=
  let r := tget t.res k + uJ
  { sums := tset t.sums k (satAdd regMax (tget t.sums k) (r / 1000)), res := tset t.res k (r % 1000) }

/-- The object has entered a shelf total (R242, R250). -/
def intoTotal (s : Chip) (o uJ : Nat) (importing : Bool) : Chip :=
  match totalOf s o importing with
  | some k =>
    let s := s.modMeter o fun m => { m with contributed := true }
    { s with meterBook := { s.meterBook with totals := addTotal s.meterBook.totals k uJ } }
  | none => s

/-- Energy `e` in pJ of one sample enters the registers (R237, R238). -/
def addEnergy (s : Chip) (o : Nat) (e : Int) : Chip :=
  let m := s.meter o
  if 0 < e then
    let r := m.resImp + e.natAbs
    let s := s.setMeter o { m with imp := satAdd regMax m.imp (r / 1000000), resImp := r % 1000000 }
    intoTotal s o (r / 1000000) true
  else if e < 0 then
    let r := m.resExp + e.natAbs
    let s := s.setMeter o { m with exp := satAdd regMax m.exp (r / 1000000), resExp := r % 1000000 }
    intoTotal s o (r / 1000000) false
  else s

/-- A decimator output stands at an end of its range: OVERRANGE (R243). -/
def overrange (s : Chip) (o : Nat) (i v : Bool) : Chip :=
  if i || v then
    let s := s.modMeter o fun m =>
      { m with iOvr := if i then some s.now else m.iOvr, vOvr := if v then some s.now else m.vOvr,
               flags := { m.flags with ovr := true }, shelfFlags := { m.shelfFlags with ovr := true } }
    setFault s (0x0800 + o)
  else s

/-- SVC_CAL_READ averages the decimator outputs of its object (R318). -/
def calSample (s : Chip) (o : Nat) (vs vm : Int) : Chip :=
  if s.svc.calRef.isSome && s.svc.calObj == o then
    { s with svc := { s.svc with
        calSumI := s.svc.calSumI + vs, calSumV := s.svc.calSumV + vm, calN := s.svc.calN + 1 } }
  else s

/-- A metering sample of an object (R237); at one boundary it completes once (R236). -/
def meterSample (o : Nat) (vs vm : Int) (s : Chip) : Chip :=
  match meterCfg s o with
  | some c =>
    if meteringRuns s && s.hall % 800 == 0 && (s.meter o).sampled != some s.now then
      let cs := clampCurrent vs
      let cv := clampVoltage vm
      let s := overrange s o (atEnd (-160000000) 160000000 vs) (atEnd (-1000000000) 88000000000 vm)
      let s := calSample s o cs cv
      let i0 := sampleCurrent c (shuntTemp c (s.meter o)) cs
      let i := if i0.natAbs < 1000 * c.creepI then 0 else i0
      let v := sampleVoltage c cv
      let p := roundAway (v * i) 1000000
      let s := s.modMeter o fun m => { m with window := ((v, i, p) :: m.window).take 125, updated := s.hall, sampled := some s.now }
      addEnergy s o (8 * p)
    else s
  | none => s

def execMeterSample (o : Fin 44) (vs vm : Int) (s : State) : Host.Outcome State Fault Refusal :=
  .next (s.on (meterSample o vs vm))

/-! ## Shunt temperature (R244) -/

/-- The temperature between two points of a thermistor record that bracket a reading; none outside the span (R464). -/
def thermAt : List (Int × Int) → Int → Option Int
  | (u0, t0) :: (u1, t1) :: ps, u =>
    if (u0 ≤ u && u ≤ u1) || (u1 ≤ u && u ≤ u0) then some (t0 + rdiv ((t1 - t0) * (u - u0)) (u1 - u0))
    else thermAt ((u1, t1) :: ps) u
  | _, _ => none

/-- A SAR reading in µV of an input with a THERMISTOR record, in 0.01 °C. -/
def thermTemp (s : Chip) (inp : Nat) (uV : Int) : Option Int :=
  (tget s.img.therms inp).bind fun r => thermAt r.points uV

/-- The object's thermistor is read (R244). -/
def shuntTempRead (o : Nat) (s : Chip) : Chip :=
  match meterCfg s o with
  | some c =>
    let h := tget s.hk c.shuntTherm
    let m := s.meter o
    if meteringRuns s && c.shuntTherm != 0xFF && h.taken && decide (m.nextRead ≤ s.now) then
      let t := (thermTemp s c.shuntTherm h.uV).filter fun t => (-4000 ≤ t) && (t ≤ 15000)
      let out := t.isNone
      let since := if out then none else if m.compLost then some (m.okSince.getD s.now) else none
      let lost := out || (m.compLost && !(since.any fun a => a + 1000000 ≤ s.now))
      let s := s.modMeter o fun m =>
        { m with nextRead := s.now + 100000, temp := t.orElse fun _ => m.temp, compLost := lost,
                 okSince := if lost then since else none,
                 flags := { m.flags with comp := m.flags.comp || m.compLost || lost },
                 shelfFlags := { m.shelfFlags with comp := m.shelfFlags.comp || m.compLost || lost } }
      evalFault s (0x0840 + o) lost
    else s
  | none => s

def execShuntTempRead (o : Fin 44) (s : State) : Host.Outcome State Fault Refusal := .next (s.on (shuntTempRead o))

/-! ## Persistence (R247, R248) -/

/-- Every register, residue and total as a checkpoint holds them (R247). -/
def checkpointNow (s : Chip) (turn : Nat) : Checkpoint :=
  { regs := (List.range 44).map fun o => ((s.meter o).imp, (s.meter o).exp, (s.meter o).resImp, (s.meter o).resExp),
    totals := s.meterBook.totals, hall := s.hall, turn := turn, good := true }

/-- MRAM address of piece `k` of the retained state (R432). -/
def retainedAddr (k : Nat) : Nat := 0x01B80000 + (Config.retainedPlace k).1 % 0x00080000

/-- Every word of the piece reads (R443). -/
def retainedReads (s : Chip) (k : Nat) : Bool := !eccIn s.mram.bad (retainedAddr k) ((Config.retainedPlace k).2 + 1)

/-- The piece is written: its words read well again. -/
def retainedWritten (k : Nat) (s : Chip) : Chip :=
  { s with mram := { s.mram with
      bad := s.mram.bad.filter fun a => !eccIn [a] (retainedAddr k) ((Config.retainedPlace k).2 + 1) } }

/-- A checkpoint into the block that is not the newer one (R247). -/
def writeCheckpoint (s : Chip) : Chip :=
  let b := s.meterBook
  let first := decide (b.ckA.turn ≤ b.ckB.turn)
  let ck := checkpointNow s (max b.ckA.turn b.ckB.turn + 1)
  let b := if first then { b with ckA := ck } else { b with ckB := ck }
  retainedWritten (if first then 0 else 1) { s with meterBook := { b with ckNext := s.now + 1000000 } }

/-- The Tack Room writes a checkpoint every 1 s (R247). -/
def checkpoint (s : Chip) : Chip :=
  if yardAlive s && decide (s.meterBook.ckNext ≤ s.now) then writeCheckpoint s else s

def execCheckpoint (s : State) : Host.Outcome State Fault Refusal := .next (s.on checkpoint)

/-- The newer of two blocks, of those that are good (R248, R257). -/
def newerOf {α : Type} (a b : α) (goodA goodB : Bool) (turn : α → Nat) : Option α :=
  if goodA && (!goodB || decide (turn b ≤ turn a)) then some a else if goodB then some b else none

/-! ## The retained counts (R424) -/

/-- CRC of a block of the counts over all else that it holds. -/
def countsCrc (b : CountBlock) : Word :=
  let c := b.counts
  crc32c (le 4 c.wd0 ++ le 4 c.wd1 ++ le 4 c.resets ++ le 4 c.flush ++ le 1 c.cause ++ le 2 c.source ++ le 8 c.w6Hall
    ++ le 4 b.turn)

/-- The block reads and its CRC is good. -/
def countsGood (s : Chip) (k : Nat) (b : CountBlock) : Bool := b.crc == countsCrc b && retainedReads s k

/-- The counts of the newer good block. -/
def newerCounts (s : Chip) : Option Counts :=
  let r := s.retained
  (newerOf r.blockA r.blockB (countsGood s 4 r.blockA) (countsGood s 5 r.blockB) CountBlock.turn).map CountBlock.counts

/-- The counts as they stand go into the block that is not the newer good one, the two in alternation. -/
def writeCounts (s : Chip) : Chip :=
  let r := s.retained
  let goodA := countsGood s 4 r.blockA
  let goodB := countsGood s 5 r.blockB
  let first := !goodA || (goodB && decide (r.blockA.turn < r.blockB.turn))
  let b : CountBlock := { counts := r.toCounts, turn := (max r.blockA.turn r.blockB.turn + 1) % 2 ^ 32 }
  let b := { b with crc := countsCrc b }
  if first then retainedWritten 4 { s with retained := { r with blockA := b } }
  else retainedWritten 5 { s with retained := { r with blockB := b } }

/-- The newer checkpoint block whose CRC is good (R248). -/
def newerCheckpoint (s : Chip) : Option Checkpoint :=
  let b := s.meterBook
  newerOf b.ckA b.ckB (b.ckA.good && retainedReads s 0) (b.ckB.good && retainedReads s 1) Checkpoint.turn

/-! ## Reading -/

/-- Objects whose registers make the values of an object (R241). -/
def meterGroup (s : Chip) (o : Nat) : List Nat := if o < 0x20 then members s o else [o]

def sumRegs (s : Chip) (l : List Nat) : Nat × Nat :=
  (l.foldl (fun a m => satAdd regMax a (s.meter m).imp) 0, l.foldl (fun a m => satAdd regMax a (s.meter m).exp) 0)

/-- IMPORT and EXPORT of an object, a leader's gang summed (R241). -/
def objRegs (s : Chip) (o : Nat) : Nat × Nat := sumRegs s (meterGroup s o)

/-- Mean over the last 1 ms of metering samples, in thousandths of the samples' units (R263). -/
def meterMean (m : Meter) (f : Int × Int × Int → Int) : Int :=
  if m.window.isEmpty then 0
  else rdiv (m.window.foldl (fun a x => a + f x) 0) (m.window.length * 1000)

def within1ms (now : Nat) (t : Option Nat) : Bool := t.any fun a => now < a + 1000

/-- The object is ledgered: LEDGER_CH of a channel or leader, an open session of a terminal (R251). -/
def isLedgered (s : Chip) (o : Nat) : Bool :=
  if o < 0x20 then !followsLeader s o && (meterCfg s o).any MeterCfg.ledgerCh
  else s.ledger.sessions.any fun x => x.1 + 0x20 == o

/-- The meter status word (R264). -/
def meterWord (s : Chip) (o : Nat) : Nat :=
  let m := s.meter o
  let c := meterCfg s o
  o % 256 * 2 ^ 24 + bitN 15 c.isSome + bitN 14 (isLedgered s o)
    + bitN 13 (s.ledger.sessions.any fun x => x.1 + 0x20 == o) + bitN 12 s.clk.degraded + bitN 11 m.compLost
    + bitN 10 (within1ms s.now m.iOvr) + bitN 9 (within1ms s.now m.vOvr) + bitN 8 (c.any fun c => c.creepI != 0)

/-- METER_GET's reply data (R263). -/
def meterGetData (s : Chip) (o : Nat) (own : Bool) : List Byte :=
  let group := if own then [o] else meterGroup s o
  let m := s.meter o
  let regs := sumRegs s group
  let sum (f : Int × Int × Int → Int) : Int := group.foldl (fun a k => a + meterMean (s.meter k) f) 0
  let t := match meterCfg s o with
    | some c => if c.shuntTherm == 0xFF then le 2 0x8000 else leI 2 (shuntTemp c m)
    | none => le 2 0x8000
  le 4 (meterWord s o) ++ leI 4 (meterMean m fun x => x.1) ++ leI 4 (sum fun x => x.2.1) ++ leI 4 (sum fun x => x.2.2)
    ++ le 8 regs.1 ++ le 8 regs.2 ++ t ++ le 2 (if o < 0x20 then (s.chCfg o).gen else 0xFFFF) ++ le 8 m.updated
    ++ zeros 4

def bodyMeterGet : Body := fun rq _ s =>
  if !isObject (arg rq 0 1) || decide (1 < arg rq 1 1) then (.bare .badParam, s)
  else (.reply .ok (meterGetData s (arg rq 0 1) (arg rq 1 1 == 1)), s)

def execMeterGet (rq : Request) (s : State) : Host.Outcome State Fault Refusal :=
  .next (s.on (serve 0x0601 {} bodyMeterGet rq))

def bodyMeterAll : Body := fun rq _ s =>
  let first := arg rq 0 1
  let count := arg rq 1 1
  let room := unitsThatFit rq.port 0 16
  let n := if count = 0 then min room (44 - first) else count
  if !isObject first then (.bare .badParam, s)
  else if 44 < first + n || room < n then (.bare .outOfRange, s)
  else
    (.reply .ok ((List.range n).flatMap fun k => le 8 (s.meter (first + k)).imp ++ le 8 (s.meter (first + k)).exp)
      (decide (first + n < 44)), s)

def execMeterAll (rq : Request) (s : State) : Host.Outcome State Fault Refusal :=
  .next (s.on (serve 0x0602 {} bodyMeterAll rq))

def bodyShelfTotalsGet : Body := fun _ _ s =>
  (.reply .ok ((List.range 4).flatMap (fun k => le 8 (tget s.meterBook.totals.sums k)) ++ le 8 s.hall), s)

def execShelfTotalsGet (rq : Request) (s : State) : Host.Outcome State Fault Refusal :=
  .next (s.on (serve 0x0603 {} bodyShelfTotalsGet rq))

end Sys2Proof.Machine
end

