-- ==== Sys2Proof/Machine/Downstream.lean ====
section
/-! DEFINITION. The downstream controllers TW0-TW3: queues, arbitration, recovery, rectifier polling and pass-through
(R330-R343). -/

namespace Sys2Proof.Machine

def Chip.bus (s : Chip) (k : Nat) : DsBus := tget s.ds k
def Chip.modBus (s : Chip) (k : Nat) (f : DsBus → DsBus) : Chip := { s with ds := tset s.ds k (f (s.bus k)) }

/-- Source ID of a downstream fault: kind × 4 + bus (R343). -/
def dsSource (kind k : Nat) : Nat := 0x0B00 + kind * 4 + k

def isPass : DsEntry → Bool
  | .pass _ => true
  | _ => false

/-- Pass-through entries queued or running (R331, R341). -/
def passCount (b : DsBus) : Nat :=
  (b.queue.filter isPass).length + (if b.run.any fun r => isPass r.entry then 1 else 0)

/-- The downstream bus state word (R341). -/
def busWord (s : Chip) (k : Nat) : Nat :=
  let b := s.bus k
  b.last % 256 + bitN 8 b.run.isSome + bitN 9 (decide (s.now < b.recoverEnd)) + bitN 10 b.stuck + passCount b % 16 * 2 ^ 12 + min 32 b.queue.length * 2 ^ 16

/-- Body of a downstream event (R342). -/
def busBody (s : Chip) (k kind handle result : Nat) : List Byte :=
  le 1 kind ++ le 1 k ++ le 1 handle ++ le 1 result ++ le 4 (busWord s k) ++ le 8 s.hall

/-- DS_RATE of a bus in kHz: its default while no image is in force (R330). -/
def dsRate (s : Chip) (k : Nat) : Nat := ((s.img.dsBus[k]?).map Prod.fst).getD 100

/-- Ticks of `n` bit periods of a bus, begun ones counted whole (R330). -/
def bitTicks (s : Chip) (k n : Nat) : Nat :=
  let rate := dsRate s k
  (n * 1000 + (rate - 1)) / rate

/-- m of R332 and R333: 0 for member A or SOLO, 1 for member B. -/
def memberIndex (s : Chip) : Nat := if s.strap == .b then 1 else 0

/-- The recovery sequence runs (R333, R341): 9 clocks where DSDAk never reads high while DSCLk is high, else as many as the
target needs, an open number up to 9; then START and STOP. -/
def recovers (s : Chip) (k : Nat) (bothHigh : Bool) : Chip :=
  let n := if bothHigh then s.draw % 10 else 9
  s.drawn.modBus k fun b => { b with recoverEnd := s.now + bitTicks s k (n + 2) }

/-- STUCK as a recovery leaves it (R334). -/
def setStuck (s : Chip) (k : Nat) (stuck : Bool) : Chip :=
  let was := (s.bus k).stuck
  let s := s.modBus k fun b => { b with stuck := stuck, recoverDue := s.now + 1000000 }
  let s := evalFault s (dsSource 2 k) stuck
  if was == stuck then s else post s 0x0D (busBody s k 2 0xFF 0xFF) []

/-- A value failed its range check (R335). -/
def rangeFail (s : Chip) (k : Nat) : Chip :=
  setFault (s.modBus k fun b => { b with ranges := sat32 b.ranges 1 }) (dsSource 3 k)

/-! ## What a finished transaction gives (R335-R337) -/

/-- A LINEAR11 value in mW: mantissa × 2^exponent W. -/
def linear11 (w : Nat) : Int :=
  let m : Int := if w % 2048 < 1024 then (w % 2048 : Nat) else (w % 2048 : Nat) - 2048
  let e := w / 2048 % 32
  if e < 16 then m * 2 ^ e * 1000 else rdiv (m * 1000) (2 ^ (32 - e))

/-- The exponent of a VOUT_MODE byte in the linear mode, within its range (R336). -/
def voutExponent (b : Nat) : Option Int :=
  let n : Int := if b % 32 < 16 then (b % 32 : Nat) else (b % 32 : Nat) - 32
  if b / 32 = 0 && decide (-16 ≤ n) && decide (n ≤ -6) then some n else none

/-- VOUT_COMMAND of a setpoint in mV (R337). -/
def voutWord (mV n : Int) : Int := roundAway (mV * 2 ^ (-n).toNat) 1000

/-- STATUS_WORD: input good, output fault (R336). -/
def statusInput (w : Nat) : Bool := w / 2 ^ 13 % 2 == 0 && w / 2 ^ 3 % 2 == 0
def statusFault (w : Nat) : Bool := [15, 14, 6, 5, 4, 2].any fun i => w / 2 ^ i % 2 == 1

/-- A status read of a rectifier (R144, R336): good only with a good latest VOUT_MODE read. -/
def statusRead (s : Chip) (n : Nat) (ok : Bool) (w : Nat) : Chip :=
  if ok && (s.rect n).modeGood then
    let bad := statusFault w
    let s := s.modRect n fun r =>
      { r with goodTick := some s.now, goodHall := s.hall, inputGood := statusInput w, fault := bad, aged := false,
               readFail := false, failedReads := 0 }
    evalFault s (0x0520 + n) bad
  else s.modRect n fun r => { r with readFail := true, failedReads := min 255 (r.failedReads + 1) }

/-- A setpoint write has ended (R146). -/
def writeEnded (s : Chip) (n : Nat) (ok : Bool) : Chip := s.modRect n fun r => { r with writeFail := !ok }

/-! ## BMS values (R206, R338) -/

def printable (b : Byte) : Bool := decide (0x20 ≤ b.toNat) && decide (b.toNat ≤ 0x7E)

/-- Printable characters, then zeros. -/
def padded : List Byte → Bool
  | [] => true
  | b :: bs => if printable b then padded bs else (b :: bs).all (· == 0#8)

def serialGood (bs : List Byte) : Bool := bs.length == 16 && (bs.head?.any printable) && padded bs

def profileGood (p : Nat) : Bool := decide (1 ≤ p) && decide (p ≤ 0xFFFE)

def tempGood (t : Int) : Bool := decide (-4000 ≤ t) && decide (t ≤ 10000)

/-- What was read passes the range check of its value; a block read gives its byte count first. -/
def bmsGood (what : BmsValue) (data : List Byte) : Bool :=
  match what with
  | .serial => field data 0 1 == 16 && serialGood (data.drop 1)
  | .profile => data.length == 2 && profileGood (field data 0 2)
  | .temp => data.length == 2 && tempGood (fieldI data 0 2)

/-- A read has ended; its value, where it is good. -/
def BmsRead.ended (r : BmsRead) (what : BmsValue) (good : Bool) (data : List Byte) : BmsRead :=
  let r := { r with left := r.left - 1 }
  if !good then r
  else
    match what with
    | .serial => { r with serial := some (data.drop 1) }
    | .profile => { r with profile := some (field data 0 2) }
    | .temp => { r with temp := some (fieldI data 0 2) }

/-- The BMS reads of number `id` of slot `j` follow `f`; reads that others have replaced are let go. -/
def modRead (s : Chip) (j id : Nat) (f : BmsRead → Option BmsRead) : Chip :=
  s.modBat j fun b => { b with read := b.read.bind fun r => if r.id = id then f r else some r }

/-- The effect of a controller transaction's outcome, and its result after the range checks (R335-R337). -/
def ownOutcome (s : Chip) (e : DsEntry) (res : Nat) (data : List Byte) : Nat × Chip :=
  let ok := res == 0
  match e with
  | .status n => (res, statusRead s n (ok && data.length == 2) (field data 0 2))
  | .mode n =>
    match if ok then voutExponent (field data 0 1) else none with
    | some x => (res, s.modRect n fun r => { r with exponent := some x, modeGood := true })
    | none => (if ok then 8 else res, s.modRect n fun r => { r with modeGood := false })
  | .power n =>
    let p := linear11 (field data 0 2)
    if ok && decide (100000 ≤ p) && decide (p ≤ 20000000) then (res, s.modRect n fun r => { r with capability := p.toNat })
    else (if ok then 8 else res, s)
  | .write n _ => (res, if ok then s else writeEnded s n false)
  | .readBack n w =>
    let good := ok && data.length == 2 && field data 0 2 == w
    (if ok && !good then 8 else res, writeEnded s n good)
  | .bms j id what =>
    let good := ok && bmsGood what data
    (if ok && !good then 8 else res, modRead s j id fun r => some (r.ended what good data))
  | .pass _ => (res, s)

/-- The completion status of a pass-through (R340). -/
def passStatus (res : Nat) : Status := if res = 0 then .ok else if res = 5 then .timeout else .aborted

/-- What an entry puts on the wires: with DS_PEC every transaction of the bus carries the packet error code (R330, R336,
R338). -/
def wireOf (s : Chip) (k : Nat) (e : DsEntry) : DsWire :=
  let pec := (tget s.img.dsBus k).2
  let rect (n code : Nat) : DsWire := { addr := (tget s.img.rectBus n).2, code := some code, pec := pec }
  match e with
  | .pass p => { addr := p.addr, kind := p.kind, pec := pec || p.pec }
  | .status n => rect n 0x79
  | .mode n => rect n 0x20
  | .power n => rect n 0xA7
  | .write n _ => { rect n 0x21 with kind := 1 }
  | .readBack n _ => rect n 0x21
  | .bms j _ what =>
    { addr := ((batBind s j).map BatCfg.bmsAddr).getD 0, pec := pec,
      code := some (match what with | .serial => 0xD0 | .profile => 0xD1 | .temp => 0xD2) }

/-- A transaction begins (R334). -/
def dsBegin (s : Chip) (k : Nat) (e : DsEntry) : Chip :=
  s.modBus k fun b => { b with run := some { entry := e, wire := wireOf s k e, start := s.now } }

/-- The transaction in progress ends with a result (R334, R340, R342); the read word of a setpoint write follows its write
word at once (R336). -/
def dsFinish (s : Chip) (k res : Nat) (data : List Byte) : Chip :=
  match (s.bus k).run with
  | none => s
  | some r =>
    let o := ownOutcome s r.entry res data
    let s := o.2
    let res := o.1
    let s := s.modBus k fun b => { b with run := none, last := res, completed := sat32 b.completed 1 }
    let s := if res = 5 then setFault (s.modBus k fun b => { b with timeouts := sat32 b.timeouts 1 }) (dsSource 1 k) else s
    let s := if res = 8 then rangeFail s k else s
    let s := if res = 6 then setFault s (dsSource 4 k) else s
    let s := if (res = 1 ∨ res = 2) ∧ ¬ isPass r.entry then setFault s (dsSource 5 k) else s
    match r.entry with
    | .pass p =>
      let d := if res = 0 then data.take p.rlen else []
      let x : DsResult := { handle := p.handle, result := res, data := d }
      let s := s.modBus k fun b => { b with results := (b.results ++ [x]).drop ((b.results.length + 1) - 8) }
      post s 0x0D (busBody s k 1 p.handle res) [(p.ref, passStatus res)]
    | .write n w => if res = 0 then dsBegin s k (.readBack n w) else s
    | _ => s

/-- The next entry is taken from the queue, outside a recovery (R331, R334). -/
def dsTake (s : Chip) (k : Nat) : Chip :=
  let b := s.bus k
  match b.run, b.queue with
  | none, e :: rest =>
    if s.now < b.recoverEnd then s else dsBegin (s.modBus k fun b => { b with queue := rest }) k e
  | _, _ => s

/-- An entry joins the queue where it has room (R29, R331). -/
def dsRoom (s : Chip) (k : Nat) : Bool := decide ((s.bus k).queue.length < 32)

def dsPut (s : Chip) (k : Nat) (e : DsEntry) : Chip :=
  if dsRoom s k then s.modBus k fun b => { b with queue := b.queue ++ [e] } else s

/-- The bus of a rectifier. -/
def rectBusOf (s : Chip) (n : Nat) : Nat := (tget s.img.rectBus n).1

/-- BMS reads of a slot are asked for (R207, R209). -/
def beginRead (s : Chip) (j : Nat) (poll : Bool) (want : List BmsValue) : Chip :=
  s.modBat j fun b =>
    { b with readId := b.readId + 1, read := some { id := b.readId + 1, poll := poll, want := want, left := want.length } }

/-- The next BMS read of a slot enters the queue where it has room (R331). -/
def batQueue (s : Chip) (j : Nat) : Chip :=
  let k := ((batBind s j).map BatCfg.bmsBus).getD 0
  match (s.bat j).read with
  | some r =>
    match r.want with
    | w :: rest => if dsRoom s k then dsPut (modRead s j r.id fun r => some { r with want := rest }) k (.bms j r.id w) else s
    | [] => s
  | none => s

/-- What a rectifier's polling and setpoint wait for enters the queue as room appears (R331, R337); only the active member
writes setpoints (R339). -/
def rectQueue (s : Chip) (n : Nat) : Chip :=
  let k := rectBusOf s n
  let s := if (s.rect n).wantMode && dsRoom s k then
      dsPut (s.modRect n fun r => { r with wantMode := false }) k (.mode n) else s
  let s := if (s.rect n).wantPower && dsRoom s k then
      dsPut (s.modRect n fun r => { r with wantPower := false }) k (.power n) else s
  let s := if (s.rect n).wantStatus && dsRoom s k then
      dsPut (s.modRect n fun r => { r with wantStatus := false }) k (.status n) else s
  match (s.rect n).writing with
  | none => s
  | some mV =>
    if !isActive s then s.modRect n fun r => { r with writing := none } else
    match (s.rect n).exponent with
    | none => writeEnded (s.modRect n fun r => { r with writing := none }) n false
    | some x =>
      let w := voutWord mV x
      if w < 0 || decide (65535 < w) then writeEnded (s.modRect n fun r => { r with writing := none }) n false
      else if dsRoom s k then dsPut (s.modRect n fun r => { r with writing := none }) k (.write n w.toNat)
      else s

/-- A clock line that has read low for 25 ms makes the bus STUCK (R334). -/
def clockWatch (low : Bool) (k : Nat) (s : Chip) : Chip :=
  let s := s.modBus k fun b => { b with lowTicks := if low then b.lowTicks + 1 else 0 }
  if decide (25000 ≤ (s.bus k).lowTicks) && !(s.bus k).stuck then setStuck s k true else s

/-- The downstream controllers at a tick boundary: entries enter the queues, an idle bus takes the next one, and a STUCK
bus ends it at once (R331, R334). -/
def dsTick (l : Latch) (s : Chip) : Chip :=
  let s := (channelsOf s 1).foldl rectQueue s
  let s := forEach 12 (fun j s => batQueue (batQueue (batQueue s j) j) j) s
  forEach 4 (fun k s =>
    let s := clockWatch (tget l.dsClockLow k) k s
    let s := dsTake s k
    if (s.bus k).stuck && (s.bus k).run.isSome then dsFinish s k 7 [] else s) s

/-! ## Happenings on a bus (R332-R334) -/

/-- The transaction runs on the wires now: it waits neither for a free bus nor for a backoff. -/
def dsActive (b : DsBus) : Bool := b.run.any fun r => r.waitFree.isNone && r.backoff.isNone

/-- What the wires of a transaction can show (R334): success, an unacknowledged address or byte, a packet error; the other results
come of arbitration, of the 25 ms and of a STUCK bus. -/
def wireShows (res : Nat) : Bool := res == 0 || res == 1 || res == 2 || res == 6

/-- The outcome of a transaction as its wires can show it: without a packet error code none mismatches (R330). -/
def wireResult (b : DsBus) (res : Nat) : Nat := if res = 6 && !(b.run.any fun r => r.wire.pec) then 0 else res

/-- A transaction ends with an outcome on the wires. -/
def dsTransaction (k : Nat) (o : BusOutcome) (s : Chip) : Chip :=
  let s := dsTake s k
  if dsActive (s.bus k) && wireShows o.result.toNat then dsFinish s k (if (s.bus k).stuck then 7 else wireResult (s.bus k) o.result.toNat) o.data else s

def execDsTransaction (k : Fin 4) (o : BusOutcome) (s : State) : Host.Outcome State Fault Refusal :=
  .next (s.on (dsTransaction k o))

def modRun (s : Chip) (k : Nat) (f : DsRun → DsRun) : Chip := s.modBus k fun b => { b with run := b.run.map f }

/-- Arbitration is lost in an address or data bit (R332): at the eighth loss the transaction ends. -/
def dsArbLost (k : Nat) (s : Chip) : Chip :=
  let s := dsTake s k
  if dsActive (s.bus k) then
    let s := modRun s k fun r => { r with losses := r.losses + 1, waitFree := some s.now }
    if (s.bus k).run.any fun r => 8 ≤ r.losses then dsFinish s k 3 [] else s
  else s

def execDsArbLost (k : Fin 4) (s : State) : Host.Outcome State Fault Refusal := .next (s.on (dsArbLost k))

/-- The STOP has come on the bus and 10 + 5 × m bit periods have passed: the transaction is retried from its START (R332).
The STOP comes no sooner than the loss, so the wait has not passed before it has passed since the loss. -/
def arbLostRetry (k : Nat) (s : Chip) : Chip :=
  let wait := bitTicks s k (10 + 5 * memberIndex s)
  modRun s k fun r => if r.waitFree.any fun t => t + wait ≤ s.now then { r with waitFree := none } else r

def execArbLostRetry (k : Fin 4) (s : State) : Host.Outcome State Fault Refusal := .next (s.on (arbLostRetry k))

/-- Arbitration is lost while a STOP or repeated START is driven (R333): the operands say how recovery leaves DSDAk
and DSCLk. DSDAk low makes the bus STUCK; DSCLk does so by its 25 ms alone (R334). -/
def arbStop (k : Nat) (dataHigh clockHigh : Bool) (s : Chip) : Chip :=
  let s := dsTake s k
  if dsActive (s.bus k) then
    let s := s.modBus k fun b => { b with arbStops := sat32 b.arbStops 1 }
    let s := recovers (setFault s (dsSource 0 k)) k (dataHigh && clockHigh)
    let s := if dataHigh then s else setStuck s k true
    let wait := (2 * (1 + s.draw % 8) + memberIndex s) * 100
    let s := s.drawn
    let s := modRun s k fun r => { r with stops := r.stops + 1, backoff := some ((s.bus k).recoverEnd + wait) }
    if (s.bus k).run.any fun r => 5 ≤ r.stops then dsFinish s k 4 [] else s
  else s

def execArbStop (k : Fin 4) (dataHigh clockHigh : Bool) (s : State) : Host.Outcome State Fault Refusal :=
  .next (s.on (arbStop k dataHigh clockHigh))

/-- The backoff has ended: the transaction is retried (R333). -/
def arbBackoffExpiry (k : Nat) (s : Chip) : Chip :=
  modRun s k fun r => if r.backoff.any fun d => d ≤ s.now then { r with backoff := none } else r

def execArbBackoffExpiry (k : Fin 4) (s : State) : Host.Outcome State Fault Refusal := .next (s.on (arbBackoffExpiry k))

/-- The 25 ms of a transaction have run out (R334): the operands say how recovery leaves DSDAk and DSCLk. -/
def dsTimeout (k : Nat) (dataHigh clockHigh : Bool) (s : Chip) : Chip :=
  if (s.bus k).run.any fun r => r.start + 25000 ≤ s.now then
    let s := recovers s k (dataHigh && clockHigh)
    let s := if dataHigh then s else setStuck s k true
    dsFinish s k 5 []
  else s

def execDsTimeout (k : Fin 4) (dataHigh clockHigh : Bool) (s : State) : Host.Outcome State Fault Refusal :=
  .next (s.on (dsTimeout k dataHigh clockHigh))

/-- Recovery is repeated every 1 s while STUCK; it clears once both lines are high (R334). -/
def dsRecoveryRetry (k : Nat) (dataHigh clockHigh : Bool) (s : Chip) : Chip :=
  if (s.bus k).stuck && decide ((s.bus k).recoverDue ≤ s.now) then
    setStuck (recovers s k (dataHigh && clockHigh)) k (!(dataHigh && clockHigh))
  else s

def execDsRecoveryRetry (k : Fin 4) (dataHigh clockHigh : Bool) (s : State) : Host.Outcome State Fault Refusal :=
  .next (s.on (dsRecoveryRetry k dataHigh clockHigh))

/-- Polling runs from HOLD onwards with a valid image. -/
def polls (s : Chip) : Bool := yardWorks s && s.imgValid

/-- Every RECT_STATUS_PERIOD (R144). -/
def rectStatusPoll (s : Chip) : Chip :=
  if polls s && decide (s.dsPoll.statusNext ≤ s.now) then
    let s := { s with dsPoll := { s.dsPoll with statusNext := s.now + s.img.energy.rectStatusPeriod * 1000 } }
    (channelsOf s 1).foldl (fun s n => s.modRect n fun r => { r with wantStatus := true }) s
  else s

def execRectStatusPoll (s : State) : Host.Outcome State Fault Refusal := .next (s.on rectStatusPoll)

/-- At first contact and every 1 s (R336). -/
def rectModePoll (s : Chip) : Chip :=
  if polls s && decide (s.dsPoll.modeNext ≤ s.now) then
    let s := { s with dsPoll := { s.dsPoll with modeNext := s.now + 1000000 } }
    (channelsOf s 1).foldl (fun s n => s.modRect n fun r => { r with wantMode := true, wantPower := true }) s
  else s

def execRectModePoll (s : State) : Host.Outcome State Fault Refusal := .next (s.on rectModePoll)

/-! ## Pass-through (R340) -/

/-- The lengths suit the kind. -/
def passLengths (kind w r : Nat) : Bool :=
  match kind with
  | 1 => decide (1 ≤ w) && r == 0
  | 2 => w == 0 && decide (1 ≤ r)
  | 3 => decide (1 ≤ w) && decide (1 ≤ r)
  | _ => false

/-- A device of the image is bound to this address of this bus (R330). -/
def isBound (s : Chip) (k a : Nat) : Bool :=
  ((channelsOf s 1).any fun n => !followsLeader s n && tget s.img.rectBus n == (k, a))
    || (List.range 12).any fun j => (batBind s j).any fun b => b.bmsBus == k && b.bmsAddr == a

def isWriteKind (kind : Nat) : Bool := kind == 1 || kind == 3

def bodyDsTransact : Body := fun rq r s =>
  let k := arg rq 0 1
  let a := arg rq 1 1
  let kind := arg rq 2 1
  let w := arg rq 4 1
  let n := arg rq 5 1
  if !passLengths kind w n then (.bare .badParam, s)
  else if 3 < k || 127 < a || 32 < w || 32 < n then (.bare .outOfRange, s)
  else if isWriteKind kind && running s && isBound s k a then (.bare .denied, s)
  else if 8 ≤ passCount (s.bus k) || !dsRoom s k then (.bare .queueFull, s)
  else
    let b := s.bus k
    let p : Pass :=
      { handle := b.handle, addr := a, kind := kind, pec := arg rq 3 1 % 2 == 1, wdata := rq.params.drop 8, rlen := n,
        ref := r }
    let s := dsPut (s.modBus k fun b => { b with handle := (b.handle + 1) % 256 }) k (.pass p)
    (.reply .accepted (le 1 b.handle ++ le 1 b.queue.length ++ zeros 2), s)

def execDsTransact (rq : Request) (s : State) : Host.Outcome State Fault Refusal :=
  .next (s.on (serve 0x0F01
    { lenLo := 8 + arg rq 4 1, lenHi := 8 + arg rq 4 1, activeOnly := isWriteKind (arg rq 2 1) } bodyDsTransact rq))

/-- What is known of a handle: a result held, or pending (R340). -/
def handleOf (b : DsBus) (h : Nat) : Option DsResult :=
  let waits (e : DsEntry) : Bool := match e with | .pass p => p.handle == h | _ => false
  if (b.run.any fun r => waits r.entry) || b.queue.any waits then some { handle := h, result := 0xFF }
  else b.results.reverse.find? fun x => x.handle == h

def bodyDsStatus : Body := fun rq _ s =>
  let k := arg rq 0 1
  let want := arg rq 2 1 % 2 == 1
  let b := s.bus k
  let head := le 4 (busWord s k) ++ le 4 b.completed ++ le 4 b.arbStops ++ le 4 b.timeouts ++ le 4 b.ranges
  if 3 < k then (.bare .outOfRange, s)
  else if !want then (.reply .ok (head ++ le 1 0xFF ++ le 1 0xFF ++ zeros 34), s)
  else
    match handleOf b (arg rq 1 1) with
    | none => (.bare .badParam, s)
    | some x => (.reply .ok (head ++ le 1 x.handle ++ le 1 x.result ++ le 1 x.data.length ++ zeros 1 ++ fit 32 x.data), s)

def execDsStatus (rq : Request) (s : State) : Host.Outcome State Fault Refusal :=
  .next (s.on (serve 0x0F02 {} bodyDsStatus rq))

end Sys2Proof.Machine
end

