-- ==== Sys2Proof/Machine/Ecdsa.lean ====
section
/-! DEFINITION. ECDSA on the curve P-256 with SHA-256 (R256, FIPS 186-4) and the nonce of RFC 6979. -/

namespace Sys2Proof.Machine

/-! ## The curve -/

/-- The field's prime, the order of the base point, and the base point. -/
def p256Field : Nat := 0xffffffff00000001000000000000000000000000ffffffffffffffffffffffff
def p256Order : Nat := 0xffffffff00000000ffffffffffffffffbce6faada7179e84f3b9cac2fc632551

/-- A point of the curve; none is the point at infinity. -/
abbrev EcPoint := Option (Nat × Nat)

def p256Base : EcPoint :=
  some (0x6b17d1f2e12c4247f8bce6e563a440f277037d812deb33a0f4a13945d898c296,
        0x4fe342e2fe1a7f9b8ee7eb4a7c0f9e162bce33576b315ececbb6406837bf51f5)

/-- `b` to the power `e` modulo `m`; `e` has at most as many bits as the first argument says. -/
def powMod (m : Nat) : Nat → Nat → Nat → Nat
  | 0, _, _ => 1 % m
  | k + 1, b, e => powMod m k (b * b % m) (e / 2) * (if e % 2 = 1 then b else 1) % m

/-- The inverse modulo a prime (Fermat). -/
def invMod (m a : Nat) : Nat := powMod m 256 (a % m) (m - 2)

/-- The third point of the line of slope `l` through two points, mirrored. -/
def ecThird (l x1 y1 x2 : Nat) : EcPoint :=
  let p := p256Field
  let x := (l * l + 2 * p - x1 - x2) % p
  some (x, (l * (x1 + p - x) + p - y1) % p)

/-- Addition of points; the curve's coefficient a is −3. -/
def ecAdd : EcPoint → EcPoint → EcPoint
  | none, q => q
  | p, none => p
  | some (x1, y1), some (x2, y2) =>
    let p := p256Field
    if x1 = x2 then
      if (y1 + y2) % p = 0 then none
      else ecThird ((3 * x1 * x1 + p - 3) * invMod p (2 * y1) % p) x1 y1 x2
    else ecThird ((y2 + p - y1) * invMod p (x2 + p - x1) % p) x1 y1 x2

/-- A multiple of a point; the factor has at most as many bits as the first argument says. -/
def ecMul : Nat → Nat → EcPoint → EcPoint
  | 0, _, _ => none
  | k + 1, n, q => ecAdd (ecMul k (n / 2) (ecAdd q q)) (if n % 2 = 1 then q else none)

/-! ## HMAC and the nonce (RFC 6979) -/

/-- HMAC-SHA256; a key has at most 64 bytes. -/
def hmac (key data : List Byte) : List Byte :=
  let k := key ++ List.replicate (64 - key.length) 0#8
  sha256 (k.map (· ^^^ 0x5c#8) ++ sha256 (k.map (· ^^^ 0x36#8) ++ data))

/-- A byte string as a number, most significant byte first. -/
def ofBe (bs : List Byte) : Nat := bs.foldl (fun n b => 256 * n + b.toNat) 0

/-- The signature that one nonce gives, r then s; none where the nonce does not serve. -/
def signWith (d z k : Nat) : Option (List Byte) :=
  let n := p256Order
  if k = 0 || n ≤ k then none
  else
    let r := ((ecMul 256 k p256Base).map (·.1)).getD 0 % n
    let s := invMod n k * (z + r * d) % n
    if r = 0 || s = 0 then none else some (be 32 r ++ be 32 s)

/-- The nonces of RFC 6979 in turn, by the generator's key and value, until one serves.  Sixteen in a row that do not are
unheard of; the definition is total. -/
def signNonce (d z : Nat) : Nat → List Byte → List Byte → List Byte
  | 0, _, _ => List.replicate 64 0#8
  | fuel + 1, key, val =>
    let v := hmac key val
    match signWith d z (ofBe v) with
    | some sig => sig
    | none =>
      let key := hmac key (v ++ [0#8])
      signNonce d z fuel key (hmac key v)

/-- The signature of a 32-byte hash under the private key `d`: r and s, 32 bytes each. -/
def ecdsaSign (d : Nat) (hash : List Byte) : List Byte :=
  let z := ofBe hash
  let seed := be 32 d ++ be 32 (z % p256Order)
  let v0 := List.replicate 32 1#8
  let k1 := hmac (List.replicate 32 0#8) (v0 ++ [0#8] ++ seed)
  let v1 := hmac k1 v0
  let k2 := hmac k1 (v1 ++ [1#8] ++ seed)
  signNonce d (z % p256Order) 16 k2 (hmac k2 v1)

/-- The public key of a private key: X then Y, 32 bytes each. -/
def publicKeyOf (d : Nat) : List Byte :=
  match ecMul 256 d p256Base with
  | some (x, y) => be 32 x ++ be 32 y
  | none => List.replicate 64 0#8

/-- A signature, r then s, 32 bytes each, of a 32-byte hash verifies under a public key (FIPS 186-4). -/
def ecdsaVerify (pub : Nat × Nat) (hash sig : List Byte) : Bool :=
  let n := p256Order
  let r := ofBe (sig.take 32)
  let s := ofBe ((sig.drop 32).take 32)
  let w := invMod n s
  match ecAdd (ecMul 256 (ofBe hash * w % n) p256Base) (ecMul 256 (r * w % n) (some pub)) with
  | some (x, _) => decide (1 ≤ r) && decide (r < n) && decide (1 ≤ s) && decide (s < n) && x % n == r
  | none => false

/-! ## The device's key (R256) -/

/-- The private key in OTP, between 1 and the order less 1. -/
def deviceKey : Nat := Config.privateKey % (p256Order - 1) + 1

def deviceSign (hash : List Byte) : List Byte := ecdsaSign deviceKey hash

def devicePublic : List Byte := publicKeyOf deviceKey

end Sys2Proof.Machine
end

