-- ==== Sys2Proof/Machine/Ledger.lean ====
section
/-! DEFINITION. The energy ledger: records closed at a tick boundary (R249-R255, R534), their commit (R256-R258) and the
ledger opcodes (R263). -/

namespace Sys2Proof.Machine

def Chip.setLedger (s : Chip) (f : Ledger → Ledger) : Chip := { s with ledger := f s.ledger }

/-- Slots of the region that an entry fills (R249). -/
def entrySlots (e : LedgerEntry) : Nat := if e.sig.isSome then 2 else 1

def slotsOf (l : List LedgerEntry) : Nat := l.foldl (fun a e => a + entrySlots e) 0

/-- This member closes and commits records (R260). -/
def ledgerWriter (s : Chip) : Bool := isActive s

/-! ## Closing a record -/

/-- The FLAGS byte (R250). -/
def flagByte (s : Chip) (f : RecFlags) (opening : Bool) : Nat :=
  bitN 7 (s.strap == .b) + bitN 5 f.comp + bitN 4 f.cal + bitN 3 opening + bitN 2 f.ovr + bitN 1 f.gap + bitN 0 f.unc

def orFlags (a b : RecFlags) : RecFlags :=
  { comp := a.comp || b.comp, cal := a.cal || b.cal, ovr := a.ovr || b.ovr, gap := a.gap || b.gap, unc := a.unc || b.unc }

/-- A body record is built with the next SEQ and chained to the one before, and queued for commit (R250, R255, R257); a
LEDGER_SNAPSHOT that waits for its SEQ is answered (R263). -/
def numberRecord (s : Chip) (d : LedgerDraft) : Chip :=
  let l := s.ledger
  let body := le 1 d.typ ++ le 1 d.flags ++ le 1 d.obj ++ le 1 d.aux ++ le 4 l.nextSeq ++ le 8 d.hall ++ fit 16 d.payload
    ++ l.prev
  let s := { s with ledger := { l with
      queue := l.queue ++ [{ seq := l.nextSeq, body := body, signed := d.signed, tick := d.tick }],
      nextSeq := (l.nextSeq + 1) % 2 ^ 32, prev := sha256 body } }
  match d.host with
  | some r => formReply s r .ok (le 4 l.nextSeq)
  | none => s

/-- A record is closed: at once, or as a draft while its SEQ is not known (R361). -/
def closeRecord (s : Chip) (typ flags obj aux : Nat) (payload : List Byte) (signed : Bool) : Chip :=
  let d : LedgerDraft := { typ := typ, flags := flags, obj := obj, aux := aux, hall := s.hall, payload := payload,
                           signed := signed, tick := s.now }
  match s.ledger.drafts with
  | none => numberRecord s d
  | some ds => s.setLedger fun l => { l with drafts := some (ds ++ [d]) }

/-- From here on closed records wait for a position (R361). -/
def openDrafts (s : Chip) : Chip := s.setLedger fun l => { l with drafts := some (l.drafts.getD []) }

/-- The records that waited take their SEQs from the position held now, in the order of their closing. -/
def settleDrafts (s : Chip) : Chip :=
  match s.ledger.drafts with
  | some ds => ds.foldl numberRecord (s.setLedger fun l => { l with drafts := none, settledAt := l.nextSeq })
  | none => s

/-- Flags of an object since its previous record (R250), gang members together. -/
def objFlags (s : Chip) (o : Nat) : RecFlags :=
  let f := (meterGroup s o).foldl (fun a m =>
    orFlags a (orFlags (s.meter m).flags { comp := (s.meter m).compLost })) {}
  { f with unc := f.unc || s.clk.degraded }

/-- The object's flags are spent by its record. -/
def spendFlags (s : Chip) (o : Nat) (unc : Bool) : Chip :=
  let s := (meterGroup s o).foldl (fun s m => s.modMeter m fun x => { x with flags := {} }) s
  if unc then s.modMeter o fun m => { m with uncHall := some s.hall } else s

/-- Flags of a shelf object (R250): its own GAP and UNCERTIFIED, and the others over the objects that contributed. -/
def shelfFlags (s : Chip) (first : Bool) : RecFlags :=
  let own := if first then s.meterBook.shelf0 else s.meterBook.shelf1
  let l := if first then List.range 32 else (List.range 12).map (0x20 + ·)
  let f := l.foldl (fun a o =>
    let m := s.meter o
    if m.contributed then orFlags a { m.shelfFlags with comp := m.shelfFlags.comp || m.compLost, gap := false, unc := false }
    else a) own
  { f with unc := f.unc || s.clk.degraded }

def spendShelf (s : Chip) (first : Bool) : Chip :=
  let l := if first then List.range 32 else (List.range 12).map (0x20 + ·)
  let s := l.foldl (fun s o => s.modMeter o fun m => { m with shelfFlags := {}, contributed := false }) s
  { s with meterBook :=
      if first then { s.meterBook with shelf0 := {} } else { s.meterBook with shelf1 := {} } }

/-- A record of an object below 0x30 with the registers `r` (R250). -/
def closeWith (s : Chip) (typ obj aux : Nat) (opening gap signed : Bool) (r : Nat × Nat) : Chip :=
  let f := objFlags s obj
  let s := closeRecord s typ (flagByte s { f with gap := f.gap || gap } opening) obj aux (le 8 r.1 ++ le 8 r.2) signed
  spendFlags s obj f.unc

/-- A record that carries registers: of a metered object, or of a shelf object's two totals (R242, R250). -/
def closeRegs (s : Chip) (typ obj aux : Nat) (opening gap signed : Bool) : Chip :=
  if obj < 0x30 then closeWith s typ obj aux opening gap signed (objRegs s obj)
  else
    let first := obj == 0x30
    let f := shelfFlags s first
    let k := if first then 0 else 2
    let t := s.meterBook.totals.sums
    let s := closeRecord s typ (flagByte s { f with gap := f.gap || gap } false) obj aux
      (le 8 (tget t k) ++ le 8 (tget t (k + 1))) signed
    spendShelf s first

/-- Objects that a close or a snapshot covers, in rising object code (R251). -/
def ledgered (s : Chip) : List Nat := (List.range 44).filter (isLedgered s) ++ [0x30, 0x31]

/-- One record for each ledgered object (R251, R254). -/
def closeAll (s : Chip) (typ aux : Nat) (gap : Bool) : Chip :=
  (ledgered s).foldl (fun s o => closeRegs s typ o aux false gap true) s

/-- The session of slot `j` stands in the table. -/
def sessionOpen (l : Ledger) (j : Nat) : Bool := l.sessions.any fun x => x.1 == j

/-- The session of slot `j` leaves the table. -/
def dropSession (j : Nat) (s : Chip) : Chip := s.setLedger fun l => { l with sessions := l.sessions.filter fun x => x.1 != j }

/-- SESSION_CLOSE of a slot, with its cause, where a session is open (R253). -/
def closeSession (s : Chip) (e : Nat × Nat) : Chip :=
  if sessionOpen s.ledger e.1 then dropSession e.1 (closeRegs s 3 (0x20 + e.1) e.2 false false false) else s

/-- SESSION_CLOSE of a session that a wake found open: cause FAULT, GAP, and the restored registers (R253). -/
def closeOrphan (s : Chip) (e : Nat × Nat × Nat) : Chip :=
  if sessionOpen s.ledger e.1 then dropSession e.1 (closeWith s 3 (0x20 + e.1) 2 false true false e.2) else s

/-- SESSION_OPEN of slot `j` and its OPENING PERIOD (R253). -/
def openSession (s : Chip) (j : Nat) : Chip :=
  let serial := fit 16 (s.bat j).serial
  let s := s.setLedger fun l =>
    { l with sessions := l.sessions.filter (fun x => x.1 < j) ++ [(j, serial)] ++ l.sessions.filter (fun x => j < x.1) }
  let s := closeRecord s 1 (flagByte s {} false) (0x20 + j) 0 serial false
  closeRegs s 2 (0x20 + j) s.ledger.period true false true

/-- Asks for the close of a session at the next tick boundary (R226-R228, R253). -/
def askClose (s : Chip) (j cause : Nat) : Chip :=
  s.setLedger fun l => { l with work := { l.work with closes := l.work.closes ++ [(j, cause)] } }

/-- Sorted by slot: records of one kind follow in rising object code (R534). -/
def insertSlot (e : Nat × Nat) : List (Nat × Nat) → List (Nat × Nat)
  | [] => [e]
  | x :: xs => if e.1 < x.1 then e :: x :: xs else x :: insertSlot e xs

/-! ## The tick boundary (R252-R254, R534) -/

/-- Length of the period in force, in hall time (R252). -/
def periodUnit (s : Chip) : Nat := s.ledger.period * 6000000000

/-- Hall time has reached or passed the next multiple above the last close while metering runs (R252). -/
def periodDue (s : Chip) : Bool :=
  meteringRuns s && decide (s.ledger.lastClose / periodUnit s < s.hall / periodUnit s)

/-- Hall time has reached a held Still Life (R390): its own command closes the records of this boundary, in one order with
the others (R534). -/
def stillDue (s : Chip) : Bool := s.net.still.any fun x => x.at_ ≤ s.hall

/-- The reference goes to the entry at place `n`. -/
def tellAt (r : ReqRef) : Nat → List LedgerDraft → List LedgerDraft
  | _, [] => []
  | 0, d :: ds => { d with host := some r } :: ds
  | n + 1, d :: ds => d :: tellAt r n ds

/-- HOST snapshots asked for by one LEDGER_SNAPSHOT, and its reply (R254, R263), which waits where the SEQ is not known. -/
def hostSnapshot (s : Chip) (r : ReqRef) : Chip :=
  let first := s.ledger.nextSeq
  match s.ledger.drafts with
  | none => formReply (closeAll s 4 2 false) r .ok (le 4 first)
  | some ds =>
    (closeAll s 4 2 false).setLedger fun l => { l with drafts := l.drafts.map (tellAt r ds.length) }

/-- The records of a boundary in the order of R534, but for TAKEOVER, which taking the role closes before; `period` says that a ledger period closes here. -/
def ledgerRecords (s : Chip) (period : Bool) : Chip :=
  let w := s.ledger.work
  let s := s.setLedger fun l => { l with work := {} }
  let orphans := s.ledger.orphans
  let s := if period then closeAll s 2 s.ledger.period false else s
  let s := if w.stillLife then closeAll s 4 1 false else s
  let s := w.hosts.foldl hostSnapshot s
  let s := orphans.foldl closeOrphan s
  let s := (w.closes.foldr insertSlot []).foldl closeSession s
  let s := (w.opens.foldr insertUp []).foldl openSession s
  s.setLedger fun l => { l with orphans := [] }

/-- A member that is not the writer closes nothing: waiting HOST snapshots are answered STANDBY (R260); once its role is
settled, sessions that it left open at its last power loss are the active's to close (R253, R260).  A close that it saw asked
for waits while the mirrored table shows the session: the member that takes the role then closes it. -/
def ledgerIdle (s : Chip) : Chip :=
  let hosts := s.ledger.work.hosts
  let settled := s.pair.me.listen.isNone
  let s := s.setLedger fun l =>
    { l with work := { closes := l.work.closes.filter fun e => sessionOpen l e.1 },
             orphans := if settled then [] else l.orphans }
  hosts.foldl (fun s r => formReply s r .standby (standbyData s)) s

/-- What is closed at a boundary, without or with the close of a period. -/
def ledgerClose (s : Chip) (period : Bool) : Chip :=
  if !meteringRuns s then
    let hosts := s.ledger.work.hosts
    let s := s.setLedger fun l => { l with work := { l.work with hosts := [] } }
    hosts.foldl (fun s r => formReply s r .notInMode (modeData s)) s
  else if ledgerWriter s then ledgerRecords s period
  else ledgerIdle s

/-- Marks of the metering engine at a boundary: GAP where metering did not run, UNCERTIFIED while the clock is degraded
(R246, R250). -/
def markAll (s : Chip) (f : RecFlags → RecFlags) : Chip :=
  let b := s.meterBook
  { s with
    meters := (List.range 44).map fun o => { s.meter o with flags := f (s.meter o).flags },
    meterBook := { b with shelf0 := f b.shelf0, shelf1 := f b.shelf1 } }

def markGap (s : Chip) : Chip := markAll s fun f => { f with gap := true }
def markUnc (s : Chip) : Chip := markAll s fun f => { f with unc := true }

/-- Metering and ledger at a tick boundary.  A boundary at which a period is due leaves its records to
LEDGER_PERIOD_CLOSE, which closes them in one order (R534). -/
def ledgerTick (s : Chip) : Chip :=
  let runs := meteringRuns s
  let s := if runs && !s.ledger.ran then markGap s else s
  let s := if s.clk.degraded then markUnc s else s
  let s := evalFault (s.setLedger fun l => { l with ran := runs }) 0x08C0 s.clk.degraded
  if periodDue s || stillDue s then s else ledgerClose s false

/-- The records of a boundary at which a period may be due (R252, R534); one that comes due while the member still listens for
its role waits for that. -/
def ledgerBoundary (s : Chip) : Chip :=
  if periodDue s && s.pair.me.listen.isNone then
    let s := ledgerClose s true
    s.setLedger fun l =>
      { l with lastClose := s.hall, period := l.periodNext.getD l.period, periodNext := none }
  else ledgerClose s false

/-! ## Commit (R256-R258) -/

/-- The entry is acknowledged (R258). -/
def isAcked (l : Ledger) (seq : Nat) : Bool := l.pos.ack.any fun a => seq ≤ a

/-- Oldest entries that have to go for `need` slots, and those that stay (R258). -/
def overwritten : List LedgerEntry → Nat → List LedgerEntry × List LedgerEntry
  | [], _ => ([], [])
  | e :: es, need =>
    if slotsOf (e :: es) + need ≤ 32768 then ([], e :: es)
    else
      let r := overwritten es need
      (e :: r.1, r.2)

/-- Slots that unacknowledged entries fill. -/
def unackedSlots (l : Ledger) : Nat := slotsOf (l.entries.filter fun e => !isAcked l e.seq)

/-- LEDGER_NEAR_FULL (R258). -/
def nearFullStep (s : Chip) : Chip :=
  let n := unackedSlots s.ledger * 65536 * 100
  let f := s.img.nearFullFrac
  let near :=
    if 32768 * f * 100 ≤ n then true
    else if (n : Int) < 32768 * ((f : Int) * 100 - 65536) then false
    else s.ledger.nearFull
  let s := s.setLedger fun l => { l with nearFull := near }
  evalFault s 0x08C1 near

/-- The session table as a committed record leaves it (R257). -/
def posSessions (p : LedgerPos) (body : List Byte) : List (Nat × List Byte) :=
  let j := field body 2 1 - 0x20
  let others := p.sessions.filter fun x => x.1 != j
  if field body 0 1 = 1 then
    others.filter (fun x => x.1 < j) ++ [(j, (body.drop 16).take 16)] ++ others.filter (fun x => j < x.1)
  else if field body 0 1 = 3 then others
  else p.sessions

/-- The position goes into the block that is not the newer one (R257). -/
def writePos (s : Chip) (p : LedgerPos) : Chip :=
  let l := s.ledger
  let first := decide (l.posA.turn ≤ l.posB.turn)
  let p := { p with turn := max l.posA.turn l.posB.turn + 1, good := true }
  retainedWritten (if first then 2 else 3)
    (s.setLedger fun l => if first then { l with pos := p, posA := p } else { l with pos := p, posB := p })

/-- The newer good position block at wake (R257).  DESIGN CHOICE: where neither is good, the position in force stands. -/
def newerPos (s : Chip) : LedgerPos :=
  let l := s.ledger
  (newerOf l.posA l.posB (l.posA.good && retainedReads s 2) (l.posB.good && retainedReads s 3) LedgerPos.turn).getD l.pos

/-- An entry whose SEQ lies before the position's next one (R257). -/
def beforePos (p : LedgerPos) (e : LedgerEntry) : Bool := decide ((p.nextSeq + 2 ^ 32 - e.seq - 1) % 2 ^ 32 < 2 ^ 31)

/-- The oldest closed record is committed: signature slot, body, position block (R256, R257). -/
def commitOne (s : Chip) (signGood : Bool) : Chip :=
  match s.ledger.queue with
  | [] => s
  | r :: rest =>
    let s := if r.signed && !signGood then setFault s 0x08C3 else s
    let sig := if r.signed then
        some (if signGood then deviceSign (sha256 r.body) else zeros 64)
      else none
    let e : LedgerEntry := { seq := r.seq, body := r.body, sig := sig }
    let cut := overwritten s.ledger.entries (entrySlots e)
    let lost := (cut.1.filter fun x => !isAcked s.ledger x.seq).length
    let s := if 0 < lost then setFault s 0x08C2 else s
    let s := s.setLedger fun l =>
      { l with queue := rest, entries := cut.2 ++ [e], overwrites := sat32 l.overwrites lost, commitHall := s.hall }
    let p := s.ledger.pos
    nearFullStep (writePos s { p with
      nextSeq := (r.seq + 1) % 2 ^ 32, slot := (p.slot + entrySlots e) % 32768, head := sha256 r.body,
      sessions := posSessions p r.body })

/-- LEDGER_COMMIT: `signGood` says whether the signing engine worked. -/
def ledgerCommit (signGood : Bool) (s : Chip) : Chip :=
  if yardAlive s then commitOne s signGood else s

def execLedgerCommit (signGood : Bool) (s : State) : Host.Outcome State Fault Refusal :=
  .next (s.on (ledgerCommit signGood))

/-! ## Opcodes (R263, R265) -/

/-- The ledger state word (R265). -/
def ledgerWord (s : Chip) : Nat :=
  let l := s.ledger
  (if s.imgValid then l.period % 256 else 0) * 2 ^ 16 + bitN 15 l.nearFull + bitN 14 (l.overwrites != 0) + bitN 13 s.clk.degraded
    + bitN 12 (isSticky s 0x08C3) + bitN 11 s.meterBook.ckLost + bitN 10 (ledgerWriter s) + min 256 l.queue.length

def lastCommitted (l : Ledger) : Option Nat := l.entries.getLast?.map LedgerEntry.seq

def none32 : Nat := 0xFFFFFFFF

def headHash (l : Ledger) : List Byte := if l.entries.isEmpty then zeros 32 else l.pos.head

def ledgerInfoData (s : Chip) : List Byte :=
  let l := s.ledger
  le 4 (ledgerWord s) ++ le 4 ((l.entries.head?.map LedgerEntry.seq).getD none32) ++ le 4 l.pos.nextSeq
    ++ le 4 (l.pos.ack.getD none32) ++ le 4 l.overwrites ++ le 4 l.entries.length ++ le 8 l.commitHall ++ headHash l

def bodyLedgerInfo : Body := fun _ _ s => (.reply .ok (ledgerInfoData s), s)

def execLedgerInfo (rq : Request) (s : State) : Host.Outcome State Fault Refusal :=
  .next (s.on (serve 0x0610 {} bodyLedgerInfo rq))

def entryBytes (e : LedgerEntry) : List Byte := e.body ++ e.sig.getD []

/-- The leading entries that fit in `room` bytes, at most `n` of them. -/
def entriesThatFit : List LedgerEntry → Nat → Nat → List LedgerEntry
  | [], _, _ => []
  | e :: es, room, n =>
    if n = 0 || room < (entryBytes e).length then []
    else e :: entriesThatFit es (room - (entryBytes e).length) (n - 1)

/-- MRAM address of an entry that `after` slots follow, up to the position (R249, R257, R432). -/
def entryAddr (l : Ledger) (after : Nat) : Nat := 0x01800000 + 64 * ((l.pos.slot + 65536 - after) % 32768)

/-- Some word of the entries cannot be read (R443); each is listed with those that follow it. -/
def entriesBad (s : Chip) : List LedgerEntry → Nat → Bool
  | [], _ => false
  | e :: es, n =>
    n != 0 && (eccIn s.mram.bad (entryAddr s.ledger (slotsOf (e :: es))) (64 * entrySlots e) || entriesBad s es (n - 1))

def bodyLedgerRead : Body := fun rq _ s =>
  let l := s.ledger
  let start := arg rq 0 4
  let above := match lastCommitted l with
    | some last => decide (last < start)
    | none => start != 0
  if above then (.bare .outOfRange, s)
  else
    let held := l.entries.filter fun e => start ≤ e.seq
    let max := if arg rq 4 2 = 0 then held.length else arg rq 4 2
    let es := entriesThatFit held (portLimit rq.port - 4) max
    if entriesBad s held es.length then (.reply .hwFault (le 2 0x1001), s)
    else (.reply .ok (le 2 es.length ++ zeros 2 ++ es.flatMap entryBytes) (decide (es.length < held.length)), s)

def execLedgerRead (rq : Request) (s : State) : Host.Outcome State Fault Refusal :=
  .next (s.on (serve 0x0611 { lenLo := 8, lenHi := 8 } bodyLedgerRead rq))

def bodyLedgerAck : Body := fun rq _ s =>
  let seq := arg rq 0 4
  match lastCommitted s.ledger with
  | some last =>
    if last < seq then (.bare .outOfRange, s)
    else if isAcked s.ledger seq then (.reply .ok (le 4 (ledgerWord s)), s)
    else
      let s := nearFullStep (writePos s { s.ledger.pos with ack := some seq })
      (.reply .ok (le 4 (ledgerWord s)), s)
  | none => (.bare .outOfRange, s)

def execLedgerAck (rq : Request) (s : State) : Host.Outcome State Fault Refusal :=
  .next (s.on (serve 0x0612 {} bodyLedgerAck rq))

/-- LEDGER_ATTEST's reply data (R263). -/
def attestData (s : Chip) (nonce : List Byte) : List Byte :=
  let l := s.ledger
  let head := devicePublic ++ (List.range 8).map Config.deviceId
    ++ le 4 ((lastCommitted l).getD none32) ++ headHash l ++ le 8 s.hall
  head ++ deviceSign (sha256 (nonce ++ head))

/-- LEDGER_ATTEST waits for the signing engine (R263, R297). -/
def bodyLedgerAttest : Body := fun rq r s =>
  (.later, s.setLedger fun l =>
    { l with attests := l.attests ++ [{ ref := r, nonce := rq.params.take 16, tick := s.now }] })

/-- The oldest waiting LEDGER_ATTEST at a tick boundary: signed, or after 50 ms answered BUSY_RETRY (R297).  DESIGN CHOICE: how
long the engine takes is a free value. -/
def attestTick (s : Chip) : Chip :=
  match s.ledger.attests with
  | [] => s
  | a :: rest =>
    let ready := s.draw % 2 == 1
    let s := s.drawn
    let done := s.setLedger fun l => { l with attests := rest }
    if a.tick + 50000 ≤ s.now then formReply done a.ref .busyRetry []
    else if ready then formReply done a.ref .ok (attestData s a.nonce)
    else s

def execLedgerAttest (rq : Request) (s : State) : Host.Outcome State Fault Refusal :=
  .next (s.on (serve 0x0613 { lenLo := 16, lenHi := 16 } bodyLedgerAttest rq))

/-- LEDGER_SNAPSHOT: the records close at the next boundary, and the reply is formed there (R254, R263). -/
def bodyLedgerSnapshot : Body := fun _ r s =>
  if !meteringRuns s then (.notInMode s, s)
  else
    (.later, s.setLedger fun l => { l with work := { l.work with hosts := l.work.hosts ++ [r] } })

def execLedgerSnapshot (rq : Request) (s : State) : Host.Outcome State Fault Refusal :=
  .next (s.on (serve 0x0614 { activeOnly := true } bodyLedgerSnapshot rq))

end Sys2Proof.Machine
end

