-- ==== Sys2Proof/Machine/Batteries.lean ====
section
/-! DEFINITION. Battery slots: admission (R206-R209), the voltage-only estimator and its rests (R213-R219, R224, R225),
the ends of charge and discharge (R221-R223), removal, loss of the terminal and release (R226-R228), presence of a slot
(R64-R66) and the battery opcodes (R232). -/

namespace Sys2Proof.Machine

/-! ## Events and ADMIT -/

/-- Body of a battery event (R234). -/
def batBody (s : Chip) (j kind : Nat) : List Byte :=
  le 1 j ++ le 1 kind ++ zeros 2 ++ le 4 (batWord s j) ++ le 8 s.hall

def postBat (s : Chip) (j kind : Nat) (done : List (ReqRef × Status)) : Chip := post s 0x06 (batBody s j kind) done

/-- Source ID of a battery fault: kind × 16 + slot (R231). -/
def batSource (kind j : Nat) : Nat := 0x0700 + kind * 16 + j

/-- What a session leaves behind when ADMIT leaves ADMITTED: the estimate ends with the session; the last rest stays
readable. -/
def endSession (b : Bat) : Bat :=
  { b with socQ := .none, soc := 0, resting := false, floor := false, ceiling := false, drift := false, bmsLost := false,
           tempLimit := false, slow := false, releasing := false, switched := false, ceilTicks := 0, floorTicks := 0,
           lowTicks := 0, badTicks := 0, admitHall := 0, read := none, known := false, est := { rest := b.est.rest, sLast := b.est.sLast } }

/-- Events of the marks that the end of a session clears (R234). -/
def postCleared (s : Chip) (j : Nat) (was : Bat) : Chip :=
  let s := if was.floor || was.ceiling then postBat s j 3 [] else s
  let s := if was.drift then postBat s j 4 [] else s
  if was.bmsLost then postBat s j 5 [] else s

/-- ADMIT changes, with its event; leaving ADMITTED ends what belonged to the session (R234). -/
def setAdmit (s : Chip) (j : Nat) (a : Admit) (why : BatRefuse) (done : List (ReqRef × Status)) : Chip :=
  let old := s.bat j
  let was := old.admState
  let s := s.modBat j fun b => { b with admState := a, refuse := why }
  let s := if was == .admitted && a != .admitted then
      let s := s.modBat j endSession
      let s := setLive s (batSource 1 j) false
      let s := setLive s (batSource 4 j) false
      let s := setLive s (batSource 6 j) false
      setLive s (batSource 7 j) false
    else s
  let s := if was == a && done.isEmpty then s else postBat s j 1 done
  if was == .admitted && a != .admitted then postCleared s j old else s

/-- The BAT_ADMITs that wait for the end of admission complete (R232, R304). -/
def admitEnds (s : Chip) (j : Nat) (a : Admit) (why : BatRefuse) : Chip :=
  let refs := (s.bat j).admitRefs
  let s := s.modBat j fun b => { b with admitRefs := [], passed := false }
  setAdmit s j a why (allWith refs (if a == .admitted then .ok else .aborted))

/-- Admission starts (R207): IDENTIFYING, the first read due at once. -/
def startAdmission (s : Chip) (j : Nat) : Chip :=
  if (batBind s j).isSome && isActive s then
    let s := s.modBat j fun b =>
      { b with attempts := 0, attemptDue := s.now, tempRetry := none, passed := false, serial := [], profile := 0, read := none }
    setAdmit s j .identifying .none []
  else s

/-- A refusal (R207, R231). -/
def refuseBat (s : Chip) (j : Nat) (why : BatRefuse) : Chip :=
  let s := setFault s (batSource 0 j)
  let s := s.modBat j fun b => { b with tempRetry := if why == .temperature then some (s.now + 10000000) else none }
  admitEnds s j .refused why

/-- Both windows of a profile exclude a temperature. -/
def outsideBoth (p : Profile) (t : Int) : Bool :=
  (decide (t < p.tChgMin) || decide (p.tChgMax < t)) && (decide (t < p.tDisMin) || decide (p.tDisMax < t))

/-- Either window excludes the temperature (R223). -/
def outsideEither (p : Profile) (t : Int) : Bool :=
  decide (t < p.tChgMin) || decide (p.tChgMax < t) || decide (t < p.tDisMin) || decide (p.tDisMax < t)

/-- The module is admitted, or is about to be, in another slot (R207). -/
def serialTaken (s : Chip) (j : Nat) (serial : List Byte) : Bool :=
  (List.range 12).any fun k =>
    k != j && ((s.bat k).admState == .admitted || (s.bat k).passed) && (s.bat k).serial == serial

/-- The checks of R207 on three good values, in their order. -/
def admitCheck (s : Chip) (j : Nat) (serial : List Byte) (profile : Nat) (t : Int) : Option BatRefuse :=
  match profileOf s profile with
  | none => some .unknownProfile
  | some p =>
    if serialTaken s j serial then some .duplicate
    else if decide (termV s j < p.vFloor) || decide ((p.vCeil : Int) < termV s j) then some .voltage
    else if outsideBoth p t then some .temperature
    else none

/-- The slot waits for values of its BMS (R207, R229): an active member's admission, or the values that the member's own
estimator starts from. -/
def seeksValues (s : Chip) (j : Nat) : Bool :=
  let b := s.bat j
  if b.admState == .identifying then !b.passed && !b.removed && (isActive s || b.profile == 0)
  else slotAdmitted s j && !b.known && b.profile == 0

/-- The reads of an admission have ended (R207): three good values are judged by the active member, and kept by a standby
for its own estimator (R229); else the attempt is repeated, at most 3 times where the member decides.  DESIGN CHOICE: the 1 s
between attempts counts from the end of the reads of the one before. -/
def admitJudge (s : Chip) (j : Nat) (r : BmsRead) : Chip :=
  let b := s.bat j
  let s := s.modBat j fun b => { b with read := none }
  let decides := isActive s && b.admState == .identifying
  match r.serial, r.profile, r.temp with
  | some sn, some pr, some t =>
    let s := s.modBat j fun b => { b with profile := pr, temp := t, serial := if decides then sn else b.serial }
    if decides then
      match admitCheck s j sn pr t with
      | some why => refuseBat s j why
      | none => s.modBat j fun b => { b with passed := true }
    else s
  | _, _, _ =>
    if decides && decide (3 ≤ b.attempts + 1) then refuseBat s j .noBms
    else s.modBat j fun b => { b with attempts := b.attempts + 1, attemptDue := s.now + 1000000 }

/-- The operands of a command that judges a slot's reads name the values that the reads gave: none for one that failed, or
for a value that was not asked for. -/
def readGave (r : BmsRead) (serial : Option (List Byte)) (profile : Option Nat) (temp : Option Int) : Bool :=
  r.serial == serial && r.profile == profile && r.temp == temp

/-- An admission read (R207): the three values are asked for when the attempt is due, and judged once their transactions
have ended; there the operands name the values. -/
def admitAttempt (j : Nat) (serial : Option (List Byte)) (profile : Option Nat) (temp : Option Int) (s : Chip) : Chip :=
  if seeksValues s j && yardWorks s && !handFrozen s then
    match (s.bat j).read with
    | none => if (s.bat j).attemptDue ≤ s.now then beginRead s j false [.serial, .profile, .temp] else s
    | some r => if r.left = 0 && !r.poll && readGave r serial profile temp then admitJudge s j r else s
  else s

def execAdmitAttempt (j : Fin 12) (serial : Option (List Byte)) (profile : Option Nat) (temp : Option Int) (s : State) :
    Host.Outcome State Fault Refusal :=
  .next (s.on (admitAttempt j serial profile temp))

/-- The feed channel of the slot reads PRESENT. -/
def feedPresent (s : Chip) (j : Nat) : Bool := (batBind s j).any fun b => isPresent s b.channel

/-- A slot refused with TEMPERATURE runs admission again (R207). -/
def admitTempRetry (j : Nat) (s : Chip) : Chip :=
  let b := s.bat j
  if b.admState == .refused && b.refuse == .temperature && feedPresent s j && (b.tempRetry.any fun t => t ≤ s.now) then
    startAdmission s j
  else s

def execAdmitTempRetry (j : Fin 12) (s : State) : Host.Outcome State Fault Refusal := .next (s.on (admitTempRetry j))

/-! ## The estimator's step (R214) -/

/-- |P_CMD| has reached 2 % of P_SLOT_RATING. -/
def isBig (c : BatCfg) (p : Int) : Bool := decide (c.pRating ≤ 50 * p.natAbs)

/-- FLOOR clears once the state of charge reaches FLOOR_REARM, CEILING once it has fallen 2 points (R221, R222). -/
def socMarks (s : Chip) (j : Nat) : Chip :=
  match batBind s j with
  | none => s
  | some c =>
    let b := s.bat j
    let s := if b.floor && decide (c.floorRearm * 1000000000000 ≤ b.soc * 65536) then
        let s := s.modBat j fun b => { b with floor := false }
        let s := setLive s (batSource 6 j) false
        postBat s j 3 []
      else s
    let b := s.bat j
    if b.ceiling && decide (b.soc + 20000000000 ≤ b.ceilSoc) then
      postBat (s.modBat j fun b => { b with ceiling := false }) j 3 []
    else s

/-- A branch voltage of the model after `dt` µs under a current in mA: it approaches current × resistance with its time
constant (µs); µV. -/
def branchStep (v i : Int) (r tau dt : Nat) : Int :=
  let goal := rdiv (i * r) 1000
  goal + rdiv ((v - goal) * fxExpNeg dt tau) fxOne

/-- The end of an estimator step (R214): `p` is P_CMD at this boundary. -/
def estStep (s : Chip) (j : Nat) (p : Int) : Chip :=
  match batBind s j with
  | none => s
  | some c =>
    let b := s.bat j
    let e := b.est
    let pr := slotProfile s j
    let big := isBig c p
    let soc := clampI 0 1000000000000 (b.soc + rdiv (e.eStep * 1000000000) e.eUse)
    let dt := s.now - e.stepStart
    let v := termV s j
    let mean := if dt = 0 then 0 else rdiv (e.eStep * 1000) (dt * v)
    let vF := if dt = 0 then e.vF else branchStep e.vF mean pr.rFast (tauFast pr) dt
    let vS := if dt = 0 then e.vS else branchStep e.vS mean pr.rSlow (tauSlow pr) dt
    let iCmd := rdiv (p * 1000) v
    let model := ocvOfSoc pr b.temp soc.toNat + rdiv (iCmd * pr.rSer) 1000 + vF + vS
    let s := s.modBat j fun b =>
      { b with soc := soc.toNat, slow := !big, est := { e with
          eStep := 0, stepStart := s.now, vF := vF, vS := vS, sLast := if big then sgn p else e.sLast,
          residual := if b.slow then e.residual else rdiv (v * 1000 - model) 1000 } }
    socMarks s j

/-- Tick at which the estimator's step falls due (R214). -/
def stepDue (b : Bat) : Nat := b.est.stepStart + (if b.slow then 60000000 else 1000000)

/-- Tick at which the next rest sample falls due (R215). -/
def restDue (b : Bat) : Option Nat :=
  let k := b.est.rest.samples.length
  if b.resting && decide (k < 10) then some (b.est.rest.start + 2 ^ k * 1000000) else none

/-- The Yard takes the slot's step next (R442): no other step that waits has a higher level, or the same and became due earlier. -/
def firstDue (s : Chip) (j : Nat) : Bool :=
  let level (k : Nat) : Nat := agedLevel .estimator (s.now - stepDue (s.bat k))
  (List.range 12).all fun k => !(slotAdmitted s k && decide (stepDue (s.bat k) ≤ s.now)) || decide (level k < level j)
    || (level k == level j && decide (stepDue (s.bat j) ≤ stepDue (s.bat k)))

/-- One step of an admitted slot, when it is due (R213, R214, R442). -/
def estimatorStep (j : Nat) (s : Chip) : Chip :=
  if slotAdmitted s j && meteringRuns s && yardWorks s && decide (stepDue (s.bat j) ≤ s.now) && firstDue s j then estStep s j (s.bat j).est.pCmd else s

def execEstimatorStep (j : Fin 12) (s : State) : Host.Outcome State Fault Refusal := .next (s.on (estimatorStep j))

/-! ## Rests and fits (R215-R218, R224, R225) -/

/-- Net terminal export in µJ. -/
def netExport (s : Chip) (j : Nat) : Int := ((s.meter (0x20 + j)).exp : Int) - (s.meter (0x20 + j)).imp

/-- The slot's MRAM record (R219). -/
def writeBatRec (s : Chip) (j : Nat) : Chip :=
  let b := s.bat j
  let f := b.est.lastFit.getD {}
  let r : BatRec := { serial := b.serial, eUse := b.est.eUse, soc := f.soc, hall := f.hall }
  { s with batRecs := tset s.batRecs j r }

/-- DRIFT counts a checked pair (R224). -/
def driftCount (s : Chip) (j : Nat) (c : BatCfg) (bad : Bool) (d : Int) : Chip :=
  let s := s.modBat j fun b => { b with est := { b.est with
    lastD := clampI (-32768) 32767 d,
    driftBad := if bad then b.est.driftBad + 1 else 0, driftGood := if bad then 0 else b.est.driftGood + 1 } }
  let b := s.bat j
  let drift := if c.driftCount ≤ b.est.driftBad then true else if c.driftCount ≤ b.est.driftGood then false else b.drift
  let s := s.modBat j fun b => { b with drift := drift }
  let s := evalFault s (batSource 4 j) drift
  if drift != b.drift then postBat s j 4 [] else s

/-- The first fit of a rest against the last fit of the previous one (R224, R225). -/
def restPair (s : Chip) (j : Nat) (c : BatCfg) (soc : Nat) : Chip :=
  let b := s.bat j
  match b.est.lastFit with
  | none => s
  | some f =>
    let dsoc : Int := (soc : Int) - f.soc
    let unc := (s.meter (0x20 + j)).uncHall.any fun t => f.hall < t
    if unc then s
    else
      let est := -dsoc * b.est.eUse
      let diff := 10000 * (netExport s j - f.met) - est
      let s := if c.driftMin * 10000 ≤ dsoc.natAbs * 65536 then
          driftCount s j c (decide (c.driftTol * est.natAbs < diff.natAbs * 65536)) (rdiv (diff * 10000) est)
        else s
      if c.sohMin * 10000 ≤ dsoc.natAbs * 65536 then
        let eCmd := b.est.eTotal - f.cmd
        let whole := rdiv (eCmd * 10000) (-dsoc * 1000)
        let next := b.est.eUse + rdiv (c.sohGain * (whole - b.est.eUse)) 65536
        let nom := (slotProfile s j).eNom
        let e := clampI (rdiv nom 5) (rdiv (6 * nom) 5) next
        s.modBat j fun b => { b with est := { b.est with eUseNext := some e.toNat } }
      else s

/-- A fit of the samples taken so far (R216). -/
def restFitStep (s : Chip) (j : Nat) (c : BatCfg) : Chip :=
  let b := s.bat j
  let p := slotProfile s j
  let r := b.est.rest
  let f := restFit p r.samples
  let rms := fitRms p f r.samples
  let s := s.modBat j fun b => { b with est := { b.est with rest := { b.est.rest with
    vEq := rdiv f.1 1000, aF := rdiv f.2.1 1000, aS := rdiv f.2.2 1000, rms := rdivN rms 1000 } } }
  if c.fitRmsMax * 1000000 < rms then setFault s (batSource 5 j)
  else
    let ocv := rdiv f.1 1000 - b.est.sLast * p.hMag * 1000
    let fine := socFromOcv p b.temp ocv
    let soc := roundDiv fine 100000000
    let first := !r.fitDone
    let s := s.modBat j fun b => { b with soc := soc * 100000000, socQ := .fitted }
    let s := if first then restPair s j c soc else s
    let row := fitRow p (r.samples.length - 1)
    let s := s.modBat j fun b => { b with est := { b.est with
      vF := rdiv (rdiv (f.2.1 * row.1) fxOne) 1000, vS := rdiv (rdiv (f.2.2 * row.2) fxOne) 1000,
      lastFit := some { soc := soc, met := netExport s j, cmd := b.est.eTotal, hall := s.hall }, lastFitHall := s.hall,
      rest := { b.est.rest with fitDone := true, ocv := rdiv ocv 1000, soc := soc } } }
    let s := writeBatRec s j
    let s := if (s.bat j).ceiling && decide (soc * 100000000 < slotTop s j) then
        postBat (s.modBat j fun b => { b with ceiling := false }) j 3 []
      else s
    let s := socMarks s j
    if first then postBat s j 2 [] else s

/-- A rest sample: the mean of V_TERM over the last 100 ms, µV (R215). -/
def restSample (j : Nat) (vMean : Int) (s : Chip) : Chip :=
  let b := s.bat j
  let k := b.est.rest.samples.length
  match batBind s j with
  | some c =>
    if slotAdmitted s j && yardWorks s && b.resting && decide (k < 10) && decide (b.est.rest.start + 2 ^ k * 1000000 ≤ s.now) then
      let s := s.modBat j fun b =>
        { b with est := { b.est with rest := { b.est.rest with samples := b.est.rest.samples ++ [vMean] } } }
      if 6 ≤ k then restFitStep s j c else s
    else s
  | none => s

def execRestSample (j : Fin 12) (vMean : Int) (s : State) : Host.Outcome State Fault Refusal :=
  .next (s.on (restSample j vMean))

/-! ## CEILING, FLOOR, BMS, TERM_LOSS -/

/-- V_TERM has been at V_CEIL or above for 10 ticks while charging (R221). -/
def ceilingSet (j : Nat) (s : Chip) : Chip :=
  if slotAdmitted s j && !(s.bat j).ceiling && decide (10 ≤ (s.bat j).ceilTicks) then
    postBat (s.modBat j fun b => { b with ceiling := true, ceilSoc := b.soc, ceilTicks := 0 }) j 3 []
  else s

def execCeiling (j : Fin 12) (s : State) : Host.Outcome State Fault Refusal := .next (s.on (ceilingSet j))

/-- V_TERM has been at V_FLOOR or below for 10 ticks while discharging (R222). -/
def floorSet (j : Nat) (s : Chip) : Chip :=
  match batBind s j with
  | some c =>
    if slotAdmitted s j && !(s.bat j).floor && decide (10 ≤ (s.bat j).floorTicks) then
      let s := s.modBat j fun b => { b with floor := true, soc := 0, floorTicks := 0 }
      let s := evalFault s (batSource 6 j) true
      let s := postBat s j 3 []
      if (s.rail c.rail).state == .bridging then
        let s := lanesMid s c.rail
        let s := s.modRail c.rail fun r => { r with chargeSet := 0, idle := true, lp := { r.lp with ref := 0 } }
        setRailState s c.rail .armed []
      else s
    else s
  | none => s

def execFloor (j : Fin 12) (s : State) : Host.Outcome State Fault Refusal := .next (s.on (floorSet j))

/-- A slot is closed while presence still reads seated (R227): lanes mid, feed open with the strong pull-down and LAST_STOP
REMOVED in WAIT_PRESENT with PRESENT cleared, ADMIT REFUSED, session closed with cause FAULT.  DESIGN CHOICE for a feed
that a serial change finds off: without INTENT_ON it is OFF, as after a removal (R65), and a LOCKED one stays LOCKED.  On a
standby ADMIT and the session stay the active's (R229). -/
def closeSlot (s : Chip) (j : Nat) (why : BatRefuse) : Chip :=
  match batBind s j with
  | none => s
  | some c =>
    let n := c.channel
    let s := lanesMid s c.rail
    let s := (members s n).foldl (fun s m => s.modCh m fun x => { x with present := false, insertDue := none }) s
    let s := if (s.ch n).state == .locked then driversOff s n .strong
      else
        let s := s.modCh n fun c => { c with brk := { c.brk with due := none, retryNext := false } }
        chStop s n .removed .strong (if (s.ch n).intentOn then .waitPresent else .off) .aborted
    let s := askClose s j 2
    let s := s.modBat j fun b => { b with tempRetry := none, closed := true }
    if isActive s then
      let refs := (s.bat j).releaseRefs
      let s := s.modBat j fun b => { b with releaseRefs := [] }
      setAdmit s j .refused why (allWith refs .aborted)
    else s

/-- A terminal connection has failed (R227). -/
def termLossSet (j : Nat) (s : Chip) : Chip :=
  if slotAdmitted s j && (decide (4 ≤ (s.bat j).lowTicks) || decide (2 ≤ (s.bat j).badTicks)) then
    closeSlot (setFault s (batSource 3 j)) j .termLoss
  else s

def execTermLoss (j : Fin 12) (s : State) : Host.Outcome State Fault Refusal := .next (s.on (termLossSet j))

/-- TEMP_LIMIT follows the module temperature (R223). -/
def tempLimitStep (s : Chip) (j : Nat) : Chip :=
  let lim := outsideEither (slotProfile s j) (s.bat j).temp
  let s := s.modBat j fun b => { b with tempLimit := lim }
  evalFault s (batSource 7 j) lim

/-- The reads of a poll have ended (R209): good ones count, and a serial that has changed closes the slot. -/
def pollJudge (s : Chip) (j : Nat) (r : BmsRead) : Chip :=
  let s := s.modBat j fun b => { b with read := none }
  match r.serial, r.temp with
  | some sn, some t =>
    let was := (s.bat j).bmsLost
    let s := s.modBat j fun b => { b with lastGood := s.now, temp := t, bmsLost := false }
    let s := setLive s (batSource 1 j) false
    let s := if was then postBat s j 5 [] else s
    if sn != (s.bat j).serial && isActive s then closeSlot (setFault s (batSource 2 j)) j .serialChanged
    else tempLimitStep s j
  | _, _ => s

/-- An admitted slot reads MODULE_TEMP and MODULE_SERIAL every BMS_POLL (R209): the two are asked for when the poll is due,
and judged once their transactions have ended; there the operands name the values. -/
def bmsPoll (j : Nat) (serial : Option (List Byte)) (temp : Option Int) (s : Chip) : Chip :=
  match batBind s j with
  | some c =>
    let b := s.bat j
    if slotAdmitted s j && b.known && yardWorks s then
      match b.read with
      | some r => if r.left = 0 && r.poll && readGave r serial none temp then pollJudge s j r else s
      | none =>
        if b.pollNext ≤ s.now then
          beginRead (s.modBat j fun b => { b with pollNext := s.now + c.bmsPoll * 1000 }) j true [.temp, .serial]
        else s
    else s
  | none => s

def execBmsPoll (j : Fin 12) (serial : Option (List Byte)) (temp : Option Int) (s : State) :
    Host.Outcome State Fault Refusal :=
  .next (s.on (bmsPoll j serial temp))

/-- No good read for BMS_LOSS_TIME (R209). -/
def bmsLostSet (j : Nat) (s : Chip) : Chip :=
  match batBind s j with
  | some c =>
    if slotAdmitted s j && (s.bat j).known && !(s.bat j).bmsLost && decide ((s.bat j).lastGood + c.bmsLoss * 1000000 ≤ s.now) then
      let s := s.modBat j fun b => { b with bmsLost := true }
      postBat (evalFault s (batSource 1 j) true) j 5 []
    else s
  | none => s

def execBmsLost (j : Fin 12) (s : State) : Host.Outcome State Fault Refusal := .next (s.on (bmsLostSet j))

/-! ## The tick of a slot -/

/-- The estimator's start at admission (R219). -/
def initSoc (s : Chip) (j : Nat) : Chip :=
  let b := s.bat j
  let p := slotProfile s j
  let rec_ := tget s.batRecs j
  let eUse := if rec_.serial == b.serial then rec_.eUse else p.eNom
  s.modBat j fun b =>
    { b with soc := socFromOcv p b.temp (termV s j * 1000), socQ := .initial, lastGood := s.now,
             pollNext := s.now + ((batBind s j).getD {}).bmsPoll * 1000, known := true, read := none,
             admitHall := s.hall, est := { eUse := eUse, stepStart := s.now, rest := b.est.rest } }

/-- The estimator's schedule and TEMP_LIMIT start (R214, R223). -/
def initRun (s : Chip) (j : Nat) : Chip :=
  let p0 := commandedPower s j
  let s := s.modBat j fun b => { b with slow := !isBig ((batBind s j).getD {}) p0, est := { b.est with pCmd := p0 } }
  tempLimitStep s j

/-- The module is admitted at this boundary: the estimator is initialised and a session opens (R207, R219, R253). -/
def admitNow (s : Chip) (j : Nat) : Chip :=
  let s := initRun (admitEnds (initSoc s j) j .admitted .none) j
  s.setLedger fun l => { l with work := { l.work with opens := l.work.opens ++ [j] } }

/-- The rest begins or ends as the rail's lanes stop or start switching (R215). -/
def restTrack (s : Chip) (j : Nat) (sw : Bool) : Chip :=
  s.modBat j fun b =>
    let b := if b.switched && !sw then
        { b with resting := true, est := { b.est with rest := { start := s.now, startHall := s.hall } } }
      else if sw then { b with resting := false } else b
    { b with switched := sw }

/-- Consecutive ticks of the conditions of CEILING, FLOOR and TERM_LOSS (R221, R222, R227). -/
def batWatch (s : Chip) (j : Nat) (c : BatCfg) : Chip :=
  let p := slotProfile s j
  let v := termV s j
  let r := s.rail c.rail
  let sw := r.lp.switching
  let ref := heldRef s c.rail
  let low := sw && !voltageMain s c.rail && decide (10 * r.lp.iRail.natAbs < ref.natAbs)
    && decide (2 * (s.prot c.rail).armIdleI ≤ ref.natAbs)
  let bad := sw && (decide ((p.vCeil : Int) + 2000 < v) || decide (2 * v < p.vFloor))
  s.modBat j fun b =>
    { b with
      ceilTicks := if decide ((p.vCeil : Int) ≤ v) && decide (0 < b.est.pCmd) then b.ceilTicks + 1 else 0,
      floorTicks := if decide (v ≤ p.vFloor) && decide (b.est.pCmd < 0) then b.floorTicks + 1 else 0,
      lowTicks := if low then b.lowTicks + 1 else 0, badTicks := if bad then b.badTicks + 1 else 0 }

/-- An admitted slot at a tick boundary: energy integrated, the step ended early at a crossing (R214), the rest. -/
def batRun (s : Chip) (j : Nat) (c : BatCfg) : Chip :=
  let s := s.modBat j fun b => { b with est := { b.est with
    eStep := b.est.eStep + b.est.pCmd, eTotal := b.est.eTotal + b.est.pCmd } }
  let p := commandedPower s j
  let s := if isBig c p == (s.bat j).slow then estStep s j p else s
  let s := s.modBat j fun b => { b with est := { b.est with pCmd := p } }
  batWatch (restTrack s j (s.rail c.rail).lp.switching) j c

/-- BAT_RELEASE ends once the rail's ramp is over (R228).  DESIGN CHOICE: a RAIL_ON that turns the ramp round (R124) ends the
release, whose request completes ABORTED, as ended by a later request (R293); the module stays ADMITTED. -/
def releaseStep (s : Chip) (j : Nat) (c : BatCfg) : Chip :=
  if (s.bat j).releasing && (s.rail c.rail).state != .rampDown then
    let refs := (s.bat j).releaseRefs
    let s := s.modBat j fun b => { b with releasing := false, releaseRefs := [] }
    if railLive (s.rail c.rail) then setAdmit s j .admitted (s.bat j).refuse (allWith refs .aborted)
    else setAdmit (askClose s j 0) j .released .none (allWith refs .ok)
  else s

/-- A removed slot is EMPTY at the next boundary, whatever ADMIT was; REFUSE keeps its reason, and the slot's energy leaves
E_STORE (R162, R226). -/
def removedStep (s : Chip) (j : Nat) : Chip :=
  let b := s.bat j
  let refs := b.admitRefs ++ b.releaseRefs
  let s := s.modBat j fun b =>
    { b with removed := false, passed := false, admitRefs := [], releaseRefs := [], tempRetry := none, serial := [],
             profile := 0, read := none }
  storeMarks (formPools (setAdmit s j .empty b.refuse (allWith refs .aborted)))

/-- One battery slot at a tick boundary. -/
def batTick (s : Chip) (j : Nat) : Chip :=
  match batBind s j with
  | none => s
  | some c =>
    if (s.bat j).removed then removedStep s j
    else if (s.bat j).passed then
      if isActive s && meteringRuns s && s.mode.stage != .powerDown && !handFrozen s then admitNow s j else s
    else if slotAdmitted s j && meteringRuns s then
      if (s.bat j).known then releaseStep (batRun s j c) j c
      else if (s.bat j).profile != 0 then initRun (initSoc s j) j
      else s
    else s

/-! ## Presence of a slot (R64-R66) -/

/-- The attempt after an insertion: INSERT_DELAY runs where INTENT_ON is set and the mode admits ON (R66). -/
def insertStart (s : Chip) (n : Nat) : Chip :=
  let c := s.ch n
  if c.intentOn && c.state == .waitPresent && admitsCh s n then
    s.modCh n fun c => { c with insertDue := some (s.now + (s.chCfg n).insertDelay * 1000) }
  else s

/-- PRSn has been low for 1 ms (R64, R66, R207). -/
def insertion (n : Nat) (s : Chip) : Chip :=
  if presenceIgnored s n then s
  else
    let s := s.modCh n fun c => { c with present := true, cut := false }
    let s := ((slotOfCh s n).map fun j => s.modBat j fun b => { b with closed := false }).getD s
    if !studioRuns s then s
    else
      let s := post s 0x02 (chBody s n 2) []
      let s := insertStart s n
      match slotOfCh s n with
      | some j => startAdmission s j
      | none => s

def execInsertion (ch : Fin 32) (s : State) : Host.Outcome State Fault Refusal := .next (s.on (insertion ch))

/-- What a removal does to the channel by its state (R65, R103, R535). -/
def removeChannel (s : Chip) (n : Nat) : Chip :=
  let c := s.ch n
  match c.state with
  | .precharge | .closing | .limiting | .on =>
    chStop (setFault s (chSource 1 5 n)) n .removed .strong (if c.intentOn then .waitPresent else .off) .aborted
  | .cooling => setChState s n .waitPresent []
  | .waitPresent => s.modCh n fun c => { c with insertDue := none }
  | .tripped =>
    let s := s.modCh n fun c => { c with brk := { c.brk with due := none, retryNext := true } }
    setChState s n .waitPresent []
  | _ => s

/-- PRSn has been high for 2 µs (R64, R65, R226). -/
def removal (n : Nat) (s : Chip) : Chip :=
  if presenceIgnored s n then s
  else
    let s := (members s n).foldl (fun s m => s.modCh m fun c =>
      { c with present := false, main := .off, pre := .off, pull := .strong }) s
    let s := if stableActs s then s.modCh n fun c => { c with cut := true } else s
    if !studioRuns s then s
    else
      let s := removeChannel s n
      let s := post s 0x02 (chBody s n 3) []
      match slotOfCh s n with
      | some j => askClose (s.modBat j fun b => { b with removed := true, closed := false }) j 1
      | none => s

def execRemoval (ch : Fin 32) (s : State) : Host.Outcome State Fault Refusal := .next (s.on (removal ch))

/-! ## WEIGHT_UPDATE (R155, R225) -/

/-- A new E_USE takes effect (R225). -/
def applyEUse (s : Chip) (j : Nat) : Chip :=
  match (s.bat j).est.eUseNext with
  | some e =>
    if slotAdmitted s j then
      let s := s.modBat j fun b => { b with est := { b.est with eUse := e, eUseNext := none } }
      writeBatRec s j
    else s
  | none => s

/-- Every WEIGHT_PERIOD: E_USE values take effect, pools are formed, and the weights become setpoints (R155). -/
def weightUpdate (s : Chip) : Chip :=
  if yardWorks s && s.imgValid && decide (s.book.nextWeight ≤ s.now) then
    let s := { s with book := { s.book with nextWeight := s.now + s.img.energy.weightPeriod * 1000 } }
    let s := forEach 12 (fun j s => applyEUse s j) s
    let s := formPools s
    if isActive s then
      forEach 12 (fun j s => if slotStands s j then queueEnergy s (.weight j (weightOf s j)) else s) s
    else s
  else s

def execWeightUpdate (s : State) : Host.Outcome State Fault Refusal := .next (s.on weightUpdate)

/-! ## Opcodes (R232) -/

/-- Checks of a request that names a battery slot. -/
def batChecks (rq : Request) (s : Chip) : Option Ans :=
  if 11 < arg rq 0 1 then some (.bare .outOfRange)
  else if (batBind s (arg rq 0 1)).isNone then some (.bare .configInvalid)
  else none

def batData (s : Chip) (j : Nat) : List Byte := le 4 (batWord s j)

/-- BAT_GET's reply data. -/
def batGetData (s : Chip) (j : Nat) : List Byte :=
  let b := s.bat j
  let e := b.est
  batData s j ++ le 2 b.profile ++ le 2 (((batBind s j).map fun c => (s.chCfg c.channel).gen).getD 0)
    ++ fit 16 b.serial ++ leI 4 (termV s j) ++ leI 2 b.temp ++ leI 2 e.lastD ++ le 8 e.eUse
    ++ le 8 (slotFloorEnergy s j) ++ le 8 (slotReserve s j) ++ leI 4 (commandedPower s j) ++ leI 4 (slotChargeMax s j)
    ++ leI 4 (slotDischargeMax s j) ++ leI 4 e.residual ++ le 8 e.lastFitHall ++ le 8 b.admitHall

def bodyBatGet : Body := fun rq _ s =>
  match batChecks rq s with
  | some a => (a, s)
  | none => (.reply .ok (batGetData s (arg rq 0 1)), s)

def execBatGet (rq : Request) (s : State) : Host.Outcome State Fault Refusal :=
  .next (s.on (serve 0x0501 {} bodyBatGet rq))

def bodyBatStateAll : Body := fun _ _ s => (.reply .ok ((List.range 12).flatMap (batData s)), s)

def execBatStateAll (rq : Request) (s : State) : Host.Outcome State Fault Refusal :=
  .next (s.on (serve 0x0502 {} bodyBatStateAll rq))

/-- BAT_ADMIT on a feed that TERM_LOSS or a serial change opened: PRESENT sets and the attempt follows INSERT_DELAY
later (R227). -/
def reseat (s : Chip) (j : Nat) : Chip :=
  if (s.bat j).closed && !(s.bat j).removed then
    match batBind s j with
    | some c =>
      let s := (members s c.channel).foldl (fun s m => s.modCh m fun x => { x with present := true }) s
      insertStart (s.modBat j fun b => { b with closed := false }) c.channel
    | none => s
  else s

def bodyBatAdmit : Body := fun rq r s =>
  let j := arg rq 0 1
  match batChecks rq s with
  | some a => (a, s)
  | none =>
    if (s.bat j).admState == .admitted || (s.bat j).admState == .identifying then (.reply .ok (batData s j), s)
    else
      let s := startAdmission (reseat s j) j
      let s := s.modBat j fun b => { b with admitRefs := b.admitRefs ++ [r] }
      (.reply .accepted (batData s j), s)

def execBatAdmit (rq : Request) (s : State) : Host.Outcome State Fault Refusal :=
  .next (s.on (serve 0x0503 { activeOnly := true } bodyBatAdmit rq))

/-- The rail of a released slot ramps to zero and ends in WAIT with INTENT_ON kept (R228). -/
def releaseRail (s : Chip) (k : Nat) : Chip :=
  match (s.rail k).state with
  | .rampUp | .armed =>
    let refs := (s.rail k).refs
    let s := (beginSwitching s k).modRail k fun r => { r with refs := [], release := true, modeStop := false }
    setRailState s k .rampDown (allWith refs .aborted)
  | _ => s

def bodyBatRelease : Body := fun rq r s =>
  let j := arg rq 0 1
  match batChecks rq s with
  | some a => (a, s)
  | none =>
    if !slotAdmitted s j || slotBridging s j then (.bare .denied, s)
    else
      let s := releaseRail s (railOf s j)
      let s := s.modBat j fun b => { b with releasing := true, releaseRefs := b.releaseRefs ++ [r] }
      (.reply .accepted (batData s j), s)

def execBatRelease (rq : Request) (s : State) : Host.Outcome State Fault Refusal :=
  .next (s.on (serve 0x0504 { activeOnly := true } bodyBatRelease rq))

/-- BAT_REST_GET's reply data. -/
def batRestData (s : Chip) (j : Nat) : List Byte :=
  let e := (s.bat j).est
  let r := e.rest
  batData s j ++ le 8 r.startHall ++ le 1 r.samples.length ++ leI 1 e.sLast ++ zeros 2
    ++ (List.range 10).flatMap (fun k => leI 4 (tget r.samples k)) ++ leI 4 r.vEq ++ leI 4 r.aF ++ leI 4 r.aS
    ++ le 4 r.rms ++ leI 4 r.ocv ++ le 2 r.soc ++ zeros 2

def bodyBatRestGet : Body := fun rq _ s =>
  match batChecks rq s with
  | some a => (a, s)
  | none => (.reply .ok (batRestData s (arg rq 0 1)), s)

def execBatRestGet (rq : Request) (s : State) : Host.Outcome State Fault Refusal :=
  .next (s.on (serve 0x0505 {} bodyBatRestGet rq))

/-- Page 0 of BAT_PROFILE_GET. -/
def profilePage (p : Profile) : List Byte :=
  le 2 p.id ++ zeros 2 ++ (List.range 3).flatMap (fun k => leI 2 (tget p.ocvT k)) ++ zeros 2 ++ le 4 p.rSer
    ++ le 4 p.rFast ++ le 4 p.cFast ++ le 4 p.rSlow ++ le 4 p.cSlow ++ le 4 p.hMag ++ le 4 p.vFloor ++ le 4 p.vCeil
    ++ le 8 p.eNom ++ le 4 p.iChg ++ le 4 p.iDis ++ leI 2 p.tChgMin ++ leI 2 p.tChgMax ++ leI 2 p.tDisMin
    ++ leI 2 p.tDisMax

def bodyBatProfileGet : Body := fun rq _ s =>
  let page := arg rq 2 1
  match profileOf s (arg rq 0 2) with
  | some p =>
    if 3 < page then (.bare .badParam, s)
    else if page = 0 then (.reply .ok (profilePage p), s)
    else (.reply .ok ((List.range 32).flatMap fun i => le 4 (tget (tget p.ocv (page - 1)) i)), s)
  | none => (.bare .badParam, s)

def execBatProfileGet (rq : Request) (s : State) : Host.Outcome State Fault Refusal :=
  .next (s.on (serve 0x0506 {} bodyBatProfileGet rq))

end Sys2Proof.Machine
end

