-- ==== Sys2Proof/Machine/Breaker.lean ====
section
/-! DEFINITION. Breaker: the comparators' event paths, the retries, and the breaker opcodes (R85-R108). -/

namespace Sys2Proof.Machine

/-- The short-circuit comparator of a member sets its latch: the strong pull-down acts at once on every member of
the gang, and the latch keeps whether a driver was on, for the next boundary to record (R24, R76, R77, R88). -/
def shortCircuitTrip (n : Nat) (s : Chip) : Chip :=
  let k := leaderOf s n
  if stableActs s then
    let on := driverOn (s.ch k)
    let s := s.modCh n fun c => { c with brk := { c.brk with scLatch := some (on || c.brk.scLatch == some true) } }
    driversOff s k .strong
  else s

def execShortCircuitTrip (ch : Fin 32) (s : State) : Host.Outcome State Fault Refusal :=
  .next (s.on (shortCircuitTrip ch))

/-- The instantaneous comparator's event: the breaker engine confirms that a driver is on and commands the strong
pull-down on every member; the next boundary records the trip (R76, R77, R89). -/
def instantaneousTrip (n : Nat) (s : Chip) : Chip :=
  let k := leaderOf s n
  if studioRuns s && driverOn (s.ch k) then
    let s := s.modCh n fun c => { c with brk := { c.brk with instLatch := some true } }
    driversOff s k .strong
  else s

def execInstantaneousTrip (ch : Fin 32) (s : State) : Host.Outcome State Fault Refusal :=
  .next (s.on (instantaneousTrip ch))

/-- A pending attempt is due, INTENT_ON is set and the mode admits ON: RETRIES steps and the inrush method starts
(R100). -/
def retryDueNow (n : Nat) (s : Chip) : Chip :=
  let c := s.ch n
  if c.state == .tripped && (c.brk.due.any fun d => d ≤ s.now) && c.intentOn && admitsCh s n && isPresent s n
      && !rolesWait s then
    startRetry s n
  else s

def execRetryDue (ch : Fin 32) (s : State) : Host.Outcome State Fault Refusal := .next (s.on (retryDueNow ch))

/-- The channel has stayed in ON for RETRY_RESET: RETRIES returns to zero (R102). -/
def retryReset (n : Nat) (s : Chip) : Chip :=
  let c := s.ch n
  if c.state == .on && (c.brk.onSince.any fun t => t + (s.brkCfg n).retryReset * 1000000 ≤ s.now) then
    s.modCh n fun c => { c with brk := { c.brk with retries := 0 } }
  else s

def execRetryReset (ch : Fin 32) (s : State) : Host.Outcome State Fault Refusal := .next (s.on (retryReset ch))

/-- Hall time of a tick, to come or past (R108). -/
def hallOfTick (s : Chip) (t : Nat) : Nat := s.hall + (t - s.now) * 100 - (s.now - t) * 100

/-- Tj of member `m` of a channel, 0x8000 where there is no member or no model (R108). -/
def tjField (s : Chip) (n m : Nat) : List Byte :=
  if soaRuns s n && decide (m < (members s n).length) then leI 2 (s.ch (n + m)).brk.tj else le 2 0x8000

/-- BRK_GET's reply data (R108). -/
def brkGetData (s : Chip) (n : Nat) : List Byte :=
  let b := (s.ch n).brk
  chData s n ++ le 4 (b.acc * 65536 / accOne) ++ leI 4 (chCurrent s n)
    ++ (if soaRuns s n then leI 2 (trefOf s n) else le 2 0x8000) ++ zeros 2
    ++ (List.range 4).flatMap (tjField s n) ++ le 8 b.lastTrip ++ le 8 ((b.due.map (hallOfTick s)).getD 0)
    ++ leI 4 b.tripMax ++ le 1 b.tripMember
    ++ le 1 (if (s.chCfg n).guarded then (s.brkCfg n).retryLimit else 0xFF) ++ le 2 (s.chCfg n).gen

/-- BRK_GET (R108). -/
def bodyBrkGet : Body := fun rq _ s =>
  match chChecks rq s with
  | some a => (a, s)
  | none => (.reply .ok (brkGetData s (arg rq 0 1)), s)

/-- BRK_CURVE_GET's reply data (R108). -/
def curveData (s : Chip) (n : Nat) : List Byte :=
  let b := s.brkCfg n
  le 4 (ratingOf s n) ++ le 4 b.instMult ++ le 4 b.scMult ++ le 4 b.coolTau
    ++ (List.range 16).flatMap fun i => le 4 (tget b.points i).1 ++ le 4 (tget b.points i).2

/-- The channel has a committed curve (R108). -/
def hasCurve (s : Chip) (n : Nat) : Bool := (s.brkCfg n).rating != 0

/-- BRK_CURVE_GET (R108). -/
def bodyBrkCurveGet : Body := fun rq _ s =>
  match chChecks rq s with
  | some a => (a, s)
  | none =>
    let n := arg rq 0 1
    if hasCurve s n then (.reply .ok (curveData s n), s) else (.bare .configInvalid, s)

/-- BRK_EVAL's reply data for a Q16 multiple (R108). -/
def evalData (b : BrkCfg) (m : Nat) : List Byte :=
  match curveTime b m 65536 with
  | none => le 4 0 ++ le 8 0
  | some t => le 4 (roundDiv t (2 ^ 20)) ++ le 8 (curveStep t)

/-- BRK_EVAL (R108): the engine's own interpolator; it changes no state. -/
def bodyBrkEval : Body := fun rq _ s =>
  match chChecks rq s with
  | some a => (a, s)
  | none =>
    let n := arg rq 0 1
    if hasCurve s n then (.reply .ok (evalData (s.brkCfg n) (arg rq 4 4)), s) else (.bare .configInvalid, s)

def execBrkGet (rq : Request) (s : State) : Host.Outcome State Fault Refusal :=
  .next (s.on (serve 0x0210 {} bodyBrkGet rq))

def execBrkCurveGet (rq : Request) (s : State) : Host.Outcome State Fault Refusal :=
  .next (s.on (serve 0x0212 {} bodyBrkCurveGet rq))

def execBrkEval (rq : Request) (s : State) : Host.Outcome State Fault Refusal :=
  .next (s.on (serve 0x0213 { lenLo := 8, lenHi := 8 } bodyBrkEval rq))

end Sys2Proof.Machine
end

