-- ==== Sys2Proof/Machine/CfgSchema.lean ====
section
/-! DEFINITION. The parameters of every record of a configuration image, in the order of its value: width, range, default
(R56, R74, R75, R94, R98, R105, R137, R171, R201, R210, R230, R261, R276, R281, R330, R364, R398, R425, R451, R460-R464). -/

namespace Sys2Proof.Machine

/-- A parameter of a record's value (R460): its table name, its place in an array, width in bytes, sign, range, default,
single values admitted beside the range, and the step its range is stated in. -/
structure Param where
  name : String
  k : Nat := 0
  w : Nat := 4
  sg : Bool := false
  lo : Int := 0
  hi : Int := 0
  dflt : Option Int := none
  extra : List Int := []
  step : Int := 1
  deriving DecidableEq, Repr

/-- The Q16 field (R8) nearest to `a / b`, halves up. -/
def q16 (a b : Int) : Int := (2 * a * 65536 + b) / (2 * b)

/-- Any other unit: four bytes, signed where the range admits a negative value (R460). -/
def pW (name : String) (lo hi : Int) (d : Option Int := none) (extra : List Int := []) (step : Int := 1) : Param :=
  { name := name, sg := decide (lo < 0), lo := lo, hi := hi, dflt := d, extra := extra, step := step }

/-- A Q16 ratio, in hundredths of thousandths: `lo / 1000` to `hi / 1000`. -/
def pQ (name : String) (lo hi : Int) (d : Option Int := none) : Param :=
  pW name (q16 lo 1000) (q16 hi 1000) (d.map fun v => q16 v 1000)

/-- Unit "—", an index, an address, a severity: one byte. -/
def pB (name : String) (lo hi : Int) (d : Option Int := none) (extra : List Int := []) : Param :=
  { name := name, w := 1, lo := lo, hi := hi, dflt := d, extra := extra }

/-- A flag. -/
def pF (name : String) (d : Int := 0) : Param := pB name 0 1 (some d)

/-- A temperature in 0.01 °C: int16. -/
def pT (name : String) (lo hi : Int) (d : Option Int := none) : Param :=
  { name := name, w := 2, sg := true, lo := lo, hi := hi, dflt := d }

/-- PROFILE_ID, a source ID, PAIR_ID, a role generation: uint16. -/
def pH (name : String) (lo hi : Int) (d : Option Int := none) : Param :=
  { name := name, w := 2, lo := lo, hi := hi, dflt := d }

/-- An energy in µJ: uint64. -/
def pE (name : String) (lo hi : Int) (d : Option Int := none) : Param :=
  { name := name, w := 8, lo := lo, hi := hi, dflt := d }

/-- An array of a parameter (R460). -/
def arr (n : Nat) (p : Param) : List Param := (List.range n).map fun i => { p with k := i }

/-- A SAR input index, or 0xFF (R266): reserved indices lie outside the range. -/
def pInput (name : String) : Param := pB name 0 0x63 (some 0xFF) [0xFF]

/-- The breaker curve's default points (R94): M in thousandths, T in µs. -/
def curveDefault : List (Int × Int) :=
  [(1100, 300000000), (1200, 120000000), (1300, 60000000), (1400, 30000000), (1500, 15000000), (1750, 5000000),
   (2000, 2000000), (2250, 800000), (2500, 300000), (2750, 100000), (3500, 20000), (4000, 5000)]
  ++ [(4500, 1000), (5000, 300), (5500, 100), (6000, 50)]

def curveParams : List Param :=
  (List.range 16).flatMap fun i =>
    let d := curveDefault.getD i (0, 0)
    [{ pQ "M" 1050 16000 (some d.1) with k := i }, { pW "T" 20 600000000 (some d.2) with k := i }]

/-- The CHANNEL record (R463, R74, R75, R94, R98, R105, R171, R330). -/
def channelParams : List Param :=
  [pB "ROLE" 0 4, pB "FLAGS" 0 3, pB "GANG" 0 4, pB "SLOT" 0 63, pH "ROLE_GEN" 0 0xFFFE, pH "HEAD_RESERVED" 0 0xFFFF]
  ++ [pB "INRUSH_METHOD" 0 1 (some 0), pW "PRE_R" 1000 2000000, pE "PRE_BUDGET" 100000 1000000000, pW "PRE_TAU" 100 600000,
      pQ "PRE_REARM" 50 900 (some 250), pW "PRIMER_DV" 100 5000 (some 1000), pW "PRIMER_TIMEOUT" 1 2000 (some 200),
      pW "PRIMER_OVERLAP" 0 1000 (some 50), pW "GATE_ISRC" 500 20000 (some 2000) [] 500,
      pW "CLOSE_TIMEOUT" 10 10000 (some 2000), pW "INSERT_DELAY" 0 10000 (some 100)]
  ++ [pW "KS_ILIM" 1000 150000, pW "KS_FAULT_TIME" 1 1000 (some 50), pW "KS_DONE_DV" 100 5000 (some 500)]
  ++ [pW "RATING" 1000 120000, pQ "INST_MULT" 1500 10000 (some 6000), pQ "SC_MULT" 2000 16000 (some 8000)]
  ++ curveParams
  ++ [pW "COOL_TAU" 1 600000 (some 30000), pQ "ACC_WARN" 500 990 (some 800)]
  ++ [pF "SOA_ENABLE", pW "SOA_RTH1" 0 100000, pW "SOA_RTH2" 0 100000, pW "SOA_RTH3" 0 100000,
      pW "SOA_TAU1" 10 100000000, pW "SOA_TAU2" 10 100000000, pW "SOA_TAU3" 10 100000000, pW "RDS_MAX" 0 100000 (some 0),
      pT "TJ_WARN" 8000 17000 (some 13500), pT "TJ_TRIP" 10000 17500 (some 15000), pInput "SOA_THERM",
      pT "SOA_TREF_FIXED" 2500 12500 (some 8500)]
  ++ [pW "RETRY_INTERVAL" 100 600000 (some 2000), pQ "RETRY_DUTY" 1 100 (some 10), pW "RETRY_RESET" 1 3600 (some 60),
      pW "RETRY_LIMIT" 0 7 (some 3)]
  ++ [pW "RECT_POWER" 100000 20000000 (some 5500000), pB "RECT_BUS" 0 3, pB "RECT_ADDR" 0x08 0x77]

/-- The METER record (R261). -/
def meterParams : List Param :=
  [pW "R_SHUNT" 10 100000, pQ "I_GAIN" 950 1050 (some 1000), pQ "V_GAIN" 950 1050 (some 1000),
   pW "I_OFFSET" (-2000) 2000 (some 0), pW "V_OFFSET" (-500000) 500000 (some 0), pW "SHUNT_TC" (-1000) 1000 (some 0),
   pT "T_CAL" (-4000) 12500 (some 2500), pInput "SHUNT_THERM", pW "CREEP_I" 0 300 (some 0), pW "I_RATED" 1000 300000,
   pF "LEDGER_CH"]

/-- The THERMISTOR record (R464). -/
def thermistorParams : List Param :=
  (List.range 16).flatMap fun i =>
    [{ pW "UV" (-2147483647) 2147483647 with k := i }, { pT "TEMP" (-32767) 32767 with k := i }]

/-- The RAIL record (R137, R171). -/
def railParams : List Param :=
  [pB "RAIL_CLASS" 0 1, pB "TOPOLOGY" 0 1, pB "FIRST_LANE" 0 95, pB "LANES" 1 12] ++ arr 12 (pB "IM_INDEX" 0 59)
  ++ [pF "AUTO_ON", pW "PWM_PERIOD" 1200 4800 (some 2400), pW "LANE_MIN_PULSE" 20 200 (some 40),
      pQ "DUTY_MAX" 500 950 (some 900), pQ "BB_DMAX" 900 990 (some 980), pQ "SENSE_DIV" 10 1000, pB "VIN_SRC" 0 31,
      pW "IM_GAIN" 100 100000, pW "IM_OFFSET" (-2000000) 2000000 (some 0)]
  ++ [pW "V_TARGET" 500 80000, pW "V_MIN" 500 80000, pW "V_MAX" 500 80000, pW "SS_SLEW" 10 100000 (some 1000),
      pW "SET_SLEW" 10 100000 (some 5000), pW "I_SLEW" 10 1000000 (some 10000), pQ "B0" (-32768000) 32767990,
      pQ "B1" (-32768000) 32767990, pQ "B2" (-32768000) 32767990, pQ "A1" (-32768000) 32767990,
      pQ "A2" (-32768000) 32767990, pQ "KP_I" (-32768000) 32767990, pQ "KI_I" (-32768000) 32767990,
      pW "ARM_IDLE_I" 0 10000 (some 500), pF "BAL_ENABLE" 1, pW "BAL_PERIOD" 10 10000 (some 100),
      pQ "BAL_GAIN" 0 1000000 (some 4000), pW "BAL_TRIM_MAX" 0 1600 (some 480), pW "BAL_MIN_I" 0 50000 (some 2000)]
  ++ [pW "I_LIM" 1000 300000, pW "FB_V_KNEE" 1000 80000 (some 48000), pW "FB_V_LOW" 1000 80000 (some 36000),
      pW "FB_I_MIN" 0 300000, pW "OC_LATCH_TIME" 10 10000 (some 200), pW "PH_OC" 1000 100000,
      pQ "OV_MARGIN" 20 500 (some 100), pW "IN_UV" 0 80000, pW "IN_UV_HYST" 100 10000 (some 2000),
      pInput "STAGE_TEMP_IN", pW "TEMP_SLOPE" 1000 50000 (some 8000), pW "TEMP_OFFSET" (-2000000) 2000000 (some 600000),
      pT "OT_WARN_SET" 6000 15000 (some 11500), pT "OT_WARN_CLEAR" 6000 15000 (some 10500),
      pT "OT_SD_SET" 7000 16000 (some 13000), pT "OT_SD_CLEAR" 7000 16000 (some 11000),
      pQ "OT_DERATE" 500 1000 (some 750)]
  ++ [pF "BURST_ENABLE", pW "BURST_ENTER_I" 0 50000 (some 1500), pW "BURST_EXIT_I" 0 50000 (some 3000),
      pW "BURST_DWELL" 1 10000 (some 10), pW "BURST_SLEEP" 10 100000 (some 1000), pW "BURST_HIGH" 5 2000 (some 30),
      pW "BURST_LOW" 5 2000 (some 30), pW "BRIDGE_P_NOM" 100000 20000000]

/-- The BUS_ENERGY record (R171). -/
def busParams : List Param :=
  [pB "BUS_SENSE_CH" 0 31, pW "V_BUS_SET" 48000 58000 (some 54000), pW "V_BRIDGE" 40000 57500 (some 52500),
   pW "BRIDGE_CONFIRM" 1 4 (some 2), pW "V_BRIDGE_REG" 0 0xFFFFFFFF (some 53300), pW "BRIDGE_DROOP" 0 2000 (some 400),
   pQ "BRIDGE_FF" 0 500 (some 50), pW "BRIDGE_SINK_MAX" 0 10000 (some 0), pW "BRIDGE_RAISE_SLEW" 1 1000 (some 50),
   pQ "BRIDGE_EFF" 800 1000 (some 960), pQ "W_MIN" 10 500 (some 50), pW "WEIGHT_PERIOD" 10 10000 (some 100),
   pW "RECT_STATUS_PERIOD" 5 100 (some 10), pW "RECT_STANDOFF" 200 3000 (some 1000)]
  ++ [pQ "SHARE_KI" 0 10000 (some 500), pW "SHARE_TRIM_MAX" 0 2000 (some 500), pQ "BUS_KI" 0 1000 (some 50),
      pW "BUS_TRIM_MAX" 0 3000 (some 1000), pW "RECT_WRITE_MIN" 1 100 (some 10), pQ "CHARGE_MARGIN" 0 500 (some 100),
      pW "CHARGE_P_MAX" 0 72000000 (some 36000000), pW "SHELF_CAP" 1000000 100000000 (some 0) [0], pF "CAP_SHAVE" 1,
      pQ "CAP_TOL" 0 200 (some 20), pW "CAP_GRACE" 10 10000 (some 1000), pW "CAP_FLOOR" 0 100000000 (some 0),
      pW "HALL_CAP_FALLBACK" 1000000 100000000 (some 0) [0], pQ "THROTTLE_MIN" 100 1000 (some 500),
      pW "LOW_STORE_TIME" 1 3600 (some 60)]

/-- The LOAD_LINK record (R201). -/
def linkParams : List Param :=
  [pB "LL_CHANNEL" 0 31, pB "LL_RAIL" 0 15 (some 0xFF) [0xFF], pF "LL_ENABLE" 1, pW "BURST_P_MAX" 0 40950000 (some 10000000),
   pW "BURST_D_MAX" 10 40950 (some 10000), pQ "BURST_MIN_FRAC" 100 1000 (some 500), pW "SETTLE_WIN" 5 500 (some 20),
   pW "SETTLE_TIME" 1 1000 (some 20), pW "SETTLE_MAX" 1 1000 (some 10), pW "LL_POLL_MAX" 1 100 (some 10),
   pW "LINK_TIMEOUT" 2 10000 (some 1000) [0]]

/-- The BATTERY_SLOT record (R230, R462). -/
def batteryParams : List Param :=
  [pB "FEED_CH" 0 31, pB "BUS_RAIL" 0 15, pB "BMS_BUS" 0 3, pB "BMS_ADDR" 0x08 0x77, pW "P_SLOT_RATING" 100000 20000000,
   pQ "RES_BOTTOM" 50 500 (some 150), pQ "RES_TOP" 0 200 (some 50), pW "BMS_POLL" 100 10000 (some 1000),
   pW "BMS_LOSS_TIME" 1 60 (some 10), pW "FIT_RMS_MAX" 1 100 (some 5), pQ "FLOOR_REARM" 5 100 (some 20),
   pQ "DRIFT_TOL" 10 200 (some 50), pW "DRIFT_COUNT" 1 10 (some 3), pQ "DRIFT_MIN_DSOC" 50 800 (some 100),
   pQ "SOH_MIN_DSOC" 100 900 (some 300), pQ "SOH_GAIN" 0 1000 (some 250)]

/-- The PROFILE record (R210). -/
def profileParams : List Param :=
  [pH "PROFILE_ID" 1 0xFFFE] ++ arr 3 (pT "OCV_T" (-4000) 8000) ++ arr 96 (pW "OCV" 1000 80000)
  ++ [pW "R_SER" 0 1000000, pW "R_FAST" 1 1000000, pW "R_SLOW" 1 1000000, pW "C_FAST" 1 10000000, pW "C_SLOW" 1 10000000,
      pW "H_MAG" 0 500, pW "V_FLOOR" 1000 80000, pW "V_CEIL" 1000 80000, pE "E_NOM" 3600000000 360000000000000,
      pW "I_CHG_MAX" 0 300000, pW "I_DIS_MAX" 0 300000, pT "T_CHG_MIN" (-4000) 10000, pT "T_CHG_MAX" (-4000) 10000,
      pT "T_DIS_MIN" (-4000) 10000, pT "T_DIS_MAX" (-4000) 10000]

/-- The SEQUENCE record (R276). -/
def sequenceParams : List Param :=
  [pW "STEPS" 1 16] ++ arr 16 (pB "INPUT" 0 0x63) ++ arr 16 (pB "FORMAT" 0 2) ++ arr 16 (pB "DIFF" 0 1)
  ++ [pW "RATE_DIV" 1 65535 (some 1), pF "INTERLEAVE", pW "RING_BASE" 0x00200000 0x003FFFFF,
      pW "RING_WORDS" 64 65536 (some 4096), pW "WATERMARK" 1 65536, pF "AUTO_START"]

/-- The MONITOR record (R281). -/
def monitorParams (idx : Nat) : List Param :=
  [if idx < 4 then pB "WM_INPUT" 0x40 0x47 else pB "WM_INPUT" 0 0x5F, pW "LOW" 0 1023 (some 0), pW "HIGH" 0 1023 (some 1023),
   pW "DEGLITCH" 0 255 (some 0), pB "IRQ_MASK" 0 7 (some 0), pF "EVENT", pB "WAKE_ON" 0 3 (some 0)]

/-- The MODES record (R56). -/
def modesParams : List Param :=
  [pB "START_MODE" 3 4 (some 3), pF "BLACK_START", pW "START_STAGE_TIMEOUT" 100 30000 (some 5000),
   pW "STOP_STAGE_TIMEOUT" 100 10000 (some 1000), pW "RUN_BUS_SETTLE" 10 1000 (some 100), pW "SHORTFALL_TIME" 1 100 (some 5),
   pQ "RETURN_MARGIN" 0 500 (some 100), pW "BRIDGE_EXIT_HYST" 200 3000 (some 1000),
   pW "BRIDGE_EXIT_DWELL" 100 60000 (some 5000), pW "BRIDGE_HANDOVER" 100 10000 (some 2000)]

/-- The HALL record (R398). -/
def hallParams : List Param :=
  [pF "HALL_ENABLE", pH "PAIR_ID" 0 511, pW "HALL_PAIRS" 1 512, pF "BARRIER_PART" 1, pW "TIME_PERIOD" 125 8000 (some 1000)]
  ++ arr 4 (pW "LINK_ASYM" (-10000) 10000 (some 0))
  ++ [pW "BARRIER_TIMEOUT" 1 60000 (some 1000), pW "MSG_TIMEOUT" 1 1000 (some 10), pW "COLLECT_RATE" 1 40 (some 40)]

/-- The RECORDER record (R451). -/
def recorderParams : List Param :=
  [pW "REC_SUMMARY_PERIOD" 10 3600 (some 60), pB "REC_FAULT_MIN" 0 4 (some 1)] ++ arr 4 (pF "CAP_ENABLE")
  ++ arr 4 (pB "CAP_SEQ" 0 7) ++ arr 4 (pW "PRE_WORDS" 0 65520 (some 16384)) ++ arr 4 (pW "POST_WORDS" 0 65520 (some 32768))
  ++ arr 4 (pH "TRIG_SOURCE" 0 0xFFFF (some 0)) ++ arr 4 (pF "TRIG_CRITICAL" 1) ++ arr 4 (pB "TRIG_CT" 0 15 (some 0xFF) [0xFF])

/-- The record types (R462): TYPE, first and last INDEX. -/
def recordTypes : List (Nat × Nat × Nat) :=
  [(0x0001, 0, 0), (0x0010, 0, 31), (0x0011, 0, 0x2B), (0x0012, 0, 0x63), (0x0020, 0, 15), (0x0030, 0, 0), (0x0040, 0, 7),
   (0x0050, 0, 11), (0x0051, 0, 15), (0x0060, 0, 0), (0x0070, 0, 7), (0x0071, 0, 23), (0x0080, 0, 3), (0x0090, 0, 0),
   (0x00A0, 0, 0), (0x00B0, 0, 0)]
  ++ [(0x00B1, 1, 0x13), (0x00C0, 0, 0)]

/-- The parameters of a record; a FAULT record lists entries instead (R465). -/
def paramsOf (typ idx : Nat) : List Param :=
  match typ with
  | 0x0001 => modesParams
  | 0x0010 => channelParams
  | 0x0011 => meterParams
  | 0x0012 => thermistorParams
  | 0x0020 => railParams
  | 0x0030 => busParams
  | 0x0040 => linkParams
  | 0x0050 => batteryParams
  | 0x0051 => profileParams
  | 0x0060 => [pW "LEDGER_PERIOD" 1 60 (some 15), pQ "NEAR_FULL_FRAC" 500 950 (some 750)]
  | 0x0070 => sequenceParams
  | 0x0071 => monitorParams idx
  | 0x0080 => [pW "DS_RATE" 100 1000 (some 100) [] 100, pF "DS_PEC"]
  | 0x0090 => [pW "RESYNC_DWELL" 1 600 (some 30), pW "VBUS_XCHK_TOL" 50 2000 (some 250),
      pW "REF_XCHK_TOL" 500 10000 (some 2500), pQ "LANE_TOL" 5 100 (some 20)]
  | 0x00A0 => hallParams
  | 0x00B0 => [pW "WD0_PERIOD" 1 10000 (some 100), pW "WD1_PERIOD" 1 10000 (some 0) [0], pF "WD1_DISARM",
      pW "HOSTLOSS_CAP" 1000000 100000000 (some 0) [0], pB "FAULT_EVENT_MIN" 0 4 (some 1)]
  | 0x00C0 => recorderParams
  | _ => []

end Sys2Proof.Machine
end

