-- ==== Sys2Proof/Machine/CfgParse.lean ====
section
/-! DEFINITION. Reading a configuration image and the checks on it (R457-R467). -/

namespace Sys2Proof.Machine

/-! ## Header and records (R457, R459) -/

/-- A record as found: TYPE, INDEX, byte offset, value and whether its CRC holds. -/
structure RawRec where
  typ : Nat := 0
  idx : Nat := 0
  off : Nat := 0
  value : List Byte := []
  crcGood : Bool := true
  deriving DecidableEq, Repr

/-- Zero bytes that pad a length to a multiple of 4. -/
def padTo4 (n : Nat) : Nat := (4 - n % 4) % 4

/-- The records of a body: `n` records that fill it exactly. -/
def walkRecords : Nat → Nat → List Byte → Option (List RawRec)
  | 0, _, bs => if bs.isEmpty then some [] else none
  | n + 1, off, bs =>
    let len := field bs 4 4
    let size := 8 + len + padTo4 len
    if bs.length < size + 4 then none
    else
      let r : RawRec :=
        { typ := field bs 0 2, idx := field bs 2 2, off := off, value := (bs.drop 8).take len,
          crcGood := field bs size 4 == (crc32c (bs.take size)).toNat }
      (walkRecords n (off + size + 4) (bs.drop (size + 4))).map fun rs => r :: rs

def imgSeq (raw : List Byte) : Nat := field raw 8 4
def imgLength (raw : List Byte) : Nat := field raw 12 4
def imgSigned (raw : List Byte) : Bool := (raw.getD 18 0#8).getLsbD 0
def imgDigest (raw : List Byte) : List Byte := (raw.drop 32).take 32

/-- A LENGTH that R457 admits. -/
def lengthGood (n : Nat) : Bool := n % 4 == 0 && decide (128 ≤ n) && decide (n ≤ 327680)

/-- Check 1 (R467): header fields, SEQUENCE range, and records that fill LENGTH. -/
def headerRecords (raw : List Byte) : Option (List RawRec) :=
  let n := imgLength raw
  if field raw 0 4 == 0x4B434647 && field raw 4 2 == 1 && decide (1 ≤ imgSeq raw) && decide (imgSeq raw ≤ 0xFFFFFFFE)
      && lengthGood n && n == raw.length then
    walkRecords (field raw 16 2) 128 ((raw.take n).drop 128)
  else none

/-- DIGEST of an image (R458). -/
def digestOf (raw : List Byte) : List Byte := sha256 (raw.take 32 ++ (raw.take (imgLength raw)).drop 128)

/-- The signature check (R458): under the customer key, over the hash of header bytes 0 to 63. -/
def signatureGood (o : Otp) (raw : List Byte) : Bool :=
  if imgSigned raw then o.customerKey && ecdsaVerify o.customerPub (sha256 (raw.take 64)) ((raw.drop 64).take 64)
  else !o.signRequired && ((raw.drop 64).take 64).all (· == 0#8)

/-! ## Values (R460, R461) -/

/-- A decoded value: each parameter with its value; none where it holds the marker and has no default. -/
abbrev Vals := List (Param × Option Int)

/-- The default marker of a parameter (R461). -/
def markerOf (p : Param) : Int := if p.sg then -(2 ^ (8 * p.w - 1) : Nat) else (2 ^ (8 * p.w) : Nat) - 1

/-- The parameters of a value, in order (R460). -/
def decodeParams : List Param → List Byte → Vals
  | [], _ => []
  | p :: ps, bs =>
    let v : Int := if p.sg then fieldI bs 0 p.w else field bs 0 p.w
    (p, if v = markerOf p then p.dflt else some v) :: decodeParams ps (bs.drop p.w)

/-- Width of a record's value (R460, R465). -/
def valueWidth (typ idx : Nat) : Nat := (paramsOf typ idx).foldl (fun n p => n + p.w) 0

def Vals.find (v : Vals) (name : String) (k : Nat := 0) : Option Int :=
  (List.find? (fun e => e.1.k == k && e.1.name == name) v).bind Prod.snd

def Vals.int (v : Vals) (name : String) (k : Nat := 0) : Int := (v.find name k).getD 0
def Vals.nat (v : Vals) (name : String) (k : Nat := 0) : Nat := (v.int name k).toNat
def Vals.flag (v : Vals) (name : String) (k : Nat := 0) : Bool := v.int name k == 1
def Vals.fill (v : Vals) (name : String) (d : Option Int) : Vals :=
  List.map (fun e => if e.1.name == name && e.2.isNone then (e.1, d) else e) v

/-- A record with its decoded value; FAULT entries as source, severity, mask. -/
structure CfgRec where
  typ : Nat := 0
  idx : Nat := 0
  off : Nat := 0
  vals : Vals := []
  entries : List SevSet := []
  deriving DecidableEq, Repr

/-- Size of the gang a CHANNEL record leads; 1 where it leads none (R463). -/
def gangOf (v : Vals) : Nat := if 2 ≤ v.nat "GANG" then v.nat "GANG" else 1

/-- Defaults that the tables state in terms of other fields (R75, R137, R276). -/
def derivedDefaults (typ : Nat) (v : Vals) : Vals :=
  match typ with
  | 0x0010 => v.fill "KS_ILIM" ((v.find "RATING").map fun r => max 1000 (rdiv (r * gangOf v) 10))
  | 0x0020 =>
    let bus := v.nat "RAIL_CLASS" == 1
    let v := v.fill "TOPOLOGY" (some (if bus then 1 else 0))
    let v := v.fill "IN_UV" (some (if bus then 0 else 40000))
    let vt := v.find "V_TARGET"
    let v := v.fill "V_MIN" (some ((vt.map fun t => clampI 500 80000 (rdiv (t * 9) 10)).getD 500))
    let v := v.fill "V_MAX" (some ((vt.map fun t => clampI 500 80000 (rdiv (t * 11) 10)).getD 80000))
    v.fill "FB_I_MIN" ((v.find "I_LIM").map fun i => rdiv i 4)
  | 0x0070 => v.fill "WATERMARK" ((v.find "RING_WORDS").map fun w => w / 2)
  | _ => v

/-- Entries of a FAULT record (R465). -/
def faultEntries : Nat → Nat → List Byte → List SevSet
  | 0, _, _ => []
  | n + 1, blk, bs =>
    { source := blk * 256 + field bs 0 1, sev := field bs 1 1, mask := field bs 2 1 } :: faultEntries n blk (bs.drop 4)

def decodeRec (r : RawRec) : CfgRec :=
  { typ := r.typ, idx := r.idx, off := r.off,
    vals := derivedDefaults r.typ (decodeParams (paramsOf r.typ r.idx) r.value),
    entries := if r.typ = 0x00B1 then faultEntries (r.value.length / 4) r.idx r.value else [] }

/-! ## Unused parameters (R461) -/

/-- The transistor model runs on the channel of this record (R95): not on a SPARE channel (R85). -/
def modelRuns (v : Vals) : Bool :=
  v.nat "ROLE" != 0 && (decide (2 ≤ v.nat "GANG") || decide (60000 < v.nat "RATING") || v.nat "INRUSH_METHOD" == 1
    || v.flag "SOA_ENABLE")

/-- A parameter of a CHANNEL record that its configuration makes unused (R74, R75, R95, R105, R171, R330, R463). -/
def channelUnused (v : Vals) (name : String) : Bool :=
  name == "HEAD_RESERVED"
    || (v.nat "GANG" == 0 && !(["ROLE", "FLAGS", "GANG", "SLOT", "ROLE_GEN", "RATING"].contains name))
    || (v.nat "INRUSH_METHOD" == 1
        && ["PRE_R", "PRE_BUDGET", "PRE_TAU", "PRE_REARM", "PRIMER_DV", "PRIMER_TIMEOUT", "PRIMER_OVERLAP"].contains name)
    || (v.nat "INRUSH_METHOD" != 1 && ["KS_ILIM", "KS_FAULT_TIME", "KS_DONE_DV"].contains name)
    || (!modelRuns v && ["SOA_RTH1", "SOA_RTH2", "SOA_RTH3", "SOA_TAU1", "SOA_TAU2", "SOA_TAU3"].contains name)
    || (v.nat "FLAGS" % 2 == 0 && name == "RETRY_LIMIT")
    || (v.nat "ROLE" != 1 && ["RECT_POWER", "RECT_BUS", "RECT_ADDR"].contains name)

/-- Number of phases of a RAIL record (R109). -/
def recPhases (v : Vals) : Nat := if v.nat "TOPOLOGY" == 1 then v.nat "LANES" / 2 else v.nat "LANES"

/-- A parameter that the record's configuration makes unused, or that it may leave out (R461). -/
def unused (typ idx : Nat) (v : Vals) (p : Param) : Bool :=
  match typ with
  | 0x0010 => channelUnused v p.name
  | 0x0011 => if 0x20 ≤ idx then p.name == "LEDGER_CH" else p.name == "I_RATED"
  | 0x0020 =>
    (if v.nat "RAIL_CLASS" == 1 then ["OC_LATCH_TIME", "AUTO_ON", "BURST_ENABLE", "VIN_SRC"].contains p.name
     else ["FB_V_KNEE", "FB_V_LOW", "FB_I_MIN", "ARM_IDLE_I", "BRIDGE_P_NOM"].contains p.name)
    || (p.name == "IM_INDEX" && decide (recPhases v ≤ p.k))
    || (p.name == "V_TARGET" && v.nat "RAIL_CLASS" == 1 && (v.find "V_TARGET").isNone)
  | 0x0070 => ["INPUT", "FORMAT", "DIFF"].contains p.name && decide (v.nat "STEPS" ≤ p.k)
  | 0x0071 => p.name == "WAKE_ON" && decide (4 ≤ idx)
  | 0x00A0 => v.nat "HALL_ENABLE" != 1 && ["PAIR_ID", "HALL_PAIRS"].contains p.name
  | 0x00C0 => p.name == "CAP_SEQ" && !v.flag "CAP_ENABLE" p.k
  | _ => false

/-- A SAR input index that is reserved (R266). -/
def reservedInput (n : Int) : Bool := decide (0x3C ≤ n ∧ n ≤ 0x3F) || decide (0x64 ≤ n)

/-- The value lies in the parameter's range (R461): RING_WORDS is a power of two (R276), TRIG_SOURCE a source or 0 (R451). -/
def inRange (p : Param) (v : Int) : Bool :=
  p.extra.contains v
    || (decide (p.lo ≤ v) && decide (v ≤ p.hi) && v % p.step == 0
        && (p.name != "RING_WORDS" || v.toNat == 2 ^ v.toNat.log2)
        && (p.name != "TRIG_SOURCE" || v == 0 || sourceExists v.toNat)
        && !(["SOA_THERM", "SHUNT_THERM", "STAGE_TEMP_IN", "INPUT", "WM_INPUT"].contains p.name && reservedInput v))

/-- Check 9 on a record. -/
def recInRange (r : CfgRec) : Bool :=
  r.vals.all (fun e => unused r.typ r.idx r.vals e.1 || e.2.any (inRange e.1))
    && r.entries.all fun e => decide (e.sev ≤ 3) && (decide (e.mask < 32) || e.mask == 0xFF)

/-! ## The records of an image by type -/

def recsOf (rs : List CfgRec) (typ : Nat) : List CfgRec := rs.filter fun r => r.typ == typ
def recOf (rs : List CfgRec) (typ idx : Nat) : Option CfgRec := rs.find? fun r => r.typ == typ && r.idx == idx
def valsOf (rs : List CfgRec) (typ idx : Nat) : Vals := ((recOf rs typ idx).map CfgRec.vals).getD []

/-- The failing record in a check's outcome (R477). -/
def failAt (code : Nat) (r : CfgRec) : CfgCheck := { code := code, typ := r.typ, idx := r.idx, off := r.off }

/-- A record's rule, as a check outcome of code CROSS. -/
def crossIf (bad : CfgRec → Bool) (rs : List CfgRec) : Option CfgCheck := (rs.find? bad).map (failAt 0x0A)

/-! ## Check 10: channels (R14, R17, R21, R75, R86, R90, R95, R97, R98, R330, R463) -/

/-- The records whose gangs cover channel `n` (R21). -/
def coveredBy (rs : List CfgRec) (n : Nat) : List CfgRec :=
  (recsOf rs 0x0010).filter fun r =>
    decide (2 ≤ r.vals.nat "GANG") && decide (r.idx ≤ n) && decide (n < r.idx + r.vals.nat "GANG")

/-- Members of a leader or single channel. -/
def recMembers (r : CfgRec) : List Nat := (List.range (gangOf r.vals)).map (r.idx + ·)

/-- Gang rules (R21, R463): a member belongs to one gang, and a leader or single channel to no other. -/
def gangBad (rs : List CfgRec) (r : CfgRec) : Bool :=
  let v := r.vals
  let same (a b : Vals) : Bool :=
    a.int "ROLE" == b.int "ROLE" && a.int "RATING" == b.int "RATING" && a.nat "FLAGS" % 2 == b.nat "FLAGS" % 2
  if v.nat "GANG" == 0 then
    match coveredBy rs r.idx with
    | [l] => l.idx == r.idx || !same l.vals v
    | _ => true
  else
    (coveredBy rs r.idx).any (fun l => l.idx != r.idx)
      || (decide (2 ≤ v.nat "GANG")
          && ((r.idx + gangOf v - 1) / 4 != r.idx / 4 || decide (480000 < v.nat "RATING" * gangOf v)))

/-- Curve and comparator rules (R90, R86). -/
def curveBad (rs : List CfgRec) (r : CfgRec) : Bool :=
  let v := r.vals
  let inst := v.nat "INST_MULT"
  let sc := v.nat "SC_MULT"
  (List.range 15).any (fun i => decide (v.int "M" (i + 1) ≤ v.int "M" i) || decide (v.int "T" i ≤ v.int "T" (i + 1)))
    || decide (v.nat "M" 15 < inst) || decide (sc < inst + 32768)
    || (recMembers r).any fun m =>
      let shunt := (valsOf rs 0x0011 m).nat "R_SHUNT"
      let rating := (valsOf rs 0x0010 m).nat "RATING"
      [inst, sc].any fun x => decide (1023 < comparatorCode rating x shunt)

/-- Transistor-model and KS240 rules (R75, R97, R98). -/
def modelBad (rs : List CfgRec) (r : CfgRec) : Bool :=
  let v := r.vals
  decide (v.int "TJ_TRIP" - 500 < v.int "TJ_WARN")
    || (v.nat "INRUSH_METHOD" == 1 && decide (v.nat "RATING" * gangOf v < v.nat "KS_ILIM"))
    || (v.nat "SOA_THERM" != 0xFF && (recOf rs 0x0012 (v.nat "SOA_THERM")).isNone)
    || (modelRuns v && (v.nat "SOA_RTH1" + v.nat "SOA_RTH2" + v.nat "SOA_RTH3" == 0
      || decide (v.nat "SOA_TAU2" ≤ v.nat "SOA_TAU1") || decide (v.nat "SOA_TAU3" ≤ v.nat "SOA_TAU2")))

/-- Leaders and single channels. -/
def isLead (r : CfgRec) : Bool := r.vals.nat "GANG" != 0

/-- Two leaders that serve one slot (R14). -/
def slotBad (rs : List CfgRec) (r : CfgRec) : Bool :=
  isLead r && r.vals.nat "ROLE" != 0 && (recsOf rs 0x0010).any fun o =>
    isLead o && decide (o.idx < r.idx) && o.vals.nat "ROLE" != 0 && o.vals.int "SLOT" == r.vals.int "SLOT"

/-- Guarded SPARE, or more than 8 guarded channels or gangs (R17). -/
def guardBad (rs : List CfgRec) (r : CfgRec) : Bool :=
  isLead r && r.vals.nat "FLAGS" % 2 == 1
    && (r.vals.nat "ROLE" == 0
        || decide (8 < ((recsOf rs 0x0010).filter fun o =>
            isLead o && o.vals.nat "FLAGS" % 2 == 1 && decide (o.idx ≤ r.idx)).length))

/-- Devices bound on the downstream buses: record, bus, address (R330). -/
def boundDevices (rs : List CfgRec) : List (CfgRec × Nat × Nat) :=
  ((recsOf rs 0x0010).filter fun r => isLead r && r.vals.nat "ROLE" == 1).map
      (fun r => (r, r.vals.nat "RECT_BUS", r.vals.nat "RECT_ADDR"))
    ++ (recsOf rs 0x0050).map fun r => (r, r.vals.nat "BMS_BUS", r.vals.nat "BMS_ADDR")

/-- The second of two devices with one address on one bus (R330). -/
def busClash : List (CfgRec × Nat × Nat) → Option CfgCheck
  | [] => none
  | d :: ds =>
    match ds.find? fun e => e.2 == d.2 with
    | some e => some (failAt 0x0A e.1)
    | none => busClash ds

def channelsCheck (rs : List CfgRec) : Option CfgCheck :=
  let chs := recsOf rs 0x0010
  [crossIf (gangBad rs) chs, crossIf (guardBad rs) chs, crossIf (slotBad rs) chs,
   crossIf (fun r => isLead r && (curveBad rs r || modelBad rs r)) chs, busClash (boundDevices rs)].findSome? id

/-! ## Check 10: the other records -/

/-- A metering record (R244, R261). -/
def meterBad (rs : List CfgRec) (r : CfgRec) : Bool :=
  let v := r.vals
  let rated := if 0x20 ≤ r.idx then v.nat "I_RATED" else (valsOf rs 0x0010 r.idx).nat "RATING"
  decide (rated < v.nat "CREEP_I" * 1000)
    || (v.nat "SHUNT_THERM" != 0xFF && (recOf rs 0x0012 (v.nat "SHUNT_THERM")).isNone)

/-- Lanes of a rail, and its phase-current inputs. -/
def recLanes (v : Vals) : List Nat := (List.range (v.nat "LANES")).map (v.nat "FIRST_LANE" + ·)
def recIms (v : Vals) : List Nat := (List.range (recPhases v)).map fun i => v.nat "IM_INDEX" i

/-- Structure of a rail (R109). -/
def railShapeBad (rs : List CfgRec) (r : CfgRec) : Bool :=
  let v := r.vals
  let before := (recsOf rs 0x0020).filter fun o => decide (o.idx < r.idx)
  let ims := recIms v
  (v.nat "TOPOLOGY" == 1 && (v.nat "FIRST_LANE" % 2 == 1 || v.nat "LANES" % 2 == 1))
    || (v.nat "RAIL_CLASS" == 1 && v.nat "TOPOLOGY" != 1)
    || decide (96 < v.nat "FIRST_LANE" + v.nat "LANES")
    || (recLanes v).any (fun l => before.any fun o => (recLanes o.vals).contains l)
    || ims.any (fun i => before.any fun o => (recIms o.vals).contains i)
    || !decide ims.Nodup

/-- Levels of a rail (R137) and its bridge window (R151). -/
def railLevelsBad (rs : List CfgRec) (r : CfgRec) : Bool :=
  let v := r.vals
  let e := valsOf rs 0x0030 0
  decide (v.int "OT_WARN_SET" ≤ v.int "OT_WARN_CLEAR") || decide (v.int "OT_SD_SET" ≤ v.int "OT_SD_CLEAR")
    || decide (v.int "OT_SD_SET" ≤ v.int "OT_WARN_SET")
    || (v.find "V_TARGET").any (fun t => decide (t < v.int "V_MIN") || decide (v.int "V_MAX" < t))
    || (v.nat "RAIL_CLASS" == 1
        && (decide (v.int "FB_V_KNEE" ≤ v.int "FB_V_LOW") || decide (v.int "I_LIM" < v.int "FB_I_MIN")
            || decide (112 * 65536 < (e.int "V_BUS_SET" - e.int "V_BRIDGE") * v.int "SENSE_DIV")))

/-- The bus-energy record (R157, R171). -/
def busBad (rs : List CfgRec) (r : CfgRec) : Bool :=
  let v := r.vals
  let hyst : Int := ((valsOf rs 0x0001 0).find "BRIDGE_EXIT_HYST").getD 1000
  decide (v.int "V_BUS_SET" - 500 < v.int "V_BRIDGE") || decide (v.int "V_BRIDGE_REG" < v.int "V_BRIDGE" + 200)
    || decide (v.int "V_BRIDGE" + hyst - 100 < v.int "V_BRIDGE_REG")

/-- The channel is a leader or single channel of this role. -/
def leadOfRole (rs : List CfgRec) (n role : Nat) : Bool :=
  let v := valsOf rs 0x0010 n
  v.nat "GANG" != 0 && v.nat "ROLE" == role

/-- A battery slot (R15, R220). -/
def batteryBad (rs : List CfgRec) (r : CfgRec) : Bool :=
  let v := r.vals
  let before := (recsOf rs 0x0050).filter fun o => decide (o.idx < r.idx)
  !leadOfRole rs (v.nat "FEED_CH") 2
    || !((recOf rs 0x0020 (v.nat "BUS_RAIL")).any fun o => o.vals.nat "RAIL_CLASS" == 1)
    || before.any (fun o => o.vals.int "FEED_CH" == v.int "FEED_CH" || o.vals.int "BUS_RAIL" == v.int "BUS_RAIL")
    || decide (q16 6 10 < v.int "RES_BOTTOM" + v.int "RES_TOP")

/-- A chemistry profile (R210, R211): resistances in µΩ, so a time constant is R × C in µs. -/
def profileBad (rs : List CfgRec) (r : CfgRec) : Bool :=
  let v := r.vals
  let tF := v.nat "R_FAST" * v.nat "C_FAST"
  let tS := v.nat "R_SLOW" * v.nat "C_SLOW"
  (recsOf rs 0x0051).any (fun o => decide (o.idx < r.idx) && o.vals.int "PROFILE_ID" == v.int "PROFILE_ID")
    || decide (v.int "OCV_T" 1 ≤ v.int "OCV_T" 0) || decide (v.int "OCV_T" 2 ≤ v.int "OCV_T" 1)
    || decide (tF < 500000) || decide (tS < 4 * tF)
    || (List.range 3).any fun t =>
      (List.range 31).any (fun i => decide (v.int "OCV" (32 * t + i + 1) ≤ v.int "OCV" (32 * t + i)))
        || decide (v.int "OCV" (32 * t) < v.int "V_FLOOR") || decide (v.int "V_CEIL" < v.int "OCV" (32 * t + 31))

/-- A load link (R15, R177, R201). -/
def linkBad (rs : List CfgRec) (r : CfgRec) : Bool :=
  let v := r.vals
  let before := (recsOf rs 0x0040).filter fun o => decide (o.idx < r.idx)
  let rail := v.nat "LL_RAIL"
  !leadOfRole rs (v.nat "LL_CHANNEL") 3
    || before.any (fun o => o.vals.int "LL_CHANNEL" == v.int "LL_CHANNEL")
    || (rail != 0xFF && (!((recOf rs 0x0020 rail).any fun o => o.vals.nat "RAIL_CLASS" == 0)
        || before.any fun o => o.vals.nat "LL_RAIL" == rail))
    || (v.nat "LINK_TIMEOUT" != 0 && decide (v.nat "LINK_TIMEOUT" < 2 * v.nat "LL_POLL_MAX"))

/-- The ring of a sequence: first byte and the byte after it. -/
def ringOf (v : Vals) : Nat × Nat := (v.nat "RING_BASE", v.nat "RING_BASE" + 4 * v.nat "RING_WORDS")

/-- A step of a sequence (R266, R267, R276). -/
def stepBad (v : Vals) (k : Nat) : Bool :=
  let inp := v.nat "INPUT" k
  let diff := v.flag "DIFF" k
  (diff && (decide (inp < 0x40) || decide (0x5F < inp) || inp % 2 == 1))
    || (diff && v.nat "FORMAT" k == 0) || (!diff && v.nat "FORMAT" k == 2)

/-- A SAR that carries an assigned phase current (R270, R271). -/
def phaseSar (rs : List CfgRec) (sar : Nat) : Bool :=
  (recsOf rs 0x0020).any fun o => (recIms o.vals).any fun i => i / 10 == sar

/-- A sequence (R271, R276). -/
def sequenceBad (rs : List CfgRec) (r : CfgRec) : Bool :=
  let v := r.vals
  let w := v.nat "RING_WORDS"
  let g := ringOf v
  let before := (recsOf rs 0x0070).filter fun o => decide (o.idx < r.idx)
  g.1 % (4 * w) != 0 || decide (0x400000 < g.2) || decide (w < v.nat "WATERMARK")
    || before.any (fun o => decide (g.1 < (ringOf o.vals).2) && decide ((ringOf o.vals).1 < g.2))
    || (List.range (v.nat "STEPS")).any (stepBad v)
    || (v.flag "INTERLEAVE" && (r.idx % 2 == 1 || (recOf rs 0x0070 (r.idx + 1)).isSome
        || phaseSar rs r.idx || phaseSar rs (r.idx + 1)))

/-- The recorder record (R451). -/
def recorderBad (rs : List CfgRec) (r : CfgRec) : Bool :=
  (List.range 4).any fun d =>
    let v := r.vals
    decide (65520 < v.nat "PRE_WORDS" d + v.nat "POST_WORDS" d)
      || (v.flag "CAP_ENABLE" d
          && !((recOf rs 0x0070 (v.nat "CAP_SEQ" d)).any fun o =>
            decide (v.nat "PRE_WORDS" d + 1024 ≤ o.vals.nat "RING_WORDS")))

/-- A thermistor record (R464). -/
def thermistorBad (r : CfgRec) : Bool :=
  let v := r.vals
  !((List.range 15).all (fun i => decide (v.int "UV" i < v.int "UV" (i + 1)))
    || (List.range 15).all fun i => decide (v.int "UV" (i + 1) < v.int "UV" i))

/-- Sources ascend (R465). -/
def rising : List SevSet → Bool
  | a :: b :: r => decide (a.source < b.source) && rising (b :: r)
  | _ => true

/-- A FAULT record (R409, R413, R465). -/
def faultRecBad (r : CfgRec) : Bool :=
  !rising r.entries || r.entries.any fun e =>
    (e.mask != 0xFF && e.mask / 4 % 2 == 1 && !resettable r.idx) || (sevFixed e.source && e.sev != 3)

/-- The hall record (R375, R398): a SOLO member is a leaf of the tree and never pair 0. -/
def hallBad (strap : Strap) (r : CfgRec) : Bool :=
  let v := r.vals
  let id := v.nat "PAIR_ID"
  v.flag "HALL_ENABLE"
    && (decide (v.nat "HALL_PAIRS" ≤ id) || (strap == .solo && (id == 0 || decide (2 * id + 1 < v.nat "HALL_PAIRS"))))

/-- Check 10 (R467). -/
def cfgCross (strap : Strap) (rs : List CfgRec) : Option CfgCheck :=
  let on (typ : Nat) (bad : CfgRec → Bool) : Option CfgCheck := crossIf bad (recsOf rs typ)
  [channelsCheck rs, on 0x0011 (meterBad rs), on 0x0012 thermistorBad,
   on 0x0020 (fun r => railShapeBad rs r || railLevelsBad rs r), on 0x0030 (busBad rs), on 0x0040 (linkBad rs),
   on 0x0050 (batteryBad rs), on 0x0051 (profileBad rs), on 0x0070 (sequenceBad rs),
   on 0x0071 (fun r => decide (r.vals.int "HIGH" < r.vals.int "LOW")), on 0x00A0 (hallBad strap),
   on 0x00B1 faultRecBad, on 0x00C0 (recorderBad rs)].findSome? id

/-! ## Checks 6 to 8 -/

/-- A TYPE that is ignored after its CRC check (R466). -/
def ignoredType (t : Nat) : Bool := decide (0x8000 ≤ t) && decide (t ≤ 0xFFFE)

/-- Check 6 on a record: TYPE and INDEX (R462, R466). -/
def typeBad (r : RawRec) : Bool :=
  !(recordTypes.any fun t => t.1 == r.typ && decide (t.2.1 ≤ r.idx) && decide (r.idx ≤ t.2.2))
    || (r.typ == 0x0012 && reservedInput r.idx)

/-- The second of two records with one TYPE and INDEX (R466). -/
def dupRec : List RawRec → Option RawRec
  | [] => none
  | r :: rs =>
    match rs.find? fun o => o.typ == r.typ && o.idx == r.idx with
    | some o => some o
    | none => dupRec rs

/-- Check 7 on a record (R460, R465). -/
def widthBad (r : RawRec) : Bool :=
  if r.typ == 0x00B1 then r.value.length % 4 != 0 || decide (1024 < r.value.length)
  else r.value.length != valueWidth r.typ r.idx

/-- The required records (R261, R462). -/
def requiredRecs (rs : List RawRec) : List (Nat × Nat) :=
  let has (t i : Nat) : Option RawRec := rs.find? fun r => r.typ == t && r.idx == i
  (List.range 32).map (fun n => (0x0010, n)) ++ [(0x0030, 0)]
    ++ ((List.range 32).filter fun n => (has 0x0010 n).any fun r => field r.value 0 1 != 0).map (fun n => (0x0011, n))
    ++ ((List.range 12).filter fun j => (has 0x0050 j).isSome).map fun j => (0x0011, 0x20 + j)

/-! ## The checks in order (R467) -/

/-- Outcome of a failing record as found. -/
def failRaw (code : Nat) (r : RawRec) : CfgCheck := { code := code, typ := r.typ, idx := r.idx, off := r.off }

/-- Checks 1 to 4 (R467, R469): the records, or the outcome that fails. -/
def firstFour (s : Chip) (base : Nat) (raw : List Byte) : Except CfgCheck (List RawRec) :=
  if eccIn s.mram.bad base 128 then .error { code := 0x0C }
  else
    match headerRecords raw with
    | none => .error { code := 0x01 }
    | some rs =>
      if eccIn s.mram.bad base (imgLength raw) then .error { code := 0x0C }
      else
        match rs.find? fun r => !r.crcGood with
        | some r => .error (failRaw 0x02 r)
        | none =>
          if digestOf raw != imgDigest raw then .error { code := 0x03 }
          else if !signatureGood s.otp raw then .error { code := 0x04 }
          else .ok rs

/-- Checks 6 to 10: the decoded records, or the outcome that fails. -/
def laterChecks (s : Chip) (all : List RawRec) : Except CfgCheck (List CfgRec) :=
  let rs := all.filter fun r => !ignoredType r.typ
  match (rs.find? typeBad).orElse fun _ => dupRec rs with
  | some r => .error (failRaw 0x06 r)
  | none =>
    match rs.find? widthBad with
    | some r => .error (failRaw 0x07 r)
    | none =>
      match (requiredRecs rs).find? fun t => !(rs.any fun r => r.typ == t.1 && r.idx == t.2) with
      | some t => .error { code := 0x08, typ := t.1, idx := t.2 }
      | none =>
        let ds := rs.map decodeRec
        match ds.find? fun r => !recInRange r with
        | some r => .error (failAt 0x09 r)
        | none =>
          match cfgCross s.strap ds with
          | some c => .error c
          | none => .ok ds

/-- Checks 1 to 4 and 6 to 10 (R472, R473). -/
def checkSlot (s : Chip) (base : Nat) (raw : List Byte) : Except CfgCheck (List CfgRec) :=
  match firstFour s base raw with
  | .error c => .error c
  | .ok rs => laterChecks s rs

/-! ## The state blocks (R456) -/

/-- CRC of a state block over its slot, SEQUENCE and write count. -/
def cfgBlockCrc (b : CfgBlock) : Word := crc32c (le 1 b.slot ++ le 4 b.seq ++ le 4 b.count)

/-- MRAM address of state block `k` (R456). -/
def cfgBlockBase (k : Nat) : Nat := 0x01AF0000 + (Config.cfgBlockPlace k).1 % 0x00010000

/-- State block `k` reads, and its CRC is good (R456). -/
def cfgBlockGood (s : Chip) (k : Nat) : Bool :=
  let b : CfgBlock := tget s.cfg.blocks k
  b.crc == cfgBlockCrc b && !eccIn s.mram.bad (cfgBlockBase k) ((Config.cfgBlockPlace k).2 + 1)

/-- The newer good state block: the one with the higher write count. -/
def newerBlock (s : Chip) : Option CfgBlock :=
  let a : CfgBlock := tget s.cfg.blocks 0
  let b : CfgBlock := tget s.cfg.blocks 1
  if cfgBlockGood s 0 && (!cfgBlockGood s 1 || decide (b.count ≤ a.count)) then some a
  else if cfgBlockGood s 1 then some b else none

/-- SEQUENCE of the committed image, in force or not; 0 none (R456, R467). -/
def committedSeq (s : Chip) : Nat := ((newerBlock s).map CfgBlock.seq).getD 0

/-- The generation that a channel's record must carry (R18). -/
def wantedGen (old : ChCfg) (role : Nat) : Nat := if role = old.role then old.gen else (old.gen + 1) % 0xFFFF

/-- Check 11 (R18, R467).  DESIGN CHOICE: with no image in force there is no generation to compare with, and any
passes. -/
def genCheck (s : Chip) (rs : List CfgRec) : Option CfgCheck :=
  if s.imgValid then
    ((recsOf rs 0x0010).find? fun r =>
      r.vals.nat "ROLE_GEN" != wantedGen (s.chCfg r.idx) (r.vals.nat "ROLE")).map (failAt 0x0B)
  else none

/-- Checks 1 to 11 on the staged image. -/
def checkStaged (s : Chip) (base : Nat) (raw : List Byte) : Except CfgCheck (List CfgRec) :=
  match firstFour s base raw with
  | .error c => .error c
  | .ok rs =>
    if decide (imgSeq raw ≤ committedSeq s) then .error { code := 0x05 }
    else
      match laterChecks s rs with
      | .error c => .error c
      | .ok ds =>
        match genCheck s ds with
        | some c => .error c
        | none => .ok ds

end Sys2Proof.Machine
end

