-- ==== Sys2Proof/Machine/Mirror.lean ====
section
/-! DEFINITION. The mirror between stablemates: the image and its records, what a frame carries, and what a standby does
with what it receives (R349-R352, R79, R106, R138, R170, R200, R229). -/

namespace Sys2Proof.Machine

/-- The role epoch that follows, skipping 0xFFFF (R310, R348). -/
def epochAfter (e : Nat) : Nat := if 0xFFFE ≤ e then 0 else e + 1

/-- Tick number of a boundary: hall time ÷ 100 (R349). -/
def tickNo (s : Chip) : Nat := s.hall / 100

def Chip.modMe (s : Chip) (f : Pair → Pair) : Chip := { s with pair := { s.pair with me := f s.pair.me } }
def Chip.modPartner (s : Chip) (f : Partner → Partner) : Chip :=
  { s with pair := { s.pair with partner := f s.pair.partner } }
def Chip.modShadow (s : Chip) (f : Shadow → Shadow) : Chip := { s with pair := { s.pair with shadow := f s.pair.shadow } }
def Chip.modOut (s : Chip) (f : MirrorOut → MirrorOut) : Chip := { s with pair := { s.pair with out := f s.pair.out } }

/-! ## The image (R350) -/

/-- The hall time of a tick, to come or past. -/
def hallAhead (s : Chip) (t : Nat) : Nat := s.hall + (t - s.now) * 100 - (s.now - t) * 100

/-- The tick of a hall time, to come or past. -/
def tickOfHall (s : Chip) (h : Nat) : Nat := s.now + (h - s.hall) / 100 - (s.hall - h) / 100

def mirrorCh (s : Chip) (n : Nat) : List Byte :=
  let c := s.ch n
  le 1 (bitN 0 c.intentOn + bitN 1 c.disabled + bitN 2 (c.state == .locked)) ++ le 1 (min 7 c.brk.retries) ++ zeros 2
    ++ le 8 ((c.brk.due.map (hallAhead s)).getD 0) ++ zeros 4

/-- The ramp goal as it is mirrored (R138, R350).  DESIGN CHOICE: a BRIDGING rail, which no ramp drives, gives its charge
setpoint. -/
def mirrorGoal (c : RailCfg) (r : Rail) : Int :=
  if r.state == .bridging then r.chargeSet else rdiv (rampGoal c r) 1000

def mirrorRail (s : Chip) (k : Nat) : List Byte :=
  let r := s.rail k
  le 1 (bitN 0 r.intentOn + bitN 1 r.disabled + bitN 2 (r.state == .latched)) ++ zeros 3 ++ leI 4 r.vTarget
    ++ leI 4 r.chargeSet ++ leI 4 (mirrorGoal (s.railCfg k) r) ++ le 4 r.setSlew
    ++ le 4 (((slotOfRail s k).map fun j => tget s.book.weights j).getD 0)

def mirrorRect (s : Chip) (n : Nat) : List Byte := leI 4 (s.rect n).written ++ leI 4 (s.rect n).trim

/-- The earmark at the start of a burst, µJ (R161). -/
def earmarkAt (b : Burst) : Nat := b.storePart * b.dur

def mirrorGrant (s : Chip) (n : Nat) : List Byte :=
  let b := s.burst n
  let pending := b.grant == .pending
  le 1 b.grant.code ++ le 1 b.refusal.code ++ le 1 (bitN 0 (s.link n).disabled) ++ zeros 1
    ++ le 4 (if pending then b.reqP else b.power) ++ le 4 b.rectPart ++ le 4 (if pending then b.reqD else b.dur)
    ++ le 8 b.startHall ++ le 8 (earmarkAt b)

def sessionSerial (s : Chip) (j : Nat) : Option (List Byte) :=
  (s.ledger.sessions.find? fun x => x.1 == j).map Prod.snd

def mirrorBat (s : Chip) (j : Nat) : List Byte :=
  let b := s.bat j
  le 1 b.admState.code ++ le 1 b.refuse.code ++ le 1 (bitN 0 (sessionSerial s j).isSome) ++ zeros 1
    ++ fit 16 ((sessionSerial s j).getD b.serial) ++ zeros 4

/-- The shelf's setpoints (R350).  DESIGN CHOICE: CAP carries the shelf cap, from which each member forms the effective cap with
the mirrored hall allocation and its own host-loss policy (R143, R164, R170, R422). -/
def mirrorShelf (s : Chip) : List Byte :=
  let e := s.energy
  leI 4 e.vBref ++ leI 4 e.busTrim ++ le 4 e.shelfCap ++ le 4 e.hallAlloc ++ le 4 e.throttle ++ le 4 e.hostLimit
    ++ le 1 e.chargeMode.code ++ le 1 (bitN 0 e.raise) ++ le 1 s.mode.svcKind ++ le 1 s.mode.svcIndex ++ zeros 4

/-- The mirror image of an active member, 2,048 bytes (R350). -/
def mirrorImage (s : Chip) : List Byte :=
  let a := fit 32 s.pair.out.hash ++ fit 32 s.img.digest ++ mirrorShelf s
  let b := (List.range 32).flatMap (mirrorCh s) ++ (List.range 16).flatMap (mirrorRail s)
  let c := (List.range 32).flatMap (mirrorRect s) ++ (List.range 8).flatMap (mirrorGrant s)
  a ++ (b ++ (c ++ ((List.range 12).flatMap (mirrorBat s) ++ zeros 256)))

/-! ## Words of the pair (R367, R368) -/

def partnerReady (s : Chip) : Bool := s.pair.partner.head.any MirrorHead.ready

def partnerSeen (s : Chip) : Bool := decide (3 ≤ s.pair.partner.seen)

def inHandover (s : Chip) : Bool := s.pair.me.hand != .idle

/-- Conditions 3 and 4 of R354 are not both met, on a standby. -/
def resyncing (s : Chip) : Bool := isStandby s && !(s.pair.shadow.cond3.isSome && s.pair.shadow.dwelt)

/-- VINA, VINB or VKA, 0 to 2, lies within its range (R367, R481). -/
def supplyOk (s : Chip) (k : Nat) : Bool :=
  tget [s.ostler.vinA, s.ostler.vinB, s.ostler.vka] k && !tget s.ostler.supplyOut k

/-- The pair state word (R367). -/
def pairWord (s : Chip) : Nat :=
  let me := s.pair.me
  s.mode.epoch % 2 ^ 16 + bitN 18 (supplyOk s 2) + bitN 19 (supplyOk s 1) + bitN 20 (supplyOk s 0) + bitN 21 (resyncing s)
    + bitN 22 (inHandover s) + bitN 23 me.forceOut + bitN 24 me.forceIn + bitN 25 (s.pair.shadow.ready && isStandby s)
    + bitN 26 (partnerReady s) + bitN 27 (partnerSeen s) + s.strap.code * 2 ^ 28 + s.mode.role.code * 2 ^ 30

/-- Switch-over kind codes (R366). -/
def SwitchKind.code : SwitchKind → Nat
  | .none => 0 | .start => 1 | .heartbeat => 2 | .forceFall => 3 | .handover => 4 | .forced => 5 | .blocked => 6

def pairBody (s : Chip) (kind sw : Nat) : List Byte :=
  le 1 kind ++ le 1 sw ++ le 2 s.mode.epoch ++ le 4 (pairWord s) ++ le 8 s.hall

def postPair (s : Chip) (kind sw : Nat) (done : List (ReqRef × Status) := []) : Chip :=
  post s 0x0B (pairBody s kind sw) done

/-! ## READY (R354) -/

/-- The member's reading of the internal reference less 1,250,000 µV (R349). -/
def ownRef (s : Chip) : Int := (tget s.hk 0x60).uV - 1250000

/-- The received image carries this member's configuration digest (R354). -/
def sameDigest (s : Chip) : Bool := s.imgValid && ((s.pair.partner.image.drop 32).take 32) == fit 32 s.img.digest

def selfFresh (s : Chip) : Bool :=
  s.pair.shadow.selfOk && s.pair.shadow.selfTick.any fun t => s.now ≤ t + 10000000

/-- The conditions of R354, as the READY blockers word gives those that fail (R366). -/
def readyBlockers (s : Chip) : Nat :=
  let h := s.pair.shadow
  let p := s.pair.partner
  let noFrames := p.head.isNone || (p.lost && !(h.ready && !s.pair.me.forceIn))
  bitN 0 noFrames + bitN 1 (!sameDigest s) + bitN 2 (decide (p.slices < 128)) + bitN 3 (!h.dwelt)
    + bitN 4 (!selfFresh s) + bitN 5 h.pinBad + bitN 6 h.diverge + bitN 7 h.cross + bitN 8 (!isStandby s)

/-- READY follows its conditions; as it clears, conditions 3 and 4 start again (R354). -/
def judgeReady (s : Chip) : Chip :=
  let ok := readyBlockers s == 0
  let h := s.pair.shadow
  if h.ready && !ok then
    let s := s.modShadow fun h => { h with ready := false, cond3 := none, dwelt := false }
    postPair (s.modPartner fun p => { p with slices := 0 }) 3 0xFF
  else if !h.ready && ok then postPair (s.modShadow fun h => { h with ready := true }) 3 0xFF
  else s

/-! ## Sending (R349, R351, R352) -/

/-- The word `i` of an image. -/
def imageWord (im : List Byte) (i : Nat) : List Byte := fit 4 ((im.drop (4 * i)).take 4)

/-- The words whose values differ. -/
def changedWords (old new : List Byte) : List Nat :=
  (List.range 512).filter fun i => imageWord old i != imageWord new i

/-- The 64 payload bytes of a frame (R349): a handover names its tick number. -/
def mirrorPayload (s : Chip) (im : List Byte) (slice : Nat) (entries : List Nat) : List Byte :=
  let act := isActive s
  let o := s.pair.out
  let t := match s.pair.me.hand with
    | .announced t => some t
    | _ => none
  let flags := bitN 0 act + bitN 1 (s.pair.shadow.ready && !act) + bitN 2 t.isSome + s.strap.code * 16
  let head := le 2 s.mode.epoch ++ le 1 flags ++ le 1 entries.length ++ le 4 (tickNo s) ++ le 4 (modeWord s.mode)
    ++ le 4 (if act then o.seq else s.ledger.nextSeq) ++ s.img.digest.take 4 ++ leI 4 s.energy.vBus
    ++ leI 2 (clampI (-32768) 32767 (ownRef s)) ++ le 1 (if act then slice else 0xFF) ++ zeros 1
  let body := if act then fit 16 ((im.drop (16 * slice)).take 16) else zeros 16
  fit 62 (head ++ body ++ entries.flatMap fun i => le 2 i ++ imageWord im i) ++ le 2 ((t.getD 0) % 2 ^ 16)

/-- One mirror frame is sent (R349): changes queue, three of them leave, and the ledger position advances once its hash
has been sent (R351, R352). -/
def mirrorSend (s : Chip) : Chip :=
  if !isPaired s || !yardAlive s then s
  else if isActive s then
    let s := if s.pair.out.changes.any (· < 8) then s
      else s.modOut fun o => { o with seq := o.nextSeq, nextSeq := s.ledger.nextSeq, hash := s.ledger.prev }
    let im := mirrorImage s
    let o := s.pair.out
    let queue := o.changes ++ (changedWords o.image im).filter fun i => !o.changes.contains i
    let f := mirrorPayload s im o.slice (queue.take 3)
    s.modOut fun o => { o with image := im, changes := queue.drop 3, slice := (o.slice + 1) % 128, frame := f }
  else s.modOut fun o => { o with frame := mirrorPayload s [] 0 [] }

/-! ## Receiving (R349-R352) -/

def headOf (p : List Byte) : MirrorHead :=
  let f := field p 2 1
  { epoch := field p 0 2, active := f % 2 == 1, ready := f / 2 % 2 == 1, handover := f / 4 % 2 == 1, strap := f / 16 % 4,
    modeWord := field p 8 4, seq := field p 12 4, vBus := fieldI p 20 4, ref := fieldI p 24 2, handT := field p 62 2 }

/-- A stop stage, the exit of SERVICE, or a mode without outputs has taken the intent of an object (R48, R63, R68). -/
def modeStops (s : Chip) : Bool :=
  inStop s || s.mode.mode == .lockout || s.mode.mode == .ready || s.mode.mode == .hold
    || (s.mode.mode == .service && s.mode.target == .ready)

/-- A mirrored INTENT_ON clear stops the shadow of a channel, with cause MODE where the mode has taken it (R68, R79): by the
strong pull-down in LOCKOUT alone (R63). -/
def intentGoneCh (s : Chip) (n : Nat) : Chip :=
  if modeStops s then chActMode s n (if s.mode.mode == .lockout then .strong else .soft) else chActOff s n

/-- The same of a rail (R48, R123, R124, R138). -/
def intentGoneRail (s : Chip) (k : Nat) : Chip :=
  if s.mode.mode == .lockout then railKill (s.modRail k fun r => { r with intentOn := false }) k .mode
  else railActOff s k (modeStops s)

/-- A channel's mirrored setpoints on a standby: INTENT_ON and DISABLED act on its shadow, LOCKED and RETRIES are the
active's (R79, R106). -/
def takeCh (n : Nat) (r : List Byte) (s : Chip) : Chip :=
  let f := field r 0 1
  let on := f % 2 == 1
  let dis := f / 2 % 2 == 1
  let locked := f / 4 % 2 == 1
  let c := s.ch n
  let s := if dis && !c.disabled then chActDisable s n else s.modCh n fun c => { c with disabled := dis }
  let s := if !on && (s.ch n).intentOn then intentGoneCh s n else s
  let s := if locked && (s.ch n).state != .locked then chStop s n (s.ch n).lastStop .strong .locked .aborted
    else if !locked && (s.ch n).state == .locked then setChState s n .off [] else s
  let s := if on && !(s.ch n).intentOn then
      let s := s.modCh n fun c => { c with intentOn := true }
      if (s.ch n).state == .off then chBegin s n else s
    else s
  let due := field r 4 8
  s.modCh n fun c =>
    { c with brk := { c.brk with retries := field r 1 1, due := if due = 0 then none else some (tickOfHall s due) } }

/-- The mirrored ramp goal of a rail with INTENT_ON (R138): zero against a charge setpoint that is not, the active ramps a
released slot's rail down (R228); and again its setpoint, it has been turned on in that ramp. -/
def takeGoal (s : Chip) (k : Nat) (goal : Int) : Chip :=
  let r := s.rail k
  if !(s.railCfg k).bus || !r.intentOn || r.chargeSet == 0 then s
  else if goal == 0 then releaseRail s k
  else if r.state == .rampDown && r.release then
    setRailState (s.modRail k fun x => { x with release := false }) k .rampUp []
  else s

/-- The mirrored V_TARGET of a rail differs from the member's own (R193, R200): ATTN sets on its links.  DESIGN CHOICE: not
while a link's own transition, which both members take from the wire, writes it or names that value. -/
def mirrorAttn (s : Chip) (k v : Nat) : Chip :=
  if (s.rail k).vTarget == v then s
  else
    forEach 8 (fun n s =>
      let l := s.link n
      let own := l.setv.isSome || l.lastReq.any fun q => q.1 == 2 && q.2.2 * 5 == v
      if ((s.linkCfg? n).any fun c => c.rail == k) && !own then s.modLink n fun l => { l with attn := true } else s) s

/-- A rail's mirrored setpoints on a standby (R138, R170). -/
def takeRail (k : Nat) (r : List Byte) (s : Chip) : Chip :=
  let f := field r 0 1
  let on := f % 2 == 1
  let dis := f / 2 % 2 == 1
  let latched := f / 4 % 2 == 1
  let s := if dis && !(s.rail k).disabled then railActDisable s k else s.modRail k fun x => { x with disabled := dis }
  let s := if !on && (s.rail k).intentOn then intentGoneRail s k else s
  let s := if latched && (s.rail k).state != .latched then railStop s k (s.rail k).lastStop .latched
    else if !latched && (s.rail k).state == .latched then setRailState s k .off [] else s
  let s := if on && !(s.rail k).intentOn then
      let s := s.modRail k fun x => { x with intentOn := true, modeStop := false, release := false }
      match (s.rail k).state with
      | .off => setRailState s k .wait []
      | .rampDown => setRailState s k .rampUp []
      | _ => s
    else s
  let s := (mirrorAttn s k (field r 4 4)).modRail k fun x => { x with vTarget := field r 4 4, chargeSet := fieldI r 8 4, setSlew := field r 16 4 }
  let s := takeGoal s k (fieldI r 12 4)
  match slotOfRail s k with
  | some j => { s with book := { s.book with weights := tset s.book.weights j (field r 20 4) } }
  | none => s

def takeRect (n : Nat) (r : List Byte) (s : Chip) : Chip :=
  s.modRect n fun x => { x with written := fieldI r 0 4, trim := fieldI r 4 4 }

/-- GRANT, REFUSAL, ADMIT and REFUSE of their codes (R197, R204, R233); a code without meaning has none, and the value held
stays (R10). -/
def Grant.ofCode (n : Nat) : Option Grant :=
  [Grant.none, .pending, .full, .partial_, .refused, .withdrawn, .ended, .released][n]?
def Refuse.ofCode (n : Nat) : Option Refuse :=
  [Refuse.none, .notInMode, .hostLoss, .feedOff, .throttled, .earmarkOver, .energy, .lockout, .feedOpen, .linkDisabled][n]?
def Admit.ofCode (n : Nat) : Option Admit := [Admit.empty, .identifying, .admitted, .refused, .released][n]?
def BatRefuse.ofCode (n : Nat) : Option BatRefuse :=
  [BatRefuse.none, .noBms, .unknownProfile, .duplicate, .voltage, .temperature, .serialChanged, .termLoss][n]?

/-- A grant as the active holds it (R200). -/
def takeGrant (n : Nat) (r : List Byte) (s : Chip) : Chip :=
  let g := (Grant.ofCode (field r 0 1)).getD (s.burst n).grant
  let run := g == .full || g == .partial_
  let start := field r 16 8
  let s := s.modLink n fun l =>
    { l with disabled := field r 2 1 % 2 == 1, llak := l.setv.isSome || g == .pending || l.repeatFall }
  s.modBurst n fun b =>
    let b := { b with grant := g, refusal := (Refuse.ofCode (field r 1 1)).getD b.refusal, running := run && start != 0,
                      rectPart := field r 8 4, startHall := start, start := s.now - (s.hall - start) / 100 }
    if g == .pending then { b with reqP := field r 4 4, reqD := field r 12 4 }
    else { b with power := field r 4 4, dur := field r 12 4, storePart := field r 4 4 - field r 8 4 }

/-- ADMIT, REFUSE and the session of a battery slot (R229, R260); a standby reads the values for its own estimator anew at
each admission. -/
def takeBat (j : Nat) (r : List Byte) (s : Chip) : Chip :=
  let serial := (r.drop 4).take 16
  let was := (s.bat j).admState
  let a := (Admit.ofCode (field r 0 1)).getD was
  let anew := a != was && (a == .identifying || a == .empty || (a == .admitted && was != .identifying))
  let s := s.modBat j fun b => if anew then { b with profile := 0, passed := false, attempts := 0, attemptDue := s.now, read := none }
    else b
  let s := setAdmit s j a ((BatRefuse.ofCode (field r 1 1)).getD (s.bat j).refuse) []
  let s := s.modBat j fun b =>
    { b with serial := serial,
             tempRetry := if a == .refused && b.refuse == .temperature then some (b.tempRetry.getD (s.now + 10000000)) else none }
  s.setLedger fun l =>
    let o := l.sessions
    { l with sessions := if field r 2 1 % 2 == 1 then o.filter (fun x => x.1 < j) ++ [(j, serial)] ++ o.filter (fun x => j < x.1)
                         else o.filter fun x => x.1 != j }

def chargeModeOf (n : Nat) : Option ChargeMode := [ChargeMode.auto, .hold, .limit][n]?

/-- The shelf's setpoints (R170). -/
def takeShelf (r : List Byte) (s : Chip) : Chip :=
  let e := s.energy
  let e := { e with vBref := fieldI r 0 4, busTrim := fieldI r 4 4, hallAlloc := field r 12 4,
                    shelfCap := field r 8 4, throttle := field r 16 4,
                    hostLimit := field r 20 4, chargeMode := (chargeModeOf (field r 24 1)).getD e.chargeMode, raise := field r 25 1 % 2 == 1 }
  let was := s.energy.throttle
  let m := if field r 26 1 ≤ 2 then { s.mode with svcKind := field r 26 1, svcIndex := field r 27 1 } else s.mode
  throttleLinks { s with energy := e, mode := m } (e.throttle != was)

/-- The records of the image with their places (R350), each with what it does on a standby. -/
def mirrorRecords : List (Nat × Nat × (List Byte → Chip → Chip)) :=
  [(0x040, 32, takeShelf)]
    ++ (List.range 32).map (fun n => (0x060 + 16 * n, 16, takeCh n))
    ++ (List.range 16).map (fun k => (0x260 + 24 * k, 24, takeRail k))
    ++ (List.range 32).map (fun n => (0x3E0 + 8 * n, 8, takeRect n))
    ++ (List.range 8).map (fun n => (0x4E0 + 32 * n, 32, takeGrant n))
    ++ (List.range 12).map (fun j => (0x5E0 + 24 * j, 24, takeBat j))

/-- Applies the records that hold a byte for which `hit` holds. -/
def applyRecords (hit : Nat → Bool) (s : Chip) : Chip :=
  let im := s.pair.partner.image
  mirrorRecords.foldl (fun s e =>
    if (List.range e.2.1).any fun i => hit (e.1 + i) then e.2.2 ((im.drop e.1).take e.2.1) s else s) s

/-- The change entries of a frame: word index and value. -/
def entriesOf (p : List Byte) : List (Nat × List Byte) :=
  (List.range (min 3 (field p 3 1))).map fun k => (field p (44 + 6 * k) 2 % 512, (p.drop (46 + 6 * k)).take 4)

/-- The image with which a member begins as standby: its own setpoints, until words are received.  DESIGN CHOICE: the spec
does not say what a word holds that no frame has carried yet. -/
def ownImage (s : Chip) : List Byte := patch (mirrorImage s) 0 (fit 32 s.ledger.prev)

/-- The standby's ledger position: a SEQ and the hash that belongs to it (R352); records that this member closed without a
position are the active's to replace. -/
def holdPosition (seq : Nat) (hash : List Byte) (s : Chip) : Chip :=
  s.setLedger fun l => { l with nextSeq := seq, prev := fit 32 hash, drafts := none }

/-- The ledger position that a frame brings (R352): as its SEQ moves on, every word of the matching hash has been received
before.  DEDUCED: a hash and a SEQ that have stood for 175 ticks after a complete refresh belong together too, since every word
of a new hash leaves within them (R351, R361); until then the member keeps the position it held. -/
def takePosition (seq : Nat) (before now : List Byte) (whole : Bool) (s : Chip) : Chip :=
  let mark (t : Nat) (s : Chip) : Chip := s.modPartner fun p => { p with posSeq := some (seq, t) }
  match s.pair.partner.posSeq with
  | none => mark s.now s
  | some (q, t) =>
    if seq != q then holdPosition seq before (mark s.now s)
    else if before.take 32 != now.take 32 then mark s.now s
    else if whole && t + 175 ≤ s.now then holdPosition seq now s
    else s

/-- Conditions 3 and 4 of R354 follow the count of slices in a row. -/
def refreshStep (n : Nat) (s : Chip) : Chip :=
  s.modShadow fun h =>
    if n < 128 then { h with cond3 := none, dwelt := false }
    else if h.cond3.isNone then { h with cond3 := some s.now, dwelt := false } else h

/-- A standby takes a frame's slice and then its entries, and its shadow acts on them (R351). -/
def takeFrame (p : List Byte) (s : Chip) : Chip :=
  let idx := field p 26 1
  let ents := entriesOf p
  let was := s.pair.partner.slices
  let im0 := fit 2048 s.pair.partner.image
  let im := if idx < 128 then patch im0 (16 * idx) ((p.drop 28).take 16) else im0
  let im := ents.foldl (fun im e => patch im (4 * e.1) e.2) im
  let n := if 128 ≤ idx then was else if idx == s.pair.partner.nextSlice || was = 0 then min 128 (was + 1) else 1
  let s := s.modPartner fun q => { q with image := im, slices := n, nextSlice := (idx + 1) % 128 }
  let s := takePosition (field p 12 4) im0 im (decide (128 ≤ n)) (refreshStep n s)
  applyRecords (fun a => a / 16 == idx || ents.any fun e => a / 4 == e.1) s

end Sys2Proof.Machine
end

