-- ==== Sys2Proof/Machine/Stages.lean ====
section
/-! DEFINITION. The objects of the start and stop stages, and how a stage commands them (R39). -/

namespace Sys2Proof.Machine

/-! ## Objects of the stages (R39) -/

/-- Leaders and single channels of the roles. -/
def channelsOfRoles (s : Chip) (roles : List Nat) : List Nat :=
  (List.range 32).filter fun n => roles.contains (s.chCfg n).role && !followsLeader s n

def railsOf (s : Chip) (bus : Bool) : List Nat := (List.range 16).filter fun k => (s.railCfg? k).any fun c => c.bus == bus

/-- Channel roles of a stage: RECTIFIER, BATTERY_FEED, LOAD_FEED and BUS_TIE. -/
def stageRoles : Stage → List Nat
  | .startSources | .stopSources => [1]
  | .startStore | .stopStore => [2]
  | .startLoads | .stopLoads => [3, 4]
  | _ => []

/-- The stage's rails are battery rails, LOAD-class rails, or none. -/
def stageRailClass : Stage → Option Bool
  | .startStore | .stopStore => some true
  | .startLoads | .stopLoads => some false
  | _ => none

def isStartStage : Stage → Bool
  | .startSources | .startStore | .startLoads => true
  | _ => false

def isStopStage : Stage → Bool
  | .stopLoads | .stopStore | .stopSources => true
  | _ => false

/-- Channels of the present stage: AUTO_ON ones in a start, all of the kind in a stop (R39). -/
def stageChannels (s : Chip) : List Nat :=
  let l := channelsOfRoles s (stageRoles s.mode.stage)
  if isStartStage s.mode.stage then l.filter fun n => (s.chCfg n).autoOn else l

/-- A rail that a start stage starts: an AUTO_ON one, or the battery rail of an AUTO_ON feed (R39). -/
def railAutoOn (s : Chip) (k : Nat) : Bool :=
  (s.railCfg k).autoOn || ((slotOfRail s k).bind (batBind s)).any fun b => (s.chCfg b.channel).autoOn

def stageRailList (s : Chip) : List Nat :=
  match stageRailClass s.mode.stage with
  | none => []
  | some b =>
    let l := railsOf s b
    if isStartStage s.mode.stage then l.filter (railAutoOn s) else l

/-- A channel of a start stage has finished: reached ON, stopped under its protection, or is not started at all. -/
def chFinished (s : Chip) (n : Nat) : Bool :=
  let c := s.ch n
  c.disabled || (match c.state with
    | .on | .off | .tripped | .locked => true
    | _ => false)

/-- A rail of a start stage has finished; a battery rail whose feed has finished short of ON, or whose slot is not
ADMITTED, waits on without the stage (R39). -/
def railFinished (s : Chip) (k : Nat) : Bool :=
  let r := s.rail k
  let feedDone := match (slotOfRail s k).bind fun j => (batBind s j).map fun b => (j, b.channel) with
    | some (j, n) => chFinished s n && ((s.ch n).state != .on || !slotAdmitted s j)
    | none => false
  r.disabled || (match r.state with
    | .on | .burst | .armed | .bridging | .off | .latched | .otStop => true
    | _ => (s.railCfg k).bus && feedDone)

def chIsOff (s : Chip) (n : Nat) : Bool :=
  match (s.ch n).state with
  | .off | .locked => true
  | _ => false

def railIsOff (s : Chip) (k : Nat) : Bool :=
  match (s.rail k).state with
  | .off | .latched => true
  | _ => false

/-- The objects of the stage that have not finished. -/
def unfinishedCh (s : Chip) : List Nat :=
  (stageChannels s).filter fun n => if isStartStage s.mode.stage then !chFinished s n else !chIsOff s n

def unfinishedRails (s : Chip) : List Nat :=
  (stageRailList s).filter fun k => if isStartStage s.mode.stage then !railFinished s k else !railIsOff s k

/-! ## Starting and stopping objects -/

/-- An AUTO_ON channel is started, unless DISABLED or LOCKED (R39). -/
def chAuto (s : Chip) (n : Nat) : Chip :=
  let c := s.ch n
  if c.disabled || c.state == .locked then s
  else
    let s := s.modCh n fun c => { c with intentOn := true }
    if (s.ch n).state == .off then chBegin s n else s

/-- An AUTO_ON rail is started, unless DISABLED or LATCHED (R39). -/
def railAuto (s : Chip) (k : Nat) : Chip :=
  let r := s.rail k
  if r.disabled || r.state == .latched then s
  else
    let s := s.modRail k fun r => { r with intentOn := true, modeStop := false, release := false }
    match (s.rail k).state with
    | .off => setRailState s k .wait []
    | .rampDown => setRailState s k .rampUp []
    | _ => s

/-- The next AUTO_ON rectifier channel starts, and the one after it 10 ms later (R39).  DESIGN CHOICE: a channel that is
DISABLED or LOCKED, and so not started, takes its 10 ms all the same. -/
def startNextSource (s : Chip) : Chip :=
  match (stageChannels s).find? fun n => decide (s.mode.srcNext ≤ n) with
  | some n =>
    chAuto { s with mode := { s.mode with srcNext := n + 1, srcDue := s.now + 10000 } } n
  | none => s

def sourcesLeft (s : Chip) : Bool :=
  s.mode.stage == .startSources && (stageChannels s).any fun n => decide (s.mode.srcNext ≤ n)

/-- The stage's rails are commanded (R39). -/
def stageRailsGo (s : Chip) : Chip :=
  let s := { s with mode := { s.mode with stageRails := true } }
  if isStartStage s.mode.stage then (stageRailList s).foldl railAuto s
  else (stageRailList s).foldl (fun s k => railActOff s k true) s

/-- The stage's channels are commanded: the first kind in a start, the second in a stop (R39). -/
def stageChannelsGo (s : Chip) : Chip :=
  if isStartStage s.mode.stage then (stageChannels s).foldl chAuto s
  else (stageChannels s).foldl (fun s n => chActMode s n .soft) { s with mode := { s.mode with stageRails := true } }

/-- The objects of the present stage are commanded (R39): battery rails of a start wait beside their feeds; LOAD-class rails
of a start follow their channels; in a stop the channels follow the rails. -/
def commandStage (s : Chip) : Chip :=
  match s.mode.stage with
  | .startSources => startNextSource s
  | .startStore => stageRailsGo (stageChannelsGo s)
  | .startLoads | .stopSources => stageChannelsGo s
  | .stopLoads | .stopStore => (stageRailList s).foldl (fun s k => railActOff s k true) s
  | _ => s

/-- A stage begins (R39). -/
def enterStage (s : Chip) (st : Stage) : Chip :=
  let s := { s with mode := { s.mode with
    stage := st, stageStart := s.now, stageRails := false, settleSince := none, srcNext := 0, srcDue := s.now } }
  commandStage (if isStartStage st then releaseStage s else s)

/-- The second kind of objects of a stage follows the first (R39), judged at every boundary at which sequences go on. -/
def stageProgress (s : Chip) : Chip :=
  if s.mode.stageRails then s
  else
    match s.mode.stage with
    | .startLoads => if (unfinishedCh s).isEmpty then stageRailsGo s else s
    | .stopLoads | .stopStore => if (unfinishedRails s).isEmpty then stageChannelsGo s else s
    | _ => s

end Sys2Proof.Machine
end

