-- ==== Sys2Proof/Machine/Pair.lean ====
section
/-! DEFINITION. The stablemate pair: heartbeats, the standby's checks, READY, giving up and taking the role, the
handover's start and its tick (R344-R362), and the pair opcodes (R366). -/

namespace Sys2Proof.Machine

/-! ## The mode's record (R38, R57) -/

def modeGetHead (s : Chip) : List Byte := le 4 (modeWord s.mode) ++ le 8 s.mode.lastChange

/-- Posts the mode event, completing requests (R38, R57). -/
def postMode (s : Chip) (done : List (ReqRef × Status)) : Chip := post s 0x01 (modeGetHead s) done

/-- A committed change is recorded: hall time, MODE_CHANGED on both ports, the recorder's MODE record (R38, R445). -/
def recordMode (s : Chip) : Chip :=
  let s := { s with mode := { s.mode with lastChange := s.hall } }
  let s := s.modPort .tw fun p => { p with modeChanged := true }
  let s := s.modPort .spi fun p => { p with modeChanged := true }
  recPost s 2 0 0 (le 4 (modeWord s.mode))

/-- The role epoch follows the partner's, and both ports' next replies show it (R306).  No epoch is 0xFFFF (R310). -/
def followEpoch (s : Chip) (e : Nat) : Chip :=
  if s.mode.epoch == e || e == 0xFFFF then s
  else
    let s := { s with mode := { s.mode with epoch := e } }
    let s := s.modPort .tw fun p => { p with roleSeen := true }
    s.modPort .spi fun p => { p with roleSeen := true }

/-- A new role epoch of a member that takes the active role, the one after `last`: it is retained (R306, R310, R348). -/
def setEpoch (s : Chip) (last : Nat) : Chip :=
  let e := epochAfter last
  let s := { s with mode := { s.mode with epoch := e } }
  let s := s.modMe fun p => { p with retEpoch := e }
  let s := s.modPort .tw fun p => { p with roleSeen := true }
  s.modPort .spi fun p => { p with roleSeen := true }

/-- Mode requests accepted and not completed: those of the sequence, and those of the change that waits. -/
def openModeRefs (m : ModeState) : List ReqRef := m.refs ++ (m.pend.map fun p => p.refs ++ p.lost).getD []

/-- The mode requests that were accepted and not completed end with ABORTED (R304). -/
def abortModeRefs (s : Chip) : Chip :=
  let refs := openModeRefs s.mode
  let s := { s with mode := { s.mode with refs := [], pend := none } }
  if refs.isEmpty then s else postMode s (allWith refs .aborted)

/-- Power-down begins (R41): a change that waits is dropped, and INTENT_ON clears (R68). -/
def startPowerDown (s : Chip) : Chip :=
  let s := clearIntents (abortModeRefs s)
  let s := if ledgerWriter s then s.ledger.sessions.foldl (fun s x => askClose s x.1 3) s else s
  { s with mode := { s.mode with stage := .powerDown, target := .off, stageStart := s.now },
           ostler := { s.ostler with flushAt := some s.now } }

/-! ## Giving up and taking the role (R356, R361, R362) -/

def memberBit (s : Chip) : Nat := if s.strap == .b then 1 else 0

def switched (s : Chip) (kind : SwitchKind) (before : Nat) : Chip :=
  s.modMe fun p => { p with kind := kind, before := before, switchHall := s.hall }

/-- The ROLE record of the recorder (R445). -/
def roleRecord (s : Chip) : Chip := recPost s 5 0 0 (le 4 (pairWord s))

/-- RELINQUISH snapshots, where metering runs, the last records of the boundary (R254, R260, R534); records that still wait for
a position continue the member's own chain (R362). -/
def relinquishRecords (s : Chip) : Chip :=
  let s := if periodDue s then ledgerBoundary s else s
  settleDrafts (if meteringRuns s then closeAll s 4 4 false else s)

/-- Setpoint writes that have not begun are dropped, and setpoints of the energy class that have not taken effect: only the
active member's count (R339, R361). -/
def dropWrites (s : Chip) : Chip :=
  let s := { s with book := { s.book with queue := [] } }
  let s := forEach 32 (fun n s => s.modRect n fun r => { r with writing := none }) s
  forEach 4 (fun k s => s.modBus k fun b => { b with queue := b.queue.filter fun e => match e with | .write .. => false | _ => true }) s

/-- The watches over the gates begin: no trip of before counts (R353). -/
def freshPins (s : Chip) : List PinWatch :=
  (List.range 32).map fun n => { tripSeen := (s.ch (leaderOf s n)).brk.lastTrip }

/-- Admissions and releases are the new active's: the requests that waited for them end with ABORTED (R229, R232, R304). -/
def dropAdmissions (s : Chip) : Chip :=
  forEach 12 (fun j s =>
    let refs := (s.bat j).admitRefs ++ (s.bat j).releaseRefs
    let s := s.modBat j fun b => { b with passed := false, releasing := false, admitRefs := [], releaseRefs := [] }
    if refs.isEmpty then s else postBat s j 1 (allWith refs .aborted)) s

/-- The member gives up the active role while powered (R346, R361, R362): its RELINQUISH records, FORCE_OUT low, standby; a
LOCKOUT for a strap conflict still waits for its boundary (R33). -/
def giveRole (s : Chip) (kind : SwitchKind) (done : List (ReqRef × Status) := []) : Chip :=
  let s := dropAdmissions (abortModeRefs (relinquishRecords s))
  let s := { s with mode := { s.mode with
    role := .standby, lockout := s.mode.lockout.filter fun c => c == .strapConflict } }
  let s := switched s kind (memberBit s)
  let s := s.modMe fun p => { p with forceOut := false, resumeAt := none, blockedSince := none }
  let s := s.modShadow fun h => { h with ready := false, cond3 := none, dwelt := false }
  let s := s.modPartner fun p => { p with slices := 0, posSeq := none, missed := 0, lost := false, image := ownImage s }
  let s := s.modShadow fun h => { h with pins := freshPins s }
  roleRecord (postPair (dropWrites s) 2 s.pair.me.kind.code done)

/-- TAKEOVER snapshots (R254, R260, R361), with GAP after a fail-over; after a handover they and all records that follow wait for
the position that the former active leaves. -/
def takeoverRecords (s : Chip) (kind : SwitchKind) (wait : Bool) : Chip :=
  let s := if wait then openDrafts s else s
  if meteringRuns s then closeAll s 4 3 (kind != .handover) else s

/-- What else the boundary of a take-over closes (R253, R534). -/
def afterTakeover (s : Chip) : Chip := if periodDue s || stillDue s then s else ledgerClose s false

/-- Records closed from registers that were latched earlier. -/
def latchedRecords (s : Chip) (l : RegLatch) (aux : Nat) (gap : Bool) : Chip :=
  let t := closeAll { s with meters := l.meters, meterBook := l.book, clk := { s.clk with hall := l.hall } } 4 aux gap
  { s with ledger := t.ledger }

/-- A new active of pair 0 is the time master from its own time: a step that waits does not come (R381). -/
def becomesMaster (s : Chip) : Chip :=
  if s.imgValid && s.img.hall.enable && s.img.hall.pairId == 0 then
    { s with net := { s.net with time := { s.net.time with step := none } } }
  else s

/-- STILL_LIFE records of registers that the member latched while no member was active (R390). -/
def orphanStill (s : Chip) : Chip :=
  match s.net.stillLatch with
  | some l => latchedRecords { s with net := { s.net with stillLatch := none } } l 1 true
  | none => s

/-- The first AUTO_ON rectifier channel that the former active had not started, as the mirrored INTENT_ON shows it. -/
def nextSource (s : Chip) : Nat :=
  ((List.range 32).find? fun n =>
    (s.chCfg n).role == 1 && (s.chCfg n).autoOn && !followsLeader s n && (s.ch n).state == .off && !(s.ch n).intentOn).getD 32

/-- A SERVICE that the former active was leaving, as TARGET shows, is left (R47, R54). -/
def continueService (s : Chip) : Chip :=
  if s.mode.mode == .service && s.mode.target == .ready && s.mode.svcStop.isNone && s.mode.pend.isNone then
    { s with mode := { s.mode with svcStop := some (s.now, if s.dogs.hostLoss then .hostLoss else .hostRequest) } }
  else s

/-- A sequence or handover goes on from its mirrored stage and the present output state (R54): its cause is the one its
commit mirrored; a bound met by an object of an earlier stage is not mirrored; the stage's objects are commanded again,
which reaches those whose intent no frame had carried; a handover's ramps go on from those of the shadow. -/
def continueStage (s : Chip) : Chip :=
  let s := { s with mode := { s.mode with
    seqCause := s.mode.cause, timedOut := false, stageRails := false, srcNext := nextSource s, srcDue := s.now + 10000 } }
  match s.mode.stage with
  | .handover => beginHands s
  | .startSources => s
  | _ => commandStage (continueService s)

/-- A slot whose release the former active had begun, as its rail's ramp in the shadow shows, goes on to be released (R228). -/
def continueReleases (s : Chip) : Chip :=
  forEach 12 (fun j s =>
    if slotAdmitted s j && (batBind s j).any fun b => (s.rail b.rail).state == .rampDown && (s.rail b.rail).release then
      s.modBat j fun b => { b with releasing := true }
    else s) s

/-- The member takes the active role (R356): role epoch, FORCE_OUT, TAKEOVER snapshots, live engines whose drivers
resume 2 ticks later.  A handover request that still waits for the partner is aborted. -/
def takeRole (s : Chip) (last : Nat) (kind : SwitchKind) (wait : Bool) : Chip :=
  let ref := s.pair.me.handRef
  let before := match s.pair.me.hand, s.pair.partner.head with
    | .gone _, _ => memberBit s
    | _, some _ => if s.strap == .b then 0 else 1
    | _, none => 0xFF
  let s := setEpoch s last
  let s := { s with mode := { s.mode with role := .active, dwellSince := none, shortSince := none, settleSince := none } }
  let s := becomesMaster s
  let s := switched (continueReleases (continueStage s)) kind before
  let ready := s.pair.shadow.ready
  let s := s.modMe fun p =>
    { p with forceOut := !p.forceIn, gapHold := true, resumeAt := some (s.now + 2), blockedSince := none, hand := .idle, handRef := none,
             handEpoch := none, handOff := false, handHot := false, fellNow := false }
  let s := s.modShadow fun h => { h with ready := false, cond3 := none, dwelt := false }
  let s := s.modOut fun _ => { seq := s.ledger.nextSeq, nextSeq := s.ledger.nextSeq, hash := s.ledger.prev }
  let s := takeoverRecords s kind wait
  let s := afterTakeover (orphanStill s)
  let s := if kind == .handover || kind == .blocked then s else
    setFault (s.modMe fun p => { p with failovers := sat32 p.failovers 1 }) 0x0C02
  let s := if ready then postPair s 3 0xFF else s
  roleRecord (postPair s 1 kind.code (allWith ref.toList .aborted))

/-! ## Handover (R361) -/

/-- A handover begins: the freeze. -/
def beginHandover (s : Chip) (r : Option ReqRef) (off hot : Bool) : Chip :=
  s.modMe fun p => { p with hand := .draining, handRef := r, handOff := off, handHot := hot }

/-- The change queue is empty: no word waits in it, and none differs from what was sent. -/
def nothingWaits (s : Chip) : Bool := s.pair.out.changes.isEmpty && s.pair.out.image == mirrorImage s

/-- The change queue is empty: HANDOVER with T four ticks ahead is announced. -/
def handoverDrained (s : Chip) : Chip :=
  if s.pair.me.hand == .draining && isActive s && nothingWaits s then
    s.modMe fun p => { p with hand := .announced (tickNo s + 4) }
  else s

def execHandoverQueueDrained (s : State) : Host.Outcome State Fault Refusal := .next (s.on handoverDrained)

/-- At boundary T + 1 the role is given up (R361), after the records of a period or a Still Life that are due there (R534); a
THERM_SHUTDOWN that waited sets on the standby (R505). -/
def handoverRelinquish (s : Chip) : Chip :=
  match s.pair.me.hand with
  | .announced t =>
    if isActive s && decide (t + 1 ≤ tickNo s) && !(meteringRuns s && (periodDue s || stillDue s)) then
      let old := s.mode.epoch
      let s := giveRole s .handover
      let s := s.modMe fun p =>
        { p with hand := .gone t, handRose := false, gapHold := true, handEpoch := some old, handovers := sat32 p.handovers 1 }
      if s.pair.me.handHot then setFault (s.modMe fun p => { p with handHot := false }) 0x0E02 else s
    else s
  | _ => s

def execHandoverRelinquish (s : State) : Host.Outcome State Fault Refusal := .next (s.on handoverRelinquish)

/-- FORCE_IN has not risen by T + 5: the role is taken again, and the handover completes ABORTED (R361, R505).  DESIGN CHOICE: a
power-down that waited for the handover (R55) is dropped with it. -/
def handoverAbort (s : Chip) : Chip :=
  match s.pair.me.hand with
  | .gone t =>
    if !s.pair.me.handRose && !s.pair.me.forceIn && decide (t + 5 ≤ tickNo s) then
      let hot := s.pair.me.handHot
      let s := takeRole s s.mode.epoch .handover false
      if hot then setFault s 0x0E02 else s
    else s
  | _ => s

def execHandoverAbort (s : State) : Host.Outcome State Fault Refusal := .next (s.on handoverAbort)

/-- The handover's request completes as the former active sees the new active's frame (R366); a power-down that waited
for it begins (R55). -/
def handoverSeen (s : Chip) (h : MirrorHead) : Chip :=
  match s.pair.me.handEpoch with
  | some e =>
    if h.active && h.epoch != e then
      let ref := s.pair.me.handRef
      let off := s.pair.me.handOff
      let s := s.modMe fun p =>
        { p with hand := .idle, handRef := none, handEpoch := none, handOff := false, gapHold := false }
      let s := ref.toList.foldl (fun s r => postPair s 2 4 [(r, Status.ok)]) s
      if off then startPowerDown s else s
    else s
  | none => s

/-! ## MIRROR (R33, R34, R349-R353) -/

/-- The stage that a frame brings begins on the standby: its bound counts from here, and objects of its shadow that waited
for a start stage begin (R54, R79); the BRIDGING rails of its shadow begin the ramp of a handover (R138, R158). -/
def followStage (s : Chip) (was : Mode) (st : Stage) : Chip :=
  if s.mode.stage == st then s
  else
    let fromRun := if st == .stopLoads then was == .run else s.mode.stopFromRun
    let s := { s with mode := { s.mode with stage := st, stageStart := s.now, stopFromRun := fromRun, settleSince := none } }
    let s := if st == .handover then beginHands s else s
    if inStart s then releaseStage s else s

/-- The standby takes its mode from the frame (R34, R53), fields without meaning apart (R10); while a strap conflict lasts it
does not. -/
def followMode (s : Chip) (w : Nat) : Chip :=
  if s.mode.stage == .powerDown || s.faults.live.contains 0x0C00 then s
  else
    let m := (Mode.ofCode (w % 256)).getD s.mode.mode
    let was := s.mode.mode
    let s := { s with mode := { s.mode with
      mode := m, cause := Cause.ofCode (w / 2 ^ 8 % 16),
      target := (Mode.ofCode (w / 2 ^ 16 % 256)).getD s.mode.target, hostHold := w / 2 ^ 24 % 2 == 1,
      exhausted := w / 2 ^ 25 % 2 == 1, freshReady := false } }
    let s := if was == .bridge && m == .run then beginHands s else s
    let s := followStage s was ((Stage.ofCode (w / 2 ^ 12 % 16)).getD s.mode.stage)
    if m != was then postMode (recordMode s) [] else s

/-- Own and partner readings are compared (R353). -/
def crossCheck (s : Chip) (h : MirrorHead) : Chip :=
  let c := s.img.pair
  let far := decide (c.vbusTol < (s.energy.vBus - h.vBus).natAbs) || decide (c.refTol < (ownRef s - h.ref).natAbs)
  let n := if far then min 100 (s.pair.partner.crossBad + 1) else 0
  let s := s.modPartner fun p => { p with crossBad := n }
  let s := s.modShadow fun x => { x with cross := decide (100 ≤ n) }
  evalFault s 0x0C09 (decide (100 ≤ n))

/-- Records that waited for the former active's position (R361): its first frame as standby gives the SEQ; the hash of the
record before it reaches the member by no path the spec names, and is a free value. -/
def settleTakeover (s : Chip) (h : MirrorHead) : Chip :=
  if s.ledger.drafts.isSome && !h.active then
    let free := s.draw
    settleDrafts (s.drawn.setLedger fun x => { x with nextSeq := h.seq, prev := le 32 free })
  else s

/-- The frame is in time to count as its tick's heartbeat (R349). -/
def inTime (s : Chip) (n : Nat) : Bool :=
  decide ((tickNo s + (2 ^ 32 - n % 2 ^ 32)) % 2 ^ 32 ≤ 1) || decide (2 ^ 31 ≤ (tickNo s + (2 ^ 32 - n % 2 ^ 32)) % 2 ^ 32)

def Chip.modNet (s : Chip) (f : Hall → Hall) : Chip := { s with net := f s.net }
def Chip.np (s : Chip) (p : Nat) : NpPort := tget s.net.ports p
def Chip.modNp (s : Chip) (p : Nat) (f : NpPort → NpPort) : Chip :=
  s.modNet fun n => { n with ports := tset n.ports p (f (tget n.ports p)) }

/-- The member belongs to a hall (R398). -/
def inHall (s : Chip) : Bool := s.imgValid && s.img.hall.enable

/-- The port is in use: outside a hall only NP0 is. -/
def portUsed (s : Chip) (p : Nat) : Bool := p == 0 || inHall s

/-- A CRC error on a port (R372, R373, R378). -/
def crcError (p : Nat) (s : Chip) : Chip :=
  if yardAlive s && portUsed s p && (s.np p).state != .down then
    let s := s.modNp p fun x => { x with crc := sat32 x.crc 1, recent := (s.now :: x.recent.filter fun t => s.now < t + 1000).take 8 }
    setFault s (0x0D04 + p)
  else s

/-- A mirror frame counts as a valid frame of NP0 (R378). -/
def touchNp0 (s : Chip) : Chip := s.modNp 0 fun x => { x with lastValid := s.now }

/-- A frame of the active partner says that it acted at the boundaries before: what the member latched at a Still Life of
those is not its to record (R390). -/
def stillRecorded (s : Chip) (n : Nat) : Chip :=
  s.modNet fun x => { x with stillLatch := x.stillLatch.filter fun l => decide (2 ^ 31 ≤ (n % 2 ^ 32 + 2 ^ 32 - l.hall / 100 % 2 ^ 32) % 2 ^ 32) }

/-- A mirror frame with a good CRC is received (R349-R354); one of another length counts as a CRC error (R372), and NP0 lets
none pass while it is in TOPOLOGY (R376). -/
def mirrorFrame (p : List Byte) (s : Chip) : Chip :=
  if !isPaired s || !(yardAlive s || s.pair.me.listen.isSome) then s
  else if p.length != 64 then crcError 0 s
  else if (s.np 0).state == .topology then touchNp0 s
  else
    let h := headOf p
    let n := field p 4 4
    let s := touchNp0 s
    let s := s.modPartner fun q => { q with head := some h, got := if inTime s n then n :: q.got else q.got }
    let s := s.modMe fun q => { q with heardEpoch := h.epoch, heard := q.heard || (q.listen.isSome && h.active) }
    if !yardAlive s then s
    else
      let s := if h.strap == 1 || h.strap == 2 then evalFault s 0x0C00 (h.strap == s.strap.code) else s
      let s := if h.active then stillRecorded s n else s
      let s := handoverSeen s h
      let s := settleTakeover s h
      let s := if isStandby s && h.active then takeFrame p (followEpoch (followMode s h.modeWord) h.epoch) else s
      let s := crossCheck s h
      let s := if isStandby s && decide (128 ≤ s.pair.partner.slices) then evalFault s 0x0C05 (!sameDigest s) else s
      judgeReady s

def execMirror (payload : List Byte) (s : State) : Host.Outcome State Fault Refusal := .next (s.on (mirrorFrame payload))

/-! ## Heartbeats and the line (R346, R355, R357) -/

/-- Three heartbeats in a row are missed (R355). -/
def heartbeatLoss (s : Chip) : Chip :=
  if isPaired s && yardAlive s && decide (3 ≤ s.pair.partner.missed) && !s.pair.partner.lost then
    let s := s.modPartner fun p => { p with lost := true }
    judgeReady (setFault (settleDrafts s) 0x0C01)
  else s

def execHeartbeatLoss (s : State) : Host.Outcome State Fault Refusal := .next (s.on heartbeatLoss)

/-- FORCE_IN rises: the Stable die holds every driver at high impedance (R346). -/
def forceInRise (s : Chip) : Chip := s.modMe fun p => { p with forceIn := true, handRose := true }

def execForceInRise (s : State) : Host.Outcome State Fault Refusal := .next (s.on forceInRise)

/-- FORCE_IN falls (R355); FORCE_OUT of an active follows, now that it may be asserted (R346). -/
def forceInFall (s : Chip) : Chip :=
  s.modMe fun p => { p with forceIn := false, fell := p.fell || p.forceIn,
                            forceOut := p.forceOut || isActive s }

def execForceInFall (s : State) : Host.Outcome State Fault Refusal := .next (s.on forceInFall)

/-- The gap hold of a paired member that found no die-link frame in a tick (R357). -/
def gapHold (s : Chip) : Chip :=
  if isPaired s && decide (1 ≤ s.pair.me.noLink) then s.modMe fun p => { p with gapHold := true } else s

def execGapHold (s : State) : Host.Outcome State Fault Refusal := .next (s.on gapHold)

/-- The member's drivers act on the shared nets: it holds the active role, no hold or gap keeps them at high impedance,
and FORCE_IN is low (R346, R356, R357). -/
def driversLive (s : Chip) : Bool := isActive s && !inGap s

/-! ## The standby's checks (R353) -/

/-- GATE_OK that the shadow state implies; none where it is not checked. -/
def gateExpected (s : Chip) (n : Nat) : Option Bool :=
  let c := s.ch (leaderOf s n)
  if (s.chCfg n).role == 0 || s.hall < c.lastChange + 2000 then none
  else
    match c.state with
    | .on => some true
    | .off | .waitPresent | .cooling | .tripped | .locked => some false
    | _ => none

/-- The watch over one channel's gate (R353); a shadow trip shows by its hall time, also one decided between boundaries. -/
def watchGate (s : Chip) (n : Nat) (w : PinWatch) : PinWatch :=
  let ok := (s.ch n).lat.gateOk
  let c := s.ch (leaderOf s n)
  let bad := match gateExpected s n with
    | some e => if e == ok then 0 else min 8 (w.bad + 1)
    | none => 0
  let trip := if c.brk.lastTrip != w.tripSeen then some s.now else w.tripSince
  let lost := !ok && c.state == .on && c.intentOn && (w.lost || w.gateWas)
  { tripSeen := c.brk.lastTrip, bad := bad, tripSince := if ok then trip else none, gateWas := ok, lost := lost }

def watchFails (s : Chip) (w : PinWatch) : Bool := w.lost || w.tripSince.any fun t => decide (t + 10 < s.now)

/-- The rail of a lane, and the lane's place in it (R109). -/
def railOfLane (s : Chip) (lane : Nat) : Option (Nat × Nat) :=
  ((List.range 16).find? fun k => (s.railCfg? k).any fun c => decide (c.firstLane ≤ lane) && decide (lane < c.firstLane + c.lanes)).map
    fun k => (k, lane - (s.railCfg k).firstLane)

/-- The phase of a rail's lane, and whether the lane is its leg B (R109). -/
def phaseOfLane (c : RailCfg) (i : Nat) : Nat × Bool := if c.buckBoost then (i / 2, i % 2 == 1) else (i, false)

/-- High time, in steps, that the rail's PWM engine gives a lane in its present period; zero before its first (R113,
R114, R116). -/
def laneHigh (s : Chip) (k i : Nat) : Int :=
  let c := s.railCfg k
  let p := phaseOfLane c i
  match tget (s.rail k).lp.pwm.edges p.1 with
  | some e => if p.2 then pwmSteps c - e.b else e.a
  | none => 0

/-- A measured lane period lies outside; none where the lane is not checked (R353). -/
def laneOutside (s : Chip) (m : LaneMeas) : Option Bool :=
  (railOfLane s m.lane).bind fun e =>
    let r := s.rail e.1
    let c := s.railCfg e.1
    if !r.lp.switching then some (m.high != 0 || m.low != 0)
    else if r.state == .on || r.state == .bridging || (r.state == .armed && !r.idle) then
      some (decide (s.img.pair.laneTol * (c.pwmPeriod * 16) < ((m.high : Int) - laneHigh s e.1 e.2).natAbs * 65536))
    else none

def watchLane (s : Chip) (m : LaneMeas) : Chip :=
  s.modShadow fun h =>
    { h with lanes := tset h.lanes m.lane (if laneOutside s m == some true then min 100 (tget h.lanes m.lane + 1) else 0) }

/-- The standby's checks at a tick boundary (R353). -/
def shadowChecks (s : Chip) (lanes : List LaneMeas) : Chip :=
  let h0 := s.pair.shadow
  let s := lanes.foldl watchLane s
  let pins := (List.range 32).map fun n => watchGate s n (tget s.pair.shadow.pins n)
  let bad := pins.any (fun w => decide (8 ≤ w.bad)) || s.pair.shadow.lanes.any fun n => decide (100 ≤ n)
  let div := pins.any (watchFails s)
  let s := s.modShadow fun h =>
    { h with pins := pins, pinBad := bad, diverge := div,
             mismatches := sat32 h.mismatches (if bad && !h0.pinBad then 1 else 0),
             divergences := sat32 h.divergences (if div && !h0.diverge then 1 else 0) }
  evalFault (evalFault s 0x0C06 bad) 0x0C07 div

/-- A standby's driver self-test pass ends (R353). -/
def selftestPass (passed : Bool) (s : Chip) : Chip :=
  if yardAlive s && isStandby s then
    let s := s.modShadow fun h =>
      { h with selfOk := passed, selfTick := some s.now, selfHall := if passed then s.hall else h.selfHall }
    judgeReady (if passed then s else setFault s 0x0C08)
  else s

def execDriverSelftestPass (passed : Bool) (s : State) : Host.Outcome State Fault Refusal := .next (s.on (selftestPass passed))

/-- RESYNC_DWELL has passed since a complete refresh (R354). -/
def resyncDwell (s : Chip) : Chip :=
  if s.pair.shadow.cond3.any fun t => t + s.img.pair.resyncDwell * 1000000 ≤ s.now then
    judgeReady (s.modShadow fun h => { h with dwelt := true })
  else s

def execResyncDwell (s : State) : Host.Outcome State Fault Refusal := .next (s.on resyncDwell)

/-! ## The tick boundary -/

/-- Three heartbeats in a row are missed: conditions 3 and 4 of R354 start again on a standby that does not take the role
on that (R355). -/
def refreshLost (s : Chip) : Chip :=
  if isStandby s && decide (3 ≤ s.pair.partner.missed) && !(s.pair.shadow.ready && !s.pair.me.forceIn) then
    refreshStep 0 (s.modPartner fun p => { p with slices := 0, posSeq := none })
  else s

/-- The heartbeat of two ticks ago is judged (R349). -/
def judgeHeartbeat (s : Chip) : Chip :=
  let n := (tickNo s - 2) % 2 ^ 32
  let p := s.pair.partner
  let was := partnerSeen s
  let s :=
    if p.got.contains n then
      s.modPartner fun p => { p with seen := min 3 (p.seen + 1), missed := 0, lost := false }
    else
      s.modPartner fun p => { p with seen := 0, missed := min 1000000 (p.missed + 1), missedTotal := sat32 p.missedTotal 1 }
  let s := s.modPartner fun p => { p with got := (p.got.filter (· != n)).take 8 }
  if partnerSeen s != was then postPair s 4 0xFF else s

/-- The triggers of R355 at this boundary, READY and FORCE_IN apart. -/
def takeoverTrigger (s : Chip) : Bool :=
  decide (3 ≤ s.pair.partner.missed) || s.pair.me.fellNow
    || s.pair.partner.head.any fun h => h.handover && decide ((h.handT + 1) % 2 ^ 16 = tickNo s % 2 ^ 16)

/-- Both lines high: member B gives up the role (R347, R362). -/
def forcedOff (s : Chip) : Chip :=
  if s.pair.me.forceIn && s.pair.me.forceOut && s.strap == .b && isActive s then
    let s := setFault (giveRole s .forced (allWith s.pair.me.handRef.toList .aborted)) 0x0C03
    s.modMe fun p => { p with hand := .idle, handRef := none, handOff := false, handHot := false }
  else s

/-- The takeover conditions hold apart from READY (R360). -/
def blockedStep (s : Chip) : Chip :=
  let open_ := isStandby s && !s.pair.shadow.ready && !s.pair.me.forceIn
  let s := if open_ && takeoverTrigger s then setFault s 0x0C04 else s
  let lost := open_ && decide (3 ≤ s.pair.partner.missed)
  s.modMe fun p => { p with blockedSince := if lost then some (p.blockedSince.getD s.now) else none }

/-- The pair's part of a tick boundary, before the mirror frame. -/
def pairTick (l : Latch) (s : Chip) : Chip :=
  if !isPaired s then s
  else
    let s := s.modMe fun p => { p with fellNow := p.fell, fell := false }
    let s := if l.dieLink && s.pair.me.resumeAt.isNone && isActive s then s.modMe fun p => { p with gapHold := false } else s
    if !yardAlive s || s.pair.me.listen.isSome then s
    else
      let s := forcedOff (refreshLost (judgeHeartbeat s))
      let s := if isStandby s then shadowChecks s l.lanes else s
      judgeReady (blockedStep s)

/-! ## Opcodes (R366) -/

def pairHealthData (s : Chip) : List Byte :=
  let p := s.pair.partner
  let h := s.pair.shadow
  let me := s.pair.me
  let a := le 4 (pairWord s) ++ le 2 (readyBlockers s) ++ le 2 ((p.head.map MirrorHead.epoch).getD 0)
    ++ le 4 p.missedTotal ++ le 4 me.failovers ++ le 4 me.handovers ++ le 2 s.pair.out.changes.length ++ le 2 p.slices
  let b := le 4 h.mismatches ++ le 4 h.divergences ++ le 8 h.selfHall ++ leI 4 s.energy.vBus
    ++ leI 4 ((p.head.map MirrorHead.vBus).getD 0) ++ leI 2 (ownRef s) ++ leI 2 ((p.head.map MirrorHead.ref).getD 0)
  a ++ (b ++ le 4 ((h.cond3.map fun t => min 0xFFFFFFFF ((s.now - t) / 1000)).getD 0) ++ le 8 me.switchHall)

def bodyPairHealth : Body := fun _ _ s => (.reply .ok (pairHealthData s), s)

def execPairHealth (rq : Request) (s : State) : Host.Outcome State Fault Refusal :=
  .next (s.on (serve 0x0A01 {} bodyPairHealth rq))

def bodyPairGet : Body := fun _ _ s =>
  let me := s.pair.me
  (.reply .ok (le 4 (pairWord s) ++ le 1 me.kind.code ++ le 1 me.before ++ zeros 2 ++ le 8 me.switchHall), s)

def execPairGet (rq : Request) (s : State) : Host.Outcome State Fault Refusal :=
  .next (s.on (serve 0x0A02 {} bodyPairGet rq))

def bodyPairHandover : Body := fun rq r s =>
  if !isPaired s || !partnerReady s || s.mode.stage == .powerDown then (.bare .denied, s)
  else if s.mode.mode == .bridge && arg rq 0 1 % 2 == 0 then (.bare .denied, s)
  else if inHandover s then (.bare .busyRetry, s)
  else
    let s := beginHandover s (some r) false false
    (.reply .accepted (le 4 (pairWord s)), s)

def execPairHandover (rq : Request) (s : State) : Host.Outcome State Fault Refusal :=
  .next (s.on (serve 0x0A03 { activeOnly := true, inPowerDown := true } bodyPairHandover rq))

end Sys2Proof.Machine
end

