-- ==== Sys2Proof/Machine/Sequence.lean ====
section
/-! DEFINITION. Sequences of the outputs: the ends and bounds of their stages, and the commits they begin and end with
(R38-R40, R51, R52); what the pins show of the drivers (R23, R24, R65, R109, R192, R346). -/

namespace Sys2Proof.Machine

/-! ## Pins -/

/-- The short-circuit latch of a member, or a removal not yet followed by an insertion, holds the channel's gate and
pre-charge pins low, also where every driver is at high impedance (R24, R65, R76, R346). -/
def pulledLow (s : Chip) (n : Nat) : Bool :=
  let k := leaderOf s n
  (s.ch k).cut || (members s k).any fun m => (s.ch m).brk.scLatch.isSome

/-- What a gate or pre-charge pin shows of what its driver is told. -/
def channelPin (s : Chip) (n : Nat) (d : Drive) : Drive :=
  if pulledLow s n then .off else if driversLive s then d else if isPaired s then .hiZ else .off

def gatePin (s : Chip) (n : Nat) : Drive := channelPin s n (s.ch n).main
def prePin (s : Chip) (n : Nat) : Drive := channelPin s n (s.ch n).pre

/-- What a lane pin shows: undriven, or one of its three levels. -/
inductive LanePin where
  | hiZ | mid | low | high
  deriving DecidableEq, Repr, Inhabited

/-- Level of a rail's lane at this boundary (R113): leg A high and then low, leg B low and then high, by the place in the
phase's period; at mid before its first period and while the rail does not switch. -/
def laneLevel (s : Chip) (k i : Nat) : LanePin :=
  let c := s.railCfg k
  let l := (s.rail k).lp
  let p := phaseOfLane c i
  match if l.switching then tget l.pwm.edges p.1 else none with
  | some e =>
    let at_ : Int := ((l.pwm.pos + pwmSteps c - phaseOffset c p.1) % pwmSteps c : Nat)
    let first := decide (at_ < if p.2 then e.b else e.a)
    if first == p.2 then .low else .high
  | none => .mid

/-- A lane has its rail's level; outside every rail it stays at mid level (R109, R123). -/
def lanePin (s : Chip) (lane : Nat) : LanePin :=
  if !driversLive s && isPaired s then .hiZ
  else
    match if driversLive s then railOfLane s lane else none with
    | some e => laneLevel s e.1 e.2
    | none => .mid

/-- LLAKn: undriven, and so low, while the member's drivers are at high impedance (R192, R346). -/
def llakPin (s : Chip) (n : Nat) : Bool := driversLive s && (s.link n).llak

/-! ## Commits -/

/-- A mode commits, with its record, event and completions (R38); a commit of RUN clears BRIDGE_EXHAUSTED (R46).  DESIGN
CHOICE: inside a sequence TARGET stays as the sequence has it, so a BRIDGE that a sag or a shortfall brings in a start
leaves TARGET at RUN until stage 3 ends; the spec gives TARGET there for the black start alone (R40, R43). -/
def commitMode (s : Chip) (m : Mode) (c : Cause) (done : List (ReqRef × Status)) : Chip :=
  let s := { s with mode := { s.mode with
    mode := m, cause := c, exhausted := s.mode.exhausted && m != .run, target := if s.mode.stage == .none then m else s.mode.target } }
  postMode (recordMode s) done

/-- A start sequence begins: MODE is RUN at its first boundary (R38, R39); requests of a sequence it abandons complete
ABORTED. -/
def beginStart (s : Chip) (c : Cause) (old : List ReqRef) : Chip :=
  let s := { s with mode := { s.mode with
    stage := .startSources, target := .run, timedOut := false, seqCause := c, freshReady := false } }
  enterStage (commitMode s .run c (allWith old .aborted)) .startSources

/-- A stop sequence begins: MODE is READY at its first boundary (R38, R39, R51); its READY commit ends it. -/
def beginStop (s : Chip) (c : Cause) (old : List ReqRef) : Chip :=
  let s := { s with mode := { s.mode with
    stage := .stopLoads, target := .ready, timedOut := false, seqCause := c, freshReady := false, dwellSince := none,
    stopFromRun := s.mode.mode == .run } }
  enterStage (commitMode s .ready c (allWith old .aborted)) .stopLoads

/-- The cause at the end of a sequence (R40). -/
def endCause (m : ModeState) : Cause :=
  if m.seqCause == .startTimeout then .startTimeout else if m.timedOut then .stopTimeout else m.seqCause

/-- A start sequence ends (R38, R40, R57): MODE stays, and CAUSE changes only after a timeout. -/
def endStart (s : Chip) : Chip :=
  let refs := s.mode.refs
  let s := { s with mode := { s.mode with
    stage := .none, target := s.mode.mode, refs := [],
    cause := if s.mode.timedOut then .stopTimeout else s.mode.cause } }
  postMode s (allWith refs .ok)

/-- A stop sequence ends with its READY commit (R38, R40, R57). -/
def endStop (s : Chip) : Chip :=
  let refs := s.mode.refs
  let c := endCause s.mode
  let s := clearIntents { s with mode := { s.mode with stage := .none, refs := [] } }
  commitMode s .ready c (allWith refs (if c == .startTimeout then .aborted else .ok))

/-- The stage that follows, or the sequence's end (R39). -/
def nextStage (s : Chip) : Chip :=
  match s.mode.stage with
  | .startSources => enterStage s .startStore
  | .startStore => enterStage s .startLoads
  | .startLoads => endStart s
  | .stopLoads => enterStage s .stopStore
  | .stopStore => enterStage s .stopSources
  | .stopSources => endStop s
  | _ => s

/-! ## Stage ends and bounds (R39, R40) -/

/-- The active member runs its sequences, outside a handover's freeze, and after a role change of the same boundary (R28,
R53, R361). -/
def sequences (s : Chip) : Bool := yardAlive s && isActive s && !handFrozen s && !rolesWait s

/-- The bus has been at or above V_BRIDGE + BRIDGE_EXIT_HYST for RUN_BUS_SETTLE (R39). -/
def busSettled (s : Chip) : Bool := s.mode.settleSince.any fun t => t + s.img.modes.runBusSettle * 1000 ≤ s.now

/-- The end condition of the present stage holds (R39). -/
def stageDone (s : Chip) : Bool :=
  let empty := (unfinishedCh s).isEmpty && (unfinishedRails s).isEmpty
  match s.mode.stage with
  | .startSources => empty && !sourcesLeft s && busSettled s
  | .startStore | .stopSources => empty
  | .startLoads | .stopLoads | .stopStore => empty && s.mode.stageRails
  | _ => false

def stageEnd (s : Chip) : Chip := if sequences s && stageDone s then nextStage s else s

def execStageEnd (s : State) : Host.Outcome State Fault Refusal := .next (s.on stageEnd)

def sourcesSpacing (s : Chip) : Chip :=
  if sequences s && sourcesLeft s && decide (s.mode.srcDue ≤ s.now) then startNextSource s else s

def execStartSourcesSpacing (s : State) : Host.Outcome State Fault Refusal := .next (s.on sourcesSpacing)

/-- The bound of the present stage in ticks. -/
def stageBound (s : Chip) : Nat :=
  (if isStartStage s.mode.stage then s.img.modes.startTimeout else s.img.modes.stopTimeout) * 1000

/-- A channel is disabled by its stage's bound (R40): as DISABLE turns it off, with cause MODE; DISABLED stays as the host
left it, as R122 states of LOCKOUT. -/
def stageDisableCh (s : Chip) (n : Nat) : Chip := chActMode s n (if (s.ch n).state == .on then .soft else .strong)

def stageDisableRail (s : Chip) (k : Nat) : Chip :=
  railKill ((railStops s k).modRail k fun r => { r with intentOn := false }) k .mode

/-- Every unfinished object of the stage is disabled (R40): gates and pre-charge off, lanes at mid level. -/
def disableUnfinished (s : Chip) : Chip :=
  let chs := unfinishedCh s
  let rails := unfinishedRails s
  let s := rails.foldl stageDisableRail s
  chs.foldl stageDisableCh s

/-- Black start (R40): BRIDGE commits, and stage 2 begins at once. -/
def blackStart (s : Chip) : Chip :=
  let s := { s with mode := { s.mode with stage := .startStore, target := .bridge } }
  enterStage (commitMode s .bridge .blackStart []) .startStore

/-- A stage reaches its bound (R40). -/
def stageTimeout (s : Chip) : Chip :=
  let st := s.mode.stage
  if sequences s && (isStartStage st || isStopStage st) && decide (s.mode.stageStart + stageBound s ≤ s.now) && !stageDone s then
    match st with
    | .startSources => if s.img.modes.blackStart then blackStart s else beginStop s .startTimeout []
    | _ =>
      let s := disableUnfinished s
      nextStage { s with mode := { s.mode with timedOut := true } }
  else s

def execStageTimeout (s : State) : Host.Outcome State Fault Refusal := .next (s.on stageTimeout)

end Sys2Proof.Machine
end

