-- ==== Sys2Proof/Machine/Modes.lean ====
section
/-! DEFINITION. The modes: commits of a change, LOCKOUT, the bridge and the return from it, SERVICE, and the mode
opcodes (R37, R38, R41-R57, R150, R158). -/

namespace Sys2Proof.Machine

/-! ## SERVICE (R47) -/

/-- Channels and rail of the selected object: a BUS-class rail takes its feed channel with it. -/
def svcChannel (s : Chip) : Option Nat :=
  if s.mode.svcKind == 1 then some s.mode.svcIndex
  else if s.mode.svcKind == 2 then
    ((slotOfRail s s.mode.svcIndex).bind (batBind s)).map BatCfg.channel
  else none

def svcRail (s : Chip) : Option Nat := if s.mode.svcKind == 2 then some s.mode.svcIndex else none

/-- A channel that is off, or stopped under its own protection. -/
def chStopped (s : Chip) (n : Nat) : Bool :=
  match (s.ch n).state with
  | .off | .tripped | .locked => true
  | _ => false

def railStopped (s : Chip) (k : Nat) : Bool :=
  match (s.rail k).state with
  | .off | .latched | .otStop => true
  | _ => false

/-- The selected object is off. -/
def svcOff (s : Chip) : Bool := (svcChannel s).all (chStopped s) && (svcRail s).all (railStopped s)

/-- The selected object is turned off: its rail ramps down, and a channel, or the feed of a rail that has stopped, turns
off with the soft pull-down, with cause MODE. -/
def svcTurnOff (s : Chip) : Chip :=
  let s := match svcRail s with
    | some k => if railStopped s k then s else railActOff s k true
    | none => s
  match svcChannel s with
  | some n => if (svcRail s).all (railStopped s) then chActMode s n .soft else s
  | none => s

/-- SERVICE is being left (R47): the object turns off, and READY is due at the first boundary at which it is off. -/
def svcStep (s : Chip) : Chip :=
  match s.mode.svcStop with
  | some (_, c) =>
    if isActive s && !handFrozen s then
      let s := svcTurnOff s
      if svcOff s then
        { s with mode := { s.mode with
          svcStop := none, pend := some { mode := .ready, cause := c, since := s.now - 1, asked := s.mode.refs } } }
      else s
    else s
  | none => s

/-- The object is not off in STOP_STAGE_TIMEOUT (R47). -/
def serviceStopTimeout (s : Chip) : Chip :=
  match s.mode.svcStop with
  | some (t, _) =>
    if isActive s && !handFrozen s && !svcOff s && decide (t + s.img.modes.stopTimeout * 1000 ≤ s.now) then
      let ch := svcChannel s
      let s := ((svcRail s).map (stageDisableRail s)).getD s
      svcStep ((ch.map (stageDisableCh s)).getD s)
    else s
  | none => s

def execServiceStopTimeout (s : State) : Host.Outcome State Fault Refusal := .next (s.on serviceStopTimeout)

/-! ## Commits (R38) -/

/-- A pending change commits (R37, R38). -/
def commitPend (s : Chip) (p : PendMode) : Chip :=
  let old := s.mode.refs
  let lock := if s.mode.mode == .lockout && !critical s then none else s.mode.lockout
  let s := { s with mode := { s.mode with pend := none, refs := p.refs, lockout := lock } }
  match p.mode with
  | .run => beginStart s p.cause (old ++ p.lost)
  | .ready =>
    if running s then beginStop s p.cause (old ++ p.lost)
    else
      let s := if s.mode.mode == .service then svcTurnOff s else s
      let s := clearIntents { s with mode := { s.mode with svcKind := 0, svcIndex := 0, freshReady := false } }
      commitMode s .ready p.cause (allWith old .ok ++ allWith p.lost .aborted)
  | .hold =>
    let s := clearIntents { s with mode := { s.mode with hostHold := true, freshReady := false } }
    commitMode s .hold p.cause (allWith (old ++ p.lost) .aborted)
  | .service =>
    commitMode { s with mode := { s.mode with svcKind := 0, svcIndex := 0, freshReady := false } } .service p.cause
      (allWith p.lost .aborted)
  | .bridge =>
    commitMode { s with mode := { s.mode with refs := old, dwellSince := none } } .bridge p.cause []
  | _ => s

/-- A mode change commits at a boundary after the tick in which it was asked for (R27, R38); the channel and rail commands
that waited for it apply at that boundary after it (R28, `atBoundary`), and so does it after a role change. -/
def modeCommit (s : Chip) : Chip :=
  match s.mode.pend with
  | some p => if yardAlive s && isActive s && !rolesWait s && !handFrozen s && decide (p.since < s.now) then commitPend s p else s
  | none => s

/-! ## LOCKOUT (R48) -/

/-- Every output turns off: gates and pre-charge drivers with the strong pull-down, rails with lanes at mid level, and
grants are withdrawn for the reason `why`; one decided but not yet applied is refused (R48, R63, R197, R198). -/
def dropShelf (why : Refuse) (s : Chip) : Chip :=
  let s := forEach 8 (fun n s =>
    if (s.burst n).running then endGrant s n .withdrawn why
    else if (s.burst n).decided.any grants then refuseBurst s n why else s) s
  let s := forEach 16 (fun k s => railKill (railStops s k) k .mode) s
  forEach 32 (fun n s => if followsLeader s n then s else chActMode s n .strong) s

/-- LOCKOUT commits, with sequences and service stops abandoned (R48, R57). -/
def commitLockout (s : Chip) (c : Cause) : Chip :=
  let refs := openModeRefs s.mode
  let s := dropShelf .lockout s
  let s := clearIntents { s with mode := { s.mode with
    stage := .none, pend := none, lockout := none, refs := [], svcStop := none, svcKind := 0, svcIndex := 0,
    dwellSince := none, shortSince := none, timedOut := false, freshReady := false } }
  commitMode s .lockout c (allWith refs .aborted)

/-- The modes that a severity-3 bit leaves for LOCKOUT (R48). -/
def mayLock (s : Chip) : Bool :=
  match s.mode.mode with
  | .hold | .ready | .run | .bridge | .service => s.mode.stage != .powerDown
  | _ => false

/-- LOCKOUT commits at the first boundary after the bit sets (R48, R52); a member that has just taken the role, at the
boundary at which its drivers resume (R359). -/
def lockoutCommit (s : Chip) : Chip :=
  match s.mode.lockout with
  | some c =>
    if mayLock s && s.pair.me.resumeAt.isNone && decide (s.mode.lockoutAt < s.now) then commitLockout s c else s
  | none => s

/-! ## HOLD (R37, R50) -/

/-- The automatic transition from HOLD; its cause is that of the image it waits for. -/
def holdAutoReady (s : Chip) : Chip :=
  if s.mode.mode == .hold && isActive s && !s.mode.hostHold && s.imgValid && !s.fw.recovery && !critical s && s.mode.stage == .none
      && s.mode.pend.isNone && s.mode.lockout.isNone && !handFrozen s then
    commitMode (clearIntents s) .ready .config []
  else s

/-! ## BRIDGE (R43-R46, R150-R159) -/

/-- The battery rail watches for the bridge event: ARMED, or under the return to RUN (R44, R150, R159). -/
def watchesBus (s : Chip) (k : Nat) : Bool :=
  (s.railCfg k).bus && !railFloor s k && (match (s.rail k).state with
    | .armed => true
    | .bridging => s.mode.mode == .bridge
    | _ => false)

/-- A conversion, as its window code of 0.5 mV about the rail's tracking DAC, is at or below V_BRIDGE; code −256 is the
window saturated low, which counts where DAC − 128 mV is (R110, R150). -/
def atBridge (s : Chip) (k : Nat) (code : Int) : Bool :=
  decide (((s.rail k).lp.dac * 1000 + code * 500) * 65536 ≤ (s.img.energy.vBridge * 1000 * (s.railCfg k).senseDiv : Nat))

/-- The last BRIDGE_CONFIRM conversions confirm the crossing (R150). -/
def confirmed (s : Chip) (k : Nat) (convs : List Int) : Bool :=
  let n := s.img.energy.bridgeConfirm
  decide (n ≤ convs.length) && (convs.reverse.take n).all (atBridge s k)

/-- The mode lets the event fire: RUN, or a dwell or the handover in BRIDGE (R150). -/
def bridgeWatched (s : Chip) : Bool :=
  s.mode.mode == .run || (s.mode.mode == .bridge && (s.mode.dwellSince.isSome || s.mode.stage == .handover))

/-- Every ARMED rail and every rail under the handover ramp takes its preset, and one in RAMP_UP waits for the next tick
boundary; a rail with FLOOR set takes no part (R153, R159, R222). -/
def bridgeAllNow (s : Chip) : Chip :=
  forEach 16 (fun k s =>
    let r := s.rail k
    if !(s.railCfg k).bus || railFloor s k then s
    else if r.state == .armed || (r.state == .bridging && r.hand.isSome) then enterBridging s k r.lp.uB
    else s.modRail k fun r => { r with takeNext := r.state == .rampUp }) s

/-- The bridge event (R150, R153), which ends a dwell or handover (R44, R159) and brings BRIDGE at the next boundary
from RUN (R43). -/
def bridgeEvent (k : Nat) (convs : List Int) (s : Chip) : Chip :=
  if yardAlive s && bridgeWatched s && watchesBus s k && confirmed s k convs then
    let s := bridgeAllNow { s with energy := { s.energy with vBref := s.img.energy.vBridgeReg, raise := false } }
    let s := { s with mode := { s.mode with dwellSince := none } }
    if s.mode.stage == .handover then
      if isActive s then
        let s := { s with book := { s.book with queue := s.book.queue.filter fun e => e != EnergySet.handover } }
        postMode { s with mode := { s.mode with stage := .none, target := s.mode.mode } } []
      else s
    else if s.mode.mode == .run && isActive s && s.mode.pend.isNone then
      { s with mode := { s.mode with pend := some { mode := .bridge, cause := .busSag, since := s.now } } }
    else s
  else s

def execBridgeEvent (r : Fin 16) (convs : List Int) (s : State) : Host.Outcome State Fault Refusal :=
  .next (s.on (bridgeEvent r convs))

/-- Demand has exceeded P_AV for SHORTFALL_TIME (R43, R156). -/
def shortfall (s : Chip) : Chip :=
  let due := s.mode.shortSince.any fun t => t + s.img.modes.shortfallTime * 1000 ≤ s.now
  if sequences s && s.mode.mode == .run && s.mode.pend.isNone && due && !s.energy.rectBlind
      && (railsOf s true).any (fun k => (s.rail k).state == .armed && !railFloor s k) then
    let s := queueEnergy s .bridgeAll
    { s with mode := { s.mode with shortSince := none, pend := some { mode := .bridge, cause := .shortfall, since := s.now } } }
  else s

def execShortfall (s : State) : Host.Outcome State Fault Refusal := .next (s.on shortfall)

/-- The dwell of R43 in ticks, four times as long without rectifier readings (R45). -/
def dwellTicks (s : Chip) : Nat := s.img.modes.exitDwell * 1000 * (if s.energy.rectBlind then 4 else 1)

/-- The dwell is met: the handover begins, and the available rectifiers take their RUN setpoints (R43, R158). -/
def bridgeDwellMet (s : Chip) : Chip :=
  if sequences s && s.mode.mode == .bridge && s.mode.stage == .none && s.mode.pend.isNone
      && (s.mode.dwellSince.any fun t => t + dwellTicks s ≤ s.now) then
    let s := { s with mode := { s.mode with stage := .handover, target := .run, stageStart := s.now, dwellSince := none } }
    standoffRectifiers (queueEnergy s .handover)
  else s

def execBridgeDwellMet (s : State) : Host.Outcome State Fault Refusal := .next (s.on bridgeDwellMet)

/-- The rail has come to the end of its bridge current, at an earlier boundary (R43). -/
def handed (s : Chip) (k : Nat) : Bool :=
  let r := s.rail k
  r.state != .bridging && !(r.state == .armed && r.lastChange == s.hall)

/-- RUN commits at the boundary after the last rail reaches zero (R43, R46, R158). -/
def handoverComplete (s : Chip) : Chip :=
  if sequences s && s.mode.mode == .bridge && s.mode.stage == .handover && s.mode.pend.isNone && s.book.queue.isEmpty
      && (railsOf s true).all (handed s) then
    let s := { s with mode := { s.mode with stage := .none } }
    let s := { s with energy := { s.energy with vBref := s.img.energy.vBridgeReg, raise := false } }
    commitMode s .run .acReturn []
  else s

/-- A battery rail regulates no more, and comes to regulate no more: stopped, ramping down or at its floor (R46, R153,
R222). -/
def cannotBridge (s : Chip) (k : Nat) : Bool :=
  !railLive (s.rail k) || (s.rail k).state == .rampDown || (railFloor s k && (s.rail k).state != .bridging)

/-- A start stage that arms the battery rails has not ended: a rail not started yet has not stopped (R40, R46). -/
def storeComes (s : Chip) : Bool := s.mode.stage == .startSources || s.mode.stage == .startStore

/-- BRIDGE_EXHAUSTED (R46): it sets in BRIDGE once no battery rail regulates or comes to regulate, and clears as soon as one
can regulate again, or at a commit of RUN. -/
def exhaustStep (s : Chip) : Chip :=
  if isActive s then
    let ex := (railsOf s true).all (cannotBridge s)
      && (s.mode.exhausted || (s.mode.mode == .bridge && !storeComes s))
    { s with mode := { s.mode with exhausted := ex } }
  else s

/-! ## Opcodes (R57) -/

def modeGetData (s : Chip) : List Byte :=
  let svc := s.mode.mode == .service
  modeGetHead s ++ le 2 s.mode.epoch ++ le 1 (if svc then s.mode.svcKind else 0) ++ le 1 (if svc then s.mode.svcIndex else 0)

def bodyModeGet : Body := fun _ _ s => (.reply .ok (modeGetData s), s)

def execModeGet (rq : Request) (s : State) : Host.Outcome State Fault Refusal :=
  .next (s.on (serve 0x0101 { lenLo := 0, lenHi := 0, inPowerDown := true, inRecovery := true } bodyModeGet rq))

/-- The targets a request may name (R57). -/
def modeTarget (n : Nat) : Option Mode :=
  match Mode.ofCode n with
  | some .wake | some .bridge | some .lockout => none
  | m => m

/-- A change asked for by `asked` waits for its boundary, with `refs` to be completed by the end of its sequence.  DESIGN
CHOICE for two changes of one tick: a request for the change that waits already joins it; another change replaces it, and
the requests accepted for the one replaced complete ABORTED, as ended by a later request (R293). -/
def pendTo (s : Chip) (m : Mode) (c : Cause) (asked refs : List ReqRef) : Chip :=
  let p : PendMode := match s.mode.pend with
    | some p =>
      if p.mode == m then { p with asked := p.asked ++ asked, refs := p.refs ++ refs }
      else { mode := m, cause := c, since := s.now, asked := p.asked ++ asked, refs := refs, lost := p.lost ++ p.refs }
    | none => { mode := m, cause := c, since := s.now, asked := asked, refs := refs }
  { s with mode := { s.mode with pend := some p } }

/-- A reply with the mode state word. -/
def Ans.mode (st : Status) (s : Chip) : Ans := .reply st (modeData s)

/-- MODE_REQUEST OFF outside a sequence (R37, R41, R55). -/
def requestOff (s : Chip) : Ans × Chip :=
  if isStandby s then
    let s := startPowerDown s
    (.mode .accepted s, s)
  else if isPaired s && partnerReady s then
    (.mode .accepted s, beginHandover s none true false)
  else
    match s.mode.mode with
    | .hold | .ready | .lockout =>
      let s := startPowerDown s
      (.mode .accepted s, s)
    | _ => (.notInMode s, s)

/-- MODE_REQUEST during a sequence, handover or power-down (R51). -/
def requestDuring (r : ReqRef) (m : Mode) (s : Chip) : Ans × Chip :=
  if m == s.mode.target then (.mode .ok s, s)
  else if m == .ready && (inStart s || s.mode.stage == .handover) then
    (.mode .accepted s, pendTo s .ready .hostRequest [r] [r])
  else if m == .run && inStop s && s.mode.stopFromRun then (.mode .accepted s, pendTo s .run .hostRequest [r] [r])
  else (.bare .busyRetry, s)

/-- MODE_REQUEST READY (R37, R47, R49, R50). -/
def requestReady (r : ReqRef) (s : Chip) : Ans × Chip :=
  match s.mode.mode with
  | .hold =>
    let s := { s with mode := { s.mode with hostHold := false } }
    let s := if s.imgValid && !critical s then pendTo s .ready .hostRequest [r] [] else s
    (.mode .ok s, s)
  | .run | .bridge => (.mode .accepted s, pendTo s .ready .hostRequest [r] [r])
  | .service =>
    if s.mode.svcStop.isSome then
      if svcOff s then (.mode .ok s, s)
      else (.mode .accepted s, { s with mode := { s.mode with refs := s.mode.refs ++ [r] } })
    else if svcOff s then (.mode .ok s, pendTo s .ready .hostRequest [r] [])
    else
      let s := { s with mode := { s.mode with svcStop := some (s.now, .hostRequest), refs := [r], target := .ready } }
      (.mode .accepted s, s)
  | .lockout => if critical s then (.bare .denied, s) else (.mode .ok s, pendTo s .ready .hostRequest [r] [])
  | _ => (.notInMode s, s)

/-- MODE_REQUEST (R37, R50, R51, R55, R57).  DESIGN CHOICE: during a power-down R51's own words for MODE_REQUEST are
followed, OK for OFF and BUSY_RETRY for another target, before the general NOT_IN_MODE of R41 and of check 9 of R291. -/
def bodyModeRequest : Body := fun rq r s =>
  match modeTarget (arg rq 0 1) with
  | none => if isStandby s then (.reply .standby (standbyData s), s) else (.bare .badParam, s)
  | some m =>
    if isStandby s then
      if m == .off then (if s.mode.stage == .powerDown then (.mode .ok s, s) else requestOff s)
      else (.reply .standby (standbyData s), s)
    else if s.mode.stage != .none then requestDuring r m s
    else if m == s.mode.mode then
      let s := if m == .hold then { s with mode := { s.mode with hostHold := true } } else s
      (.mode .ok s, s)
    else
      match m with
      | .off => requestOff s
      | .ready => requestReady r s
      | .run =>
        if s.mode.mode == .ready then (.mode .accepted s, pendTo s .run .hostRequest [r] [r]) else (.notInMode s, s)
      | .service =>
        if s.mode.mode == .ready then (.mode .ok s, pendTo s .service .hostRequest [r] []) else (.notInMode s, s)
      | .hold =>
        if s.mode.mode == .ready then (.mode .ok s, pendTo s .hold .hostRequest [r] []) else (.notInMode s, s)
      | _ => (.notInMode s, s)

def execModeRequest (rq : Request) (s : State) : Host.Outcome State Fault Refusal :=
  .next (s.on (serve 0x0102 { inPowerDown := true } bodyModeRequest rq))

/-- The checks of SERVICE_SELECT's object (R20, R22, R57, R291).  DESIGN CHOICE: the role generation of a rail's request is
ignored; the spec names nothing to hold it against. -/
def selectChecks (rq : Request) (s : Chip) : Option Ans :=
  let kind := arg rq 0 1
  let n := arg rq 1 1
  let g := arg rq 2 2
  if kind == 0 then none
  else if 2 < kind then some (.bare .badParam)
  else if kind == 1 then
    if 31 < n then some (.bare .outOfRange)
    else if followsLeader s n then some (.bare .badParam)
    else if g != 0xFFFF && g != (s.chCfg n).gen then some (.reply .roleChanged (genData s n))
    else none
  else if 15 < n then some (.bare .outOfRange)
  else none

/-- SERVICE_SELECT (R47, R57). -/
def bodyServiceSelect : Body := fun rq _ s =>
  if s.mode.mode != .service then (.notInMode s, s)
  else
    match selectChecks rq s with
    | some a => (a, s)
    | none =>
      if s.mode.svcStop.isSome || !svcOff s then (.bare .denied, s)
      else
        let s := { s with mode := { s.mode with
          svcKind := arg rq 0 1, svcIndex := if arg rq 0 1 == 0 then 0 else arg rq 1 1 } }
        (.mode .ok s, s)

def execServiceSelect (rq : Request) (s : State) : Host.Outcome State Fault Refusal :=
  .next (s.on (serve 0x0103 { activeOnly := true } bodyServiceSelect rq))

end Sys2Proof.Machine
end

