-- ==== Sys2Proof/Machine/Roles.lean ====
section
/-! DEFINITION. Taking a role: at the end of a wake, by take-over, and when a blocked standby takes it (R348, R355-R360),
and the mode that a wake commits (R37, R40, R487). -/

namespace Sys2Proof.Machine

/-! ## The commit at the end of W7 -/

/-- CAUSE of the commit that ends a wake (R487). -/
def wakeCause (s : Chip) : Cause :=
  match s.ostler.offCause with
  | .supplyLoss => .supplyLoss
  | .resetPin => .resetPin
  | _ => .powerOn

/-- The mode that W7 commits (R37, R437). -/
def wakeTarget (s : Chip) : Mode :=
  if !s.imgValid || s.fw.recovery then .hold else if critical s then .lockout else .ready

/-- START_MODE acts on the READY that follows a wake, at the member that holds the active role (R40). -/
def startAfterWake (s : Chip) : Chip :=
  if s.mode.freshReady && s.mode.mode == .ready && isActive s && s.img.modes.startRun && s.mode.pend.isNone then
    pendTo { s with mode := { s.mode with freshReady := false } } .run .startMode [] []
  else s

/-- Admission at the end of a wake (R207): each configured slot whose feed reads PRESENT. -/
def wakeAdmissions (s : Chip) : Chip :=
  forEach 12 (fun j s => if (s.bat j).admState == .empty && feedPresent s j then startAdmission s j else s) s

/-- The mode commits at the end of W7; the event completes a wake request that the responder took (R484, R487). A strap
conflict found meanwhile still locks the member out (R33). -/
def wakeCommit (s : Chip) : Chip :=
  let m := wakeTarget s
  let tag := s.ostler.wakeTag
  let s := { s with ostler := { s.ostler with wakeTag := none } }
  let s := { s with mode := { s.mode with
    stage := .none, pend := none, hostHold := false, freshReady := m == .ready,
    lockout := if s.mode.lockout == some .strapConflict && m != .lockout then s.mode.lockout else none } }
  let s := commitMode s m (wakeCause s) (tag.toList.map fun t => ({ port := .tw, tag := t, receipt := s.receipts }, Status.ok))
  startAfterWake (wakeAdmissions s)

/-! ## Role at start (R348) -/

/-- The larger of the retained epoch and that of the last frame received; the one after it is taken (R348). -/
def lastEpoch (s : Chip) : Nat := max s.pair.me.retEpoch s.pair.me.heardEpoch

/-- The member takes the active role at start. -/
def startRole (s : Chip) : Chip :=
  let s := setEpoch s (lastEpoch s)
  let s := { s with mode := { s.mode with role := .active } }
  let s := switched s .start 0xFF
  let s := s.modMe fun p => { p with forceOut := !p.forceIn, gapHold := false, resumeAt := none, listen := none }
  let s := s.modOut fun _ => { seq := s.ledger.nextSeq, nextSeq := s.ledger.nextSeq, hash := s.ledger.prev }
  let s := orphanStill (becomesMaster (roleRecord (postPair s 1 SwitchKind.start.code)))
  let s := if critical s && s.mode.mode != .hold && s.mode.mode != .lockout then
      { s with mode := { s.mode with lockout := some (s.mode.lockout.getD .criticalFault), lockoutAt := s.now } }
    else s
  startAfterWake s

/-- The member becomes standby at start. -/
def startStandby (s : Chip) : Chip :=
  let s := followEpoch { s with mode := { s.mode with role := .standby } } s.pair.me.heardEpoch
  let s := s.modMe fun p => { p with listen := none, forceOut := false }
  s.modShadow fun h => { h with ready := false, cond3 := none, dwelt := false }

/-- The listening on NP0 ends (R348): 10 ms, and for member B without a frame 10 ms more. -/
def roleTakeAtStart (s : Chip) : Chip :=
  match s.pair.me.listen with
  | some t =>
    if !yardAlive s then s
    else if s.pair.me.heard then (if t + 10000 ≤ s.now then startStandby s else s)
    else if t + (if s.strap == .b then 20000 else 10000) ≤ s.now then
      if s.pair.me.forceIn then startStandby s else wakeAdmissions (startRole s)
    else s
  | none => s

def execRoleTakeAtStart (s : State) : Host.Outcome State Fault Refusal := .next (s.on roleTakeAtStart)

/-! ## Take-over (R355, R356) -/

/-- The kind of the switch-over that the triggers of R355 bring. -/
def takeoverKind (s : Chip) : SwitchKind :=
  if s.pair.partner.head.any fun h => h.handover && decide ((h.handT + 1) % 2 ^ 16 = tickNo s % 2 ^ 16) then .handover
  else if s.pair.me.fellNow then .forceFall
  else .heartbeat

/-- A READY standby is to take the active role at this boundary (R355). -/
def takeoverDue (s : Chip) : Bool :=
  yardAlive s && isPaired s && isStandby s && s.pair.shadow.ready && !s.pair.me.forceIn && takeoverTrigger s
    && s.mode.stage != .powerDown

/-- A READY standby takes the active role (R355, R356). -/
def takeover (s : Chip) : Chip :=
  if takeoverDue s then
    let kind := takeoverKind s
    let e := (s.pair.partner.head.map MirrorHead.epoch).getD s.mode.epoch
    takeRole s e kind (kind == .handover)
  else s

def execTakeover (s : State) : Host.Outcome State Fault Refusal := .next (s.on takeover)

/-- A ledger period closes (R252), after the TAKEOVER snapshots of its boundary (R534). -/
def ledgerPeriodClose (s : Chip) : Chip :=
  if periodDue s && !stillDue s && !takeoverDue s then ledgerBoundary s else s

def execLedgerPeriodClose (s : State) : Host.Outcome State Fault Refusal := .next (s.on ledgerPeriodClose)

/-- Trips that waited in the gap act with the strong pull-down (R356, R358). -/
def heldTrips (s : Chip) : Chip := forEach 32 (fun n s => heldTrip s n) s

/-- Rails resume switching from the shadow state, with u preset under R118 (R138). -/
def resumeRails (s : Chip) : Chip :=
  forEach 16 (fun k s =>
    let r := s.rail k
    if r.lp.switching then s.modRail k fun r => { r with lp := r.lp.presetTo (voltageRef s k) (startPreset r) }
    else s) s

/-- LLAKn of a transition in progress is driven again (R200). -/
def resumeLinks (s : Chip) : Chip :=
  forEach 8 (fun n s => if (s.linkCfg? n).isSome then s.modLink n fun l => { l with llak := l.setv.isSome || (s.burst n).grant == .pending }
    else s) s

/-- The drivers of the new active resume (R356), and a severity-3 bit set before or in the gap locks the shelf out at this
boundary before any output is driven on (R359, R415). -/
def driverResume (s : Chip) : Chip :=
  match s.pair.me.resumeAt with
  | some t =>
    if isActive s && decide (t ≤ s.now) then
      let s := s.modMe fun p => { p with resumeAt := none, gapHold := false }
      let s := resumeLinks (resumeRails (heldTrips s))
      if critical s && mayLock s then commitLockout s (s.mode.lockout.getD .criticalFault) else s
    else s
  | none => s

def execDriverResume (s : State) : Host.Outcome State Fault Refusal := .next (s.on driverResume)

/-- FORCE_IN has read low for 1 s with the heartbeats missing: the role is taken, the mirrored mode is discarded, and
READY commits with every output off (R360). -/
def failoverBlocked (s : Chip) : Chip :=
  if yardAlive s && isStandby s && !s.pair.shadow.ready && !s.pair.me.forceIn && (s.pair.me.blockedSince.any fun t => t + 1000000 ≤ s.now)
      && s.mode.stage != .powerDown then
    let s := takeRole s ((s.pair.partner.head.map MirrorHead.epoch).getD s.mode.epoch) .blocked false
    let s := dropShelf .feedOpen s
    let s := clearIntents { s with mode := { s.mode with
      stage := .none, pend := none, svcKind := 0, svcIndex := 0, svcStop := none, freshReady := false } }
    commitMode s .ready .criticalFault []
  else s

def execFailoverBlockedTakeover (s : State) : Host.Outcome State Fault Refusal := .next (s.on failoverBlocked)

end Sys2Proof.Machine
end

