-- ==== Sys2Proof/Machine/Restart.lean ====
section
/-! DEFINITION. The stop of the Yard with which every restart of it begins (R313, R331, R438, R439, R441, R468). -/

namespace Sys2Proof.Machine

/-! ## Firmware words and events (R454, R455) -/

def FwStage.code : FwStage → Nat
  | .none => 0 | .opened => 1 | .verifying => 2 | .verified => 3

/-- The firmware state word (R454). -/
def fwWord (s : Chip) : Nat :=
  let f := s.fw
  s.otp.rollback % 128 + bitN 18 f.patchRuns + f.patchSlot % 2 * 2 ^ 19 + f.run % 2 * 2 ^ 20 + f.stageTarget % 2 * 2 ^ 21
    + f.stage.code * 2 ^ 22 + bitN 24 f.recovery + bitN 25 f.fallback + bitN 26 f.trial + bitN 27 s.otp.customerKey

def fwBody (s : Chip) (kind target result : Nat) : List Byte :=
  le 1 kind ++ le 1 target ++ le 1 result ++ zeros 1 ++ le 4 (fwWord s) ++ le 8 s.hall

def postFw (s : Chip) (kind target result : Nat) (done : List (ReqRef × Status)) : Chip :=
  post s 0x0A (fwBody s kind target result) done

def Chip.modFw (s : Chip) (f : Fw → Fw) : Chip := { s with fw := f s.fw }

/-- Slots of a target: 0 Yard, 1 patch. -/
def fwSlots (f : Fw) (target : Nat) : List FwSlot := if target = 0 then f.yard else f.patch

def fwSlot (s : Chip) (target slot : Nat) : FwSlot := tget (fwSlots s.fw target) slot

def setFwSlot (s : Chip) (target slot : Nat) (g : FwSlot → FwSlot) : Chip :=
  s.modFw fun f =>
    if target = 0 then { f with yard := tset f.yard slot (g (tget f.yard slot)) }
    else { f with patch := tset f.patch slot (g (tget f.patch slot)) }

/-- The slot of a target that is running (R454). -/
def runningSlot (f : Fw) (target : Nat) : Nat := if target = 0 then f.run else f.patchSlot

/-- The recorder's FIRMWARE record (R445). -/
def fwRecord (s : Chip) (target result version : Nat) : Chip :=
  recPost s 0x0D 0 0 (le 1 target ++ le 1 result ++ zeros 2 ++ le 4 version)

/-- A restart while TRIAL is set starts the fallback slot (R441). -/
def trialFallback (s : Chip) : Chip :=
  if s.fw.trial then
    let t := s.fw.trialTarget
    let slot := 1 - runningSlot s.fw t
    let s := s.modFw fun f =>
      { f with trial := false, fallback := true, run := if t = 0 then slot else f.run,
               patchSlot := if t = 0 then f.patchSlot else slot, told := some (6, t) }
    let e := fwSlot s t slot
    fwRecord (setFault s 0x1303) t e.result e.version
  else s

/-- Staging that is open is discarded: its slot reads INVALID (R438). -/
def discardFwStage (s : Chip) : Chip :=
  match s.fw.stage with
  | .opened | .verifying =>
    let t := s.fw.stageTarget
    let s := setFwSlot s t (1 - runningSlot s.fw t) fun e => { e with valid := .invalid }
    s.modFw fun f => { f with stage := .none, staged := [], stageLen := 0, endRef := none }
  | _ => s.modFw fun f => { f with stage := .none, staged := [], stageLen := 0, endRef := none }

/-! ## Configuration words and events (R478, R479) -/

def CfgStage.code : CfgStage → Nat
  | .none => 0 | .opened => 1 | .verifying => 2 | .verified => 3

def Chip.modCfg (s : Chip) (f : Cfg → Cfg) : Chip := { s with cfg := f s.cfg }

/-- The configuration state word but for OTHER_VALID, which needs the checks of the other slot (R478). -/
def cfgWordWith (other : Bool) (s : Chip) : Nat :=
  let c := s.cfg
  bitN 15 s.otp.signRequired + bitN 16 other + c.slot % 2 * 2 ^ 17 + bitN 18 (s.imgValid && s.img.signed) + bitN 19 s.imgValid
    + bitN 20 (c.copying.isSome || c.apply.isSome) + portCode c.stagePort * 2 ^ 21 + c.stage.code * 2 ^ 22 + c.lastCheck % 256 * 2 ^ 24

/-- MRAM address of a slot, and of the staging area (R432). -/
def slotBase (slot : Nat) : Nat := if slot = 0 then 0x01A00000 else 0x01A50000
def stageBase : Nat := 0x01AA0000

def slotBytes (s : Chip) (slot : Nat) : List Byte := if slot = 0 then s.cfg.slotA else s.cfg.slotB

def putSlot (slot : Nat) (raw : List Byte) (s : Chip) : Chip :=
  s.modCfg fun c => if slot = 0 then { c with slotA := raw } else { c with slotB := raw }

def otherSlot (s : Chip) : Nat := 1 - s.cfg.slot

/-- The checks of R473 on the slot not committed. -/
def otherCheck (s : Chip) : Except CfgCheck (List CfgRec) :=
  checkSlot s (slotBase (otherSlot s)) (slotBytes s (otherSlot s))

def passes {α : Type} : Except CfgCheck α → Bool
  | .ok _ => true
  | .error _ => false

def failing {α : Type} : Except CfgCheck α → CfgCheck
  | .ok _ => {}
  | .error c => c

/-- OTHER_VALID; it is clear from the start of a copy until the flip (R469, R478). -/
def otherValid (s : Chip) : Bool := !(s.cfg.copying.any fun c => c.src == 1) && passes (otherCheck s)

/-- The configuration state word (R478). -/
def cfgWord (s : Chip) : Nat := cfgWordWith (otherValid s) s

/-- Posts a configuration event (R479). -/
def postCfg (s : Chip) (kind code : Nat) (done : List (ReqRef × Status)) : Chip :=
  post s 0x08 (le 1 kind ++ le 1 code ++ zeros 2 ++ le 4 (cfgWord s) ++ le 8 s.hall) done

def closeStage (s : Chip) : Chip :=
  s.modCfg fun c => { c with stage := .none, staged := [], stageLen := 0, endRef := none }

/-! ## The stop (R313) -/

/-- A configuration stage that does not survive (R468). -/
def discardCfgStage (s : Chip) : Chip :=
  let ref := s.cfg.endRef.toList
  if s.cfg.stage == .none then s else setFault (postCfg (closeStage s) 4 0 (allWith ref .aborted)) 0x1204

/-- Both ports lose what their receive buffers, request queues and reply queues hold; versions and station IDs stay (R313, R409). -/
def emptyPorts (s : Chip) : Chip :=
  let f : PortState → PortState := fun p => { p with queue := [], replies := [], fence := none, received := none }
  (s.modPort .tw f).modPort .spi f

/-- The bus queues are discarded; a transaction in progress goes on (R331). -/
def dropBusQueues (s : Chip) : Chip :=
  forEach 4 (fun k s =>
    let lost := (s.bus k).queue
    let s := s.modBus k fun b => { b with queue := [] }
    lost.foldl (fun s e => match e with
      | .write n _ | .readBack n _ => s.modRect n fun r => { r with writeFail := true }
      | .bms j id _ => modRead s j id fun _ => none
      | _ => s) s) s

/-- Event records are discarded and counted (R313). -/
def dropEvents (s : Chip) : Chip :=
  let e := s.events
  { s with events := { e with queue := [], droppedRead := sat32 e.droppedRead e.queue.length,
                              droppedWake := sat32 e.droppedWake e.queue.length } }

/-- The Yard stops, to be started again (R313, R439); `activation` says that an FW_ACTIVATE asked for it, so that the trial
image it has just named is the one that starts (R441). -/
def yardStopNow (s : Chip) (activation : Bool) : Chip :=
  let s := dropBusQueues (dropEvents (emptyPorts s))
  let s := { s with deadBelow := s.receipts, boxWait := [] }
  let s := discardFwStage (discardCfgStage s)
  let s := if activation then s else trialFallback s
  setFault (s.modFw fun f => { f with yardStop := true, restart := none }) 0x1307

end Sys2Proof.Machine
end

