-- ==== Sys2Proof/Machine/Nymi.lean ====
section
/-! DEFINITION. The Nymi link: ports, frames, the tree, routing, LINK_HELLO, and the time exchange (R369-R384), with the
hall state word and the hall's events (R401, R402). -/

namespace Sys2Proof.Machine

def Chip.modTime (s : Chip) (f : TimeSync → TimeSync) : Chip := s.modNet fun n => { n with time := f n.time }

/-! ## The tree (R375-R377) -/

def myPair (s : Chip) : Nat := s.img.hall.pairId

/-- Node ID (R375); zero outside a hall (R401). -/
def nodeId (s : Chip) : Nat := if inHall s then myPair s * 2 + memberBit s else 0

/-- Node ID of the stablemate. -/
def partnerNode (s : Chip) : Nat := myPair s * 2 + (1 - memberBit s)

def inRootPair (s : Chip) : Bool := inHall s && myPair s == 0

/-- The root's active member. -/
def isRoot (s : Chip) : Bool := inRootPair s && isActive s

/-- H_MAX (R377). -/
def hMax (s : Chip) : Nat := if inHall s then s.img.hall.pairs.log2 + 1 else Config.openHMax

/-- Child pairs that the hall has. -/
def childPairs (s : Chip) : List Nat :=
  if inHall s then [2 * myPair s + 1, 2 * myPair s + 2].filter (· < s.img.hall.pairs) else []

/-- The port on which a child pair hangs. -/
def childPort (c : Nat) : Nat := if c % 2 = 1 then 2 else 3

/-- The child of pair `p` in whose subtree pair `q` lies; a hall has ten levels. -/
def childToward (p : Nat) : Nat → Nat → Option Nat
  | 0, _ => none
  | n + 1, q => if q = 0 then none else if (q - 1) / 2 = p then some q else childToward p n ((q - 1) / 2)

/-- A neighbour is expected on the port (R376, R378). -/
def expected (s : Chip) (p : Nat) : Bool :=
  match p with
  | 0 => isPaired s
  | 1 => inHall s && myPair s != 0
  | 2 => (childPairs s).any fun c => c % 2 == 1
  | _ => (childPairs s).any fun c => c % 2 == 0

/-- The neighbour fits the port (R376). -/
def neighbourFits (s : Chip) (p : Nat) (n : Neighbour) : Bool :=
  let bit := if n.strap == 2 then 1 else 0
  let crossed := bit != memberBit s
  expected s p &&
    match p with
    | 0 => n.pairId == (if inHall s then myPair s else 0xFFFF) && n.strap != 0 && n.strap != s.strap.code
    | 1 => n.pairId == (myPair s - 1) / 2 && (s.strap == .solo || crossed)
    | _ => (childPairs s).any (fun c => childPort c == p && n.pairId == c) && (n.strap == 0 || crossed)

def portUp (s : Chip) (p : Nat) : Bool := (s.np p).state == .up

/-- NP1 carries nothing upwards, at a member that should have an uplink (R379). -/
def uplinkDown (s : Chip) : Bool := inHall s && myPair s != 0 && !portUp s 1

/-- The partner's LINK_HELLO reports UPLINK_DOWN. -/
def partnerCut (s : Chip) : Bool := portUp s 0 && (s.np 0).near.any Neighbour.uplinkDown

/-- No upward route is left (R379). -/
def isolatedNow (s : Chip) : Bool := uplinkDown s && (!portUp s 0 || partnerCut s)

/-! ## Words and events (R381, R384, R401, R402) -/

/-- The time parent's port (R381). -/
def timeParentNow (s : Chip) : Option Nat :=
  if inHall s then
    if myPair s == 0 then (if isActive s then none else some 0)
    else if portUp s 1 then some 1
    else if isolatedNow s || (s.np 0).near.any Neighbour.isolated then none
    else some 0
  else if isStandby s then some 0
  else none

/-- The link to the time parent is UP; without it the parent is lost (R382). -/
def parentThere (s : Chip) : Bool := s.net.time.parent.any (portUp s)

/-- TIME_SRC (R381). -/
def timeSrc (s : Chip) : Nat :=
  if isRoot s then 3 else match s.net.time.parent with
    | some 1 => 1
    | some _ => 2
    | none => 0

def timeNeighbour (s : Chip) : Option Neighbour := s.net.time.parent.bind fun p => (s.np p).near

/-- Hops on the time path. -/
def timeHops (s : Chip) : Nat := ((timeNeighbour s).map fun n => n.hops + 1).getD 0

/-- DEGRADED (R384). -/
def timeDegraded (s : Chip) : Bool := s.clk.degraded || (timeNeighbour s).any Neighbour.degraded

/-- The hall state word (R401). -/
def hallWord (s : Chip) : Nat :=
  let n := s.net
  let a := timeSrc s * 2 ^ 30 + bitN 29 n.time.locked + bitN 28 (timeDegraded s) + bitN 27 n.isolated + bitN 26 (uplinkDown s)
    + bitN 25 (inRootPair s) + bitN 24 (isRoot s)
  let b := bitN 23 (portUp s 3) + bitN 22 (portUp s 2) + bitN 21 (portUp s 1) + bitN 20 (portUp s 0)
    + min 15 (timeHops s) * 2 ^ 16
  a + b + bitN 15 n.still.isSome + bitN 14 n.reset.isSome + bitN 13 (n.barrier.any fun b => b.openAt.isSome) + bitN 12 (n.coll.state != .idle)
    + nodeId s % 2 ^ 10

/-- Posts a hall event (R402): its kind and bytes 1 to 15. -/
def postHall (s : Chip) (kind : Nat) (rest : List Byte) (done : List (ReqRef × Status) := []) : Chip :=
  post s 0x0C (le 1 kind ++ rest) done

/-- Link change (R402); port 0xFF for a change of LOCKED or ISOLATED. -/
def postNpLink (s : Chip) (p : Nat) : Chip := postHall s 7 (le 1 p ++ zeros 2 ++ le 4 (hallWord s) ++ le 8 s.hall)

/-! ## Frames (R372, R374, R379, R380) -/

/-- The frames that the last command sent are no longer shown. -/
def clearSent (s : Chip) : Chip := s.modNet fun n => { n with ports := n.ports.map fun p => { p with sent := [] } }

/-- The CRC of a frame: every byte from TYPE to the end of the payload except HOPS (R372, R373). -/
def frameCrc (f : Frame) : Word :=
  crc32c (le 1 f.ftype.toNat ++ le 2 f.src.toNat ++ le 2 f.dst.toNat ++ le 2 f.epoch.toNat ++ le 1 f.payload.length
    ++ le 1 f.flags.toNat ++ le 2 f.fid.toNat ++ f.payload)

/-- The frame with its CRC formed (R373). -/
def sealFrame (f : Frame) : Frame := { f with crc := frameCrc f }

/-- The frame leaves by the port as it is. -/
def putOn (p : Nat) (f : Frame) (s : Chip) : Chip := s.modNp p fun x => { x with sent := x.sent ++ [f] }

/-- A frame that the member forms leaves by the port, with its CRC. -/
def sendOn (p : Nat) (f : Frame) (s : Chip) : Chip := putOn p (sealFrame f) s

def dstNode (n : Nat) : Half := BitVec.ofNat 16 (n % 2 ^ 10)
def dstActive (q : Nat) : Half := BitVec.ofNat 16 (2 ^ 14 + q % 2 ^ 9 * 2)
def dstTree : Half := BitVec.ofNat 16 (2 ^ 15)

/-- The DST of a frame to the neighbour, which the spec leaves open: one that has a meaning, its reserved bits zero (R10,
R372). -/
def neighbourDst : Half :=
  match Config.openDst.toNat / 2 ^ 14 with
  | 1 => dstActive (Config.openDst.toNat / 2)
  | 2 => dstTree
  | _ => dstNode Config.openDst.toNat

/-- A frame of this member's own, with the FRAME_ID that it gets. -/
def ownFrame (s : Chip) (typ : Nat) (dst : Half) (payload : List Byte) : Frame :=
  { ftype := BitVec.ofNat 8 typ, src := BitVec.ofNat 16 (nodeId s), dst := dst, epoch := BitVec.ofNat 16 s.mode.epoch,
    fid := BitVec.ofNat 16 s.net.frameId, payload := payload }

/-- FRAME_ID counts on. -/
def nextFid (s : Chip) : Chip := s.modNet fun n => { n with frameId := (n.frameId + 1) % 2 ^ 16 }

/-- Payload length that the type table gives (R374). -/
def lenFits (typ n : Nat) : Bool :=
  match typ with
  | 0x01 => n == 64 | 0x02 => n == 8 | 0x03 => n == 0 | 0x04 => n == 16 | 0x10 => n == 16 | 0x11 => n == 8 | 0x12 => n == 4
  | 0x13 => n == 16 | 0x14 => n == 16 | 0x20 => n == 16 | 0x21 => n == 8 | 0x22 => n == 12 | 0x23 => n == 8
  | 0x24 => n == 16 | 0x25 => n == 4 | 0x30 => n == 12 | 0x31 => decide (9 ≤ n) && decide (n ≤ 64)
  | _ => false

/-- A discarded frame, with the fault that counts it (R373, R379). -/
def discardFrame (source : Nat) (s : Chip) : Chip :=
  setFault (s.modNet fun n => { n with discarded := sat32 n.discarded 1 }) source

/-- The DST kind has no meaning in the frame: the reserved one in any, TREE in a frame that is routed (R10, R372, R379). -/
def dstRejected (typ : Nat) (f : Frame) : Bool :=
  f.dst.toNat / 2 ^ 14 == 3 || (decide (0x20 ≤ typ) && f.dst.toNat / 2 ^ 14 == 2)

/-- A frame is received: its type, its length, its CRC, its HOPS, and the port's state decide whether it acts (R372, R373, R376, R378). -/
def onFrame (typ p : Nat) (f : Frame) (act : Chip → Chip) (s : Chip) : Chip :=
  let s := clearSent s
  if !yardAlive s || !portUsed s p || (s.np p).state == .down then s
  else if f.ftype.toNat != typ || !lenFits typ f.payload.length || f.crc != frameCrc f then crcError p s
  else
    let s := s.modNp p fun x => { x with lastValid := s.now }
    if 32 ≤ f.hops.toNat then discardFrame 0x0D0E s
    else if (typ == 0x02 || portUp s p) && !dstRejected typ f then act s
    else s

/-- The frame as it is forwarded; one whose HOPS reach 32 is discarded (R373). -/
def forwardOn (p : Nat) (f : Frame) (s : Chip) : Chip :=
  if 31 ≤ f.hops.toNat then discardFrame 0x0D0E s else putOn p { f with hops := f.hops + 1#8 } s

/-- Pair that a NODE or ACTIVE_OF frame names. -/
def destPair (f : Frame) : Nat := f.dst.toNat % 2 ^ 10 / 2

def toActive (f : Frame) : Bool := f.dst.toNat / 2 ^ 14 == 1

/-- The frame has arrived at this member (R379). -/
def deliversHere (s : Chip) (f : Frame) : Bool :=
  destPair f == myPair s && (toActive f || f.dst.toNat % 2 ^ 10 == nodeId s)

/-- The port on which the frame goes on, and whether it is re-routed (R379). -/
def routePort (s : Chip) (f : Frame) : Nat × Bool :=
  let port := if destPair f == myPair s then 0
    else match childToward (myPair s) 10 (destPair f) with
      | some c => childPort c
      | none => 1
  if port == 0 || portUp s port then (port, false) else (0, true)

/-- A NODE or ACTIVE_OF frame goes one hop on: `came` is the port it came by, none for a frame of this member (R379).
DEDUCED: a member that sets REROUTED forms the CRC anew, since the CRC covers FLAGS and the next member checks it (R373). -/
def routeOn (came : Option Nat) (f : Frame) (s : Chip) : Chip :=
  let r := routePort s f
  let f := if r.2 && !f.flags.getLsbD 0 then sealFrame { f with flags := f.flags ||| 1#8 } else f
  if r.1 == 0 && (came == some 0 || !portUp s 0) then discardFrame 0x0D0F s
  else if came.isNone then sendOn r.1 f s
  else forwardOn r.1 f s

/-- The member that this one takes to be active (R380). -/
def roleHolder (s : Chip) : Nat :=
  if isActive s then nodeId s
  else if s.pair.partner.head.any (·.active) && !s.pair.partner.lost then partnerNode s
  else 0xFFFF

/-- A reply frame to the sender, with its FRAME_ID (R372). -/
def replyFrame (s : Chip) (f : Frame) (typ : Nat) (payload : List Byte) : Frame :=
  { ownFrame s typ (dstNode f.src.toNat) payload with fid := f.fid }

/-- MESSAGE_ACK (R374, R380). -/
def ackFrame (s : Chip) (f : Frame) (st : Status) : Frame :=
  replyFrame s f 0x21 (le 2 st.code ++ le 2 (roleHolder s) ++ le 2 s.mode.epoch ++ zeros 2)

/-- A NODE or ACTIVE_OF frame at a member: it goes on, or this member executes it, or answers ROLE_CHANGED (R379, R380). -/
def onRouted (p : Nat) (f : Frame) (act : Chip → Chip) (s : Chip) : Chip :=
  if !inHall s then s
  else if !deliversHere s f then routeOn (some p) f s
  else if toActive f && !(isActive s && (f.epoch == 0xFFFF#16 || f.epoch.toNat == s.mode.epoch)) then
    routeOn none (ackFrame s f .roleChanged) s
  else act s

/-- The frame goes towards the root (R386, R387). -/
def sendUp (came : Option Nat) (f : Frame) (s : Chip) : Chip :=
  let port := if myPair s != 0 && portUp s 1 then 1 else 0
  if port == 0 && (came == some 0 || !portUp s 0) then discardFrame 0x0D0F s
  else if came.isNone then sendOn port f s
  else forwardOn port f s

/-- Ports by which a frame goes down the tree (R386). -/
def downPorts (s : Chip) (came : Option Nat) : List Nat :=
  [0, 2, 3].filter fun p => came != some p && portUp s p && (p != 0 || (isRoot s && isPaired s) || partnerCut s)

def sendDown (came : Option Nat) (f : Frame) (s : Chip) : Chip :=
  (downPorts s came).foldl (fun s p => if came.isNone then sendOn p f s else forwardOn p f s) s

/-- A TREE frame that came by the port climbs; it came down otherwise. -/
def climbs (s : Chip) (p : Nat) : Bool :=
  if p == 0 then isRoot s || (!inRootPair s && portUp s 1) else p != 1

/-! ## Ports (R376, R378) -/

/-- LOCKED changes, with its event (R382, R402). -/
def setLocked (on : Bool) (s : Chip) : Chip :=
  if s.net.time.locked == on then s else postNpLink (s.modTime fun t => { t with locked := on }) 0xFF

/-- What follows from the ports, the role and the partner: ISOLATED, and the time parent (R379, R381, R382); a step that a
parent of before was to bring does not come (R381). -/
def refreshNet (s : Chip) : Chip :=
  let iso := isolatedNow s
  let was := s.net.isolated
  let s := evalFault (s.modNet fun n => { n with isolated := iso }) 0x0D0D iso
  let s := if iso != was then postNpLink s 0xFF else s
  let p := timeParentNow s
  let moved := s.net.time.parent != p
  let s := s.modTime fun t => { t with parent := p }
  if !moved && parentThere s then s
  else
    setLocked false (s.modTime fun t =>
      { t with ask := none, last := none, good := 0, bad := 0, step := if moved then none else t.step })

/-- The port takes a state (R378). -/
def setNp (p : Nat) (st : NpState) (s : Chip) : Chip :=
  let was := (s.np p).state
  let s := s.modNp p fun x => { x with state := st }
  let s := evalFault s (0x0D00 + p) (st == .down && expected s p)
  let s := refreshNet (evalFault s (0x0D08 + p) (st == .topology))
  if was == st || st == .training then s else postNpLink s p

/-- The port sees comma alignment (R378). -/
def linkTrain (p : Nat) (s : Chip) : Chip :=
  let s := clearSent s
  if yardAlive s && portUsed s p && (s.np p).state == .down then
    setNp p .training (s.modNp p fun x => { x with good := 0, near := none, recent := [], lastValid := s.now, helloNext := s.now })
  else s

def execLinkTrain (p : Fin 4) (s : State) : Host.Outcome State Fault Refusal := .next (s.on (linkTrain p))

/-- LINK_HELLO's payload (R374). -/
def helloPayload (s : Chip) : List Byte :=
  le 2 (if inHall s then myPair s else 0xFFFF) ++ le 1 s.strap.code
    ++ le 1 (bitN 0 (isActive s) + bitN 1 s.net.time.locked + bitN 2 (timeDegraded s) + bitN 3 s.net.isolated
      + bitN 4 (uplinkDown s))
    ++ le 1 (timeHops s) ++ le 1 (hMax s) ++ zeros 2

/-- A trained port sends LINK_HELLO every 100 µs (R378). -/
def linkHelloTimer (p : Nat) (s : Chip) : Chip :=
  let s := clearSent s
  if yardAlive s && portUsed s p && (s.np p).state != .down && decide ((s.np p).helloNext ≤ s.now) then
    let f := ownFrame s 0x02 neighbourDst (helloPayload s)
    sendOn p f (nextFid (s.modNp p fun x => { x with helloNext := s.now + 100 }))
  else s

def execLinkHelloTimer (p : Fin 4) (s : State) : Host.Outcome State Fault Refusal := .next (s.on (linkHelloTimer p))

def helloOf (b : List Byte) : Neighbour :=
  let f := field b 3 1
  { pairId := field b 0 2, strap := field b 2 1, active := f % 2 == 1, locked := f / 2 % 2 == 1, degraded := f / 4 % 2 == 1,
    isolated := f / 8 % 2 == 1, uplinkDown := f / 16 % 2 == 1, hops := field b 4 1, hMax := field b 5 1 }

/-- LINK_HELLO is checked against the tree and counts towards UP (R376, R378); a ROLE strap without a meaning is rejected
(R10). -/
def takeHello (p : Nat) (f : Frame) (s : Chip) : Chip :=
  let n := helloOf f.payload
  if 2 < n.strap then s
  else if neighbourFits s p n then
    let s := s.modNp p fun x => { x with near := some n, good := min 3 (x.good + 1) }
    if 3 ≤ (s.np p).good then setNp p .up s else refreshNet s
  else setNp p .topology (s.modNp p fun x => { x with near := some n, good := 0 })

def execLinkHello (p : Fin 4) (f : Frame) (s : State) : Host.Outcome State Fault Refusal :=
  .next (s.on (onFrame 0x02 p f (takeHello p f)))

/-- The cause of a port's going DOWN holds (R378). -/
def downCauseHolds (s : Chip) (p : Nat) : DownCause → Bool
  | .noHello => decide ((s.np p).lastValid + 300 ≤ s.now)
  | .crcErrors => decide (8 ≤ ((s.np p).recent.filter fun t => s.now < t + 1000).length)
  | .noSignal => true
  | .restart => true

/-- The port is DOWN: nothing of the neighbour is known any more. -/
def takeDown (p : Nat) (s : Chip) : Chip :=
  setNp p .down (s.modNp p fun x => { x with good := 0, near := none, recent := [] })

def execLinkCrc (p : Fin 4) (s : State) : Host.Outcome State Fault Refusal := .next (s.on fun c => crcError p (clearSent c))

/-! ## Hall time (R381-R384) -/

/-- Every TIME_PERIOD a member sends TIME_REQ to its time parent; one left unanswered breaks the two-step chain (R382). -/
def timeExchange (t1 : Nat) (s : Chip) : Chip :=
  let s := refreshNet (clearSent s)
  match s.net.time.parent with
  | some p =>
    if yardAlive s && parentThere s && decide (s.net.time.next ≤ s.now) then
      let f := ownFrame s 0x03 neighbourDst []
      let s := s.modTime fun t =>
        { t with ask := some (s.net.frameId, t1 % 2 ^ 64), last := if t.ask.isSome then none else t.last,
                 next := s.now + s.img.hall.timePeriod }
      sendOn p f (nextFid s)
    else s
  | none => s

def execTimeExchange (t1 : Nat) (s : State) : Host.Outcome State Fault Refusal := .next (s.on (timeExchange t1))

/-- A TIME_REQ is answered with its own t2 and the t3 of the response before (R374, R382). -/
def takeTimeReq (p : Nat) (f : Frame) (t2 t3 : Nat) (s : Chip) : Chip :=
  let r := { ownFrame s 0x04 neighbourDst (le 8 t2 ++ le 8 (tget s.net.time.lastT3 p)) with fid := f.fid }
  sendOn p r (s.modTime fun t => { t with lastT3 := tset t.lastT3 p (t3 % 2 ^ 64) })

def execTimeReq (p : Fin 4) (f : Frame) (t2 t3 : Nat) (s : State) : Host.Outcome State Fault Refusal :=
  .next (s.on (onFrame 0x03 p f (takeTimeReq p f t2 t3)))

/-- Difference of two stamps, modulo 2^64 and signed. -/
def stampDiff (a b : Nat) : Int :=
  let d : Nat := (a + (2 ^ 64 - b % 2 ^ 64)) % 2 ^ 64
  if 2 ^ 63 ≤ d then (d : Int) - (2 ^ 64 : Nat) else (d : Int)

/-- Nearest whole quotient; which of two equally near ones is open. -/
def nearest (a b : Int) : Int :=
  if 2 * (a % b) = b then a / b + (if Config.roundUp a b then 1 else 0) else (2 * a + b) / (2 * b)

/-- The exchange's offset and delay in ps (R382); a stamp's unit is 10 ns / 256. -/
def exchangeOffset (t1 t2 t3 t4 : Nat) (asym : Int) : Int × Int :=
  let d := stampDiff t4 t1 - stampDiff t3 t2
  (rdiv ((2 * stampDiff t2 t1 - d) * 625) 32 - asym, rdiv (d * 625) 32)

/-- LOCKED after 8 good exchanges, no longer after 4 bad ones (R382). -/
def lockStep (offset : Int) (s : Chip) : Chip :=
  let t := s.net.time
  let good := if offset.natAbs ≤ 20000 then min 8 (t.good + 1) else 0
  let bad := if 100000 < offset.natAbs then min 4 (t.bad + 1) else 0
  let s := s.modTime fun t => { t with good := good, bad := bad }
  if 4 ≤ bad then setLocked false s else if 8 ≤ good then setLocked true s else s

/-- An offset in ps is slewed: the rate correction takes its share (R381, R382). -/
def slewTime (offset : Int) (s : Chip) : Chip :=
  s.modTime fun t => { t with rate := clampI (-200000) 200000 (t.rate + rdiv (offset * 125) s.img.hall.timePeriod) }

/-- A member whose root is the RC steers its trim from the exchange, by a law that the spec leaves open (R500). -/
def steerRc (offset : Int) (s : Chip) : Chip :=
  if s.clk.degraded && inHall s then
    { s with heat := { s.heat with rcCode := Config.rcSteer offset s.heat.rcCode } }
  else s

/-- A completed exchange steps hall time at the next boundary, to a multiple of 100 with the remainder slewed there, or slews
(R382, R383). -/
def applyOffset (offset delay : Int) (s : Chip) : Chip :=
  let s := s.modTime fun t => { t with offset := offset, delay := delay }
  let k := nearest offset 1000000
  let s :=
    if 1000000 < offset.natAbs && !s.net.time.locked then
      s.modTime fun t => { t with step := some (((s.hall : Int) + 100 + 100 * k).toNat, offset - 1000000 * k) }
    else slewTime offset s
  lockStep offset (steerRc offset s)

/-- TIME_RESP: its t3 completes the exchange before (R382). -/
def takeTimeResp (p : Nat) (f : Frame) (t4 : Nat) (s : Chip) : Chip :=
  match s.net.time.ask with
  | some (fid, t1) =>
    if s.net.time.parent == some p && f.fid.toNat == fid then
      let t3 := field f.payload 8 8
      let last := s.net.time.last
      let heard := field f.payload 0 8 / 256 / 100 * 100
      let s := if p = 0 then { s with pair := { s.pair with me := { s.pair.me with heardHall := heard } } } else s
      let s := s.modTime fun t => { t with ask := none, last := some (t1, field f.payload 0 8, t4 % 2 ^ 64) }
      match last with
      | some (a1, a2, a4) =>
        if t3 == 0 then s
        else
          let e := exchangeOffset a1 a2 t3 a4 (tget s.img.hall.asym p)
          applyOffset e.1 e.2 s
      | none => s
    else s
  | none => s

def execTimeResp (p : Fin 4) (f : Frame) (t4 : Nat) (s : State) : Host.Outcome State Fault Refusal :=
  .next (s.on (onFrame 0x04 p f (takeTimeResp p f t4)))

/-- Hall time at a boundary: one tick on, or the step that was due (R381, R383). -/
def hallTimeTick (s : Chip) : Chip :=
  match s.net.time.step with
  | some x =>
    let s := slewTime x.2 s
    { s.modTime (fun t => { t with step := none, stepHall := x.1 }) with clk := { s.clk with hall := x.1 } }
  | none => { s with clk := { s.clk with hall := s.clk.hall + 100 } }

/-- TIME_UNLOCKED (R399). -/
def timeTick (s : Chip) : Chip :=
  let open_ := parentThere s && !s.net.time.locked
  let s := s.modTime fun t => { t with unlockedSince := if open_ then some (t.unlockedSince.getD s.now) else none }
  evalFault s 0x0D0C (s.net.time.unlockedSince.any fun t => decide (t + 1000000 ≤ s.now))

/-! ## Reads (R400) -/

/-- Node ID of the neighbour on a port; 0xFFFF none. -/
def nearNode (x : NpPort) : Nat :=
  match x.near with
  | some n => if n.pairId == 0xFFFF then 0xFFFF else n.pairId * 2 + (if n.strap == 2 then 1 else 0)
  | none => 0xFFFF

def NpState.code : NpState → Nat
  | .down => 0 | .training => 1 | .up => 2 | .topology => 3

def hallGetData (s : Chip) : List Byte :=
  let ports := (List.range 4).map s.np
  le 4 (hallWord s) ++ le 2 (if inHall s then myPair s else 0xFFFF) ++ le 1 (hMax s) ++ le 1 (timeHops s)
    ++ ports.flatMap (fun x => le 2 (nearNode x) ++ le 1 x.state.code ++ zeros 1)
    ++ ports.flatMap (fun x => le 4 x.crc) ++ le 4 s.net.discarded ++ le 4 s.net.received

def bodyHallGet : Body := fun _ _ s => (.reply .ok (hallGetData s), s)

def execHallGet (rq : Request) (s : State) : Host.Outcome State Fault Refusal := .next (s.on (serve 0x0B01 {} bodyHallGet rq))

def hallTimeData (s : Chip) : List Byte :=
  let t := s.net.time
  le 8 s.hall ++ leI 4 t.offset ++ leI 4 t.delay ++ leI 4 t.rate ++ le 1 (timeSrc s) ++ le 1 (timeHops s)
    ++ le 1 (bitN 0 t.locked + bitN 1 (timeDegraded s)) ++ zeros 1 ++ le 8 t.stepHall

def bodyHallTimeGet : Body := fun _ _ s => (.reply .ok (hallTimeData s), s)

def execHallTimeGet (rq : Request) (s : State) : Host.Outcome State Fault Refusal :=
  .next (s.on (serve 0x0B02 {} bodyHallTimeGet rq))

end Sys2Proof.Machine
end

