-- ==== Sys2Proof/Machine/Hall.lean ====
section
/-! DEFINITION. The hall's collectives: broadcast, barrier, schedules, hall resets and cap rounds, a port's going DOWN
(R168, R169, R378, R385-R393), with their opcodes (R173, R400). -/

namespace Sys2Proof.Machine

/-! ## Broadcast (R386) -/

/-- A numbered broadcast is delivered once, and goes on down the tree. -/
def spreadBroadcast (came : Option Nat) (f : Frame) (s : Chip) : Chip :=
  let n := field f.payload 2 2
  if s.net.recent.contains n then s
  else
    let s := s.modNet fun x => { x with bcast := n, recent := (n :: x.recent).take 16, received := sat32 x.received 1 }
    let s := postHall s 1 (zeros 1 ++ f.payload.take 2 ++ (f.payload.drop 4).take 8 ++ le 4 s.hall)
    sendDown came f s

/-- A broadcast climbs; the root's active numbers it and sends it down. -/
def climbBroadcast (came : Option Nat) (f : Frame) (s : Chip) : Chip :=
  if isRoot s then
    let n := (s.net.bcast + 1) % 2 ^ 16
    spreadBroadcast none { f with hops := 0#8, payload := patch (f.payload.take 12) 2 (le 2 n) ++ zeros 4 } s
  else sendUp came f s

def takeBroadcast (p : Nat) (f : Frame) (s : Chip) : Chip :=
  if !inHall s then s else if climbs s p then climbBroadcast (some p) f s else spreadBroadcast (some p) f s

def execBroadcast (p : Fin 4) (f : Frame) (s : State) : Host.Outcome State Fault Refusal :=
  .next (s.on (onFrame 0x10 p f (takeBroadcast p f)))

/-- The checks shared by hall opcodes (R400): HALL_ENABLE, and where `routed` an upward route. -/
def hallDenied (routed : Bool) (s : Chip) : Bool := !inHall s || (routed && isolatedNow s)

def hallWordReply (st : Status) (s : Chip) : Ans × Chip := (.reply st (le 4 (hallWord s)), s)

def bodyHallBroadcast : Body := fun rq _ s =>
  let s := clearSent s
  if hallDenied true s then (.bare .denied, s)
  else
    let f := ownFrame s 0x10 dstTree (le 2 (nodeId s) ++ zeros 2 ++ fit 8 rq.params ++ zeros 4)
    hallWordReply .ok (climbBroadcast none f (nextFid s))

def execHallBroadcast (rq : Request) (s : State) : Host.Outcome State Fault Refusal :=
  .next (s.on (serve 0x0B03 { lenLo := 8, lenHi := 8 } bodyHallBroadcast rq))

/-! ## Barrier (R387, R388) -/

/-- The member is a participant: the active or SOLO member of a pair whose BARRIER_PART is set. -/
def participant (s : Chip) : Bool := isActive s && s.img.hall.barrierPart

/-- The member itself has arrived: a participant by HALL_BARRIER, any other once the barrier is open. -/
def ownArrived (s : Chip) (b : Barrier) : Bool := if participant s then b.own else b.openAt.isSome

/-- Ports whose aggregate the member waits for; one that is not UP is not waited for. -/
def awaited (s : Chip) : List Nat :=
  [0, 2, 3].filter fun p => portUp s p && (p != 0 || partnerCut s || (isRoot s && isPaired s))

/-- The member's aggregate. -/
def aggregate (s : Chip) (b : Barrier) (timedOut : Bool) : Arrival :=
  let own : Arrival := { count := if participant s && b.own then 1 else 0, incomplete := timedOut, conflict := b.conflict }
  b.arrived.foldl (fun a x =>
    { count := a.count + x.2.count, incomplete := a.incomplete || x.2.incomplete, conflict := a.conflict || x.2.conflict }) own

def arrivalBytes (id : Nat) (a : Arrival) : List Byte :=
  le 2 id ++ le 1 (bitN 0 a.incomplete + bitN 1 a.conflict) ++ zeros 1 ++ le 4 a.count

/-- A release reaches the member: its event, HALL_BARRIER's completion and BARRIER_FAILED (R388). -/
def takeRelease (payload : List Byte) (s : Chip) : Chip :=
  let flags := field payload 2 1 % 4
  let st : Status := if 2 ≤ flags then .aborted else if flags = 1 then .timeout else .ok
  let ref := (s.net.barrier.bind Barrier.ref).toList
  let s := s.modNet fun n => { n with barrier := none }
  let s := if flags = 0 then s else setFault s 0x0D11
  postHall s 2 (le 1 flags ++ payload.take 2 ++ (payload.drop 4).take 4 ++ (payload.drop 8).take 8) (allWith ref st)

/-- The member's aggregate goes up; at the root's active it is the release. -/
def sendAggregate (timedOut : Bool) (s : Chip) : Chip :=
  match s.net.barrier with
  | some b =>
    let bytes := arrivalBytes b.id (aggregate s b timedOut)
    if isRoot s then
      let f := ownFrame s 0x13 dstTree (bytes ++ le 8 s.hall)
      takeRelease f.payload (sendDown none f (nextFid s))
    else
      let s := s.modNet fun n => { n with barrier := some { b with sent := true } }
      sendUp none (ownFrame s 0x11 dstTree bytes) (nextFid s)
  | none => s

/-- The aggregate goes up once every input is there (R387). -/
def barrierCheck (s : Chip) : Chip :=
  match s.net.barrier with
  | some b =>
    if b.openAt.isSome && !b.sent && ownArrived s b && (awaited s).all fun p => b.arrived.any fun x => x.1 == p then
      sendAggregate false s
    else s
  | none => s

/-- A barrier opens at the member: an arrival made here under another ID is in conflict (R388). -/
def openBarrier (id : Nat) (s : Chip) : Chip :=
  match s.net.barrier with
  | some b =>
    if b.openAt.isSome && b.id == id then s
    else
      let clash := b.conflict || (b.own && b.id != id)
      barrierCheck (s.modNet fun n =>
        { n with barrier := some { b with id := id, openAt := some s.now, arrived := [], conflict := clash, sent := false } })
  | none => barrierCheck (s.modNet fun n => { n with barrier := some { id := id, openAt := some s.now } })

/-- The root opens the barrier that the first arrival names. -/
def rootOpens (id : Nat) (s : Chip) : Chip :=
  let f := ownFrame s 0x12 dstTree (le 2 id ++ zeros 2)
  openBarrier id (sendDown none f (nextFid s))

/-- BARRIER_ARRIVE: an arrival that climbs before the barrier is open, or a port's aggregate (R387, R388). -/
def takeArrive (p : Nat) (f : Frame) (s : Chip) : Chip :=
  let id := field f.payload 0 2
  let flags := field f.payload 2 1
  if !inHall s then s
  else
    match s.net.barrier.filter fun b => b.openAt.isSome with
    | some b =>
      let a : Arrival := { count := field f.payload 4 4, incomplete := flags % 2 == 1, conflict := flags / 2 % 2 == 1 }
      let others := b.arrived.filter fun x => x.1 != p
      let b := { b with arrived := (p, a) :: others, conflict := b.conflict || b.id != id }
      barrierCheck (s.modNet fun n => { n with barrier := some b })
    | none => if isRoot s then rootOpens id s else sendUp (some p) f s

def execBarrierArrive (p : Fin 4) (f : Frame) (s : State) : Host.Outcome State Fault Refusal :=
  .next (s.on (onFrame 0x11 p f (takeArrive p f)))

def takeOpen (p : Nat) (f : Frame) (s : Chip) : Chip :=
  if !inHall s then s else openBarrier (field f.payload 0 2) (sendDown (some p) f s)

def execBarrierOpen (p : Fin 4) (f : Frame) (s : State) : Host.Outcome State Fault Refusal :=
  .next (s.on (onFrame 0x12 p f (takeOpen p f)))

def execBarrierRelease (p : Fin 4) (f : Frame) (s : State) : Host.Outcome State Fault Refusal :=
  .next (s.on (onFrame 0x13 p f fun c => if inHall c then takeRelease f.payload (sendDown (some p) f c) else c))

/-- BARRIER_TIMEOUT has passed since BARRIER_OPEN without all inputs (R388). -/
def barrierTimeout (s : Chip) : Chip :=
  let s := clearSent s
  match s.net.barrier with
  | some b =>
    if yardAlive s && inHall s && !b.sent && b.openAt.any fun t => decide (t + s.img.hall.barrierTimeout * 1000 ≤ s.now) then
      sendAggregate true s
    else s
  | none => s

def execBarrierTimeout (s : State) : Host.Outcome State Fault Refusal := .next (s.on barrierTimeout)

/-- The host's arrival: it waits at an open barrier, or climbs to the root (R387, R388). -/
def arriveHere (id : Nat) (r : ReqRef) (s : Chip) : Chip :=
  match s.net.barrier with
  | some b =>
    barrierCheck (s.modNet fun n =>
      { n with barrier := some { b with own := true, ref := some r, conflict := b.conflict || b.id != id } })
  | none =>
    let s := s.modNet fun n => { n with barrier := some { id := id, own := true, ref := some r } }
    if isRoot s then rootOpens id s
    else sendUp none (ownFrame s 0x11 dstTree (arrivalBytes id { count := 1 })) (nextFid s)

def bodyHallBarrier : Body := fun rq r s =>
  let s := clearSent s
  if hallDenied true s || !participant s then (.bare .denied, s)
  else if s.net.barrier.any fun b => b.own then (.bare .busyRetry, s)
  else acceptFirst r (fun s => le 4 (hallWord s)) (arriveHere (arg rq 0 2) r) s

def execHallBarrier (rq : Request) (s : State) : Host.Outcome State Fault Refusal :=
  .next (s.on (serve 0x0B04 {} bodyHallBarrier rq))

/-- A port goes DOWN; a barrier waits for it no longer (R378, R388). -/
def npDown (p : Nat) (c : DownCause) (s : Chip) : Chip :=
  let s := clearSent s
  if yardAlive s && portUsed s p && (s.np p).state != .down && downCauseHolds s p c then barrierCheck (takeDown p s) else s

def execLinkDown (p : Fin 4) (c : DownCause) (s : State) : Host.Outcome State Fault Refusal := .next (s.on (npDown p c))

/-- LINK_RESTART (R392): every port trains anew, and the barrier state goes; an arrival that was waiting is aborted. -/
def linkRestart (s : Chip) : Chip :=
  let ref := (s.net.barrier.bind Barrier.ref).toList
  let id := (s.net.barrier.map Barrier.id).getD 0
  let s := forEach 4 takeDown (s.modNet fun n => { n with barrier := none })
  let s := s.modTime fun t => { t with ask := none, last := none, step := none, good := 0, bad := 0, parent := none }
  let s := setLocked false s
  ref.foldl (fun s r => postHall s 2 (le 1 1 ++ le 2 id ++ zeros 12) [(r, Status.aborted)]) s

/-! ## Schedules (R389-R392) -/

/-- Minimum lead of a schedule in hall time (R385): 2 µs + 800 ns × H_MAX. -/
def minLead (s : Chip) : Nat := 200 + 80 * hMax s

def schedPending (s : Chip) (kind : Nat) : Bool := if kind = 1 then s.net.still.isSome else s.net.reset.isSome

/-- Kind and action of a schedule have a meaning (R10, R392); for a Still Life, byte 1 is reserved. -/
def schedAssigned (payload : List Byte) : Bool :=
  let act := field payload 1 1 % 4
  field payload 0 1 == 1 || (field payload 0 1 == 2 && (act == 1 || act == 2))

/-- The root's judgement of a schedule (R389); one without a meaning is rejected (R10). -/
def judgeSchedule (s : Chip) (payload : List Byte) : Status :=
  let kind := field payload 0 1
  let at_ := field payload 8 8
  if !schedAssigned payload then .badParam
  else if at_ % 800 != 0 || at_ < s.hall + minLead s || s.hall + 6000000000 < at_ then .outOfRange
  else if schedPending s kind then .busyRetry
  else .ok

/-- The schedule is held; bits that the payload reserves are ignored (R10, R374, R392). -/
def holdSchedule (payload : List Byte) (s : Chip) : Chip :=
  let act := if field payload 0 1 = 1 then 0 else field payload 1 1 % 16
  let x : Sched := { act := act, origin := field payload 2 2 % 2 ^ 10, at_ := field payload 8 8 }
  s.modNet fun n => if field payload 0 1 = 1 then { n with still := some x } else { n with reset := some x }

/-- The payload of SCHEDULE as the root sends it, its reserved bits zero (R10, R374). -/
def sentSchedule (payload : List Byte) : List Byte :=
  le 1 (field payload 0 1) ++ le 1 (if field payload 0 1 = 1 then 0 else field payload 1 1 % 16)
    ++ le 2 (field payload 2 2 % 2 ^ 10) ++ zeros 4 ++ (payload.drop 8).take 8

/-- An accepted schedule is held at the root and goes down the tree. -/
def acceptSchedule (payload : List Byte) (s : Chip) : Chip :=
  let payload := sentSchedule payload
  let f := ownFrame s 0x14 dstTree payload
  holdSchedule payload (sendDown none f (nextFid s))

/-- SCHEDULE_REQ at the root's active, which alone accepts schedules (R397): its Yard judges it and answers (R389). -/
def takeSchedReq (f : Frame) (s : Chip) : Chip :=
  if !isRoot s || !yardWorks s then s
  else
    let st := judgeSchedule s f.payload
    let s := if st == .ok then acceptSchedule f.payload s else s
    routeOn none (replyFrame s f 0x25 (le 2 st.code ++ zeros 2)) s

def execScheduleReq (p : Fin 4) (f : Frame) (s : State) : Host.Outcome State Fault Refusal :=
  .next (s.on (onFrame 0x24 p f (onRouted p f (takeSchedReq f))))

/-- A Still Life's event (R402), and the mark that collection reads (R395). -/
def stillDone (at_ status seq : Nat) (s : Chip) : Chip :=
  let m : StillMark := { at_ := at_, status := status, epoch := s.mode.epoch }
  let s := s.modNet fun n => { n with marks := (m :: n.marks).take 64 }
  postHall s 3 (le 1 status ++ zeros 2 ++ le 8 at_ ++ le 4 seq)

/-- SCHEDULE goes on down the tree and is held, or was missed (R389, R391); one without a meaning is rejected (R10). -/
def takeSchedule (p : Nat) (f : Frame) (s : Chip) : Chip :=
  if !inHall s || !schedAssigned f.payload then s
  else
    let at_ := field f.payload 8 8
    let s := sendDown (some p) f s
    if s.hall ≤ at_ then holdSchedule f.payload s
    else
      let s := setFault s 0x0D10
      if field f.payload 0 1 = 1 then stillDone at_ 1 none32 s else s

def execSchedule (p : Fin 4) (f : Frame) (s : State) : Host.Outcome State Fault Refusal :=
  .next (s.on (onFrame 0x14 p f (takeSchedule p f)))

/-- The statuses of a SCHEDULE_ANS. -/
def statusOfCode (n : Nat) : Option Status :=
  ([.ok, .badParam, .outOfRange, .busyRetry, .denied] : List Status).find? fun st => st.code == n

/-- SCHEDULE_ANS: the requesting member forms its reply (R389); a status without a meaning here is rejected (R10). -/
def takeSchedAns (f : Frame) (s : Chip) : Chip :=
  match s.net.asks.find? (fun a => a.fid == f.fid.toNat), statusOfCode (field f.payload 0 2) with
  | some a, some st =>
    let s := s.modNet fun n => { n with asks := n.asks.filter fun x => x.fid != a.fid }
    formReply s a.ref st (if st == .ok then le 8 a.at_ else [])
  | _, _ => s

def execScheduleAns (p : Fin 4) (f : Frame) (s : State) : Host.Outcome State Fault Refusal :=
  .next (s.on (onFrame 0x25 p f (onRouted p f (takeSchedAns f))))

/-- MSG_TIMEOUT has passed since the instant. -/
def answerOverdue (s : Chip) (sent : Nat) : Bool := decide (sent + s.img.hall.msgTimeout * 1000 ≤ s.now)

def scheduleReqTimeout (s : Chip) : Chip :=
  let late := s.net.asks.filter fun a => answerOverdue s a.sent
  let s := s.modNet fun n => { n with asks := n.asks.filter fun a => !answerOverdue s a.sent }
  late.foldl (fun s a => formReply s a.ref .timeout []) s

def execScheduleReqTimeout (s : State) : Host.Outcome State Fault Refusal := .next (s.on scheduleReqTimeout)

/-- The two schedule opcodes (R389, R400): kind, action byte and S. -/
def askSchedule (kind act at_ : Nat) (r : ReqRef) (s : Chip) : Ans × Chip :=
  let s := clearSent s
  let payload := le 1 kind ++ le 1 act ++ le 2 (nodeId s) ++ zeros 4 ++ le 8 at_
  if at_ < s.hall + minLead s then (.bare .outOfRange, s)
  else if hallDenied true s then (.bare .denied, s)
  else if isRoot s then
    let st := judgeSchedule s payload
    if st == .ok then (.reply .ok (le 8 at_), acceptSchedule payload s) else (.bare st, s)
  else
    let a : SchedAsk := { fid := s.net.frameId, at_ := at_, ref := r, sent := s.now }
    let f := { ownFrame s 0x24 (dstActive 0) payload with epoch := 0xFFFF#16 }
    (.later, routeOn none f (nextFid (s.modNet fun n => { n with asks := n.asks ++ [a] })))

def bodyStillLife : Body := fun rq r s =>
  if !inHall s then (.bare .denied, s) else askSchedule 1 0 (arg rq 0 8) r s

def bodyHallReset : Body := fun rq r s =>
  let act := arg rq 0 1 % 16
  if !inHall s then (.bare .denied, s)
  else if act % 4 == 0 || act % 4 == 3 then (.bare .badParam, s)
  else askSchedule 2 act (arg rq 4 8) r s

def execStillLifeSchedule (rq : Request) (s : State) : Host.Outcome State Fault Refusal :=
  .next (s.on (serve 0x0B05 { lenLo := 8, lenHi := 8, activeOnly := true } bodyStillLife rq))

def execHallResetSchedule (rq : Request) (s : State) : Host.Outcome State Fault Refusal :=
  .next (s.on (serve 0x0B06 { lenLo := 12, lenHi := 12, activeOnly := true } bodyHallReset rq))

/-- SEQ of the first STILL_LIFE record closed with or after `from_`. -/
def firstStill (s : Chip) (from_ : Nat) : Nat :=
  ((s.ledger.queue.find? fun r => decide (from_ ≤ r.seq) && field r.body 0 1 == 4 && field r.body 3 1 == 1).map (·.seq)).getD
    none32

/-- Place of the first STILL_LIFE record among the drafts after the first `n`. -/
def stillPlace (s : Chip) (n : Nat) : Nat :=
  ((s.ledger.drafts.getD []).drop n).findIdx fun d => d.typ == 4 && d.aux == 1

/-- A Still Life whose records have their SEQs now is told of (R361, R402). -/
def stillTold (s : Chip) : Chip :=
  match s.net.stillTell with
  | some x =>
    if s.ledger.drafts.isSome then s
    else stillDone x.1 0 ((s.ledger.settledAt + x.2) % 2 ^ 32) (s.modNet fun n => { n with stillTell := none })
  | none => s

/-- The Still Life acts at its boundary (R254, R390, R391): every member latches its registers, the active writes them. -/
def stillAction (s : Chip) : Chip :=
  match s.net.still with
  | some x =>
    let s := s.modNet fun n => { n with still := none }
    if !meteringRuns s then stillDone x.at_ 2 none32 (ledgerBoundary s)
    else if ledgerWriter s then
      let next := s.ledger.nextSeq
      let before := s.ledger.drafts
      let s := ledgerBoundary (s.setLedger fun l => { l with work := { l.work with stillLife := true } })
      match before with
      | none => stillDone x.at_ 0 (firstStill s next) s
      | some ds => s.modNet fun n => { n with stillTell := some (x.at_, ds.length + stillPlace s ds.length) }
    else
      let l : RegLatch := { meters := s.meters, book := s.meterBook, hall := s.hall }
      stillDone x.at_ 0 none32 (ledgerBoundary (s.modNet fun n => { n with stillLatch := some l }))
  | none => s

/-- Body of the hall-reset event (R402). -/
def postHallReset (x : Sched) (s : Chip) : Chip := postHall s 4 (le 1 x.act ++ zeros 2 ++ le 8 x.at_)

/-- A hall reset's scope has the role that the member holds (R392). -/
def resetChooses (s : Chip) (x : Sched) : Bool :=
  if isActive s then x.act / 4 % 2 == 1 else isStandby s && x.act / 8 % 2 == 1

/-- The hall reset acts (R392); a Yard restart's event waits until the Yard is back (R402). -/
def resetAction (x : Sched) (s : Chip) : Chip :=
  let s := s.modNet fun n => { n with reset := none }
  if !resetChooses s x then s
  else if x.act % 4 == 1 then yardStopNow (s.modNet fun n => { n with resetEvent := some x }) false
  else postHallReset x (linkRestart s)

/-- A held schedule's instant is reached: a Still Life before a hall reset (R390-R392). -/
def scheduleAction (s : Chip) : Chip :=
  let s := clearSent s
  if !yardAlive s then s
  else
    let s := if s.net.still.any fun x => decide (x.at_ ≤ s.hall) then stillAction s else s
    match s.net.reset with
    | some x => if x.at_ ≤ s.hall then resetAction x s else s
    | none => s

def execScheduleAction (s : State) : Host.Outcome State Fault Refusal := .next (s.on scheduleAction)

/-! ## Hall cap rounds (R168, R169, R393) -/

/-- Ten milliseconds, one and two milliseconds of hall time. -/
def capPeriod : Nat := 1000000
def capReportBy : Nat := 100000
def capAllocBy : Nat := 200000

/-- The round number that a frame carries (R374). -/
def roundField (s : Chip) : Nat := s.net.cap.round % 2 ^ 32

/-- The shelf's own D and F in W (R168). -/
def ownParts (s : Chip) : Nat × Nat :=
  ((rdiv (s.energy.demand + s.book.uncapped) 1000).toNat, rdivN s.img.caps.capFloor 1000)

/-- D and F of a child pair: its report of the round, else its last one (R169). -/
def childParts (s : Chip) (c : Nat) : Nat × Nat :=
  match (s.net.cap.reports.find? fun r => r.1 == c).orElse fun _ => s.net.cap.last.find? fun r => r.1 == c with
  | some r => r.2
  | none => (0, 0)

/-- The parts of a node: its own shelf and its child pairs, in that order. -/
def capParts (s : Chip) : List (Nat × Nat) := ownParts s :: (childPairs s).map (childParts s)

/-- split(A, parts) (R168). -/
def splitCap (a : Nat) (parts : List (Nat × Nat)) : List Nat :=
  let f : Nat := parts.foldl (fun n p => n + p.2) 0
  let surplus : Int := parts.foldl (fun n p => n + ((p.1 : Int) - p.2)) 0
  parts.map fun p =>
    if a = 0 then 0
    else if a ≤ f then rdivN (p.2 * a) f
    else (min (p.1 : Int) (p.2 + rdiv (((a : Int) - f) * ((p.1 : Int) - p.2)) surplus)).toNat

/-- A cap frame leaves, and may be sent once more (R393). -/
def sendCap (typ pair : Nat) (payload : List Byte) (s : Chip) : Chip :=
  let f := { ownFrame s typ (dstActive pair) payload with epoch := 0xFFFF#16 }
  let c := s.net.cap
  routeOn none f (nextFid (s.modNet fun n => { n with cap := { c with frames := c.frames ++ [{ frame := f }] } }))

/-- The node splits what it was allocated (R168, R393). -/
def splitHere (a : Nat) (s : Chip) : Chip :=
  let shares := splitCap a (capParts s)
  let mine := shares.headD 0
  let s := { s with energy := { s.energy with allocNext := some (mine * 1000, s.net.cap.start + capAllocBy) } }
  ((childPairs s).zip shares.tail).foldl (fun s e => sendCap 0x23 e.1 (le 4 (roundField s) ++ le 4 e.2) s) s

/-- The node's report goes up; the root splits the hall cap at once (R393). -/
def reportUp (s : Chip) : Chip :=
  let s := s.modNet fun n => { n with cap := { n.cap with sent := true } }
  if isRoot s then splitHere (rdivN s.energy.hallCap 1000) s
  else
    let parts := capParts s
    let d := parts.foldl (fun n p => n + p.1) 0
    let f := parts.foldl (fun n p => n + p.2) 0
    sendCap 0x22 ((myPair s - 1) / 2) (le 4 (roundField s) ++ le 4 d ++ le 4 f) s

/-- The report goes as soon as every child's is in. -/
def reportWhenReady (s : Chip) : Chip :=
  let c := s.net.cap
  if c.open_ && !c.sent && (childPairs s).all fun k => c.reports.any fun r => r.1 == k then reportUp s else s

/-- The member takes part in cap rounds (R393, R397). -/
def capMember (s : Chip) : Bool := yardAlive s && inHall s && isActive s

/-- A round starts (R393). -/
def hallCapRound (s : Chip) : Chip :=
  let s := clearSent s
  let n := s.hall / capPeriod
  if capMember s && !(s.net.cap.open_ && s.net.cap.round == n) then
    let c : CapRound := { round := n, start := n * capPeriod, open_ := true, last := s.net.cap.last }
    let s := { s with energy := { s.energy with allocNext := none } }
    reportWhenReady (s.modNet fun x => { x with cap := c })
  else s

def execHallCapRound (s : State) : Host.Outcome State Fault Refusal := .next (s.on hallCapRound)

def capReportDeadline (s : Chip) : Chip :=
  let s := clearSent s
  let c := s.net.cap
  if capMember s && c.open_ && !c.sent && decide (c.start + capReportBy ≤ s.hall) then reportUp s else s

def execCapReportDeadline (s : State) : Host.Outcome State Fault Refusal := .next (s.on capReportDeadline)

/-- A child pair's report (R169, R393). -/
def takeCapReport (f : Frame) (s : Chip) : Chip :=
  let c := f.src.toNat % 2 ^ 10 / 2
  if !capMember s || !(childPairs s).contains c then s
  else
    let r := (c, field f.payload 4 4, field f.payload 8 4)
    let put : List (Nat × Nat × Nat) → List (Nat × Nat × Nat) := fun l => r :: l.filter fun x => x.1 != c
    let now := field f.payload 0 4 == roundField s
    reportWhenReady (s.modNet fun n =>
      { n with cap := { n.cap with last := put n.cap.last, reports := if now then put n.cap.reports else n.cap.reports } })

def execCapReport (p : Fin 4) (f : Frame) (s : State) : Host.Outcome State Fault Refusal :=
  .next (s.on (onFrame 0x22 p f (onRouted p f (takeCapReport f))))

/-- An allocation of the round, in time, is split on receipt (R393). -/
def takeCapAlloc (f : Frame) (s : Chip) : Chip :=
  let c := s.net.cap
  if capMember s && c.open_ && field f.payload 0 4 == roundField s && decide (s.hall < c.start + capAllocBy) then
    splitHere (field f.payload 4 4) s
  else s

def execCapAlloc (p : Fin 4) (f : Frame) (s : State) : Host.Outcome State Fault Refusal :=
  .next (s.on (onFrame 0x23 p f (onRouted p f (takeCapAlloc f))))

/-- HALL_LIVE changes, with its event (R175). -/
def setHallLive (on : Bool) (s : Chip) : Chip :=
  let was := s.energy.hallLive
  energyEvent { s with energy := { s.energy with hallLive := on } } (on != was) 5 0xFF

/-- At the round's start plus 2 ms its allocation applies, or counts as not received (R168, R169, R393). -/
def capAllocApply (s : Chip) : Chip :=
  let c := s.net.cap
  if capMember s && c.open_ && !c.settled && decide (c.start + capAllocBy ≤ s.hall) then
    let s := s.modNet fun n => { n with cap := { n.cap with settled := true } }
    match s.energy.allocNext with
    | some a =>
      let s := { s with energy := { s.energy with hallAlloc := a.1, allocNext := none, roundsMissed := 0 } }
      setLive (setHallLive true s) 0x0504 false
    | none => { s with energy := { s.energy with roundsMissed := min 1000000 (s.energy.roundsMissed + 1) } }
  else s

def execCapAllocApply (s : State) : Host.Outcome State Fault Refusal := .next (s.on capAllocApply)

/-- Three rounds without an allocation (R169). -/
def hallCapLost (s : Chip) : Chip :=
  if capMember s && decide (3 ≤ s.energy.roundsMissed) then
    let back := s.img.caps.hallCapFallback
    let s := { s with energy := { s.energy with hallAlloc := if back = 0 then s.energy.hallAlloc else back } }
    evalFault (setHallLive false s) 0x0504 true
  else s

def execHallCapLost (s : State) : Host.Outcome State Fault Refusal := .next (s.on hallCapLost)

/-- CAP_SET (R164, R173): a setpoint of the energy class (R27, R29, R170). -/
def bodyCapSet : Body := fun rq r s =>
  let scope := arg rq 0 1
  let cap := arg rq 4 4
  if 1 < scope then (.bare .badParam, s)
  else if !capInRange cap then (.bare .outOfRange, s)
  else if scope == 0 then
    (.reply .ok (le 4 (energyWord s)), queueEnergy s (.cap false cap r))
  else if !isRoot s then (.bare .denied, s)
  else
    (.reply .ok (le 4 (energyWord s)), queueEnergy s (.cap true cap r))

def execCapSet (rq : Request) (s : State) : Host.Outcome State Fault Refusal :=
  .next (s.on (serve 0x0402 { lenLo := 8, lenHi := 8, activeOnly := true, queue := 3 } bodyCapSet rq))

end Sys2Proof.Machine
end

