-- ==== Sys2Proof/Machine/Collect.lean ====
section
/-! DEFINITION. Messages between members and the collection of a Still Life (R394-R396), with their opcodes (R400), and the
hall's part of a tick. -/

namespace Sys2Proof.Machine

/-! ## Messages (R394) -/

/-- A message is delivered as a hall event. -/
def deliverMessage (f : Frame) (s : Chip) : Chip :=
  postHall s 5 (zeros 1 ++ le 2 f.src.toNat ++ f.payload.take 8 ++ le 4 s.hall)

def takeMessage (f : Frame) (s : Chip) : Chip := routeOn none (ackFrame s f .ok) (deliverMessage f s)

def execMessage (p : Fin 4) (f : Frame) (s : State) : Host.Outcome State Fault Refusal :=
  .next (s.on (onFrame 0x20 p f (onRouted p f (takeMessage f))))

/-- Message result (R402), which completes its HALL_SEND. -/
def postResult (m : MsgAsk) (epoch : List Byte) (holder : Nat) (st : Status) (s : Chip) : Chip :=
  postHall s 6 (zeros 1 ++ le 2 m.dst ++ epoch ++ le 2 holder) [(m.ref, st)]

/-- A cap frame answered ROLE_CHANGED goes once more, to the holder that the answer names (R393). -/
def resendCap (fid holder : Nat) (s : Chip) : Chip :=
  match s.net.cap.frames.find? fun c => c.frame.fid.toNat == fid with
  | some c =>
    let rest := s.net.cap.frames.filter fun c => c.frame.fid.toNat != fid
    let s := s.modNet fun n => { n with cap := { n.cap with frames := rest } }
    if holder == 0xFFFF then s
    else routeOn none { c.frame with dst := dstNode holder, epoch := BitVec.ofNat 16 s.mode.epoch } s
  | none => s

/-- MESSAGE_ACK completes a HALL_SEND, or sends a cap frame again (R380, R393, R394); any other status is rejected (R10). -/
def takeAck (f : Frame) (s : Chip) : Chip :=
  let fid := f.fid.toNat
  let st := field f.payload 0 2
  let holder := field f.payload 2 2
  if st != Status.ok.code && st != Status.roleChanged.code then s
  else match s.net.msgs.find? fun m => m.fid == fid with
  | some m =>
    let s := s.modNet fun n => { n with msgs := n.msgs.filter fun x => x.fid != fid }
    postResult m ((f.payload.drop 4).take 2) holder (if st = Status.roleChanged.code then .roleChanged else .ok) s
  | none => if st = Status.roleChanged.code then resendCap fid holder s else s

def execMessageAck (p : Fin 4) (f : Frame) (s : State) : Host.Outcome State Fault Refusal :=
  .next (s.on (onFrame 0x21 p f (onRouted p f (takeAck f))))

/-- No answer within MSG_TIMEOUT; no responder gave a role epoch, so that field is open (R394). -/
def messageTimeout (s : Chip) : Chip :=
  let late := s.net.msgs.filter fun m => answerOverdue s m.sent
  let s := s.modNet fun n => { n with msgs := n.msgs.filter fun m => !answerOverdue s m.sent }
  late.foldl (fun s m => postResult m (le 2 s.draw) 0xFFFF .timeout s.drawn) s

def execMessageTimeout (s : State) : Host.Outcome State Fault Refusal := .next (s.on messageTimeout)

/-- The frame of a HALL_SEND. -/
def sendFrame (s : Chip) (rq : Request) : Frame :=
  let active := arg rq 0 1 == 1
  let n := arg rq 2 2
  let f := ownFrame s 0x20 (if active then dstActive n else dstNode n) (fit 8 (rq.params.drop 8) ++ zeros 8)
  if active then { f with epoch := BitVec.ofNat 16 (arg rq 4 2) } else f

/-- A HALL_SEND's frame leaves; one for this member is delivered and answered here. -/
def launchMessage (f : Frame) (s : Chip) : Chip :=
  let good := isActive s && (f.epoch == 0xFFFF#16 || f.epoch.toNat == s.mode.epoch)
  if !deliversHere s f then routeOn none f s
  else if toActive f && !good then takeAck (ackFrame s f .roleChanged) s
  else takeAck (ackFrame s f .ok) (deliverMessage f s)

def bodyHallSend : Body := fun rq r s =>
  let s := clearSent s
  let kind := arg rq 0 1
  let n := arg rq 2 2
  if !inHall s then (.bare .denied, s)
  else if 1 < kind then (.bare .badParam, s)
  else if (if kind = 0 then 2 * s.img.hall.pairs else s.img.hall.pairs) ≤ n then (.bare .outOfRange, s)
  else
    let f := sendFrame s rq
    let m : MsgAsk := { fid := s.net.frameId, dst := n, ref := r, sent := s.now }
    acceptFirst r (fun _ => le 2 m.fid ++ zeros 2) (launchMessage f) (nextFid (s.modNet fun x => { x with msgs := x.msgs ++ [m] }))

def execHallSend (rq : Request) (s : State) : Host.Outcome State Fault Refusal :=
  .next (s.on (serve 0x0B08 { lenLo := 16, lenHi := 16 } bodyHallSend rq))

/-! ## The stream of a member (R395) -/

/-- The STILL_LIFE entries of the region at S. -/
def stillEntries (s : Chip) (at_ : Nat) : List LedgerEntry :=
  s.ledger.entries.filter fun e => field e.body 0 1 == 4 && field e.body 3 1 == 1 && field e.body 8 8 == at_

/-- S is past, and every such entry has been committed. -/
def stillCommitted (s : Chip) (at_ : Nat) : Bool :=
  decide (at_ ≤ s.hall) && !(s.net.still.any fun x => x.at_ == at_)
    && !((s.ledger.drafts.getD []).any fun d => d.typ == 4 && d.aux == 1 && d.hall == at_)
    && !(s.ledger.queue.any fun r => field r.body 0 1 == 4 && field r.body 3 1 == 1 && field r.body 8 8 == at_)

/-- Collection unit header. -/
def unitHead (node kind status len : Nat) (epoch : List Byte) (n : Nat) : List Byte :=
  le 2 node ++ le 1 kind ++ le 1 status ++ le 2 len ++ epoch ++ le 4 n ++ zeros 4

/-- The member's mark of the Still Life at S. -/
def markOf (s : Chip) (at_ : Nat) : Option StillMark := s.net.marks.find? fun m => m.at_ == at_

/-- The member's stream; where it holds no mark of S, its role epoch at S is open. -/
def memberStream (s : Chip) (at_ : Nat) : List Byte :=
  let es := stillEntries s at_
  let m := markOf s at_
  let epoch := le 2 ((m.map StillMark.epoch).getD s.draw)
  let status := (m.map StillMark.status).getD (if es.isEmpty then 1 else 0)
  unitHead (nodeId s) 1 status 0 epoch es.length
    ++ es.flatMap fun e => unitHead (nodeId s) 2 0 (entryBytes e).length epoch e.seq ++ entryBytes e

/-- The stream cut into payload parts of at most 56 bytes: offset, LAST and bytes. -/
def cutStream : Nat → Nat → List Byte → List (Nat × Bool × List Byte)
  | 0, _, _ => []
  | n + 1, off, bs =>
    if bs.length ≤ 56 then [(off, true, bs)] else (off, false, bs.take 56) :: cutStream n (off + 56) (bs.drop 56)

/-! ## The collector (R395, R396) -/

/-- Bytes buffered. -/
def buffered (c : Collect) : Nat := c.buf.foldl (fun n u => n + u.length) 0

def CollState.code : CollState → Nat
  | .idle => 0 | .running => 1 | .waiting => 2 | .done => 3 | .cancelled => 4

def collBusy (c : Collect) : Bool := c.state == .running || c.state == .waiting

/-- The collection's state changes, with its event (R400, R402). -/
def setColl (st : CollState) (s : Chip) : Chip :=
  let c := s.net.coll
  if c.state == st then s
  else
    let over_ := st == .done || st == .cancelled
    let status : Status := if st == .done then .ok else .aborted
    let done := if over_ then allWith c.ref.toList status else []
    let s := s.modNet fun n => { n with coll := { n.coll with state := st, ref := if over_ then none else c.ref } }
    postHall s 8 (le 1 st.code ++ le 2 c.finished ++ le 8 c.at_) done

def Chip.modColl (s : Chip) (f : Collect → Collect) : Chip := s.modNet fun n => { n with coll := f n.coll }

/-- A request takes the place of an earlier one of the same collector. -/
def putAsk (a : CollAsk) (l : List CollAsk) : List CollAsk := l.filter (fun x => x.src != a.src) ++ [a]

/-- COLLECT_REQ to the node now asked, from the byte that is still missing; the collector asks itself without a frame. -/
def sendCollectReq (s : Chip) : Chip :=
  let c := s.net.coll
  let s := s.modColl fun c => { c with asked := s.now, heard := false }
  if c.node == nodeId s then
    s.modNet fun n => { n with collAsk := putAsk { src := c.node, at_ := c.at_, off := c.got } n.collAsk }
  else
    routeOn none (ownFrame s 0x30 (dstNode c.node) (le 8 c.at_ ++ le 4 c.got)) (nextFid s)

/-- The member whose turn it is is asked, once the buffer has room for 6 KiB (R396); after the last one the collection is
done. -/
def askNext (s : Chip) : Chip :=
  let c := s.net.coll
  if 2 * s.img.hall.pairs ≤ c.node then setColl .done s
  else if 2 ^ 20 - buffered c < 6144 then setColl .waiting s
  else sendCollectReq (setColl .running s)

/-- Whole units at the front of the bytes received, and the rest. -/
def wholeUnits : Nat → List Byte → List (List Byte) × List Byte
  | 0, bs => ([], bs)
  | n + 1, bs =>
    let len := 16 + field bs 4 2
    if bs.length < 16 || bs.length < len then ([], bs)
    else
      let r := wholeUnits n (bs.drop len)
      (bs.take len :: r.1, r.2)

/-- The member now asked is finished with. -/
def finishMember (s : Chip) : Chip :=
  askNext (s.modColl fun c => { c with finished := c.finished + 1, node := c.node + 1, got := 0, part := [] })

/-- Stream bytes of the node now asked arrive; a gap is asked for again, once there is room (R396). -/
def takeStream (src off : Nat) (last : Bool) (bytes : List Byte) (s : Chip) : Chip :=
  let c := s.net.coll
  if c.state != .running || src != c.node || off < c.got then s
  else if c.got < off then askNext s
  else
    let w := wholeUnits 64 (c.part ++ bytes)
    let s := s.modColl fun c =>
      { c with got := c.got + bytes.length, part := w.2, buf := c.buf ++ w.1, units := sat32 c.units w.1.length, asked := s.now, heard := true }
    if last then finishMember s else s

def takeCollectData (f : Frame) (s : Chip) : Chip :=
  takeStream (f.src.toNat % 2 ^ 10) (field f.payload 0 4) (field f.payload 4 1 % 2 == 1) (f.payload.drop 8) s

def execCollectData (p : Fin 4) (f : Frame) (s : State) : Host.Outcome State Fault Refusal :=
  .next (s.on (onFrame 0x31 p f (onRouted p f (takeCollectData f))))

/-- A collection request whose entries are all committed is answered with the stream; a stream to the same collector that was
on its way ends (R395). -/
def answerAsk (s : Chip) (a : CollAsk) : Chip :=
  if !stillCommitted s a.at_ then s
  else
    let bytes := (memberStream s a.at_).drop a.off
    let s := s.modNet fun n => { n with collAsk := n.collAsk.filter fun x => x.src != a.src }
    let s := if (markOf s a.at_).isNone then s.drawn else s
    let parts := cutStream 256 a.off bytes
    if a.src == nodeId s then
      parts.foldl (fun s e => takeStream a.src e.1 e.2.1 e.2.2 s) s
    else
      let out : CollOut := { dst := a.src, fid := a.fid, parts := parts }
      s.modNet fun n => { n with collOut := n.collOut.filter (fun o => o.dst != a.src) ++ [out] }

/-- The collection requests that wait are answered, each in its turn. -/
def answerCollect (s : Chip) : Chip := s.net.collAsk.foldl answerAsk s

/-- COLLECT_DATA with a part of the stream. -/
def dataPayload (e : Nat × Bool × List Byte) : List Byte := le 4 e.1 ++ le 1 (bitN 0 e.2.1) ++ zeros 3 ++ e.2.2

/-- A stream goes on towards its collector: in a tick of 1 µs COLLECT_RATE allows as many payload bytes as it has MB/s
(R396). -/
def streamStep (s : Chip) (o : CollOut) : Chip :=
  let put (l : List CollOut) : Chip :=
    s.modNet fun n => { n with collOut := n.collOut.filter (fun x => x.dst != o.dst) ++ l }
  match o.parts with
  | [] => put []
  | e :: rest =>
    let payload := dataPayload e
    let credit := o.credit + s.img.hall.collectRate
    if credit < payload.length then put [{ o with credit := credit }]
    else
      let f := { ownFrame s 0x31 (dstNode o.dst) payload with fid := BitVec.ofNat 16 o.fid }
      routeOn none f (put [{ o with parts := rest, credit := credit - payload.length }])

def streamTick (s : Chip) : Chip := s.net.collOut.foldl streamStep s

def takeCollectReq (f : Frame) (s : Chip) : Chip :=
  let a : CollAsk := { src := f.src.toNat % 2 ^ 10, fid := f.fid.toNat, at_ := field f.payload 0 8, off := field f.payload 8 4 }
  answerCollect (s.modNet fun n => { n with collAsk := putAsk a n.collAsk })

def execCollectReq (p : Fin 4) (f : Frame) (s : State) : Host.Outcome State Fault Refusal :=
  .next (s.on (onFrame 0x30 p f (onRouted p f (takeCollectReq f))))

/-- A member has sent nothing for 100 ms: NO_REPLY where it has sent nothing since it was last asked, else its stream is
resumed (R395, R396). -/
def collectNoReply (s : Chip) : Chip :=
  let s := clearSent s
  let c := s.net.coll
  if yardAlive s && c.state == .running && decide (c.asked + 100000 ≤ s.now) && decide (c.at_ + 6010000000 ≤ s.hall) then
    if !c.heard then
      let u := unitHead c.node 1 3 0 (le 2 s.draw) 0
      finishMember (s.drawn.modColl fun c =>
        { c with buf := c.buf ++ [u], units := sat32 c.units 1, noReply := sat32 c.noReply 1 })
    else askNext s
  else s

def execCollectNoReply (s : State) : Host.Outcome State Fault Refusal := .next (s.on collectNoReply)

/-- Collection status (R400). -/
def collectStatus (s : Chip) : List Byte :=
  let c := s.net.coll
  le 1 c.state.code ++ zeros 1 ++ le 2 c.finished ++ le 4 (buffered c) ++ le 8 c.at_ ++ le 4 c.noReply ++ le 4 c.units

def bodyCollectStart : Body := fun rq r s =>
  let s := clearSent s
  if !inHall s then (.bare .denied, s)
  else if arg rq 0 1 != 1 then (.bare .badParam, s)
  else if collBusy s.net.coll then (.bare .busyRetry, s)
  else
    acceptFirst r collectStatus askNext (s.modColl fun _ => { at_ := arg rq 4 8, ref := some r })

def execSnapshotCollectStart (rq : Request) (s : State) : Host.Outcome State Fault Refusal :=
  .next (s.on (serve 0x0B07 { lenLo := 12, lenHi := 12 } bodyCollectStart rq))

/-- The leading units that fit in `room` bytes, at most `n`. -/
def unitsFit : List (List Byte) → Nat → Nat → List (List Byte)
  | [], _, _ => []
  | u :: us, room, n => if n = 0 || room < u.length then [] else u :: unitsFit us (room - u.length) (n - 1)

def bodyCollectRead : Body := fun rq _ s =>
  let s := clearSent s
  let c := s.net.coll
  if !inHall s then (.bare .denied, s)
  else if arg rq 0 1 != 2 then (.bare .badParam, s)
  else
    let max := if arg rq 4 2 = 0 then c.buf.length else arg rq 4 2
    let us := unitsFit c.buf (portLimit rq.port - 4) max
    let left := c.buf.drop us.length
    let s := s.modColl fun c => { c with buf := left }
    let s := if c.state == .waiting then askNext s else s
    (.reply .ok (le 2 us.length ++ zeros 2 ++ us.flatten) (!left.isEmpty || collBusy s.net.coll), s)

def execSnapshotCollectRead (rq : Request) (s : State) : Host.Outcome State Fault Refusal :=
  .next (s.on (serve 0x0B07 { lenLo := 12, lenHi := 12 } bodyCollectRead rq))

def bodyCollectStatus : Body := fun rq _ s =>
  if !inHall s then (.bare .denied, s)
  else if arg rq 0 1 != 3 then (.bare .badParam, s)
  else (.reply .ok (collectStatus s), s)

def execSnapshotCollectStatus (rq : Request) (s : State) : Host.Outcome State Fault Refusal :=
  .next (s.on (serve 0x0B07 {} bodyCollectStatus rq))

def bodyCollectCancel : Body := fun rq _ s =>
  if !inHall s then (.bare .denied, s)
  else if arg rq 0 1 != 4 then (.bare .badParam, s)
  else
    let s := if collBusy s.net.coll then setColl .cancelled s else s
    (.reply .ok (collectStatus s), s)

def execSnapshotCollectCancel (rq : Request) (s : State) : Host.Outcome State Fault Refusal :=
  .next (s.on (serve 0x0B07 {} bodyCollectCancel rq))

/-! ## The tick boundary -/

/-- The hall's part of a boundary: lasting conditions, the time parent, the barrier's inputs, a stream that waited (R378,
R379, R382, R387, R395). -/
def hallTick (s : Chip) : Chip :=
  if !yardAlive s then s
  else
    let s := clearSent s
    let s := forEach 4 (fun p s =>
      let s := evalFault s (0x0D00 + p) ((s.np p).state == .down && expected s p)
      setLive s (0x0D08 + p) ((s.np p).state == .topology)) s
    streamTick (answerCollect (barrierCheck (timeTick (refreshNet (stillTold s)))))

end Sys2Proof.Machine
end

