-- ==== Sys2Proof/Machine/Box.lean ====
section
/-! DEFINITION. The way into the protection mailbox (R29, R433), and MRAM words that cannot be read (R443). -/

namespace Sys2Proof.Machine

/-- An uncorrectable word lies among the `n` bytes at an MRAM address. -/
def mramBad (s : Chip) (addr n : Nat) : Bool := eccIn s.mram.bad addr n

/-- Bytes are written there: their words read well again. -/
def mramWritten (addr n : Nat) (s : Chip) : Chip :=
  { s with mram := { s.mram with bad := s.mram.bad.filter fun a => !eccIn [a] addr n } }

/-- The reply that would hold an uncorrectable word (R293, R443): HW_FAULT and the source. -/
def Ans.ecc : Ans := .reply .hwFault (le 2 0x1001)

/-- The mailbox has room (R29). -/
def boxRoom (s : Chip) : Bool := decide (s.box.length < 16) && s.boxWait.isEmpty

/-- The host opcode that each kind of entry comes from (R433). -/
def BoxKind.opcode : BoxKind → Nat
  | .clearLockout => 0x0211 | .clearLatch => 0x0307 | .severity => 0x0804 | .commit => 0x0706 | .activate _ => 0x0D05

/-- The entry's receipt is that of a host request with the matching opcode, and has not been used before (R433). -/
def boxAccepts (s : Chip) (e : BoxEntry) : Bool :=
  e.opcode == e.kind.opcode && decide (e.ref.receipt < s.receipts) && !s.boxUsed.contains e.ref.receipt

def boxEntry (s : Chip) (kind : BoxKind) (op : Nat) (rq : Request) (r : ReqRef) : BoxEntry :=
  { kind := kind, opcode := op, ref := r, params := rq.params, tick := s.now, gen := (s.chCfg (field rq.params 0 1)).gen }

/-- The Yard places an entry, or waits for room (R29, R433). -/
def offerBox (s : Chip) (kind : BoxKind) (op : Nat) (rq : Request) (r : ReqRef) : Chip :=
  let e := boxEntry s kind op rq r
  if boxRoom s then { s with box := s.box ++ [e] } else { s with boxWait := s.boxWait ++ [e] }

end Sys2Proof.Machine
end

