-- ==== Sys2Proof/Machine/CfgImage.lean ====
section
/-! DEFINITION. The configuration image in force, built from the records that passed the checks (R460-R465). -/

namespace Sys2Proof.Machine

/-- The record whose values a channel uses: its gang leader's, or its own (R74, R94, R463). -/
def leadVals (rs : List CfgRec) (n : Nat) : Nat × Vals :=
  match (coveredBy rs n).head? with
  | some r => (r.idx, r.vals)
  | none => (n, valsOf rs 0x0010 n)

def chCfgOf (rs : List CfgRec) (n : Nat) : ChCfg :=
  let own := valsOf rs 0x0010 n
  let l := leadVals rs n
  let v := l.2
  { role := own.nat "ROLE", guarded := own.nat "FLAGS" % 2 == 1, gen := own.nat "ROLE_GEN", leader := l.1,
    gangSize := gangOf v, autoOn := v.nat "FLAGS" / 2 % 2 == 1, slot := v.nat "SLOT", ks240 := v.nat "INRUSH_METHOD" == 1,
    preR := v.nat "PRE_R", preBudget := v.nat "PRE_BUDGET", preTau := v.nat "PRE_TAU", preRearm := v.nat "PRE_REARM",
    primerDv := v.nat "PRIMER_DV", primerTimeout := v.nat "PRIMER_TIMEOUT", primerOverlap := v.nat "PRIMER_OVERLAP",
    gateIsrc := v.nat "GATE_ISRC", closeTimeout := v.nat "CLOSE_TIMEOUT", insertDelay := v.nat "INSERT_DELAY",
    ksIlim := v.nat "KS_ILIM", ksFaultTime := v.nat "KS_FAULT_TIME", ksDoneDv := v.nat "KS_DONE_DV" }

def brkCfgOf (rs : List CfgRec) (n : Nat) : BrkCfg :=
  let v := (leadVals rs n).2
  { rating := (valsOf rs 0x0010 n).nat "RATING", instMult := v.nat "INST_MULT", scMult := v.nat "SC_MULT",
    points := (List.range 16).map fun i => (v.nat "M" i, v.nat "T" i), coolTau := v.nat "COOL_TAU",
    accWarn := v.nat "ACC_WARN", soaEnable := v.flag "SOA_ENABLE",
    rth := [v.nat "SOA_RTH1", v.nat "SOA_RTH2", v.nat "SOA_RTH3"],
    tau := [v.nat "SOA_TAU1", v.nat "SOA_TAU2", v.nat "SOA_TAU3"], rdsMax := v.nat "RDS_MAX", tjWarn := v.int "TJ_WARN",
    tjTrip := v.int "TJ_TRIP", therm := v.nat "SOA_THERM", trefFixed := v.int "SOA_TREF_FIXED",
    retryInterval := v.nat "RETRY_INTERVAL", retryDuty := v.nat "RETRY_DUTY", retryReset := v.nat "RETRY_RESET",
    retryLimit := v.nat "RETRY_LIMIT" }

def railCfgOf (v : Vals) : RailCfg :=
  { bus := v.nat "RAIL_CLASS" == 1, buckBoost := v.nat "TOPOLOGY" == 1, firstLane := v.nat "FIRST_LANE",
    lanes := v.nat "LANES", im := recIms v, autoOn := v.flag "AUTO_ON" && v.nat "RAIL_CLASS" != 1,
    pwmPeriod := v.nat "PWM_PERIOD", laneMinPulse := v.nat "LANE_MIN_PULSE", dutyMax := v.nat "DUTY_MAX",
    bbDmax := v.nat "BB_DMAX", senseDiv := v.nat "SENSE_DIV", vinSrc := v.nat "VIN_SRC", imGain := v.int "IM_GAIN",
    imOffset := v.int "IM_OFFSET", vTarget := v.nat "V_TARGET", vMin := v.nat "V_MIN", vMax := v.nat "V_MAX",
    ssSlew := v.nat "SS_SLEW", setSlew := v.nat "SET_SLEW", iSlew := v.nat "I_SLEW", b0 := v.int "B0", b1 := v.int "B1",
    b2 := v.int "B2" }

def railProtOf (v : Vals) : RailProt :=
  { a1 := v.int "A1", a2 := v.int "A2", kpI := v.int "KP_I", kiI := v.int "KI_I", armIdleI := v.nat "ARM_IDLE_I",
    balEnable := v.flag "BAL_ENABLE", balPeriod := v.nat "BAL_PERIOD", balGain := v.nat "BAL_GAIN",
    balTrimMax := v.nat "BAL_TRIM_MAX", balMinI := v.nat "BAL_MIN_I", iLim := v.nat "I_LIM", fbKnee := v.nat "FB_V_KNEE",
    fbLow := v.nat "FB_V_LOW", fbMin := v.nat "FB_I_MIN", ocLatch := v.nat "OC_LATCH_TIME", phOc := v.nat "PH_OC",
    ovMargin := v.nat "OV_MARGIN", inUv := v.nat "IN_UV", inUvHyst := v.nat "IN_UV_HYST",
    bridgePNom := v.nat "BRIDGE_P_NOM" }

def railAuxOf (v : Vals) : RailAux :=
  { tempIn := v.nat "STAGE_TEMP_IN", tempSlope := v.nat "TEMP_SLOPE", tempOffset := v.int "TEMP_OFFSET",
    otWarnSet := v.int "OT_WARN_SET", otWarnClear := v.int "OT_WARN_CLEAR", otSdSet := v.int "OT_SD_SET",
    otSdClear := v.int "OT_SD_CLEAR", otDerate := v.nat "OT_DERATE",
    burstEnable := v.flag "BURST_ENABLE" && v.nat "RAIL_CLASS" != 1, burstEnter := v.nat "BURST_ENTER_I",
    burstExit := v.nat "BURST_EXIT_I", burstDwell := v.nat "BURST_DWELL", burstSleep := v.nat "BURST_SLEEP",
    burstHigh := v.nat "BURST_HIGH", burstLow := v.nat "BURST_LOW" }

def energyCfgOf (v : Vals) : EnergyCfg :=
  { busSenseCh := v.nat "BUS_SENSE_CH", vBusSet := v.nat "V_BUS_SET", vBridge := v.nat "V_BRIDGE",
    bridgeConfirm := v.nat "BRIDGE_CONFIRM", vBridgeReg := v.nat "V_BRIDGE_REG", bridgeDroop := v.nat "BRIDGE_DROOP",
    bridgeFf := v.nat "BRIDGE_FF", bridgeSinkMax := v.nat "BRIDGE_SINK_MAX", bridgeRaiseSlew := v.nat "BRIDGE_RAISE_SLEW",
    bridgeEff := v.nat "BRIDGE_EFF", wMin := v.nat "W_MIN", weightPeriod := v.nat "WEIGHT_PERIOD",
    rectStatusPeriod := v.nat "RECT_STATUS_PERIOD", rectStandoff := v.nat "RECT_STANDOFF", shareKi := v.nat "SHARE_KI",
    shareTrimMax := v.nat "SHARE_TRIM_MAX", busKi := v.nat "BUS_KI", busTrimMax := v.nat "BUS_TRIM_MAX",
    rectWriteMin := v.nat "RECT_WRITE_MIN" }

def capCfgOf (v : Vals) : CapCfg :=
  { chargeMargin := v.nat "CHARGE_MARGIN", chargePMax := v.nat "CHARGE_P_MAX", shelfCap := v.nat "SHELF_CAP",
    capShave := v.flag "CAP_SHAVE", capTol := v.nat "CAP_TOL", capGrace := v.nat "CAP_GRACE", capFloor := v.nat "CAP_FLOOR",
    hallCapFallback := v.nat "HALL_CAP_FALLBACK", throttleMin := v.nat "THROTTLE_MIN", lowStoreTime := v.nat "LOW_STORE_TIME" }

def linkCfgOf (v : Vals) : LinkCfg :=
  { channel := v.nat "LL_CHANNEL", rail := v.nat "LL_RAIL", enable := v.flag "LL_ENABLE", burstPMax := v.nat "BURST_P_MAX",
    burstDMax := v.nat "BURST_D_MAX", burstMinFrac := v.nat "BURST_MIN_FRAC", settleWin := v.nat "SETTLE_WIN",
    settleTime := v.nat "SETTLE_TIME", settleMax := v.nat "SETTLE_MAX", pollMax := v.nat "LL_POLL_MAX",
    timeout := v.nat "LINK_TIMEOUT" }

/-- The decoded values of a singleton record; the defaults of every parameter where it is absent (R462). -/
def singleton (rs : List CfgRec) (typ : Nat) : Vals :=
  match recOf rs typ 0 with
  | some r => r.vals
  | none => (paramsOf typ 0).map fun p => (p, p.dflt)

def modeCfgOf (v : Vals) : ModeCfg :=
  { startRun := v.nat "START_MODE" == 4, blackStart := v.flag "BLACK_START", startTimeout := v.nat "START_STAGE_TIMEOUT",
    stopTimeout := v.nat "STOP_STAGE_TIMEOUT", runBusSettle := v.nat "RUN_BUS_SETTLE",
    shortfallTime := v.nat "SHORTFALL_TIME", returnMargin := v.nat "RETURN_MARGIN", exitHyst := v.nat "BRIDGE_EXIT_HYST",
    exitDwell := v.nat "BRIDGE_EXIT_DWELL", handover := v.nat "BRIDGE_HANDOVER" }

/-- The mask of an entry, with 0xFF for the default of its severity (R465). -/
def entryMask (e : SevSet) : SevSet := { e with mask := if e.mask = 0xFF then defaultMask e.sev else e.mask }

def dogCfgOf (rs : List CfgRec) : DogCfg :=
  let v := singleton rs 0x00B0
  { wd0Period := v.nat "WD0_PERIOD", wd1Period := v.nat "WD1_PERIOD", wd1Disarm := v.flag "WD1_DISARM",
    hostlossCap := v.nat "HOSTLOSS_CAP", faultEventMin := v.nat "FAULT_EVENT_MIN",
    entries := ((recsOf rs 0x00B1).flatMap CfgRec.entries).map entryMask }

def profileCfgOf (v : Vals) : Profile :=
  { id := v.nat "PROFILE_ID", ocvT := (List.range 3).map fun t => v.int "OCV_T" t,
    ocv := (List.range 3).map fun t => (List.range 32).map fun i => v.nat "OCV" (32 * t + i), rSer := v.nat "R_SER",
    rFast := v.nat "R_FAST", cFast := v.nat "C_FAST", rSlow := v.nat "R_SLOW", cSlow := v.nat "C_SLOW",
    hMag := v.nat "H_MAG", vFloor := v.nat "V_FLOOR", vCeil := v.nat "V_CEIL", eNom := v.nat "E_NOM",
    iChg := v.nat "I_CHG_MAX", iDis := v.nat "I_DIS_MAX", tChgMin := v.int "T_CHG_MIN", tChgMax := v.int "T_CHG_MAX",
    tDisMin := v.int "T_DIS_MIN", tDisMax := v.int "T_DIS_MAX" }

def batCfgOf (v : Vals) : BatCfg :=
  { channel := v.nat "FEED_CH", rail := v.nat "BUS_RAIL", bmsBus := v.nat "BMS_BUS", bmsAddr := v.nat "BMS_ADDR",
    pRating := v.nat "P_SLOT_RATING", resBottom := v.nat "RES_BOTTOM", resTop := v.nat "RES_TOP", bmsPoll := v.nat "BMS_POLL",
    bmsLoss := v.nat "BMS_LOSS_TIME", fitRmsMax := v.nat "FIT_RMS_MAX", floorRearm := v.nat "FLOOR_REARM",
    driftTol := v.nat "DRIFT_TOL", driftCount := v.nat "DRIFT_COUNT", driftMin := v.nat "DRIFT_MIN_DSOC",
    sohMin := v.nat "SOH_MIN_DSOC", sohGain := v.nat "SOH_GAIN" }

def meterCfgOf (n : Nat) (v : Vals) : MeterCfg :=
  { rShunt := v.nat "R_SHUNT", iGain := v.nat "I_GAIN", vGain := v.nat "V_GAIN", iOffset := v.int "I_OFFSET",
    vOffset := v.int "V_OFFSET", shuntTc := v.int "SHUNT_TC", tCal := v.int "T_CAL", shuntTherm := v.nat "SHUNT_THERM",
    creepI := v.nat "CREEP_I", iRated := v.nat "I_RATED", ledgerCh := decide (n < 0x20) && v.flag "LEDGER_CH" }

def seqCfgOf (v : Vals) : SeqCfg :=
  { steps := (List.range (v.nat "STEPS")).map fun k =>
      { input := v.nat "INPUT" k, format := v.nat "FORMAT" k, diff := v.flag "DIFF" k },
    rateDiv := v.nat "RATE_DIV", interleave := v.flag "INTERLEAVE", base := v.nat "RING_BASE", words := v.nat "RING_WORDS",
    watermark := v.nat "WATERMARK", autoStart := v.flag "AUTO_START" }

def monCfgOf (n : Nat) (v : Vals) : MonCfg :=
  { input := v.nat "WM_INPUT", low := v.nat "LOW", high := v.nat "HIGH", deglitch := v.nat "DEGLITCH",
    irqMask := v.nat "IRQ_MASK", event := v.flag "EVENT", wakeOn := if n < 4 then v.nat "WAKE_ON" else 0 }

def hallCfgOf (v : Vals) : HallCfg :=
  { enable := v.flag "HALL_ENABLE", pairId := if v.flag "HALL_ENABLE" then v.nat "PAIR_ID" else 0,
    pairs := if v.flag "HALL_ENABLE" then v.nat "HALL_PAIRS" else 1, barrierPart := v.flag "BARRIER_PART",
    timePeriod := v.nat "TIME_PERIOD", asym := (List.range 4).map fun i => v.int "LINK_ASYM" i,
    barrierTimeout := v.nat "BARRIER_TIMEOUT", msgTimeout := v.nat "MSG_TIMEOUT", collectRate := v.nat "COLLECT_RATE" }

def recCfgOf (v : Vals) : RecCfg :=
  { period := v.nat "REC_SUMMARY_PERIOD", faultMin := v.nat "REC_FAULT_MIN",
    defs := (List.range 4).map fun d =>
      { enable := v.flag "CAP_ENABLE" d, seq := v.nat "CAP_SEQ" d, pre := v.nat "PRE_WORDS" d, post := v.nat "POST_WORDS" d,
        source := v.nat "TRIG_SOURCE" d, critical := v.flag "TRIG_CRITICAL" d, timer := v.nat "TRIG_CT" d } }

/-- `n` places of an indexed record; none where it is absent (R462). -/
def perIndex {α : Type} (rs : List CfgRec) (typ n : Nat) (f : Nat → Vals → α) : List (Option α) :=
  (List.range n).map fun i => (recOf rs typ i).map fun r => f i r.vals

/-- The records of a rail, without the ones that are absent. -/
def railTable {α : Type} (rs : List CfgRec) (d : α) (f : Vals → α) : List α :=
  (List.range 16).map fun k => ((recOf rs 0x0020 k).map fun r => f r.vals).getD d

/-- The image that the records make (R460). -/
def imageOf (raw : List Byte) (rs : List CfgRec) : Image :=
  let l := singleton rs 0x0060
  let p := singleton rs 0x0090
  { chs := (List.range 32).map (chCfgOf rs), brks := (List.range 32).map (brkCfgOf rs),
    rails := perIndex rs 0x0020 16 fun _ v => railCfgOf v, prots := railTable rs {} railProtOf,
    auxs := railTable rs {} railAuxOf, energy := energyCfgOf (singleton rs 0x0030), caps := capCfgOf (singleton rs 0x0030),
    links := perIndex rs 0x0040 8 fun _ v => linkCfgOf v, modes := modeCfgOf (singleton rs 0x0001), dogs := dogCfgOf rs,
    rectPower := (List.range 32).map fun n => (valsOf rs 0x0010 n).nat "RECT_POWER",
    profiles := (recsOf rs 0x0051).map (fun r => profileCfgOf r.vals), bats := perIndex rs 0x0050 12 fun _ v => batCfgOf v,
    meters := perIndex rs 0x0011 44 meterCfgOf, ledgerPeriod := l.nat "LEDGER_PERIOD", nearFullFrac := l.nat "NEAR_FULL_FRAC",
    therms := (List.range 0x64).map fun i =>
      (recOf rs 0x0012 i).map fun r => { points := (List.range 16).map fun k => (r.vals.int "UV" k, r.vals.int "TEMP" k) },
    seqs := perIndex rs 0x0070 8 fun _ v => seqCfgOf v, mons := perIndex rs 0x0071 24 monCfgOf,
    rectBus := (List.range 32).map fun n =>
      ((valsOf rs 0x0010 n).nat "RECT_BUS", (valsOf rs 0x0010 n).nat "RECT_ADDR"),
    dsBus := (List.range 4).map fun k =>
      match recOf rs 0x0080 k with
      | some r => (r.vals.nat "DS_RATE", r.vals.flag "DS_PEC")
      | none => (100, false),
    pair := { resyncDwell := p.nat "RESYNC_DWELL", vbusTol := p.nat "VBUS_XCHK_TOL", refTol := p.nat "REF_XCHK_TOL",
              laneTol := p.nat "LANE_TOL" },
    hall := hallCfgOf (singleton rs 0x00A0), recs := recCfgOf (singleton rs 0x00C0), seqNo := imgSeq raw,
    signed := imgSigned raw, digest := imgDigest raw }

/-- The image that a slot's bytes hold, its checks having passed. -/
def readImage (raw : List Byte) : Image :=
  imageOf raw ((((headerRecords raw).getD []).filter fun r => !ignoredType r.typ).map decodeRec)

end Sys2Proof.Machine
end

