-- ==== Sys2Proof/Machine/Dogs.lean ====
section
/-! DEFINITION. The watchdogs and the host-loss policy (R416-R423), and the fault and watchdog opcodes (R411, R428,
R429). -/

namespace Sys2Proof.Machine

/-! ## Cycles (R416, R417) -/

def Chip.dog (s : Chip) : Dog → Wd
  | .wd0 => s.dogs.wd0
  | .wd1 => s.dogs.wd1

def Chip.modDog (s : Chip) (d : Dog) (f : Wd → Wd) : Chip :=
  match d with
  | .wd0 => { s with dogs := { s.dogs with wd0 := f s.dogs.wd0 } }
  | .wd1 => { s with dogs := { s.dogs with wd1 := f s.dogs.wd1 } }

/-- The PERIOD that the image gives, in ms. -/
def dogPeriod (s : Chip) (d : Dog) : Nat :=
  match d with
  | .wd0 => s.img.dogs.wd0Period
  | .wd1 => s.img.dogs.wd1Period

/-- PERIOD in force, in ms: a cycle keeps the one it started with (R421). -/
def periodInForce (s : Chip) (d : Dog) : Nat :=
  if (s.dog d).state == .disarmed then dogPeriod s d else (s.dog d).period

/-- WIN in eighths (R416). -/
def winEighths (code : Nat) : Nat := tget [1, 2, 4, 6] (code % 4)

/-- A new challenge and the next sequence (R416); the challenge is a draw of the random source. -/
def newChallenge (s : Chip) (d : Dog) : Chip :=
  let c := s.draw % 2 ^ 32
  s.drawn.modDog d fun w => { w with challenge := c, seq := (w.seq + 1) % 2 ^ 16 }

/-- A cycle starts at hall time `t` (R416). -/
def startCycle (s : Chip) (d : Dog) (t : Nat) : Chip :=
  let p := dogPeriod s d
  (newChallenge s d).modDog d fun w =>
    { w with opening := t + p * 100000 * winEighths w.win / 8, deadline := t + p * 100000, period := p }

/-- The token of a service (R417). -/
def dogToken (w : Wd) (station : Nat) : Nat := (crc32c (le 4 w.challenge ++ le 2 w.seq ++ le 2 station)).toNat % 2 ^ 16

def dogWord (s : Chip) (d : Dog) : Nat := wdWord (s.dog d) (d == .wd1) s.dogs.hostLoss

/-- Posts a watchdog event (R427). -/
def postDog (s : Chip) (d : Dog) (kind : Nat) : Chip := post s 0x09 (faultBody kind 0 0 (dogWord s d) s.hall) []

/-- EXPIRED, and a new cycle from the moment of expiry (R418). -/
def expired (s : Chip) (d : Dog) : Chip :=
  startCycle (s.modDog d fun w => { w with state := .expired, first := true }) d s.hall

/-- An expiry (R418, R419, R422, R445): it is counted, set and posted with the state before it; then the state, the cycle and
the consequence. -/
def expireDog (s : Chip) (d : Dog) : Chip :=
  match d with
  | .wd0 =>
    let s := writeCounts { s with retained := { s.retained with wd0 := sat32 s.retained.wd0 1 } }
    let s := postDog (setFault s 0x1100) .wd0 2
    let s := expired (recPost s 6 0 0 (le 4 (dogWord s .wd0))) .wd0
    let recent := s.now :: (s.dogs.recent0.filter fun t => s.now ≤ t + 600000000).take 2
    let s := { s with dogs := { s.dogs with recent0 := recent } }
    let s := if 3 ≤ recent.length then setFault s 0x1102 else s
    yardStopNow s false
  | .wd1 =>
    let s := writeCounts { s with retained := { s.retained with wd1 := sat32 s.retained.wd1 1 } }
    let s := postDog (setFault s 0x1101) .wd1 3
    let s := expired (recPost s 6 0 0 (le 4 (dogWord s .wd1))) .wd1
    if isActive s then { s with dogs := { s.dogs with enterPend := true, exitPend := false } } else s

/-- A watchdog whose deadline passed 2 ms ago without a good service expires (R418). -/
def dogExpiry (d : Dog) (s : Chip) : Chip :=
  if yardAlive s && (s.dog d).state != .disarmed && decide ((s.dog d).deadline + 200000 ≤ s.hall) then expireDog s d else s

def execWdExpiry (w : Dog) (s : State) : Host.Outcome State Fault Refusal := .next (s.on (dogExpiry w))

/-- A good service: ARMED, and a cycle from `t` (R418); the host-loss policy ends at the next boundary (R422). -/
def goodService (s : Chip) (d : Dog) (t : Nat) : Chip :=
  let s := startCycle (s.modDog d fun w => { w with state := .armed, first := false }) d t
  if d == .wd1 && (s.dogs.hostLoss || s.dogs.enterPend) then { s with dogs := { s.dogs with exitPend := true } } else s

/-- The Yard serves WD0 (R418, R419). -/
def wd0Service (seq token : Nat) (s : Chip) : Chip :=
  let w := s.dogs.wd0
  if !yardWorks s || w.state == .disarmed || seq != w.seq then s
  else if token != dogToken w 0 then expireDog s .wd0
  else if w.first then goodService s .wd0 s.hall
  else if s.hall < w.opening || w.deadline < s.hall then expireDog s .wd0
  else goodService s .wd0 s.hall

def execWd0Service (seq token : Half) (s : State) : Host.Outcome State Fault Refusal :=
  .next (s.on (wd0Service seq.toNat token.toNat))

/-- WD1 disarms (R416, R421, R427). -/
def disarmWd1 (s : Chip) : Chip :=
  if s.dogs.wd1.state == .disarmed then s
  else
    let s := s.modDog .wd1 fun w => { w with state := .disarmed, first := false, opening := 0, deadline := 0, station := 0#16 }
    let s := postDog (newChallenge s .wd1) .wd1 5
    if s.dogs.hostLoss || s.dogs.enterPend then { s with dogs := { s.dogs with exitPend := true } } else s

/-- The host-loss policy enters and ends at a tick boundary (R422); in SERVICE the selected object is turned off (R47). -/
def hostLossStep (s : Chip) : Chip :=
  let s := if s.dogs.enterPend then
      let was := s.dogs.hostLoss
      let s := { s with dogs := { s.dogs with hostLoss := true, enterPend := false } }
      let s := if was then s else postDog s .wd1 6
      if s.mode.mode == .service && s.mode.svcStop.isNone && s.mode.pend.isNone then
        { s with mode := { s.mode with svcStop := some (s.now, .hostLoss), target := .ready } }
      else s
    else s
  if s.dogs.exitPend then
    let was := s.dogs.hostLoss
    let s := { s with dogs := { s.dogs with hostLoss := false, exitPend := false } }
    if was then postDog s .wd1 7 else s
  else s

/-! ## WD_CHALLENGE and WD_SERVE (R428, R429) -/

def bodyWdChallenge : Body := fun rq _ s =>
  let w := s.dogs.wd1
  if s.img.dogs.wd1Period = 0 then (.bare .configInvalid, s)
  else
    let station := if w.state == .disarmed then (s.port rq.port).station else w.station
    (.reply .ok (le 4 w.challenge ++ le 2 w.seq ++ le 2 station.toNat ++ le 8 w.opening ++ le 8 w.deadline), s)

def execWdChallenge (rq : Request) (s : State) : Host.Outcome State Fault Refusal :=
  .next (s.on (serve 0x0004 {} bodyWdChallenge rq))

/-- WD_SERVE; `t` is the hall time at which the port received the request's last byte (R420, R428). -/
def bodyWdServe (t : Nat) : Body := fun rq _ s =>
  let w := s.dogs.wd1
  let off := w.state == .disarmed
  let mine := (s.port rq.port).station
  let station := if off then mine else w.station
  if s.img.dogs.wd1Period = 0 then (.bare .configInvalid, s)
  else if !off && mine != w.station then (.bare .badParam, s)
  else if arg rq 0 2 != w.seq then (.bare .outOfRange, s)
  else if arg rq 2 2 != dogToken w station.toNat then (.bare .denied, if off then s else expireDog s .wd1)
  else if off then
    let s := s.modDog .wd1 fun w => { w with state := .armed, first := true, station := mine }
    let s := postDog (startCycle s .wd1 t) .wd1 4
    (.reply .ok (le 4 (dogWord s .wd1)), s)
  else if !w.first && decide (w.deadline < t) then (.bare .timeout, expireDog s .wd1)
  else if !w.first && decide (t < w.opening) then (.bare .denied, expireDog s .wd1)
  else
    let s := goodService s .wd1 t
    (.reply .ok (le 4 (dogWord s .wd1)), s)

def execWdServe (rq : Request) (received : Nat) (s : State) : Host.Outcome State Fault Refusal :=
  .next (s.on (serve 0x0005 { lenLo := 8, lenHi := 8 } (bodyWdServe received) rq))

/-! ## Fault opcodes (R411, R429) -/

/-- A block exists. -/
def isBlock (b : Nat) : Bool := decide (1 ≤ b) && decide (b ≤ 0x13)

def liveOf (s : Chip) (block : Nat) : List Nat := s.faults.live.filter fun i => i / 256 == block

/-- OR of the reaction masks of the set sticky bits of a block. -/
def maskSum (s : Chip) (block : Nat) : Nat := (stickyOf s block).foldl (fun m i => Nat.lor m (maskOf s i)) 0

def faultScanData (s : Chip) : List Byte :=
  le 8 s.hall ++ (List.range 19).flatMap fun k =>
    le 1 (digest s (stickyOf s (k + 1))) ++ le 1 (digest s (liveOf s (k + 1))) ++ le 1 (maskSum s (k + 1)) ++ zeros 1

def bodyFaultScan : Body := fun _ _ s => (.reply .ok (faultScanData s), s)

def execFaultScan (rq : Request) (s : State) : Host.Outcome State Fault Refusal :=
  .next (s.on (serve 0x0801 { inRecovery := true } bodyFaultScan rq))

/-- The severities of a block, 2 bits each (R429). -/
def sevPage (s : Chip) (block : Nat) : List Byte :=
  (List.range 64).map fun k =>
    let v (i : Nat) : Nat := sevOf s (block * 256 + 4 * k + i)
    BitVec.ofNat 8 (v 0 + 4 * v 1 + 16 * v 2 + 64 * v 3)

def maskPage (s : Chip) (first : Nat) : List Byte := (List.range 128).map fun k => BitVec.ofNat 8 (maskOf s (first + k))

def blockPage (s : Chip) (block page : Nat) : List Byte :=
  match page with
  | 0 => bitmap 32 (fun i => isSticky s (block * 256 + i)) ++ bitmap 32 fun i => s.faults.live.contains (block * 256 + i)
  | 1 => sevPage s block
  | 2 => maskPage s (block * 256)
  | _ => maskPage s (block * 256 + 128)

def bodyFaultBlockGet : Body := fun rq _ s =>
  let b := arg rq 0 1
  let p := arg rq 1 1
  if !isBlock b || 3 < p then (.bare .outOfRange, s)
  else (.reply .ok (le 1 b ++ le 1 p ++ zeros 2 ++ le 4 s.hall ++ blockPage s b p), s)

def execFaultBlockGet (rq : Request) (s : State) : Host.Outcome State Fault Refusal :=
  .next (s.on (serve 0x0802 {} bodyFaultBlockGet rq))

/-- FAULT_CLEAR clears the sticky bits it names; LIVE stays (R411). -/
def bodyFaultClear : Body := fun rq _ s =>
  let b := arg rq 0 1
  if !isBlock b then (.bare .outOfRange, s)
  else
    let named (i : Nat) : Bool := i / 256 == b && bitAt (rq.params.drop 4) (i % 256)
    let s := { s with faults := { s.faults with sticky := s.faults.sticky.filter fun i => !named i } }
    (.reply .ok (le 1 (digest s (stickyOf s b)) ++ zeros 3), s)

def execFaultClear (rq : Request) (s : State) : Host.Outcome State Fault Refusal :=
  .next (s.on (serve 0x0803 { lenLo := 36, lenHi := 36 } bodyFaultClear rq))

def wdGetData (s : Chip) : List Byte :=
  let a := s.dogs.wd0
  let b := s.dogs.wd1
  le 4 (dogWord s .wd0) ++ le 4 (dogWord s .wd1) ++ le 4 (periodInForce s .wd0) ++ le 4 (periodInForce s .wd1)
    ++ le 2 b.station.toNat ++ zeros 2 ++ le 8 a.opening ++ le 8 a.deadline ++ le 8 b.opening ++ le 8 b.deadline

def bodyWdGet : Body := fun _ _ s => (.reply .ok (wdGetData s), s)

def execWdGet (rq : Request) (s : State) : Host.Outcome State Fault Refusal :=
  .next (s.on (serve 0x0805 {} bodyWdGet rq))

def countsData (s : Chip) : List Byte :=
  let r := s.retained
  le 4 r.wd0 ++ le 4 r.wd1 ++ le 4 r.resets ++ le 4 r.flush ++ le 1 r.cause ++ zeros 1
    ++ le 2 (if r.cause = 5 then r.source else 0) ++ le 8 r.w6Hall ++ zeros 4

def bodyCountsGet : Body := fun _ _ s => (.reply .ok (countsData s), s)

def execCountsGet (rq : Request) (s : State) : Host.Outcome State Fault Refusal :=
  .next (s.on (serve 0x0806 { inRecovery := true } bodyCountsGet rq))

end Sys2Proof.Machine
end

