-- ==== Sys2Proof/Machine/Sense.lean ====
section
/-! DEFINITION. The SAR bank, its sequences and DMA rings, the housekeeping scan, window monitors and capture timers
(R266-R286). -/

namespace Sys2Proof.Machine

def Chip.seq (s : Chip) (k : Nat) : Seq := tget s.seqs k
def Chip.modSeq (s : Chip) (k : Nat) (f : Seq → Seq) : Chip := { s with seqs := tset s.seqs k (f (s.seq k)) }
def seqCfg (s : Chip) (k : Nat) : Option SeqCfg := tget s.img.seqs k

def Chip.mon (s : Chip) (m : Nat) : Mon := tget s.mons m
def Chip.modMon (s : Chip) (m : Nat) (f : Mon → Mon) : Chip := { s with mons := tset s.mons m (f (s.mon m)) }
def monCfg (s : Chip) (m : Nat) : Option MonCfg := tget s.img.mons m

def Chip.cap (s : Chip) (t : Nat) : CapTimer := tget s.caps t
def Chip.modCap (s : Chip) (t : Nat) (f : CapTimer → CapTimer) : Chip := { s with caps := tset s.caps t (f (s.cap t)) }

/-- Body of a measurement event (R286). -/
def measBody (s : Chip) (kind idx level changes wptr : Nat) : List Byte :=
  le 1 kind ++ le 1 idx ++ le 1 level ++ le 1 changes ++ le 4 wptr ++ le 8 s.hall

/-! ## Conversion (R267, R268) -/

/-- The code of an input in nV: rounded to the nearest, held at the ends of the range. -/
def sarCode (diff : Bool) (nv : Int) : Int :=
  let c := roundAway (nv * 16384) 2500000000
  if diff then clampI (-8192) 8191 c else clampI 0 16383 c

/-- Distance beyond the nearer edge of the range, in units of 1/2 LSB × 1.25 × 10⁹ (R268): positive outside. -/
def sarBeyond (diff : Bool) (nv : Int) : Int :=
  let x := 2 * 16384 * nv
  let hi : Int := if diff then 16383 else 32767
  let lo : Int := if diff then -16385 else -1
  max (x - hi * 2500000000) (lo * 2500000000 - x)

/-- The input lies below the lower edge. -/
def sarUnder (diff : Bool) (nv : Int) : Bool :=
  decide (2 * 16384 * nv < (if diff then -16385 else -1) * 2500000000)

/-- OVR (R268): clear up to 1 LSB beyond the edge, set more than 3 LSB beyond, a free value between. -/
def sarOvr (s : Chip) (diff : Bool) (nv : Int) : Bool × Chip :=
  let d := sarBeyond diff nv
  if d ≤ 2 * 2500000000 then (false, s)
  else if 6 * 2500000000 < d then (true, s)
  else (s.draw % 2 == 1, s.drawn)

/-- Bits 15:0 of the DMA word (R267). -/
def sarFormat (format : Nat) (code : Int) : Nat :=
  if format = 1 then ((code * 4) % 65536).toNat else (code % 65536).toNat

/-- The DMA word (R273). -/
def dmaWord (ovr under : Bool) (input sar step code : Nat) : Nat :=
  bitN 31 ovr + bitN 30 (ovr && under) + input % 128 * 2 ^ 23 + sar % 8 * 2 ^ 20 + step % 16 * 2 ^ 16 + code % 65536

/-! ## Rings (R274) -/

def wrap32 (n : Nat) : Nat := n % 2 ^ 32

/-- Words from counter `a` up to counter `b`. -/
def distance (a b : Nat) : Nat := wrap32 (b + 2 ^ 32 - a % 2 ^ 32)

def unread (q : Seq) : Nat := distance q.rptr q.wptr

/-- Address of word number `c` (R274). -/
def ringAddr (g : SeqCfg) (c : Nat) : Nat := g.base + 4 * (c % g.words)

/-- The Yard is interrupted (R274, R279). -/
def yardIrq (s : Chip) (i : YardIrq) : Chip := { s with sense := { s.sense with irqs := s.sense.irqs ++ [i] } }

/-- One word is written to the ring and WPTR advances; the watermark, and the words lost (R274). -/
def ringWrite (s : Chip) (k : Nat) (g : SeqCfg) (w : Nat) : Chip :=
  let q := s.seq k
  let s := { s with sram := s.sram.writeWord (ringAddr g q.wptr) w }
  let wptr := wrap32 (q.wptr + 1)
  let n := distance q.rptr wptr
  let lost := n - g.words
  let hit := decide (g.watermark ≤ n)
  let s := s.modSeq k fun q =>
    { q with wptr := wptr, rptr := wrap32 (q.rptr + lost), held := min g.words (q.held + 1), lost := sat32 q.lost lost,
             overrun := q.overrun || decide (0 < lost), hit := hit }
  let s := if 0 < lost then setFault s (0x0900 + k) else s
  if hit && !q.hit then post (yardIrq s (.ring k)) 0x07 (measBody s 2 k 0 0 wptr) [] else s

/-- RPTR moves to a counter (R274). -/
def ringAdvance (s : Chip) (k : Nat) (g : SeqCfg) (goal : Nat) : Chip :=
  let q := s.seq k
  if distance goal q.wptr < unread q then
    s.modSeq k fun q => { q with rptr := goal, hit := decide (g.watermark ≤ distance goal q.wptr) }
  else s

/-- A word written to a sequence's ring reaches the captures that wait for post-trigger words of it, and the ring's RPTR
moves past what they copied (R447). -/
def captureWord (s : Chip) (k : Nat) (g : SeqCfg) (w : Nat) : Chip :=
  let takes (c : Capture) := c.seq == k && decide (c.post.length < c.want)
  if s.sketch.running.any takes then
    let s := { s with sketch := { s.sketch with
      running := s.sketch.running.map fun c => if takes c then { c with post := c.post ++ [BitVec.ofNat 32 w] } else c } }
    ringAdvance s k g (s.seq k).wptr
  else s

/-! ## Slots (R269-R272) -/

/-- A configured rail phase names the input. -/
def phaseNames (s : Chip) (i : Nat) : Bool := (List.range 16).any fun k => (s.railCfg? k).any fun c => c.im.contains i

/-- Slot `n` of a SAR is left to its sequence: no phase current owns it, nor, on ADC7, the housekeeping scan (R269). -/
def slotFree (s : Chip) (sar n : Nat) : Bool := !(decide (sar < 6) && phaseNames s (10 * sar + n)) && !(sar == 7 && n == 0)

/-- The sequence owns the slot at a place of the frame, in units of 100 ns: even places are slots of its own SAR, odd ones
of the odd SAR of an interleaved pair (R271). -/
def ownsSlot (s : Chip) (k : Nat) (g : SeqCfg) (pos : Nat) : Bool :=
  (g.interleave || pos % 2 == 0) && slotFree s (k + pos % 2) (pos / 2)

/-- How many of the sequence's slots lie before a place of the frame. -/
def slotsBefore (s : Chip) (k : Nat) (g : SeqCfg) (pos : Nat) : Nat := ((List.range pos).filter (ownsSlot s k g)).length

/-- Tick at which the present frame started (R269). -/
def frameTick (s : Chip) : Nat := s.now - s.hall / 100 % 2

/-- How many of the sequence's slots, as they are allotted now, have passed since a conversion in the slot `last` (R270): a frame
lasts two ticks. -/
def slotsSince (s : Chip) (k : Nat) (g : SeqCfg) (pos : Nat) (last : Nat × Nat) : Nat :=
  (frameTick s - last.1) / 2 * slotsBefore s k g 20 + slotsBefore s k g pos - slotsBefore s k g last.2

/-- The slot is one that a running sequence takes: its own, within this tick, one out of every RATE_DIV, and under the
thermal throttle the first of its frame (R270, R272). -/
def takesSlot (s : Chip) (k : Nat) (g : SeqCfg) (pos : Nat) : Bool :=
  let q := s.seq k
  ownsSlot s k g pos && pos / 10 == s.hall / 100 % 2 && (q.last.all fun t => g.rateDiv ≤ slotsSince s k g pos t)
    && !(s.sense.capped && q.frame == frameTick s + 1)

/-- The conversion in progress as a stop applies: its slot began at that boundary (R275). -/
def inProgress (s : Chip) (q : Seq) (pos : Nat) : Bool :=
  q.state == .stopping && !q.final && q.stopAt == s.now && pos % 10 == 0

/-- The record that the sequence runs by: one that a commit has replaced stays until the stop completes (R275). -/
def seqInForce (s : Chip) (k : Nat) : Option SeqCfg := (s.seq k).old.orElse fun _ => seqCfg s k

/-- A conversion of a sequence in the slot at a place of the frame (R270, R273). -/
def seqConversion (k pos : Nat) (nv : Int) (s : Chip) : Chip :=
  match seqInForce s k with
  | none => s
  | some g =>
    let q := s.seq k
    if (q.state == .running || inProgress s q pos) && takesSlot s k g pos then
      let st := tget g.steps q.step
      let o := sarOvr s st.diff nv
      let s := o.2
      let w := dmaWord o.1 (sarUnder st.diff nv) st.input (k + pos % 2) q.step
        (sarFormat st.format (sarCode st.diff nv))
      let s := captureWord (ringWrite s k g w) k g w
      s.modSeq k fun q =>
        { q with step := if q.step + 1 < g.steps.length then q.step + 1 else 0, final := q.state == .stopping,
                 frame := frameTick s + 1, last := some (frameTick s, pos) }
    else s

def execSeqConversion (k : Fin 8) (pos : Fin 20) (nv : Int) (s : State) : Host.Outcome State Fault Refusal :=
  .next (s.on (seqConversion k pos nv))

/-! ## Start and stop (R275) -/

/-- The sequence begins at step 0; words lost before count no more for OVERRUN. -/
def seqBegin (s : Chip) (k : Nat) : Chip :=
  s.modSeq k fun q =>
    { q with state := .running, step := 0, final := false, overrun := false, startPend := false, last := none }

/-- A running sequence takes no slot after this boundary (R275). -/
def seqHalt (s : Chip) (k : Nat) (refs : List ReqRef) : Chip :=
  s.modSeq k fun q => { q with state := .stopping, final := false, stopAt := s.now, refs := q.refs ++ refs }

/-- WPTR and RPTR go to zero (R275). -/
def seqZero (s : Chip) (k : Nat) : Chip := s.modSeq k fun q => { q with wptr := 0, rptr := 0, held := 0, hit := false }

/-- The sequence word (R285). -/
def seqWord (s : Chip) (k : Nat) : Nat :=
  let q := s.seq k
  let g := seqCfg s k
  let st := match q.state with | .stopped => 0 | .running => 1 | .stopping => 2
  ((g.map fun g => g.steps.length).getD 0) % 16 * 2 ^ 20 + bitN 19 (g.any SeqCfg.interleave) + bitN 18 q.overrun
    + bitN 17 q.hit + bitN 16 (s.sense.capped && q.state != .stopped) + st

def seqData (s : Chip) (k : Nat) : List Byte := le 4 (seqWord s k)

/-- A start or stop takes effect at the boundary (R275). -/
def applySeq (s : Chip) (e : SeqSet) : Chip :=
  let k := e.seq
  let q := s.seq k
  if e.start then
    if (seqCfg s k).isNone then formReply s e.ref .configInvalid []
    else
      let s := match q.state with
        | .stopped => seqBegin s k
        | .stopping => s.modSeq k fun q => { q with startPend := true }
        | .running => s
      formReply s e.ref .ok (seqData s k)
  else
    match q.state with
    | .running => seqHalt s k [e.ref]
    | .stopping => s.modSeq k fun q => { q with startPend := false, refs := q.refs ++ [e.ref] }
    | .stopped => post s 0x07 (measBody s 1 k 0 0 q.wptr) [(e.ref, .ok)]

/-- The queue of starts and stops takes effect; a handover's freeze applies none (R361). -/
def applySeqQueue (s : Chip) : Chip :=
  if handFrozen s then s
  else
    let q := s.sense.queue
    q.foldl applySeq { s with sense := { s.sense with queue := [] } }

/-- A conversion is in progress as the stop applies, and its word is not written yet (R275). -/
def awaitsWord (s : Chip) (k : Nat) : Bool :=
  match seqInForce s k with
  | some g => [0, 10].any fun pos => inProgress s (s.seq k) pos && takesSlot s k g pos
  | none => false

/-- The final WPTR is published: the stop completes, and a start that waited takes effect (R275).  DESIGN CHOICE: a conversion
in progress whose word has not come by the next tick boundary is waited for no longer. -/
def seqStopComplete (k : Nat) (s : Chip) : Chip :=
  let q := s.seq k
  if q.state == .stopping && !awaitsWord s k then
    let s := s.modSeq k fun q => { q with state := .stopped, refs := [], old := none, zero := false }
    let s := post s 0x07 (measBody s 1 k 0 0 q.wptr) (allWith q.refs .ok)
    let s := if q.zero then seqZero s k else s
    if q.startPend then seqBegin s k else s
  else s

def execSeqStopComplete (k : Fin 8) (s : State) : Host.Outcome State Fault Refusal := .next (s.on (seqStopComplete k))

/-! ## Housekeeping (R269, R284) -/

/-- The input is in the housekeeping scan (R269). -/
def inScan (s : Chip) (i : Nat) : Bool :=
  (decide (0x60 ≤ i) && decide (i ≤ 0x63)) || (tget s.img.therms i).isSome
    || (i != 0xFF && ((List.range 32).any (fun n => (s.brkCfg n).therm == i)
      || (List.range 44).any (fun o => (meterCfg s o).any fun c => c.shuntTherm == i)
      || (List.range 16).any (fun k => (s.railCfg? k).isSome && (s.aux k).tempIn == i)))

/-- A slow result goes to the Yard (R26, R29): into its queue of 1,024, or it is dropped and counted. -/
def queueSlow (s : Chip) : Chip :=
  if !yardAlive s then s
  else if s.sense.slow < 1024 then { s with sense := { s.sense with slow := s.sense.slow + 1 } }
  else setFault { s with sense := { s.sense with slowDrops := sat32 s.sense.slowDrops 1 } } 0x0910

/-- The Yard takes the slow results of the tick while it works; its interrupts of the tick are over.  DESIGN CHOICE: a working
Yard takes all of them. -/
def yardTick (s : Chip) : Chip :=
  { s with sense := { s.sense with slow := if yardWorks s then 0 else s.sense.slow, irqs := [] } }

/-- The input whose reading the scan makes next (R269): round-robin in rising index. -/
def scanNext (s : Chip) : Option Nat :=
  let after := match s.sense.hkLast with
    | some x => (List.range 128).find? fun i => decide (x.1 < i) && inScan s i
    | none => none
  after.orElse fun _ => (List.range 128).find? (inScan s)

/-- The scan has made four conversions, one in each frame of two ticks, since the last reading (R269). -/
def scanReady (s : Chip) : Bool := s.sense.hkLast.all fun x => x.2 + 8 ≤ s.now

/-- A housekeeping reading, when the scan has come to it: the mean of four conversions of one input, in nV each (R269).
DEDUCED: these readings are the slow results of R26. -/
def housekeepingReading (i : Nat) (v : List Int) (s : Chip) : Chip :=
  if s.mode.mode != .off && scanNext s == some i && scanReady s then
    let sum := v.foldl (fun a x => a + sarCode false x) 0
    let o := v.foldl (fun (a : Bool × Chip) x => let r := sarOvr a.2 false x; (a.1 || r.1, r.2)) (false, s)
    let s := o.2
    let r : HkRead :=
      { taken := true, uV := roundAway (sum * 2500000) (16384 * 4), code := rdiv sum 4, ovr := o.1, hall := s.hall,
        tick := s.now }
    queueSlow { s with hk := tset s.hk i r, sense := { s.sense with hkLast := some (i, s.now) } }
  else s

def execHousekeepingReading (inp : BitVec 7) (c0 c1 c2 c3 : Int) (s : State) : Host.Outcome State Fault Refusal :=
  .next (s.on (housekeepingReading inp.toNat [c0, c1, c2, c3]))

/-- HK_STALE: a scanned input has had no reading for 2 ms (R284). -/
def hkStep (s : Chip) : Chip :=
  let old (i : Nat) : Bool := inScan s i && decide (max s.sense.hkSince (tget s.hk i).tick + 2000 ≤ s.now)
  let stale := studioRuns s && (List.range 128).any old
  if stale == s.sense.hkStale then s
  else evalFault { s with sense := { s.sense with hkStale := stale } } 0x0911 stale

/-! ## Window monitors (R277-R279) -/

/-- The level of an input in µV against the thresholds (R277).  DESIGN CHOICE: the 4 mV of hysteresis (R521) hold a level on
the way back to IN. -/
def compareLevel (was : Level) (low high : Nat) (uV : Int) : Level :=
  let x := uV * 1024
  let lo : Int := low * 2500000
  let hi : Int := high * 2500000
  if hi < x then .above
  else if x < lo then .below
  else if was == .above && decide (hi - 4000 * 1024 < x) then .above
  else if was == .below && decide (x < lo + 4000 * 1024) then .below
  else .inWindow

/-- The deglitch count of a comparison that has held for `cycles` cycles: it restarts with a change of the thresholds (R278). -/
def heldFor (s : Chip) (m cycles : Nat) : Nat := min cycles ((s.now + 1 - (s.mon m).setTick) * 100)

/-- The input settles after a change of its index (R278). -/
def settles (s : Chip) (m : Nat) : Bool := (s.mon m).moved.any fun t => s.now < t + 2

/-- IRQ_MASK selects the change into a level (R279). -/
def irqTakes (c : MonCfg) (l : Level) : Bool :=
  c.irqMask.testBit (match l with | .above => 0 | .below => 1 | .inWindow => 2)

def levelCode : Level → Nat
  | .inWindow => 0 | .above => 1 | .below => 2

/-- The window event of a monitor (R279, R286). -/
def windowEvent (s : Chip) (m : Nat) : Chip :=
  let w := s.mon m
  let s := post s 0x07 (measBody s 3 m (levelCode w.level) (min 255 w.changes) 0) []
  s.modMon m fun w => { w with lastEvent := some s.now, changes := 0, deferred := false }

/-- The level of a monitor changes (R277). -/
def moveLevel (m : Nat) (l : Level) (s : Chip) : Chip :=
  s.modMon m fun w => { w with was := w.level, level := l, edges := w.edges + 1 }

/-- A monitor reports a new level (R278, R279). -/
def setLevel (s : Chip) (m : Nat) (c : MonCfg) (l : Level) : Chip :=
  let s := (moveLevel m l s)
  let s := if irqTakes c l && yardAlive s then yardIrq s (.monitor m) else s
  if c.event && yardAlive s then
    let s := s.modMon m fun w => { w with changes := w.changes + 1 }
    if (s.mon m).lastEvent.any fun t => s.now < t + 1000 then s.modMon m fun w => { w with deferred := true }
    else windowEvent s m
  else s

/-- The 1 ms after a monitor's last event has passed with a change waiting (R279). -/
def windowDeferred (m : Nat) (s : Chip) : Chip :=
  let w := s.mon m
  if yardAlive s && w.deferred && (monCfg s m).any MonCfg.event && (w.lastEvent.all fun t => t + 1000 ≤ s.now) then windowEvent s m else s

def execWindowEventDeferred (m : Fin 24) (s : State) : Host.Outcome State Fault Refusal := .next (s.on (windowDeferred m))

/-! ## Capture timers (R282) -/

def isMonSource (src : Nat) : Bool := decide (0x10 ≤ src) && decide (src ≤ 0x27)

/-- The source codes that exist. -/
def isCapSource (c : Nat) : Bool :=
  c == 0 || isMonSource c || (decide (0x40 ≤ c) && decide (c ≤ 0x60)) || (decide (0x80 ≤ c) && decide (c ≤ 0xBF))

/-- The EDGE selection takes this change of a monitor; other sources stamp each assertion. -/
def edgeTakes (s : Chip) (c : CapTimer) (lvl : Nat) : Bool :=
  let src := c.source.toNat
  if isMonSource src then
    match c.edge.toNat with
    | 1 => lvl == 1
    | 2 => lvl == 2
    | 3 => lvl != 0 && (s.mon (src - 0x10)).was == .inWindow
    | 4 => lvl == 0
    | _ => true
  else true

/-- The level in a stamp (R282): a monitor's, a presence pin's, or the 1 of an assertion. -/
def stampLevel (s : Chip) (src : Nat) : Nat :=
  if isMonSource src then levelCode (s.mon (src - 0x10)).level
  else if 0x40 ≤ src && src ≤ 0x5F then bitN 0 (!(s.ch (src - 0x40)).present)
  else 1

/-- What a timer on this source holds once it has stamped all up to now. -/
def captureMark (s : Chip) (src : Nat) : Nat :=
  if isMonSource src then (s.mon (src - 0x10)).edges else stampLevel s src

/-- The source has had an edge that the timer has not stamped: a monitor's level change, a presence pin's change, or another
source's assertion, which lasts no time. -/
def edgeFresh (s : Chip) (c : CapTimer) : Bool :=
  let src := c.source.toNat
  !(isMonSource src || (decide (0x40 ≤ src) && decide (src ≤ 0x5F))) || captureMark s src != c.seen

/-- An armed timer stamps an edge of its source to a level, at a hall time (R282): the level is the one that the source has
now, and the hall time lies in the present tick, 10 ns about. -/
def captureStamp (t : Nat) (src lvl : Byte) (at_ : Nat) (s : Chip) : Chip :=
  let c := s.cap t
  if studioRuns s && c.armed && src != 0#8 && c.source == src && edgeFresh s c
      && decide (s.hall ≤ at_ + 1) && decide (at_ ≤ s.hall + 100) && lvl.toNat == stampLevel s src.toNat && edgeTakes s c lvl.toNat then
    let n := (c.count + 1) % 256
    let mark := captureMark s src.toNat
    let s := (trigTimer s (Fin.ofNat 16 t)).modCap t fun c => { c with seen := mark }
    if (s.cap t).fifo.length < 8 then
      s.modCap t fun c => { c with count := n, fifo := c.fifo ++ [{ hall := at_, level := lvl, count := n }] }
    else setFault (s.modCap t fun c => { c with count := n, overflow := min 255 (c.overflow + 1) }) (0x0920 + t)
  else s

def execCaptureStamp (t : Fin 16) (src lvl : Byte) (at_ : Nat) (s : State) : Host.Outcome State Fault Refusal :=
  .next (s.on (captureStamp t src lvl at_))

/-! ## Opcodes (R285) -/

/-- The measurement status word (R286). -/
def measWord (s : Chip) : Nat :=
  (List.range 8).foldl (fun a k =>
    a + bitN (24 + k) ((s.seq k).state != .stopped) + bitN (16 + k) (s.seq k).overrun) 0
    + bitN 15 s.sense.capped + bitN 14 s.sense.hkStale + bitN 13 (s.sense.slowDrops != 0)

def bodyMeasStatus : Body := fun _ _ s =>
  let lost := (List.range 8).foldl (fun a k => sat32 a (s.seq k).lost) 0
  (.reply .ok (le 4 (measWord s) ++ le 4 s.sense.slowDrops ++ le 4 lost ++ le 8 s.hall), s)

def execMeasStatus (rq : Request) (s : State) : Host.Outcome State Fault Refusal :=
  .next (s.on (serve 0x0C01 {} bodyMeasStatus rq))

def bodySarReading : Body := fun rq _ s =>
  let i := arg rq 0 1
  let h := tget s.hk i
  if !inScan s i then (.bare .badParam, s)
  else (.reply .ok (leI 4 h.uV ++ leI 2 h.code ++ le 1 (bitN 0 h.ovr) ++ zeros 1 ++ le 8 h.hall), s)

def execSarReading (rq : Request) (s : State) : Host.Outcome State Fault Refusal :=
  .next (s.on (serve 0x0C02 {} bodySarReading rq))

def queueSeq (s : Chip) (k : Nat) (start : Bool) (r : ReqRef) : Chip :=
  { s with sense := { s.sense with queue := s.sense.queue ++ [{ seq := k, start := start, ref := r }] } }

def bodySeqStart : Body := fun rq r s =>
  let k := arg rq 0 1
  if 7 < k then (.bare .outOfRange, s)
  else if (seqCfg s k).isNone then (.bare .configInvalid, s)
  else (.later, queueSeq s k true r)

def execSeqStart (rq : Request) (s : State) : Host.Outcome State Fault Refusal :=
  .next (s.on (serve 0x0C03 {} bodySeqStart rq))

def bodySeqStop : Body := fun rq r s =>
  let k := arg rq 0 1
  if 7 < k then (.bare .outOfRange, s)
  else if (s.seq k).state == .stopped && !(s.sense.queue.any fun e => e.seq == k) then (.reply .ok (seqData s k), s)
  else (.reply .accepted (seqData s k), queueSeq s k false r)

def execSeqStop (rq : Request) (s : State) : Host.Outcome State Fault Refusal :=
  .next (s.on (serve 0x0C04 {} bodySeqStop rq))

def bodySeqGet : Body := fun rq _ s =>
  let k := arg rq 0 1
  let q := s.seq k
  if 7 < k then (.bare .outOfRange, s)
  else (.reply .ok (seqData s k ++ le 4 q.wptr ++ le 4 q.rptr ++ le 4 q.lost), s)

def execSeqGet (rq : Request) (s : State) : Host.Outcome State Fault Refusal :=
  .next (s.on (serve 0x0C05 {} bodySeqGet rq))

/-- The start lies beyond WPTR: no word held has a counter at or above it (R285). -/
def ringBeyond (q : Seq) (start : Nat) : Bool :=
  decide (q.held < distance start q.wptr) && decide (2 ^ 31 ≤ distance start q.wptr)

/-- Counter of the first word answered, and the number of words (R285). -/
def ringRun (p : Port) (q : Seq) (most start : Nat) : Nat × Nat :=
  let avail := min (distance start q.wptr) q.held
  let fitting := min avail (unitsThatFit p 8 4)
  (wrap32 (q.wptr + 2 ^ 32 - avail), if most = 0 then fitting else min most fitting)

/-- The words of a run, from the ring. -/
def runWords (s : Chip) (g : SeqCfg) (run : Nat × Nat) : List Byte :=
  (List.range run.2).flatMap fun i => le 4 (s.sram.readWord (ringAddr g (wrap32 (run.1 + i))))

/-- Counter after the run. -/
def ringLast (run : Nat × Nat) : Nat := wrap32 (run.1 + run.2)

/-- Unread words stay after the run. -/
def ringMore (s : Chip) (k : Nat) (run : Nat × Nat) : Bool :=
  decide (0 < min (distance (ringLast run) (s.seq k).wptr) (unread (s.seq k)))

/-- MEAS_RING_READ: whole words from the lowest held counter at or above the start (R285). -/
def ringRead (s : Chip) (p : Port) (k : Nat) (g : SeqCfg) (advance : Bool) (most start : Nat) : Ans × Chip :=
  if ringBeyond (s.seq k) start then (.bare .outOfRange, s)
  else
    let run := ringRun p (s.seq k) most start
    let words := runWords s g run
    let s := if advance then ringAdvance s k g (ringLast run) else s
    (.reply .ok (le 4 run.1 ++ le 4 run.2 ++ words) (ringMore s k run), s)

def bodyMeasRingRead : Body := fun rq _ s =>
  let k := arg rq 0 1
  if 7 < k then (.bare .outOfRange, s)
  else
    match seqInForce s k with
    | none => (.bare .configInvalid, s)
    | some g => ringRead s rq.port k g (arg rq 1 1 % 2 == 1) (arg rq 2 2) (arg rq 4 4)

def execMeasRingRead (rq : Request) (s : State) : Host.Outcome State Fault Refusal :=
  .next (s.on (serve 0x0C06 { lenLo := 8, lenHi := 8 } bodyMeasRingRead rq))

def bodyWmGetAll : Body := fun _ _ s =>
  (.reply .ok (le 8 ((List.range 24).foldl (fun a m => a + levelCode (s.mon m).level * 2 ^ (2 * m)) 0)), s)

def execWmGetAll (rq : Request) (s : State) : Host.Outcome State Fault Refusal :=
  .next (s.on (serve 0x0C10 {} bodyWmGetAll rq))

def bodyWmSet : Body := fun rq _ s =>
  let m := arg rq 0 1
  let low := arg rq 4 2
  let high := arg rq 6 2
  if high < low then (.bare .badParam, s)
  else if 23 < m || 1023 < high then (.bare .outOfRange, s)
  else if (monCfg s m).isNone then (.bare .configInvalid, s)
  else
    let s := s.modMon m fun w => { w with deglitch := arg rq 1 1, low := low, high := high, setTick := s.now }
    (.reply .ok (le 2 low ++ le 2 high), s)

def execWmSet (rq : Request) (s : State) : Host.Outcome State Fault Refusal :=
  .next (s.on (serve 0x0C11 { lenLo := 8, lenHi := 8 } bodyWmSet rq))

def bodyCapArm : Body := fun rq _ s =>
  let t := arg rq 0 1
  let src := arg rq 1 1
  let edge := arg rq 2 1
  let arm := arg rq 3 1 % 2 == 1
  if !isCapSource src || (isMonSource src && decide (4 < edge)) then (.bare .badParam, s)
  else if 15 < t then (.bare .outOfRange, s)
  else
    let mark := captureMark s src
    let s := s.modCap t fun c =>
      let c := { c with source := BitVec.ofNat 8 src, seen := mark, edge := BitVec.ofNat 8 edge, armed := arm }
      if arm then c else { c with fifo := [], count := 0 }
    (.reply .ok (le 1 src ++ le 1 edge ++ le 1 (bitN 0 arm) ++ le 1 (s.cap t).fifo.length), s)

def execCapArm (rq : Request) (s : State) : Host.Outcome State Fault Refusal :=
  .next (s.on (serve 0x0C20 {} bodyCapArm rq))

def stampBytes (x : Stamp) : List Byte := le 8 x.hall ++ [x.level] ++ le 1 x.count ++ zeros 2

def bodyCapRead : Body := fun rq _ s =>
  let t := arg rq 0 1
  if 15 < t then (.bare .outOfRange, s)
  else
    let c := s.cap t
    let out := c.fifo.take (unitsThatFit rq.port 4 12)
    let s := s.modCap t fun c => { c with fifo := c.fifo.drop out.length }
    (.reply .ok (le 1 out.length ++ le 1 c.overflow ++ zeros 2 ++ out.flatMap stampBytes)
      (decide (out.length < c.fifo.length)), s)

def execCapRead (rq : Request) (s : State) : Host.Outcome State Fault Refusal :=
  .next (s.on (serve 0x0C21 {} bodyCapRead rq))

end Sys2Proof.Machine
end

