-- ==== Sys2Proof/Machine/Configs.lean ====
section
/-! DEFINITION. Configuration staging, reads and commits, and what takes effect when an image is applied (R468-R479, R18-R20,
R228, R252, R275). -/

namespace Sys2Proof.Machine

/-! ## Replies (R477) -/

/-- A CONFIG_INVALID reply of a configuration opcode (R477). -/
def Ans.invalid (c : CfgCheck) : Ans :=
  .reply .configInvalid (le 1 c.code ++ zeros 1 ++ le 2 c.typ ++ le 2 c.idx ++ zeros 2 ++ le 4 c.off)

def cfgWordReply (st : Status) (s : Chip) : Ans × Chip := (.reply st (le 4 (cfgWord s)), s)

/-- A good state block names the committed slot (R456, R472). -/
def hasState (s : Chip) : Bool := (newerBlock s).isSome

/-! ## Reads (R476) -/

def cfgInfoData (s : Chip) : List Byte :=
  let c := s.cfg
  let other := slotBytes s (otherSlot s)
  let mine := if hasState s then slotBytes s c.slot else []
  let open_ := c.stage != .none
  le 4 (cfgWord s) ++ le 2 (if s.imgValid then 1 else 0) ++ le 2 1 ++ le 4 (committedSeq s)
    ++ le 4 (if other.isEmpty then 0 else imgSeq other) ++ fit 32 (if mine.isEmpty then [] else imgDigest mine)
    ++ fit 32 (if otherValid s then imgDigest other else []) ++ le 4 (if open_ then c.staged.length else 0)
    ++ le 4 (if open_ then c.stageLen else 0) ++ le 8 c.flipHall

def bodyCfgInfo : Body := fun _ _ s =>
  if mramBad s (slotBase s.cfg.slot) 128 || mramBad s (slotBase (otherSlot s)) 128 then (.ecc, s)
  else (.reply .ok (cfgInfoData s), s)

def execCfgInfo (rq : Request) (s : State) : Host.Outcome State Fault Refusal := .next (s.on (serve 0x0701 {} bodyCfgInfo rq))

/-- The bytes, LENGTH and MRAM address of a source; none where it holds no image. -/
def cfgSource (s : Chip) (src : Nat) : Option (List Byte × Nat × Nat) :=
  if src = 2 then
    if s.cfg.stage == .none then none else some (s.cfg.staged, s.cfg.stageLen, stageBase)
  else
    let slot := if src = 0 then s.cfg.slot else otherSlot s
    let raw := slotBytes s slot
    if raw.isEmpty || (src = 0 && !hasState s) then none else some (raw, raw.length, slotBase slot)

def bodyCfgRead : Body := fun rq _ s =>
  let src := arg rq 0 1
  let off := arg rq 4 4
  let most := arg rq 8 2
  if 2 < src then (.bare .badParam, s)
  else if off % 4 != 0 || most % 4 != 0 then (.bare .outOfRange, s)
  else
    match cfgSource s src with
    | none => (.invalid {}, s)
    | some (raw, len, base) =>
      if len ≤ off then (.bare .outOfRange, s)
      else
        let room := unitsThatFit rq.port 8 4 * 4
        let left := raw.drop off
        let data := left.take (if most = 0 then room else min most room)
        if mramBad s (base + off) data.length then (.ecc, s)
        else (.reply .ok (le 4 off ++ le 4 len ++ data) (decide (data.length < left.length)), s)

def execCfgRead (rq : Request) (s : State) : Host.Outcome State Fault Refusal :=
  .next (s.on (serve 0x0702 { lenLo := 12, lenHi := 12 } bodyCfgRead rq))

/-! ## Staging (R468) -/

/-- COMMITTING: a commit copies and checks, or has flipped and not been applied yet (R469). -/
def committing (s : Chip) : Bool := s.cfg.copying.isSome || s.cfg.apply.isSome

/-- An abandoned verification ends its CFG_STAGE_END with ABORTED (R304, R468). -/
def abandonStage (s : Chip) : Chip :=
  let ref := s.cfg.endRef.toList
  let was := s.cfg.stage
  let s := closeStage s
  if was == .none then s else postCfg s 4 0 (allWith ref .aborted)

def bodyStageBegin : Body := fun rq _ s =>
  let len := arg rq 4 4
  if !lengthGood len then (.bare .outOfRange, s)
  else if committing s || (s.cfg.stage != .none && arg rq 0 1 % 2 == 0) then (.bare .denied, s)
  else
    let s := (abandonStage s).modCfg fun c => { c with stage := .opened, stagePort := rq.port, stageLen := len }
    cfgWordReply .ok s

def execCfgStageBegin (rq : Request) (s : State) : Host.Outcome State Fault Refusal :=
  .next (s.on (serve 0x0703 { lenLo := 8, lenHi := 8 } bodyStageBegin rq))

/-- The port may write to the open stage. -/
def stageOpenFor (s : Chip) (p : Port) : Bool := !committing s && s.cfg.stage == .opened && s.cfg.stagePort == p

def bodyStageWrite : Body := fun rq _ s =>
  let data := rq.params.drop 4
  let n := s.cfg.staged.length
  if !stageOpenFor s rq.port then (.bare .denied, s)
  else if arg rq 0 4 != n || s.cfg.stageLen < n + data.length then (.bare .outOfRange, s)
  else
    let s := mramWritten (stageBase + n) data.length s
    cfgWordReply .ok (s.modCfg fun c => { c with staged := c.staged ++ data })

def execCfgStageWrite (rq : Request) (s : State) : Host.Outcome State Fault Refusal :=
  .next (s.on (serve 0x0704 { lenLo := 4, lenHi := 4096, lenUnit := 4 } bodyStageWrite rq))

def bodyStageEnd : Body := fun rq r s =>
  if !stageOpenFor s rq.port || s.cfg.staged.length != s.cfg.stageLen then (.bare .denied, s)
  else cfgWordReply .accepted (s.modCfg fun c => { c with stage := .verifying, endRef := some r })

def execCfgStageEnd (rq : Request) (s : State) : Host.Outcome State Fault Refusal :=
  .next (s.on (serve 0x0705 {} bodyStageEnd rq))

/-- The Tack Room has checked the staged image (R467, R468). -/
def stageChecked (s : Chip) : Chip :=
  if !yardAlive s || s.cfg.stage != .verifying then s
  else
    let ref := s.cfg.endRef.toList
    let r := checkStaged s stageBase s.cfg.staged
    let code := (failing r).code
    let s := s.modCfg fun c => { c with lastCheck := code, endRef := none }
    if passes r then postCfg (s.modCfg fun c => { c with stage := .verified }) 1 0 (allWith ref .ok)
    else postCfg (setFault (closeStage s) 0x1203) 1 code (allWith ref .configInvalid)

def execCfgStageChecked (s : State) : Host.Outcome State Fault Refusal := .next (s.on stageChecked)

/-! ## Commit conditions (R470, R473) -/

/-- The mode turns a commit away. -/
def commitModeBad (s : Chip) : Bool := s.mode.mode == .bridge || s.mode.stage != .none || inHandover s

/-- A changed ROLE, GANG or INRUSH_METHOD on a channel that is driven, or LOCKED (R19, R470). -/
def channelHeld (s : Chip) (new : Image) (n : Nat) : Bool :=
  let a := s.chCfg n
  let b := tget new.chs n
  let c := s.ch n
  let changed := a.role != b.role || a.gangSize != b.gangSize || a.leader != b.leader || a.ks240 != b.ks240
  changed && (c.main != .off || c.pre != .off || (s.ch (leaderOf s n)).state == .locked)

/-- The structure of a rail's record (R470). -/
def railShape (c : Option RailCfg) : Option (Bool × Bool × Nat × Nat × List Nat × Nat × Nat × Nat) :=
  c.map fun c => (c.bus, c.buckBoost, c.firstLane, c.lanes, c.im, c.pwmPeriod, c.senseDiv, c.vinSrc)

def railHeld (s : Chip) (new : Image) (k : Nat) : Bool :=
  railShape (s.railCfg? k) != railShape (tget new.rails k) && (s.rail k).lp.switching

def linkBind (c : Option LinkCfg) : Option (Nat × Nat) := c.map fun c => (c.channel, c.rail)

def linkHeld (s : Chip) (new : Image) (n : Nat) : Bool :=
  let b := s.burst n
  linkBind (s.linkCfg? n) != linkBind (tget new.links n)
    && (b.grant == .pending || b.grant == .full || b.grant == .partial_ || (s.link n).llak)

/-- A severity or mask would change under a set sticky bit, or in LOCKOUT (R413, R465).  DEDUCED: the end of a run-time setting
by the commit is such a change too, since a severity never changes under a set bit. -/
def faultHeld (s : Chip) (new : Image) : Bool :=
  let t := { s with img := new, faults := { s.faults with overrides := [] } }
  let moved (id : Nat) : Bool := sevOf s id != sevOf t id || maskOf s id != maskOf t id
  let named := (s.faults.overrides ++ s.img.dogs.entries ++ new.dogs.entries).map SevSet.source
  s.faults.sticky.any moved || (s.mode.mode == .lockout && named.any moved)

/-- A structural change meets an object in use (R19, R470). -/
def structureHeld (s : Chip) (new : Image) : Bool :=
  (List.range 32).any (channelHeld s new) || (List.range 16).any (railHeld s new) || (List.range 8).any (linkHeld s new)

/-- ROLE and role generation of every channel are those committed (R473). -/
def sameRoles (s : Chip) (new : Image) : Bool :=
  !s.imgValid || (List.range 32).all fun n =>
    (s.chCfg n).role == (tget new.chs n).role && (s.chCfg n).gen == (tget new.chs n).gen

/-- The bytes that a commit takes: source 1 STAGING, 2 OTHER_SLOT. -/
def commitBytes (s : Chip) (src : Nat) : List Byte := if src = 1 then s.cfg.staged else slotBytes s (otherSlot s)

/-- The image `raw` of a source may not take effect now, the mode and another commit apart (R465, R470, R473). -/
def commitHeld (s : Chip) (src expected : Nat) (raw : List Byte) : Bool :=
  (src == 1 && (s.cfg.stage != .verified || imgSeq s.cfg.staged != expected))
    || (src == 2 && !sameRoles s (readImage raw)) || structureHeld s (readImage raw) || faultHeld s (readImage raw)

/-- The conditions of R470 and R473 beyond the mode; none where the commit may go on. -/
def commitRefused (s : Chip) (src expected : Nat) : Option Status :=
  if commitHeld s src expected (commitBytes s src) then some .denied
  else if committing s then some .busyRetry
  else none

/-- The other slot is checked for a commit: LAST_CHECK shows the outcome (R473, R478). -/
def otherChecked (src : Nat) (s : Chip) : Chip :=
  if src = 2 then s.modCfg fun c => { c with lastCheck := (failing (otherCheck s)).code } else s

/-- CFG_COMMIT (R469, R470, R476). -/
def bodyCfgCommit : Body := fun rq r s =>
  let src := arg rq 0 1
  let s := if commitModeBad s then s else otherChecked src s
  if commitModeBad s then (.notInMode s, s)
  else if src != 1 && src != 2 then (.bare .badParam, s)
  else if src == 2 && !otherValid s then (.invalid (failing (otherCheck s)), s)
  else
    match commitRefused s src (arg rq 4 4) with
    | some st => (.bare st, s)
    | none =>
      if boxRoom s then cfgWordReply .accepted (offerBox s .commit 0x0706 rq r)
      else (.later, offerBox s .commit 0x0706 rq r)

def execCfgCommit (rq : Request) (s : State) : Host.Outcome State Fault Refusal :=
  .next (s.on (serve 0x0706 { lenLo := 8, lenHi := 8 } bodyCfgCommit rq))

/-! ## The commit (R469) -/

/-- The place of the older state block, a bad one before a good one. -/
def olderBlock (s : Chip) : Nat :=
  let a : CfgBlock := tget s.cfg.blocks 0
  let b : CfgBlock := tget s.cfg.blocks 1
  if !cfgBlockGood s 0 then 0 else if !cfgBlockGood s 1 then 1 else if a.count ≤ b.count then 0 else 1

/-- The flip: the older state block names the other slot. -/
def flipState (raw : List Byte) (r : ReqRef) (s : Chip) : Chip :=
  let slot := otherSlot s
  let k := olderBlock s
  let top := ((newerBlock s).map CfgBlock.count).getD 0
  let b : CfgBlock := { slot := slot, seq := imgSeq raw, count := (top + 1) % 2 ^ 32 }
  let s := mramWritten (cfgBlockBase k) ((Config.cfgBlockPlace k).2 + 1) s
  s.modCfg fun c =>
    { c with blocks := tset c.blocks k { b with crc := cfgBlockCrc b }, slot := slot, flipHall := s.hall,
             apply := some (raw, r, s.now) }

/-- The copy is made and read back (R469). -/
def copyChecked (src : Nat) (raw : List Byte) (s : Chip) : Option CfgCheck × Chip :=
  if src = 2 then (none, s)
  else
    let s := mramWritten (slotBase (otherSlot s)) raw.length (putSlot (otherSlot s) raw s)
    match firstFour s (slotBase (otherSlot s)) raw with
    | .error c => (some c, s.modCfg fun x => { x with lastCheck := c.code })
    | .ok _ => (none, s)

/-- COMMITTING sets and the copy begins: the slot not committed holds no image any more (R469). -/
def startCopy (src expected : Nat) (raw : List Byte) (r : ReqRef) (s : Chip) : Chip :=
  let s := if src = 2 then s else putSlot (otherSlot s) [] s
  s.modCfg fun c => { c with copying := some { src := src, expected := expected, raw := raw, ref := r, since := s.now } }

/-- The copy has been read back: the checks once more, then the flip; where one fails, the stage stays VERIFIED (R469). -/
def endCopy (k : CfgCopy) (s : Chip) : Chip :=
  let s := s.modCfg fun c => { c with copying := none }
  let c := copyChecked k.src k.raw s
  match c.1 with
  | some f => postCfg c.2 3 f.code [(k.ref, .aborted)]
  | none =>
    if commitModeBad c.2 || commitHeld c.2 k.src k.expected k.raw then postCfg c.2 3 0 [(k.ref, .aborted)]
    else flipState k.raw k.ref c.2

/-- µs by which a commit's flip is made after its entry was taken: 50 ms and 0.5 ms per KiB (R469). -/
def copyTime (len : Nat) : Nat := 50000 + len * 500 / 1024

/-- A commit's flip comes at a boundary that the spec leaves open, and not after its bound (R469). -/
def copyTick (s : Chip) : Chip :=
  match s.cfg.copying with
  | some k =>
    let free := s.draw % 2 == 1
    let s := s.drawn
    if free || decide (k.since + copyTime k.raw.length ≤ s.now) then endCopy k s else s
  | none => s

/-- The Tack Room takes a commit's entry (R433, R469).  DEDUCED: a check that fails sets MAILBOX_DENIED, and the request completes
with the status that the commit's own chapter gives that check. -/
def takeCommit (e : BoxEntry) (s : Chip) : Chip :=
  let src := field e.params 0 1
  let raw := commitBytes s src
  let s := if commitModeBad s then s else otherChecked src s
  if commitModeBad s then postCfg (setFault s 0x1305) 3 0 [(e.ref, .notInMode)]
  else if src = 2 && !otherValid s then
    postCfg (setFault s 0x1305) 3 (failing (otherCheck s)).code [(e.ref, .configInvalid)]
  else
    match commitRefused s src (field e.params 4 4) with
    | some st => postCfg (setFault s 0x1305) 3 0 [(e.ref, st)]
    | none => startCopy src (field e.params 4 4) raw e.ref s

/-! ## Applying an image (R471) -/

/-- The binding, BMS address or profile of a slot differs between two images (R228). -/
def batMoved (old new : Image) (j profile : Nat) : Bool :=
  let key (im : Image) := (tget im.bats j).map fun b => (b.channel, b.rail, b.bmsBus, b.bmsAddr)
  let prof (im : Image) := im.profiles.find? fun p => p.id == profile
  key old != key new || (profile != 0 && prof old != prof new)

/-- A slot whose binding or profile changes: its session closes with cause ADMIN (R228, R253). -/
def endBinding (new : Image) (j : Nat) (s : Chip) : Chip :=
  let b := s.bat j
  if b.admState != .empty && batMoved s.img new j b.profile then
    let s := askClose s j 3
    let refs := b.admitRefs ++ b.releaseRefs
    let s := s.modBat j fun b =>
      { b with admitRefs := [], releaseRefs := [], passed := false, tempRetry := none, serial := [], profile := 0 }
    setAdmit s j .empty .none (allWith refs .aborted)
  else s

/-- Admission runs again for a slot whose binding changed, with its module in place (R228).  DESIGN CHOICE: it runs also for a
slot that the commit configures. -/
def readmit (old : Image) (profile j : Nat) (was : Admit) (s : Chip) : Chip :=
  if (was != .empty || (tget old.bats j).isNone) && batMoved old s.img j profile && feedPresent s j then startAdmission s j
  else s

/-- Both ports show a changed role generation (R306). -/
def showRoles (s : Chip) : Chip :=
  let s := s.modPort .tw fun p => { p with roleSeen := true }
  s.modPort .spi fun p => { p with roleSeen := true }

/-- The codes of a member's comparator DACs are computed at the commit (R86). -/
def dacFromImage (n : Nat) (s : Chip) : Chip :=
  let shunt := ((meterCfg s n).map MeterCfg.rShunt).getD 0
  let b := s.brkCfg n
  let l := s.brkCfg (leaderOf s n)
  s.modCh n fun c =>
    { c with brk := { c.brk with instCode := comparatorCode b.rating l.instMult shunt,
                                 scCode := comparatorCode b.rating l.scMult shunt } }

/-- LIVE follows the evaluations that an image ends: the model's on a channel that runs it no more, the thermistor's where
none is named; a newly named thermistor has given no reading yet (R97, R107, R403). -/
def soaFromImage (old : Image) (n : Nat) (s : Chip) : Chip :=
  let therm := (s.brkCfg n).therm
  let s := if soaRuns s n && !followsLeader s n then s else setLive s (chSource 3 1 n) false
  let s := if soaRuns s n && !followsLeader s n && therm != 0xFF then s else setLive s (chSource 3 2 n) false
  if (tget old.brks n : BrkCfg).therm == therm then s
  else s.modCh n fun c => { c with brk := { c.brk with tref := none, trefBad := false, trefOk := none } }

/-- A role change at its boundary (R20, R102).  A channel whose drivers are on, as R19 leaves none, stops with no cause. -/
def roleChange (old : Image) (n : Nat) (s : Chip) : Chip :=
  let a := tget old.chs n
  let b := s.chCfg n
  if a.role == b.role && a.gen == b.gen then s
  else
    let s := s.modCh n fun c =>
      { c with intentOn := false, brk := { c.brk with acc := 0, retries := 0, due := none, retryNext := false } }
    let s := showRoles s
    match (s.ch n).state with
    | .off | .locked => s
    | .waitPresent | .cooling | .tripped => chIdle s n .off .roleChanged
    | _ => chIdle (driversOff s n .strong) n .off .roleChanged

/-- Run-time values of a rail return to the image, and a changed V_TARGET sets ATTN (R193); one that is configured no
more is as it was at wake (R137, R471); one without a temperature input keeps no level of one (R136). -/
def railFromImage (k : Nat) (s : Chip) : Chip :=
  match s.railCfg? k with
  | some c =>
    let s := if (s.rail k).vTarget != c.vTarget then attnRail s k else s
    let blind := (s.aux k).tempIn == 0xFF
    s.modRail k fun r =>
      { r with vTarget := c.vTarget, setSlew := c.setSlew, temp := if blind then none else r.temp,
               otWarn := r.otWarn && !blind, otSd := r.otSd && !blind, tempBad := r.tempBad && !blind,
               tempOk := if blind then none else r.tempOk }
  | none =>
    let refs := (s.rail k).refs
    let s := setRailState (s.modRail k fun r => { r with refs := [] }) k .off (allWith refs .aborted)
    s.setRail k { lastChange := (s.rail k).lastChange }

/-- A rectifier that the image binds anew is a first contact (R336): nothing is known of it, and its VOUT_MODE and MFR_POUT_MAX are
read at once. -/
def rectFromImage (old : Image) (n : Nat) (s : Chip) : Chip :=
  if (s.chCfg n).role != 1 || ((tget old.chs n).role == 1 && tget old.rectBus n == tget s.img.rectBus n) then s
  else s.modRect n fun r =>
    { onTick := r.onTick, wantMode := true, wantPower := true, wantStatus := true }

/-- A load link takes LL_ENABLE from the image; one that is configured no more is as it was at wake, its grant withdrawn and
its LINK DOWN (R177, R187, R198, R205).  DESIGN CHOICE: LL_ENABLE, whose effect the spec does not state, clear sets DISABLED,
at wake and at a commit that changes it, and refuses no pending request (R201). -/
def linkFromImage (old : Image) (n : Nat) (s : Chip) : Chip :=
  match s.linkCfg? n with
  | some c =>
    if (tget old.links n).map LinkCfg.enable == some c.enable then s
    else s.modLink n fun l => { l with disabled := !c.enable }
  | none =>
    let s := if (s.burst n).running then endGrant s n .withdrawn .linkDisabled else refuseBurst s n .linkDisabled
    ((setLinkState s n .down).setLink n {}).setBurst n {}

/-- A changed sequence stops by its old record, and stays stopped; the counters of a changed ring are zero after that (R275). -/
def seqFromImage (old : Image) (k : Nat) (s : Chip) : Chip :=
  let a : Option SeqCfg := tget old.seqs k
  let b := seqCfg s k
  if a == b then s
  else
    let ring := (a.map fun g => (g.base, g.words)) != b.map fun g => (g.base, g.words)
    let s := if (s.seq k).state == .running then seqHalt s k [] else s
    let s := s.modSeq k fun q => { q with startPend := false }
    if (s.seq k).state == .stopped then if ring then seqZero s k else s
    else s.modSeq k fun q => { q with old := q.old.orElse fun _ => a, zero := q.zero || ring }

/-- The calibration of a metering record: all of it but LEDGER_CH (R261). -/
def calibration (c : MeterCfg) : MeterCfg := { c with ledgerCh := false }

/-- The object's calibration in force is kept (R250). -/
def calKept (o : Nat) (s : Chip) : Chip :=
  let c := (meterCfg s o).map calibration
  s.modMeter o fun m => { m with cal := c }

/-- CAL_CHANGED where an object's calibration differs from the last in force (R250).  DESIGN CHOICE: the first calibration that
a part ever takes is no change. -/
def calFromImage (had : Bool) (o : Nat) (s : Chip) : Chip :=
  let same := (s.meter o).cal == (meterCfg s o).map calibration || ((s.meter o).cal.isNone && !had)
  let s := calKept o s
  if same then s
  else s.modMeter o fun m => { m with flags := { m.flags with cal := true }, shelfFlags := { m.shelfFlags with cal := true } }

/-- A monitor takes its thresholds and its input from the image (R278, R471); without EVENT no event waits (R279). -/
def monFromImage (old : Image) (m : Nat) (s : Chip) : Chip :=
  match monCfg s m with
  | some c =>
    let input := (tget old.mons m : Option MonCfg).map MonCfg.input
    s.modMon m fun w =>
      { w with low := c.low, high := c.high, deglitch := c.deglitch, deferred := w.deferred && c.event,
               setTick := if w.low == c.low && w.high == c.high then w.setTick else s.now,
               moved := if input == some c.input then w.moved else some s.now }
  | none => s.modMon m fun _ => {}

/-- LEDGER_PERIOD follows the period in progress; without an image in force before, none is in progress (R252). -/
def periodFromImage (first : Bool) (s : Chip) : Chip :=
  let p := s.img.ledgerPeriod
  s.setLedger fun l =>
    if first then { l with period := p, periodNext := none }
    else { l with periodNext := if p == l.period then none else some p }

/-- What the image in force decides outside the objects: caps, severities, the keep-alive monitors, the scan (R413, R471,
R483). -/
def bookFromImage (s : Chip) : Chip :=
  { s with
    energy := { s.energy with shelfCap := s.img.caps.shelfCap },
    faults := { s.faults with overrides := [] },
    ostler := { s.ostler with mons := (List.range 4).map fun m => (monCfg s m).getD {} } }

/-- An input that joins the housekeeping scan is judged stale from its joining on (R284). -/
def scanFromImage (was : Nat → Bool) (i : Nat) (s : Chip) : Chip :=
  if inScan s i && !was i then { s with hk := tset s.hk i { tget s.hk i with tick := s.now } } else s

/-- The hall identity differs (R471). -/
def hallMoved (old : Option HallCfg) (new : HallCfg) : Bool :=
  match old with
  | some a => a.enable != new.enable || a.pairId != new.pairId || a.pairs != new.pairs
  | none => new.enable

/-- The image takes effect (R471). -/
def applyImage (new : Image) (s : Chip) : Chip :=
  let old := s.img
  let had := s.imgValid
  let scanned := inScan s
  let bats := s.bats
  let s := forEach 12 (endBinding new) s
  let s := { s with img := new, imgValid := true }
  let s := forEach 128 (scanFromImage scanned) (bookFromImage s)
  let s := forEach 32 (roleChange old) s
  let s := forEach 32 (soaFromImage old) (forEach 32 dacFromImage s)
  let s := forEach 32 (rectFromImage old) (forEach 16 railFromImage s)
  let s := forEach 8 (linkFromImage old) s
  let s := forEach 8 (seqFromImage old) s
  let s := forEach 44 (calFromImage had) s
  let s := forEach 24 (monFromImage old) s
  let s := periodFromImage (!had) s
  let s := forEach 12 (fun j s => readmit old (tget bats j).profile j (tget bats j).admState s) s
  let s := if hallMoved (if had then some old.hall else none) new.hall then linkRestart s else s
  let s := if new.dogs.wd1Period == 0 then disarmWd1 s else s
  judgeReady s

/-- The stage ends as a commit applies: NONE (R469).  DEDUCED: a stage that is still being verified, as under a commit of the other
slot, is abandoned, and its CFG_STAGE_END completes ABORTED (R304). -/
def endStage (s : Chip) : Chip := if s.cfg.endRef.isSome then abandonStage s else closeStage s

/-- The boundary after the flip (R469). -/
def cfgApply (s : Chip) : Chip :=
  match s.cfg.apply with
  | some (raw, r, t) =>
    if yardAlive s && decide (t < s.now) then
      let s := applyImage (readImage raw) (s.modCfg fun c => { c with apply := none })
      postCfg (endStage s) 2 0 [(r, .ok)]
    else s
  | none => s

end Sys2Proof.Machine
end

