-- ==== Sys2Proof/Machine/Studio.lean ====
section
/-! DEFINITION. The loss and the reset of the Studio die, the start of a wake, dead-stop, and what steps W6 and W7 restore
(R23, R248, R253, R405, R410, R424, R437, R472, R486-R488, R492). -/

namespace Sys2Proof.Machine

def Chip.modOst (s : Chip) (f : Ostler → Ostler) : Chip := { s with ostler := f s.ostler }

/-! ## ERRn (R414) -/

/-- ERRn is asserted: ERR_PIN of a set sticky bit, dead-stop, or a chip reset in progress. -/
def errnNow (s : Chip) : Bool :=
  s.ostler.deadStop || s.ostler.resetting || s.faults.sticky.any fun i => (maskOf s i).testBit 4

/-- The block's interrupt to the Yard is asserted: IRQ of a set sticky bit of the block (R407). -/
def blockIrq (s : Chip) (block : Nat) : Bool := (stickyOf s block).any fun i => (maskOf s i).testBit 0

def setErrn (s : Chip) : Chip := { s with faults := { s.faults with errn := errnNow s } }

/-! ## The Studio die is lost -/

/-- What the Sketchbook's retained state keeps (R444, R449). -/
def sketchKept (k : Sketch) : Sketch :=
  { events := k.events, summaries := k.summaries, slots := k.slots, nextEvent := k.nextEvent,
    nextSummary := k.nextSummary, nextCapture := k.nextCapture, frozen := k.frozen,
    cause := if k.frozen then k.cause else 0, source := if k.frozen then k.source else 0, frozenHall := k.frozenHall }

/-- What stays of the firmware's state: slots, running slots, trial (R438, R454). -/
def fwKept (f : Fw) : Fw :=
  { yard := f.yard, patch := f.patch, run := f.run, patchSlot := f.patchSlot, trial := f.trial, trialTarget := f.trialTarget,
    fallback := f.fallback, activeHall := f.activeHall }

def cfgKept (c : Cfg) : Cfg :=
  { slotA := c.slotA, slotB := c.slotB, blocks := c.blocks, slot := c.slot, flipHall := c.flipHall,
    discarded := c.discarded || c.stage != .none }

/-- What a metering object keeps: the flags that its next record carries (R250).  DEDUCED: R250 counts them since the
object's previous record, whatever lies between. -/
def meterKept (m : Meter) : Meter :=
  let late (f : RecFlags) : RecFlags := { f with comp := f.comp || m.compLost }
  { cal := m.cal, flags := late m.flags, shelfFlags := late m.shelfFlags, contributed := m.contributed, uncHall := m.uncHall }

/-- What the ledger keeps: its region and position blocks, the last period closed, and the length of the period in progress
and of the one after it (R249, R252, R257). -/
def ledgerKept (l : Ledger) : Ledger :=
  { entries := l.entries, pos := l.pos, posA := l.posA, posB := l.posB, lastClose := l.lastClose, period := l.period,
    periodNext := l.periodNext }

/-- The Studio die holds nothing any more: what is left is MRAM, OTP, the keep-alive registers, the straps as read and the
levels of input pins.  No request of before is completed (R23, R42, R405). -/
def studioLost (s : Chip) : Chip :=
  let s := discardFwStage s
  let b := s.meterBook
  { Chip.blank with
    meters := s.meters.map meterKept,
    clk := { s.clk with degraded := false }, strap := s.strap, addr := s.addr, batRecs := s.batRecs,
    meterBook := { ckA := b.ckA, ckB := b.ckB, shelf0 := b.shelf0, shelf1 := b.shelf1 }, ledger := ledgerKept s.ledger,
    receipts := s.receipts, deadBelow := s.receipts, retained := s.retained,
    pair := { me := { retEpoch := s.pair.me.retEpoch, heardHall := s.pair.me.heardHall, forceIn := s.pair.me.forceIn } },
    sketch := sketchKept s.sketch, fw := fwKept s.fw, otp := s.otp, mram := { bad := s.mram.bad }, cfg := cfgKept s.cfg,
    ostler := s.ostler, mons := s.mons.map fun m => { level := m.level, was := m.was },
    tw := { lastRead := s.tw.lastRead }, spi := { lastRead := s.spi.lastRead }, spiStatus := s.spiStatus }

/-- The Studio die stops and the mode is OFF: with reset cause `cause` where it ran, and cause `off` of the OFF
(R484, R487). -/
def goOff (cause : Nat) (off : Cause) (s : Chip) : Chip :=
  let ran := yardAlive s || decide (6 ≤ s.ostler.step)
  let s := studioLost s
  s.modOst fun o =>
    { o with cause := if ran then cause else o.cause, offCause := off, step := 0, discharge := none, offAsked := false,
             resetting := false, flushAt := none, wakeTag := none, rewakeAt := none, xtalOk := none }

/-! ## Wake requests (R485, R514) -/

/-- A supply is in range, TS0 is below 125.00 °C, and RSTn is high. -/
def canWake (s : Chip) : Bool :=
  let o := s.ostler
  o.alive && (o.vinA || o.vinB) && decide (o.ts0 < 12500) && !o.rstn

/-- The straps' values as they are read when a wake starts; a reading between two bands takes the nearer (R514). -/
def roleStrap (mV : Int) : Strap :=
  if mV < 250 || (mV = 250 && Config.roundUp mV 1000) then .solo
  else if mV < 950 || (mV = 950 && Config.roundUp mV 1000) then .b
  else .a

def addrStrap (mV : Int) : Nat := if mV < 700 || (mV = 700 && Config.roundUp mV 1000) then 0 else 1

def readStraps (st : Straps) : Strap × Nat :=
  (roleStrap st.role, addrStrap st.addr0 + 2 * addrStrap st.addr1 + 4 * addrStrap st.addr2)

/-- W1 begins: the straps are read and held (R514), the mode is WAKE; ERRn stays asserted out of a dead-stop (R414). -/
def beginWake (st : Straps) (s : Chip) : Chip :=
  let s := { studioLost s with strap := (readStraps st).1, addr := (readStraps st).2 }
  let s := { s with mode := { s.mode with mode := .wake, target := .wake } }
  setErrn <| s.modOst fun o =>
    { o with waiting := false, wakeAfter := false, rxAwake := false, rewakeAt := none, retryDue := none, step := 1,
             stepAt := s.now, tries := 1, discharge := none, offAsked := false, stepRetried := false, xtalFailed := false,
             resetCrit := false }

/-- A wake that waits begins once it can. -/
def wakeIfReady (st : Straps) (s : Chip) : Chip :=
  if s.mode.mode == .off && s.ostler.waiting && canWake s then beginWake st s else s

/-- A wake request (R485, R489, R493): in OFF it begins a wake or waits; during a power-down it follows it.  An OFF request
of the same cycle wins (R490); DESIGN CHOICE: requests with no tick between them are of one cycle. -/
def requestWake (st : Straps) (s : Chip) : Chip :=
  match s.mode.mode with
  | .off =>
    if s.ostler.offTick == some s.now then s
    else
      wakeIfReady st (s.modOst fun o => { o with waiting := true, series := 0, wakeTick := some s.now })
  | .wake => s
  | _ =>
    if s.mode.stage == .powerDown then s.modOst fun o => { o with wakeAfter := true } else s

/-! ## Dead-stop (R492, R493) -/

/-- The Ostler enters dead-stop with a failure code and the attempts of the step that failed. -/
def enterDeadStop (code tries : Nat) (s : Chip) : Chip :=
  let s := goOff s.ostler.cause .wakeFailure s
  let s := s.modOst fun o =>
    { o with deadStop := true, record := { o.record with code := code, attempts := tries },
             retryDue := if o.series < 5 then some (s.now + 60000000) else none }
  setErrn s

/-- A wake is given up for OFF by request (R489). -/
def endInOff (s : Chip) : Chip :=
  let s := goOff 3 .hostRequest s
  setErrn (s.modOst fun o => { o with deadStop := false, retryDue := none, waiting := false })

/-! ## W6 (R424, R437, R487) -/

/-- The retained counts at the start of W6 (R424): those of the newer good block, or zero, go on. -/
def countReset (s : Chip) : Chip :=
  let c := (newerCounts s).getD {}
  let r := s.retained
  let own := s.ostler.resetting
  writeCounts { s with retained := { r with
      wd0 := c.wd0, wd1 := c.wd1, flush := c.flush, resets := sat32 c.resets 1,
      cause := if own then r.cause else s.ostler.cause, source := if own then r.source else 0, w6Hall := s.hall } }

/-- The words of a firmware slot's bytes, by MRAM address (R432). -/
def fwBase (target slot : Nat) : Nat :=
  if target = 0 then (if slot = 0 then 0 else 0x00400000) else if slot = 0 then 0x01B00000 else 0x01B40000

/-- The slot passes its verification: it was found VALID, and its words still read (R436, R437). -/
def fwSlotGood (s : Chip) (target slot : Nat) : Bool :=
  let e := fwSlot s target slot
  e.valid == .valid && !mramBad s (fwBase target slot) e.bytes.length

/-- A VALID slot whose words read no more is found INVALID, with result ECC. -/
def fwSlotFails (target slot : Nat) (s : Chip) : Chip :=
  if (fwSlot s target slot).valid == .valid then
    setFwSlot s target slot fun e => { e with valid := .invalid, result := 8 }
  else s

/-- The patch is verified (R437). -/
def patchVerify (s : Chip) : Chip :=
  let k := s.fw.patchSlot
  if (fwSlot s 1 k).valid == .empty then s.modFw fun f => { f with patchRuns := false }
  else if fwSlotGood s 1 k then s.modFw fun f => { f with patchRuns := true }
  else setFault ((fwSlotFails 1 k s).modFw fun f => { f with patchRuns := false }) 0x1304

/-- W6 begins: hall time goes on from the newest checkpoint or the partner's, the reset is counted, and the trial image
gives way to its fallback (R383, R424, R441, R487). -/
def enterW6 (s : Chip) : Chip :=
  let hall := max ((newerCheckpoint s).map Checkpoint.hall |>.getD 0) s.pair.me.heardHall
  let lost := (newerCounts s).isNone
  let s := { s with clk := { s.clk with hall := hall } }
  let s := countReset s
  let s := if lost then setFault s 0x1105 else s
  let s := s.modOst fun o => { o with step := 6, stepAt := s.now, tries := 1, discharge := none, cause := 0 }
  let s := if s.fw.told.isSome then s else trialFallback s
  patchVerify s

/-- A chip reset (R410): the Studio die is reset and wakes again from W6, supplies and clocks as they are.  Cause 8 is that of
FW_ACTIVATE_RESTART, whose activation the wake tells of; any other ends a trial (R441). -/
def chipReset (cause source : Nat) (crit : Bool) (s : Chip) : Chip :=
  let told := if cause = 8 then s.fw.told else none
  let deg := s.clk.degraded
  let was := studioLost s
  let s := { was with
    clk := { was.clk with degraded := deg }, fw := { was.fw with told := told },
    retained := { was.retained with cause := cause, source := source },
    mode := { was.mode with mode := .wake, target := .wake } }
  let s := s.modOst fun o =>
    { o with resetting := true, resetCrit := crit, offCause := .powerOn, stepRetried := false, wakeTag := none,
             offAsked := false, flushAt := none, thermal := false }
  setErrn (enterW6 s)

/-! ## W7 -/

/-- The registers of each object as its last ledger record gives them (R248). -/
def lastRegs (s : Chip) (o : Nat) : Nat × Nat :=
  match s.ledger.entries.reverse.find? fun e => decide (2 ≤ field e.body 0 1) && field e.body 2 1 == o with
  | some e => (field e.body 16 8, field e.body 24 8)
  | none => (0, 0)

/-- Registers, residues and totals are restored (R248). -/
def restoreMeters (s : Chip) : Chip :=
  match newerCheckpoint s with
  | some ck =>
    let ms := (List.range 44).map fun o =>
      let r := tget ck.regs o
      { s.meter o with imp := r.1, exp := r.2.1, resImp := r.2.2.1, resExp := r.2.2.2 }
    { s with meters := ms, meterBook := { s.meterBook with totals := ck.totals, ckNext := s.now + 1000000 } }
  | none =>
    let ms := (List.range 44).map fun o => { s.meter o with imp := (lastRegs s o).1, exp := (lastRegs s o).2 }
    let a := lastRegs s 0x30
    let b := lastRegs s 0x31
    let s := { s with meters := ms, meterBook := { s.meterBook with
      totals := { sums := [a.1, a.2, b.1, b.2] }, ckLost := true, ckNext := s.now + 1000000 } }
    setFault s 0x08C4

/-- The ledger goes on from its newer good position block, beyond which no entry counts (R257).  A multiple of the period that
hall time passed meanwhile closes when metering runs again, and a change of LEDGER_PERIOD still follows the period in
progress (R252). -/
def restoreLedger (s : Chip) : Chip :=
  let p := newerPos s
  let unit := s.img.ledgerPeriod
  nearFullStep (s.setLedger fun l =>
    { l with entries := l.entries.filter (beforePos p), pos := p, nextSeq := p.nextSeq, prev := p.head, sessions := p.sessions,
             period := if l.periodNext.isSome then l.period else unit,
             periodNext := if l.periodNext.isSome && l.period != unit then some unit else none })

/-- Sessions left open at the position are to be closed with the restored registers (R253). -/
def restoreSessions (s : Chip) : Chip :=
  s.setLedger fun l => { l with orphans := l.sessions.map fun x => (x.1, objRegs s (0x20 + x.1)) }

/-- An image comes into force at the end of a wake (R472): what R471 lists, on objects that are all at rest. -/
def imageAtWake (new : Image) (s : Chip) : Chip :=
  let s := forEach 32 dacFromImage (bookFromImage { s with img := new, imgValid := true })
  let s := { s with sense := { s.sense with hkSince := s.now } }
  let s := forEach 16 (fun k s => if (s.railCfg? k).isSome then railFromImage k s else s) s
  let s := forEach 8 (linkFromImage {}) s
  let s := forEach 24 (monFromImage {}) (forEach 44 calKept s)
  forEach 8 (fun k s => if (seqCfg s k).any SeqCfg.autoStart then seqBegin s k else s) s

/-- The configuration check (R472). -/
def configAtWake (s : Chip) : Chip :=
  match newerBlock s with
  | none => setFault (setFault s 0x1202) 0x1200
  | some b =>
    let s := s.modCfg fun c => { c with slot := b.slot }
    let raw := slotBytes s b.slot
    let r := checkSlot s (slotBase b.slot) raw
    let s := s.modCfg fun c => { c with lastCheck := (failing r).code }
    if passes r then imageAtWake (readImage raw) s else setFault (setFault s 0x1201) 0x1200

/-- The Yard image is verified and started (R437): the running slot, else the other, which the recorder shows (R445), else
recovery. -/
def yardVerify (s : Chip) : Chip :=
  let k := s.fw.run
  if fwSlotGood s 0 k then s.modFw fun f => { f with recovery := false }
  else
    let s := fwSlotFails 0 k s
    if fwSlotGood s 0 (1 - k) then
      let trial := s.fw.trial && s.fw.trialTarget == 0
      let s := setFault (s.modFw fun f => { f with run := 1 - k, recovery := false }) (0x1300 + k)
      let e := fwSlot s 0 (1 - k)
      let s := fwRecord s 0 e.result e.version
      if trial then
        setFault (s.modFw fun f => { f with trial := false, fallback := true, told := some (6, 0) }) 0x1303
      else s
    else setFault ((fwSlotFails 0 (1 - k) s).modFw fun f => { f with recovery := true }) 0x1302

/-- WD0 arms as the Yard starts; it stays disarmed in recovery (R419, R437). -/
def armWd0 (s : Chip) : Chip :=
  if s.fw.recovery then
    s.modDog .wd0 fun w => { w with state := .disarmed, first := false, opening := 0, deadline := 0 }
  else startCycle (s.modDog .wd0 fun w => { w with state := .armed, first := true }) .wd0 s.hall

/-- The watchdogs at wake (R416). -/
def dogsAtWake (s : Chip) : Chip :=
  let s := s.modDog .wd0 fun w => { w with win := s.otp.win0 }
  let s := s.modDog .wd1 fun w => { w with win := s.otp.win1 }
  armWd0 (newChallenge s .wd1)

/-- The supply and clock sources at their first evaluation (R405, R508). -/
def supplySources (s : Chip) : Chip :=
  let o := s.ostler
  let s := evalFault s 0x0F00 (!o.vinA)
  let s := evalFault s 0x0F01 (!o.vinB)
  let s := evalFault s 0x0F02 (!o.vka)
  let s := evalFault s 0x0F08 o.xtalFailed
  evalFault s 0x0F09 s.clk.degraded

/-- The Ostler's wake record is read and cleared (R488), and a step that passed on a retry shows (R508). -/
def readRecord (s : Chip) : Chip :=
  let r := s.ostler.record
  let s := if 0 < r.retries then setFault (setFault s (0x0F00 + r.code)) 0x0F20 else s
  let s := if s.ostler.stepRetried then setFault s 0x0F0B else s
  s.modOst fun o => { o with record := {}, series := 0, stepRetried := false }

/-- The new image, or the fallback, tells of its activation (R441, R455). -/
def tellActivation (s : Chip) : Chip :=
  match s.fw.told with
  | some (kind, t) =>
    let s := s.modFw fun f => { f with told := none }
    let s := if kind = 5 then s.modFw fun f => { f with activeHall := s.hall } else s
    let e := fwSlot s t (runningSlot s.fw t)
    let s := if kind = 5 then fwRecord s t e.result e.version else s
    postFw s kind t 0 []
  | none => s

/-- The role and the mode at the end of W7 (R34, R37, R348).  DEDUCED: a paired member is standby from that commit on, while
it still listens for the role it is to take, since R34 gives every member a role from HOLD onwards. -/
def commitWake (s : Chip) : Chip :=
  let s := { s with mode := { s.mode with epoch := s.pair.me.retEpoch } }
  if s.strap == .solo then wakeCommit (startRole s)
  else
    let s := wakeCommit { s with mode := { s.mode with role := .standby } }
    let s := s.modPartner fun p => { p with image := ownImage s }
    s.modMe fun p => { p with listen := some s.now, heard := false }

/-- A stage that the reset or the power-down discarded is told (R468). -/
def tellDiscarded (s : Chip) : Chip :=
  if s.cfg.discarded then setFault (s.modCfg fun c => { c with discarded := false }) 0x1204 else s

/-- W7 ends (R437, R472, R487, R488); `started` says that the Yard reported in time. -/
def wakeDone (started : Bool) (s : Chip) : Chip :=
  let crit := s.ostler.resetCrit
  let s := restoreLedger (tellDiscarded (configAtWake s))
  let s := restoreSessions (restoreMeters s)
  let s := yardVerify s
  let s := if started then s else setFault (s.modFw fun f => { f with recovery := true }) 0x1302
  let s := readRecord (supplySources s)
  let s := if crit then setFault s 0x1103 else s
  let r := s.retained
  let s := recPost s 8 0 0 (le 1 r.cause ++ zeros 3 ++ le 4 r.resets)
  let s := dogsAtWake s
  let s := s.modOst fun o =>
    { o with step := 0, resetting := false, resetCrit := false, deadStop := false, retryDue := none }
  let s := tellActivation s
  let next := s.now + s.img.recs.period * 1000000
  let s := { s with heat := { s.heat with next := s.now, trimDue := s.now }, mram := { s.mram with scrubTick := s.now } }
  let s := { s with sketch := { s.sketch with summaryNext := next } }
  setErrn (commitWake s)

end Sys2Proof.Machine
end

