-- ==== Sys2Proof/Machine/Firmware.lean ====
section
/-! DEFINITION. Firmware staging, verification and activation, and the end of a Yard restart (R435-R441, R453-R455). -/

namespace Sys2Proof.Machine

/-! ## FW_INFO (R453) -/

def FwValid.code : FwValid → Nat
  | .empty => 0 | .valid => 1 | .invalid => 2 | .staging => 3 | .rolledBack => 4

def fwEntry (e : FwSlot) : List Byte := le 4 e.version ++ le 4 e.rollback ++ le 1 e.valid.code ++ le 1 e.result ++ zeros 2

def fwInfoData (s : Chip) : List Byte :=
  le 4 (fwWord s) ++ fwEntry (fwSlot s 0 0) ++ fwEntry (fwSlot s 0 1) ++ fwEntry (fwSlot s 1 0) ++ fwEntry (fwSlot s 1 1)
    ++ le 4 s.fw.staged.length ++ le 8 s.fw.activeHall

def bodyFwInfo : Body := fun _ _ s => (.reply .ok (fwInfoData s), s)

def execFwInfo (rq : Request) (s : State) : Host.Outcome State Fault Refusal :=
  .next (s.on (serve 0x0D01 { inRecovery := true } bodyFwInfo rq))

def fwWordReply (st : Status) (s : Chip) : Ans × Chip := (.reply st (le 4 (fwWord s)), s)

/-! ## Staging (R438) -/

/-- Size of a slot of a target (R432). -/
def fwSlotSize (target : Nat) : Nat := if target = 0 then 0x400000 else 0x40000

/-- Staging is under way. -/
def fwStaging (s : Chip) : Bool := s.fw.stage == .opened || s.fw.stage == .verifying

def bodyFwStageBegin : Body := fun rq _ s =>
  let t := arg rq 0 1
  let len := arg rq 4 4
  if 1 < t then (.bare .badParam, s)
  else if len % 4 != 0 || len < 256 || fwSlotSize t < len then (.bare .outOfRange, s)
  else if fwStaging s || s.fw.trial then (.bare .denied, s)
  else
    let s := setFwSlot s t (1 - runningSlot s.fw t) fun _ => { valid := .staging }
    fwWordReply .ok (s.modFw fun f => { f with stage := .opened, stageTarget := t, stageLen := len, staged := [] })

def execFwStageBegin (rq : Request) (s : State) : Host.Outcome State Fault Refusal :=
  .next (s.on (serve 0x0D02 { lenLo := 8, lenHi := 8, inRecovery := true } bodyFwStageBegin rq))

def bodyFwStageWrite : Body := fun rq _ s =>
  let data := rq.params.drop 4
  let n := s.fw.staged.length
  if data.length % 4 != 0 then (.bare .badLength, s)
  else if s.fw.stage != .opened then (.bare .denied, s)
  else if arg rq 0 4 != n || s.fw.stageLen < n + data.length then (.bare .outOfRange, s)
  else
    let t := s.fw.stageTarget
    let s := mramWritten (fwBase t (1 - runningSlot s.fw t) + n) data.length s
    fwWordReply .ok (s.modFw fun f => { f with staged := f.staged ++ data })

def execFwStageWrite (rq : Request) (s : State) : Host.Outcome State Fault Refusal :=
  .next (s.on (serve 0x0D03 { lenLo := 4, lenHi := 4096, inRecovery := true } bodyFwStageWrite rq))

def bodyFwStageEnd : Body := fun _ r s =>
  if s.fw.stage != .opened || s.fw.staged.length != s.fw.stageLen then (.bare .denied, s)
  else fwWordReply .accepted (s.modFw fun f => { f with stage := .verifying, endRef := some r })

def execFwStageEnd (rq : Request) (s : State) : Host.Outcome State Fault Refusal :=
  .next (s.on (serve 0x0D04 { inRecovery := true } bodyFwStageEnd rq))

/-! ## Verification (R435, R436) -/

def fwMagic (target : Nat) : Nat := if target = 0 then 0x4B594431 else 0x4B545031

/-- A signature at a header place verifies under a key, over the hash of header bytes 0 to 127 (R435, R436). -/
def fwSigned (key : Nat × Nat) (place : Nat) (raw : List Byte) : Bool :=
  ecdsaVerify key (sha256 (raw.take 128)) ((raw.drop place).take 64)

/-- The result code of the checks in their order (R436). -/
def fwVerify (o : Otp) (target : Nat) (eccBad : Bool) (raw : List Byte) : Nat :=
  let len := field raw 16 4
  let rb := field raw 12 4
  if field raw 0 4 != fwMagic target || field raw 5 1 != target then 1
  else if field raw 4 1 != 1 || len % 4 != 0 || fwSlotSize target < len + 256 then 2
  else if eccBad then 8
  else if sha256 ((raw.drop 256).take len) != (raw.drop 24).take 32 then 3
  else if !fwSigned Config.vendorKey 128 raw then 4
  else if o.customerKey && !((raw.getD 20 0#8).getLsbD 0 && fwSigned o.customerPub 192 raw) then 5
  else if rb < o.rollback || 64 < rb then 6
  else 0

/-- The Tack Room has verified the staged image (R436, R453, R455). -/
def fwVerifyDone (eccBad : Bool) (s : Chip) : Chip :=
  if !yardAlive s || s.fw.stage != .verifying then s
  else
    let t := s.fw.stageTarget
    let k := 1 - runningSlot s.fw t
    let raw := s.fw.staged
    let code := fwVerify s.otp t (eccBad || mramBad s (fwBase t k) raw.length) raw
    let ref := s.fw.endRef.toList
    let s := setFwSlot s t k fun _ =>
      { valid := if code = 0 then .valid else .invalid, result := code, version := field raw 8 4,
        rollback := field raw 12 4, bytes := raw }
    let s := s.modFw fun f =>
      { f with stage := if code = 0 then .verified else .none, staged := if code = 0 then raw else [], stageLen := 0,
               endRef := none }
    postFw s 4 t code (allWith ref (if code = 0 then .ok else .configInvalid))

def execFwVerifyDone (eccBad : Bool) (s : State) : Host.Outcome State Fault Refusal := .next (s.on (fwVerifyDone eccBad))

/-! ## Activation (R440, R441) -/

/-- The mode turns an activation away (R441); a hall reset counts where its scope has the role that the member holds. -/
def activateModeBad (s : Chip) (target : Nat) : Bool :=
  if target = 0 then s.mode.mode == .bridge || s.mode.stage != .none || inHandover s || s.net.reset.any (resetChooses s)
  else isActive s && !(s.mode.mode == .hold || s.mode.mode == .ready || s.mode.mode == .lockout)

/-- FW_ACTIVATE's shared checks; the entry then goes to the mailbox (R433, R453). -/
def bodyActivate (op : Nat) : Body := fun rq r s =>
  let t := arg rq 1 1
  if arg rq 0 1 != op || 1 < t then (.bare .badParam, s)
  else if op != 2 && activateModeBad s t then (.notInMode s, s)
  else (.later, offerBox s (.activate op) 0x0D05 rq r)

/-- The operation that a request names. -/
def opIs (rq : Request) (op : Nat) : Bool := field rq.params 0 1 == op

def activateRow : OpRow := { inRecovery := true }

/-- FW_ACTIVATE with operation 0x01, or with one that is not assigned. -/
def execFwActivateTrial (rq : Request) (s : State) : Host.Outcome State Fault Refusal :=
  .next (s.on fun c => if opIs rq 2 || opIs rq 3 then c else serve 0x0D05 activateRow (bodyActivate 1) rq c)

def execFwActivateConfirm (rq : Request) (s : State) : Host.Outcome State Fault Refusal :=
  .next (s.on fun c => if opIs rq 2 then serve 0x0D05 activateRow (bodyActivate 2) rq c else c)

def execFwActivateRevert (rq : Request) (s : State) : Host.Outcome State Fault Refusal :=
  .next (s.on fun c => if opIs rq 3 then serve 0x0D05 activateRow (bodyActivate 3) rq c else c)

/-- The other slot becomes the running one on trial, and the restart waits for the reply to be read (R440). -/
def startTrial (t : Nat) (r : ReqRef) (s : Chip) : Chip :=
  s.modFw fun f =>
    let k := 1 - runningSlot f t
    { f with trial := true, trialTarget := t, run := if t = 0 then k else f.run,
             patchSlot := if t = 0 then f.patchSlot else k, restart := some (t, r, s.now) }

/-- Slots whose index has fallen below the counter; a slot that was never verified has none. -/
def rollBack (counter : Nat) (e : FwSlot) : FwSlot :=
  if (e.valid == .valid || e.valid == .invalid && e.result != 0xFF) && decide (e.rollback < counter) then
    { e with valid := .rolledBack }
  else e

/-- CONFIRM: TRIAL clears and the rollback counter follows the running image (R440). -/
def confirmFw (t : Nat) (s : Chip) : Chip :=
  let e := fwSlot s t (runningSlot s.fw t)
  let n := min 64 (max s.otp.rollback (if e.valid == .valid then e.rollback else 0))
  let up := s.otp.rollback < n
  let s := { s with otp := { s.otp with rollback := n } }
  let s := s.modFw fun f =>
    { f with trial := false, fallback := false, yard := f.yard.map (rollBack n), patch := f.patch.map (rollBack n) }
  if up then postFw (fwRecord s t e.result e.version) 7 t 0 [] else s

/-- An FW_ACTIVATE entry applies (R433, R440). -/
def applyActivate (op : Nat) (e : BoxEntry) (s : Chip) : Chip :=
  let t := field e.params 1 1
  if op != 2 && activateModeBad s t then formReply (setFault s 0x1305) e.ref .notInMode (modeData s)
  else if op != 2 && (fwSlot s t (1 - runningSlot s.fw t)).valid != .valid then
    formReply (setFault s 0x1305) e.ref .denied []
  else
    let s := if op = 2 then confirmFw t s else startTrial t e.ref s
    formReply s e.ref .ok (le 4 (fwWord s))

/-- The host has consumed the reply of a request. -/
def replyRead (s : Chip) (r : ReqRef) : Bool := !(s.port r.port).replies.any fun x => x.receipt == r.receipt

/-- The restart of an activation (R440): of the Yard, or of the chip with cause FIRMWARE. -/
def activateRestart (s : Chip) : Chip :=
  match s.fw.restart with
  | some (t, r, at_) =>
    if yardAlive s && (replyRead s r || decide (at_ + 100000 ≤ s.now)) then
      let s := s.modFw fun f => { f with told := some (5, t), restart := none }
      if t = 0 then yardStopNow s true else chipReset 8 0 false s
    else s
  | none => s

def execFwActivateRestart (s : State) : Host.Outcome State Fault Refusal := .next (s.on activateRestart)

/-! ## The end of a Yard restart (R313, R437, R439) -/

/-- Neither slot starts: the mode is HOLD, with every output stopped (R36, R437). -/
def holdInRecovery (s : Chip) : Chip :=
  if s.mode.mode == .hold then s
  else
    let refs := openModeRefs s.mode
    let s := clearIntents (dropShelf .feedOpen s)
    let s := { s with mode := { s.mode with
      stage := .none, pend := none, refs := [], svcStop := none, svcKind := 0, svcIndex := 0, dwellSince := none,
      freshReady := false } }
    commitMode s .hold s.mode.cause (allWith refs .aborted)

/-- The stopped Yard is verified and started (R439). -/
def yardRestart (s : Chip) : Chip :=
  if !yardAlive s || !s.fw.yardStop then s
  else
    let was := s.fw.recovery
    let s := yardVerify (s.modFw fun f => { f with yardStop := false })
    let s := if s.fw.recovery then armWd0 (holdInRecovery s) else if was then armWd0 s else s
    let s := tellActivation s
    match s.net.resetEvent with
    | some x => postHallReset x (s.modNet fun n => { n with resetEvent := none })
    | none => s

def execYardRestart (s : State) : Host.Outcome State Fault Refusal := .next (s.on yardRestart)

end Sys2Proof.Machine
end

