-- ==== Sys2Proof/Machine/Heat.lean ====
section
/-! DEFINITION. Temperature: the sensors, the three levels and what they bring, the reference trims (R501-R506). -/

namespace Sys2Proof.Machine

def Chip.modHeat (s : Chip) (f : Heat → Heat) : Chip := { s with heat := f s.heat }
def sensor (s : Chip) (k : Nat) : Sensor := tget s.heat.sensors k

/-- Numbers of the sensors on the die of sensor `k`. -/
def dieOf (k : Nat) : List Nat := if k < 8 then List.range 8 else [8, 9, 10, 11]

/-- The reading of a count (R501), in 0.01 °C. -/
def sensorTemp (k n : Nat) : Int :=
  let c := Config.tsCal k
  if c.1 = c.2 then Config.openReading k n
  else
    let d : Int := (c.2 : Int) - c.1
    roundAway (2500 * d + ((n : Int) - c.1) * 10000) d

/-- The count is not zero and the reading lies in range (R502). -/
def sensorInRange (n : Nat) (t : Int) : Bool := n != 0 && decide (-5500 ≤ t) && decide (t ≤ 17500)

def insertInt (x : Int) : List Int → List Int
  | [] => [x]
  | y :: ys => if x ≤ y then x :: y :: ys else y :: insertInt x ys

/-- Twice the median of some readings; of an even number, the sum of the two in the middle. -/
def median2 (l : List Int) : Option Int :=
  let xs := l.foldl (fun a x => insertInt x a) []
  let n := xs.length
  if n = 0 then none
  else if n % 2 = 1 then some (2 * xs.getD (n / 2) 0)
  else some (xs.getD (n / 2 - 1) 0 + xs.getD (n / 2) 0)

/-- A sample of all sensors: count and reading of each. -/
abbrev Sample := List (Nat × Int)

/-- The reading lies more than 15.00 °C from the median of the other valid sensors of its die (R502). -/
def awayFrom (s : Chip) (x : Sample) (k : Nat) : Bool :=
  let others := (dieOf k).filter fun i => i != k && (sensor s i).valid && sensorInRange (tget x i).1 (tget x i).2
  (median2 (others.map fun i => (tget x i).2)).any fun m => decide (3000 < (2 * (tget x k).2 - m).natAbs)

/-- Set and clear temperatures of warning, throttle and shutdown (R503). -/
def levelTable : List (Int × Int) := [(11000, 10500), (12500, 11800), (14000, 12500)]

/-- The validity of a sensor after a sample (R502). -/
def judgeSensor (inRange away : Bool) (w : Sensor) : Sensor :=
  if w.valid then
    let n := if away then w.away + 1 else 0
    { w with valid := inRange && decide (n < 100), away := if inRange && n < 100 then n else 0, back := 0 }
  else
    let n := if inRange && !away then w.back + 1 else 0
    { w with valid := decide (100 ≤ n), back := if n < 100 then n else 0, away := 0 }

/-- The levels of a sensor after a sample (R503). -/
def stepLevels (t : Int) (w : Sensor) : Sensor :=
  if w.valid then
    let hi := levelTable.map fun l => decide (l.1 ≤ t)
    let lo := levelTable.map fun l => decide (t ≤ l.2)
    let lvl := (List.range 3).map fun i =>
      if tget hi i && tget w.hi i then true else if tget lo i && tget w.lo i then false else tget w.lvl i
    { w with t := t, hi := hi, lo := lo, lvl := lvl }
  else { w with t := t, hi := [false, false, false], lo := [false, false, false] }

/-- The new sensor states; `top` is the first of two readings at 150.00 °C or above (R504). -/
def sampleSensor (s : Chip) (x : Sample) (k : Nat) : Sensor :=
  let r := tget x k
  let w := judgeSensor (sensorInRange r.1 r.2) (awayFrom s x k) (sensor s k)
  let w := stepLevels r.2 w
  { w with top := w.valid && decide (15000 ≤ r.2) }

def excluded (s : Chip) (ks : List Nat) : Nat := (ks.filter fun k => !(sensor s k).valid).length

/-- A device level (R503); the warning level is also taken as set while two sensors of a die are excluded (R502). -/
def deviceLevel (s : Chip) (i : Nat) : Bool :=
  (i == 0 && s.heat.degraded) || s.heat.sensors.any fun w => w.valid && tget w.lvl i

/-- The shutdown level (R505): an active member with a READY standby hands over first. -/
def shutdownStep (on : Bool) (s : Chip) : Chip :=
  let s := setLive s 0x0E02 on
  if !on || isSticky s 0x0E02 || s.pair.me.handHot then s
  else if isActive s && isPaired s && partnerReady s then
    if s.pair.me.hand == .idle then beginHandover s none false true else s.modMe fun p => { p with handHot := true }
  else setFault s 0x0E02

/-- The Ostler's backstop (R504). -/
def backstop (s : Chip) : Chip :=
  let s := s.modOst fun o => { o with thermal := true }
  if s.mode.stage == .powerDown then s
  else startPowerDown { s with mode := { s.mode with pend := none, svcStop := none } }

/-- A valid reading lies within 5.00 °C of a value of the table (R503). -/
def nearLevel (s : Chip) : Bool :=
  s.heat.sensors.any fun w => w.valid && levelTable.any fun l => decide ((w.t - l.1).natAbs ≤ 500) || decide ((w.t - l.2).natAbs ≤ 500)

/-- The code of the RC's trim at a temperature: linear between the points of the OTP table; the spec states none outside
them, nor how a fraction is rounded (R500). -/
def rcCodeAt (t : Int) : Int :=
  match (List.range 7).find? fun k => decide ((Config.rcTable k).1 ≤ t) && decide (t ≤ (Config.rcTable (k + 1)).1) with
  | some k =>
    let a := Config.rcTable k
    let b := Config.rcTable (k + 1)
    if a.1 = b.1 then a.2 else a.2 + rdiv ((t - a.1) * (b.2 - a.2)) (b.1 - a.1)
  | none => Config.openReading 0x100 t

/-- The RC's trim follows the mean of the valid sensors of the Studio die, on each change of 0.5 °C (R500). -/
def rcTrim (s : Chip) : Chip :=
  let ts := (([8, 9, 10, 11] : List Nat).filter fun k => (sensor s k).valid).map fun k => (sensor s k).t
  if ts.isEmpty then s
  else
    let m := rdiv (ts.foldl (· + ·) 0) ts.length
    if s.heat.rcAt.any fun t => decide ((m - t).natAbs < 50) then s
    else s.modHeat fun h => { h with rcAt := some m, rcCode := rcCodeAt m }

/-- The next sample: 20 kHz for 100 ms after a reading near a level, else 1 kHz (R503). -/
def nextSample (s : Chip) : Chip :=
  let near := if nearLevel s then some s.now else s.heat.nearAt
  s.modHeat fun h => { h with nearAt := near, next := s.now + (if near.any fun t => s.now < t + 100000 then 50 else 1000) }

/-- All sensors are sampled, the levels follow, and the next sample is planned (R501-R503, R505). -/
def sampleAll (counts : List Nat) (s : Chip) : Chip :=
  let x : Sample := (List.range 12).map fun k => (counts.getD k 0, sensorTemp k (counts.getD k 0))
  let ws := (List.range 12).map (sampleSensor s x)
  let s := s.modHeat fun h => { h with sensors := ws }
  let s := forEach 12 (fun k s => evalFault s (0x0E10 + k) (!(sensor s k).valid)) s
  let bad := decide (2 ≤ excluded s (List.range 8)) || decide (2 ≤ excluded s [8, 9, 10, 11])
  let s := evalFault (s.modHeat fun h => { h with degraded := bad }) 0x0E20 bad
  let s := s.modHeat fun h => { h with levels := (List.range 3).map (deviceLevel s) }
  let s := evalFault s 0x0E00 (tget s.heat.levels 0)
  let s := evalFault s 0x0E01 (tget s.heat.levels 1)
  let s := shutdownStep (tget s.heat.levels 2) s
  let s := if (sensor s 0).valid then s.modOst fun o => { o with ts0 := (sensor s 0).t } else s
  nextSample (rcTrim s)

/-- A sensor of the Stable die has read 150.00 °C or above in the last sample and in this one (R504). -/
def topTwice (old new : Chip) : Bool := (List.range 8).any fun k => (sensor old k).top && (sensor new k).top

/-- A temperature sample where one is due, with the backstop (R501-R505). -/
def tempSample (counts : List Nat) (s : Chip) : Chip :=
  if !yardAlive s || s.now < s.heat.next then s
  else
    let t := sampleAll counts s
    if topTwice s t then backstop t else t

def execTempSample (counts : List Nat) (s : State) : Host.Outcome State Fault Refusal := .next (s.on (tempSample counts))

/-- The throttle level acts at a tick boundary (R504); the sequences are capped until the first frame after it clears (R272). -/
def throttleTick (s : Chip) : Chip :=
  let on := tget s.heat.levels 1
  { s with throttled := on, sense := { s.sense with capped := on || (s.sense.capped && s.hall % 200 != 0) }, sketch := { s.sketch with suspended := on } }

/-! ## Reference trims (R506) -/

/-- The trims are computed every 10 ms and move by at most 2 ppm. -/
def referenceTrim (s : Chip) : Chip :=
  if !yardAlive s || s.now < s.heat.trimDue then s
  else
    let read := (List.range 8).map fun k => if (sensor s k).valid then some (sensor s k).t else none
    let step (k : Nat) : Int :=
      let v : Int := tget s.heat.trimNext k
      v + clampI (-2) 2 (Config.trimTarget k read - v)
    s.modHeat fun h => { h with trimNext := (List.range 4).map step, trimDue := s.now + 10000 }

def execReferenceTrim (s : State) : Host.Outcome State Fault Refusal := .next (s.on referenceTrim)

/-- Computed trims apply at a metering sample boundary (R236, R506). -/
def trimTick (s : Chip) : Chip :=
  if s.hall % 800 == 0 then s.modHeat fun h => { h with trim := h.trimNext } else s

/-- With the Studio die absent the Ostler reads TS0 (R506); a wake that waits for it may begin (R485), and the backstop acts
in OFF and WAKE too, once in a dead-stop (R504). -/
def ts0Read (t : Int) (st : Straps) (s : Chip) : Chip :=
  if s.ostler.alive && !yardAlive s then
    let hot := !(s.mode.mode == .off && s.ostler.deadStop) && decide (15000 ≤ t) && decide (15000 ≤ s.ostler.ts0)
    let s := s.modOst fun o => { o with ts0 := t }
    if hot then enterDeadStop 0x18 0 s else wakeIfReady st s
  else s

def execOstlerTs0Read (t : Int) (s : State) (st : Straps := {}) : Host.Outcome State Fault Refusal := .next (s.on (ts0Read t st))

end Sys2Proof.Machine
end

