-- ==== Sys2Proof/Machine/Mailbox.lean ====
section
/-! DEFINITION. The protection mailbox: requests that change protection, their taking by the Tack Room, and what they do at the
tick boundary (R29, R104, R135, R413, R433, R434). -/

namespace Sys2Proof.Machine

/-! ## Requests -/

/-- BRK_CLEAR_LOCKOUT (R104, R108). -/
def bodyClearLockout : Body := fun rq r s =>
  match chCmdChecks rq s with
  | some a => (a, s)
  | none => (.later, offerBox s .clearLockout 0x0211 rq r)

def execBrkClearLockout (rq : Request) (s : State) : Host.Outcome State Fault Refusal :=
  .next (s.on (serve 0x0211 { activeOnly := true } bodyClearLockout rq))

/-- RAIL_CLEAR_LATCH (R135, R140). -/
def bodyClearLatch : Body := fun rq r s =>
  match railCmdChecks rq s with
  | some a => (a, s)
  | none => (.later, offerBox s .clearLatch 0x0307 rq r)

def execRailClearLatch (rq : Request) (s : State) : Host.Outcome State Fault Refusal :=
  .next (s.on (serve 0x0307 { activeOnly := true } bodyClearLatch rq))

/-- The checks of FAULT_SEVERITY_SET in their order (R428). -/
def severityChecks (block source sev mask : Nat) : Option Status :=
  if 32 ≤ mask then some .badParam
  else if mask.testBit 2 && !resettable block then some .badParam
  else if !isBlock block || !sourceExists (block * 256 + source) || 3 < sev then some .outOfRange
  else none

/-- FAULT_SEVERITY_SET (R413, R428). -/
def bodySeveritySet : Body := fun rq r s =>
  match severityChecks (arg rq 0 1) (arg rq 1 1) (arg rq 2 1) (arg rq 3 1) with
  | some st => (.bare st, s)
  | none => (.later, offerBox s .severity 0x0804 rq r)

def execFaultSeveritySet (rq : Request) (s : State) : Host.Outcome State Fault Refusal :=
  .next (s.on (serve 0x0804 {} bodySeveritySet rq))

/-! ## The Tack Room takes an entry (R433) -/

/-- A check of the Tack Room fails (R433). -/
def boxDenied (e : BoxEntry) (s : Chip) : Chip := formReply (setFault s 0x1305) e.ref .denied []

/-- A request that waited for room enters the mailbox; a commit is then answered ACCEPTED. -/
def admitWaiting (s : Chip) : Chip :=
  match s.boxWait with
  | [] => s
  | e :: rest =>
    if s.box.length < 16 then
      let s := { s with boxWait := rest, box := s.box ++ [e] }
      if e.kind == .commit then formReply s e.ref .accepted (le 4 (cfgWord s)) else s
    else s

/-- The head of the mailbox is taken, if its receipt is good (R433): a commit is verified and flips at once, every other entry is due at the next tick
boundary. -/
def mailboxEntry (s : Chip) : Chip :=
  match s.box with
  | [] => s
  | e :: rest =>
    if !yardAlive s then s
    else
      let s := { s with box := rest }
      let t := { s with boxUsed := e.ref.receipt :: s.boxUsed }
      admitWaiting (if !boxAccepts s e then boxDenied e s else if e.kind == .commit then takeCommit e t
        else { t with boxDue := t.boxDue ++ [e] })

def execMailboxEntry (s : State) : Host.Outcome State Fault Refusal := .next (s.on mailboxEntry)

/-- 10 ms without room in the mailbox (R29). -/
def mailboxTimeout (s : Chip) : Chip :=
  let late := s.boxWait.filter fun e => decide (e.tick + 10000 ≤ s.now)
  let s := { s with boxWait := s.boxWait.filter fun e => !decide (e.tick + 10000 ≤ s.now) }
  late.foldl (fun s e => formReply s e.ref .busyRetry []) s

def execMailboxTimeout (s : State) : Host.Outcome State Fault Refusal := .next (s.on mailboxTimeout)

/-! ## At the tick boundary (R434) -/

/-- What the entries of the coming tick are judged on. -/
def boxView (s : Chip) : BoxView :=
  { locked := (List.range 32).filter fun n => (s.ch n).state == .locked,
    latched := (List.range 16).filter fun k => (s.rail k).state == .latched, sticky := s.faults.sticky }

/-- CLEAR_LOCKOUT: OFF with INTENT_ON and RETRIES clear (R104); one from before a role change completes with ROLE_CHANGED
(R20), and a mode that now forbids it refuses it (R28, R47). -/
def applyClearLockout (v : BoxView) (e : BoxEntry) (s : Chip) : Chip :=
  let n := field e.params 0 1
  if e.gen != (s.chCfg n).gen then formReply s e.ref .roleChanged (genData s n)
  else if !s.imgValid then boxDenied e s
  else if svcOther s n then formReply (setFault s 0x1305) e.ref .notInMode (modeData s)
  else
    let s := if v.locked.contains n then
        chIdle (s.modCh n fun c => { c with intentOn := false, brk := { c.brk with retries := 0 } }) n .off .aborted
      else s
    formReply s e.ref .ok (chData s n)

/-- CLEAR_LATCH: OFF with INTENT_ON clear (R135); a mode that now forbids it refuses it (R28, R47). -/
def applyClearLatch (v : BoxView) (e : BoxEntry) (s : Chip) : Chip :=
  let k := field e.params 0 1
  if (s.railCfg? k).isNone then boxDenied e s
  else if svcOtherRail s k then formReply (setFault s 0x1305) e.ref .notInMode (modeData s)
  else
    let s := if v.latched.contains k then setRailState (s.modRail k fun r => { r with intentOn := false }) k .off [] else s
    formReply s e.ref .ok (railData s k)

/-- FAULT_SEVERITY: a source whose bit is clear takes its severity and mask, outside LOCKOUT (R413). -/
def applySeverity (v : BoxView) (e : BoxEntry) (s : Chip) : Chip :=
  let id := field e.params 0 1 * 256 + field e.params 1 1
  let set : SevSet := { source := id, sev := field e.params 2 1, mask := field e.params 3 1 }
  if v.sticky.contains id || isSticky s id || s.mode.mode == .lockout || (sevFixed id && set.sev != 3) then boxDenied e s
  else
    let s := { s with faults := { s.faults with overrides := s.faults.overrides.filter (fun x => x.source != id) ++ [set] } }
    formReply s e.ref .ok (le 1 (id / 256) ++ le 1 (id % 256) ++ le 1 set.sev ++ le 1 set.mask)

def applyBoxEntry (v : BoxView) (s : Chip) (e : BoxEntry) : Chip :=
  match e.kind with
  | .clearLockout => applyClearLockout v e s
  | .clearLatch => applyClearLatch v e s
  | .severity => applySeverity v e s
  | .activate op => applyActivate op e s
  | .commit => s

/-- The entries taken apply in order, judged on the start of the tick. -/
def applyBox (s : Chip) : Chip :=
  s.boxDue.foldl (applyBoxEntry s.boxSeen) { s with boxDue := [] }

/-! ## What waits for a change of the mode or of the roles at its boundary (R28) -/

/-- A LOCKOUT is due at this boundary: its bit set in an earlier tick, or the drivers have yet to resume (R27, R48, R359). -/
def lockoutDue (s : Chip) : Bool :=
  s.mode.lockout.isSome && mayLock s && (decide (s.mode.lockoutAt < s.now) || s.pair.me.resumeAt.isSome)

/-- A mode change or a role change that waits for its boundary applies before any channel or rail command (R28), and a
handover applies no new setpoint (R361): the mailbox's entries and the setpoint queues wait. -/
def setpointsWait (s : Chip) : Bool :=
  s.mode.pend.isSome || lockoutDue s || s.cfg.apply.isSome || handFrozen s

/-- What this moment leaves is what the mailbox's entries of the coming tick are judged on; entries that wait for a change at
this boundary keep the view of its start (R127, R434). -/
def keepView (s : Chip) : Chip := if s.boxDue.isEmpty then { s with boxSeen := boxView s } else s

/-- Mailbox entries, then the energy class's, the channels' and the rails' queues take effect (R434). -/
def applyQueues (s : Chip) : Chip := applyRailQueue (applyChQueue (applyEnergyQueue (applyBox s)))

/-- A change at a tick boundary; what waited for it takes effect after it, at the same boundary (R28). -/
def atBoundary (f : Chip → Chip) (s : Chip) : Chip :=
  if setpointsWait s && !setpointsWait (f s) then keepView (applyQueues (f s)) else f s

def execModeCommit (s : State) : Host.Outcome State Fault Refusal := .next (s.on (atBoundary modeCommit))
def execLockoutCommit (s : State) : Host.Outcome State Fault Refusal := .next (s.on (atBoundary lockoutCommit))
def execHoldAutoReady (s : State) : Host.Outcome State Fault Refusal := .next (s.on (atBoundary holdAutoReady))
def execHandoverComplete (s : State) : Host.Outcome State Fault Refusal := .next (s.on (atBoundary handoverComplete))
def execCfgApply (s : State) : Host.Outcome State Fault Refusal := .next (s.on (atBoundary cfgApply))

end Sys2Proof.Machine
end

