-- ==== Sys2Proof/Machine/Recorder.lean ====
section
/-! DEFINITION. The Sketchbook (R442-R449, R453-R455), the MRAM scrub and the aging bounds (R442, R443). -/

namespace Sys2Proof.Machine

def Chip.modSketch (s : Chip) (f : Sketch → Sketch) : Chip := { s with sketch := f s.sketch }

/-! ## Words and events (R454, R455) -/

def capturesHeld (k : Sketch) : Nat := (k.slots.filter Option.isSome).length

/-- The recorder state word (R454). -/
def recWord (s : Chip) : Nat :=
  let k := s.sketch
  capturesHeld k % 64 + k.cause % 4 * 2 ^ 15 + bitN 17 k.frozen + bitN 18 k.pending.isSome + bitN 19 k.suspended
    + (List.range 4).foldl (fun a d => a + bitN (20 + d) (k.running.any fun c => c.defn == d)) 0

def recWordData (s : Chip) : List Byte := le 4 (recWord s)

def postRec (s : Chip) (kind slot : Nat) : Chip :=
  post s 0x0A (le 1 kind ++ le 1 slot ++ zeros 2 ++ le 4 (recWord s) ++ le 8 s.hall) []

/-! ## Stored units (R444-R446) -/

def unitsOfArea (area : Nat) : Nat := if area = 1 then 131072 else 65536
def unitSize (area : Nat) : Nat := if area = 1 then 32 else 64

/-- MRAM address of unit number `n` of the event or summary ring (R432, R444). -/
def unitAddr (area n : Nat) : Nat :=
  (if area = 1 then 0x00800000 else 0x00C00000) + n % unitsOfArea area * unitSize area

def captureAddr (slot : Nat) : Nat := 0x01000000 + slot * 262144

/-- A ring takes one more unit; its oldest goes where it is full. -/
def pushUnit (area : Nat) (l : List RecUnit) (u : RecUnit) : List RecUnit :=
  (if unitsOfArea area ≤ l.length then l.tail else l) ++ [u]

/-- An event record's 32 bytes (R445). -/
def eventBytes (seq : Nat) (e : RecEvent) : List Byte :=
  let h := le 1 e.kind ++ le 1 e.sev ++ le 2 e.source ++ le 4 seq ++ le 8 e.hall ++ fit 12 e.detail
  h ++ le 4 (crc32c h).toNat

/-- One event record is written (R444, R445); a write whose read-back fails is not held. -/
def writeEvent (good : Bool) (e : RecEvent) (s : Chip) : Chip :=
  let n := s.sketch.nextEvent
  let s := mramWritten (unitAddr 1 n) 32 s
  if good then
    s.modSketch fun k => { k with events := pushUnit 1 k.events { num := n, bytes := eventBytes n e }, nextEvent := n + 1 }
  else setFault s 0x1005

/-- The highest of the present readings of TS0 to TS11, excluded sensors apart (R446, R502). -/
def hottest (s : Chip) : Option Int :=
  (s.heat.sensors.filter Sensor.valid).foldl (fun a w => some (max w.t (a.getD w.t))) none

/-- A summary's 64 bytes (R446). -/
def summaryBytes (s : Chip) : List Byte :=
  let k := s.sketch
  let top := match hottest s with
    | some t => leI 2 t
    | none => le 2 (s.draw % 65536)
  let h := le 4 k.nextSummary ++ le 8 s.hall ++ le 4 (modeWord s.mode) ++ le 4 (energyWord s) ++ leI 4 s.energy.vBus
    ++ leI 4 s.energy.demand ++ top ++ zeros 2 ++ le 4 k.dropSummary ++ le 4 (s.sense.slowDrops - k.slowTold)
    ++ (List.range 19).flatMap (fun b => le 1 (digest s (stickyOf s (b + 1)))) ++ zeros 1
  h ++ le 4 (crc32c h).toNat

/-- A summary is written; none while the Sketchbook is frozen (R446, R449), and one whose read-back fails is not held (R452). -/
def writeSummary (good : Bool) (s : Chip) : Chip :=
  if s.sketch.frozen then s
  else
    let n := s.sketch.nextSummary
    let bytes := summaryBytes s
    let s := mramWritten (unitAddr 2 n) 64 (if (hottest s).isNone then s.drawn else s)
    if !good then setFault s 0x1005
    else s.modSketch fun k =>
      { k with summaries := pushUnit 2 k.summaries { num := n, bytes := bytes }, nextSummary := n + 1, dropSummary := 0,
               slowTold := s.sense.slowDrops }

/-- REC_SUMMARY_PERIOD has passed (R446); summaries are a duty of the Yard (R431). -/
def recSummary (good : Bool) (s : Chip) : Chip :=
  if yardWorks s && decide (s.sketch.summaryNext ≤ s.now) then
    writeSummary good (s.modSketch fun k => { k with summaryNext := s.now + s.img.recs.period * 1000000 })
  else s

def execRecSummary (s : State) (good : Bool := true) : Host.Outcome State Fault Refusal := .next (s.on (recSummary good))

/-! ## Captures (R447, R448) -/

def trigCode : TrigCause → Nat
  | .source _ => 1 | .critical _ => 2 | .timer _ => 3 | .host => 4

def trigArg : TrigCause → Nat
  | .source i => i.toNat | .critical i => i.toNat | .timer t => t.val | .host => 0

/-- The words of a ring from counter `a` on. -/
def ringWords (s : Chip) (g : SeqCfg) (a n : Nat) : List Word :=
  (List.range n).map fun i => BitVec.ofNat 32 (s.sram.readWord (ringAddr g (wrap32 (a + i))))

/-- The capture of a trigger, as the copy begins: the words before W, those from W on that have arrived since, and OVERRUN where
the ring has lost some of them meanwhile (R447, R448).  DEDUCED: the lost ones are the oldest, and are not stored. -/
def captureOf (s : Chip) (c : CapDef) (g : SeqCfg) (t : Trig) : Capture :=
  let since := distance t.w (s.seq c.seq).wptr
  let n := min c.pre t.held
  let lost := n + since - g.words
  let pre := n - lost
  let skip := lost - n
  { defn := t.defn, seq := c.seq, trig := trigCode t.cause, source := trigArg t.cause, hall := t.hall, w := t.w,
    pre := ringWords s g (wrap32 (t.w + 2 ^ 32 - pre)) pre,
    post := ringWords s g (wrap32 (t.w + skip)) (min c.post (since - skip)), want := c.post,
    preShort := decide (n < c.pre), overrun := decide (0 < lost) }

/-- A trigger's capture begins: its words are copied, and the ring's RPTR moves past them (R447). -/
def captureTrigger (d : Nat) (cause : TrigCause) (s : Chip) : Chip :=
  match s.sketch.trigs.find? fun t => t.defn == d && t.cause == cause with
  | some t =>
    if !yardAlive s then s
    else
      let s := s.modSketch fun k => { k with trigs := k.trigs.filter fun x => x != t }
      let c : CapDef := tget s.img.recs.defs d
      match seqInForce s c.seq with
      | some g =>
        let cap := captureOf s c g t
        let s := s.modSketch fun k => { k with running := k.running ++ [cap] }
        ringAdvance s c.seq g (wrap32 (t.w + cap.post.length))
      | none => s
  | none => s

def execCaptureTrigger (d : Fin 4) (cause : TrigCause) (s : State) : Host.Outcome State Fault Refusal :=
  .next (s.on (captureTrigger d cause))

/-- A capture ends when its post-trigger words are copied, when its sequence has stopped, or under the throttle, the
latter two with TRUNCATED (R447, R448). -/
def captureComplete (d : Nat) (s : Chip) : Chip :=
  match s.sketch.running.find? fun c => c.defn == d with
  | some c =>
    let full := decide (c.want ≤ c.post.length)
    if full || (s.seq c.seq).state == .stopped || s.sketch.suspended then
      s.modSketch fun k =>
        { k with running := k.running.filter fun x => x.defn != d,
                 done := k.done ++ [{ c with truncated := !full, tick := s.now }] }
    else s
  | none => s

def execCaptureComplete (d : Fin 4) (s : State) : Host.Outcome State Fault Refusal := .next (s.on (captureComplete d))

/-- The bytes of a capture slot: header and words (R448). -/
def captureBytes (n : Nat) (c : Capture) : List Byte :=
  let h := le 4 n ++ le 1 c.defn ++ le 1 c.seq ++ le 1 (bitN 0 c.truncated + bitN 1 c.preShort + bitN 2 c.overrun) ++ le 1 c.trig
    ++ le 2 c.source ++ zeros 2 ++ le 4 c.pre.length ++ le 4 c.post.length ++ le 8 c.hall
    ++ le 4 (wrap32 (c.w + 2 ^ 32 - c.pre.length)) ++ le 4 c.w ++ zeros 24
  let words := (c.pre ++ c.post).flatMap fun w => le 4 w.toNat
  h ++ le 4 (crc32c (h ++ words)).toNat ++ words

/-- The lowest-numbered slot without a capture, else the slot of the oldest capture (R447). -/
def captureSlot (slots : List (Option RecUnit)) : Nat :=
  let num (i : Nat) : Nat := ((tget slots i).map RecUnit.num).getD 0
  match (List.range 32).find? fun i => (tget slots i).isNone with
  | some i => i
  | none => (List.range 32).foldl (fun a i => if num i < num a then i else a) 0

/-- The oldest complete capture is written to its slot (R447, R455). -/
def flushCapture (good : Bool) (s : Chip) : Chip :=
  match s.sketch.done with
  | [] => s
  | c :: rest =>
    let s := s.modSketch fun k => { k with done := rest }
    let slot := captureSlot s.sketch.slots
    let n := s.sketch.nextCapture
    let bytes := captureBytes n c
    let s := mramWritten (captureAddr slot) bytes.length s
    if good then
      let s := s.modSketch fun k =>
        { k with slots := tset k.slots slot (some { num := n, bytes := bytes }), nextCapture := n + 1 }
      let s := recPost s 9 0 0 (le 1 c.defn ++ le 1 slot ++ zeros 2 ++ le 4 (c.pre.length + c.post.length))
      postRec s 1 slot
    else setFault s 0x1005

/-- The oldest queued event is written. -/
def flushEvent (good : Bool) (s : Chip) : Chip :=
  match s.sketch.queue with
  | [] => s
  | e :: rest => writeEvent good e (s.modSketch fun k => { k with queue := rest })

/-- The item that became due first is flushed (R442); nothing is written while the Sketchbook is frozen (R449). -/
def sketchFlush (good : Bool) (s : Chip) : Chip :=
  if !yardAlive s || s.sketch.frozen then s
  else
    match s.sketch.queue.head?, s.sketch.done.head? with
    | some e, some c => if e.tick ≤ c.tick then flushEvent good s else flushCapture good s
    | some _, none => flushEvent good s
    | none, some _ => flushCapture good s
    | none, none => s

def execSketchbookFlush (readBackGood : Bool) (s : State) : Host.Outcome State Fault Refusal :=
  .next (s.on (sketchFlush readBackGood))

/-! ## Freeze and thaw (R449) -/

/-- Every queued event is written. -/
def flushAllEvents (good : Bool) (s : Chip) : Chip := forEach s.sketch.queue.length (fun _ s => flushEvent good s) s

/-- The captures have completed and flushed, or 2 s have passed. -/
def freezeDue (s : Chip) : Bool :=
  let k := s.sketch
  k.pending.any fun t => (k.running.isEmpty && k.trigs.isEmpty && k.done.isEmpty) || decide (t + 2000000 ≤ s.now)

/-- The freeze takes effect: the events before it are written, then the FREEZE record; captures not flushed are lost.  `good` says
that the writes read back well (R452). -/
def freezeEffect (good : Bool) (s : Chip) : Chip :=
  if !yardAlive s || !freezeDue s then s
  else
    let s := flushAllEvents good s
    let s := writeEvent good { kind := 0x0A, hall := s.hall, detail := le 1 s.sketch.cause } s
    let s := s.modSketch fun k =>
      { k with pending := none, frozen := true, frozenHall := s.hall, dropFrozen := 0, running := [], trigs := [], done := [],
               lateSet := [] }
    postRec s 2 0

def execFreezeEffect (s : State) (good : Bool := true) : Host.Outcome State Fault Refusal := .next (s.on (freezeEffect good))

def bodyRecFreeze : Body := fun _ _ s =>
  let s := startFreeze s 2 0
  (.reply .ok (recWordData s), s)

def execRecFreeze (rq : Request) (s : State) : Host.Outcome State Fault Refusal :=
  .next (s.on (serve 0x0903 {} bodyRecFreeze rq))

/-- What a severity-3 set cost while the Sketchbook was frozen is taken back: its record was not dropped, and its triggers were not
ignored, where the thaw of the same tick is applied first (R449). -/
def undropped (s : Chip) (id : Nat) : Chip :=
  let n := if s.img.recs.faultMin ≤ 3 then 1 else 0
  let m := ((List.range 4).filter fun d =>
    let c : CapDef := tget s.img.recs.defs d
    c.enable && (c.named id || c.anyCritical id)).length
  s.modSketch fun k =>
    { k with dropFrozen := k.dropFrozen - n, dropWake := k.dropWake - n, dropSummary := k.dropSummary - n, ignored := k.ignored - m }

/-- The thaw, before the records, the freeze and the triggers of severity-3 sets of the same tick (R449). -/
def thaw (s : Chip) : Chip :=
  let late := (s.sketch.lateSet.filter fun x => x.1 == s.now).map Prod.snd
  let s := late.foldl undropped s
  let n := s.sketch.dropFrozen
  let s := s.modSketch fun k => { k with frozen := false, cause := 0, source := 0, frozenHall := 0, lateSet := [] }
  let s := postRec (recPost s 0x0B 0 0 (zeros 4 ++ le 4 n)) 3 0
  late.foldl (fun s id => recordSet s id 3 (maskOf s id)) s

def bodyRecThaw : Body := fun _ _ s =>
  if s.sketch.pending.isSome then (.bare .denied, s)
  else
    let s := if s.sketch.frozen then thaw s else s
    (.reply .ok (recWordData s), s)

def execRecThaw (rq : Request) (s : State) : Host.Outcome State Fault Refusal := .next (s.on (serve 0x0904 {} bodyRecThaw rq))

/-! ## REC_TRIGGER, REC_INFO, REC_READ (R447, R453) -/

def bodyRecTrigger : Body := fun rq _ s =>
  let s := forEach 4 (fun d s =>
    if (arg rq 0 1).testBit d && (tget s.img.recs.defs d).enable then addTrigger s d .host else s) s
  let s := recPost s 0x0C 0 0 ((rq.params.drop 4).take 12)
  (.reply .ok (recWordData s), s)

def execRecTrigger (rq : Request) (s : State) : Host.Outcome State Fault Refusal :=
  .next (s.on (serve 0x0905 { lenLo := 16, lenHi := 16 } bodyRecTrigger rq))

def oldest (l : List RecUnit) (next : Nat) : Nat := (l.head?.map RecUnit.num).getD next

def recInfoData (s : Chip) : List Byte :=
  let k := s.sketch
  recWordData s ++ le 4 (oldest k.events k.nextEvent) ++ le 4 k.nextEvent ++ le 4 (oldest k.summaries k.nextSummary)
    ++ le 4 k.nextSummary ++ le 4 k.nextCapture ++ le 4 k.dropFrozen ++ le 4 k.dropWake ++ le 8 k.frozenHall
    ++ le 2 k.source ++ zeros 2 ++ le 4 k.ignored

def bodyRecInfo : Body := fun _ _ s => (.reply .ok (recInfoData s), s)

def execRecInfo (rq : Request) (s : State) : Host.Outcome State Fault Refusal := .next (s.on (serve 0x0901 {} bodyRecInfo rq))

/-- What an area holds from a start on: the number and the bytes of each unit, with its MRAM address (R453). -/
def areaUnits (s : Chip) (area slot start : Nat) : List (Nat × List Byte × Nat) :=
  let k := s.sketch
  if area = 1 then (k.events.filter fun u => start ≤ u.num).map fun u => (u.num, u.bytes, unitAddr 1 u.num)
  else if area = 2 then (k.summaries.filter fun u => start ≤ u.num).map fun u => (u.num, u.bytes, unitAddr 2 u.num)
  else if area = 3 then
    (List.range 32).filterMap fun i =>
      if start ≤ i then (tget k.slots i).map fun u => (i, u.bytes.take 64, captureAddr i) else none
  else
    let words := ((tget k.slots slot).map fun u => u.bytes.drop 64).getD []
    (List.range (words.length / 4 - start)).map fun i =>
      (start + i, (words.drop (4 * (start + i))).take 4, captureAddr slot + 64 + 4 * (start + i))

/-- Bytes of one unit of an area (R453). -/
def areaSize (area : Nat) : Nat := if area = 1 then 32 else if area = 4 then 4 else 64

/-- REC_READ (R453). -/
def bodyRecRead : Body := fun rq _ s =>
  let area := arg rq 0 1
  let slot := arg rq 1 1
  let most := arg rq 2 2
  let start := arg rq 4 4
  let held := (tget s.sketch.slots slot).any fun u => u.num % 2 ^ 32 == arg rq 8 4
  if area < 1 || 4 < area then (.bare .badParam, s)
  else if area == 4 && (31 < slot || !held) then (.bare .outOfRange, s)
  else
    let us := areaUnits s area slot start
    let room := unitsThatFit rq.port 8 (areaSize area)
    let out := us.take (if most = 0 then room else min most room)
    let first := (out.head?.map fun u => u.1).getD start
    if out.any fun u => mramBad s u.2.2 (areaSize area) then (.ecc, s)
    else (.reply .ok (le 2 out.length ++ zeros 2 ++ le 4 first ++ out.flatMap fun u => u.2.1) (decide (out.length < us.length)), s)

def execRecRead (rq : Request) (s : State) : Host.Outcome State Fault Refusal :=
  .next (s.on (serve 0x0902 { lenLo := 12, lenHi := 12 } bodyRecRead rq))

/-! ## Scrub and aging (R442, R443) -/

/-- MRAM holds 32 MiB in words of 8 bytes (R432, R443). -/
def mramWord (a : Nat) : Nat := a % 0x02000000 / 8 * 8

/-- A scrub pass ends: corrected words are written back, uncorrectable ones stay (R443). -/
def scrubPass (corrected uncorrectable : List Nat) (s : Chip) : Chip :=
  if !yardAlive s then s
  else
    let s := { s with mram := { bad := (uncorrectable.map mramWord).foldl (fun l a => insertUp a l) s.mram.bad, scrubTick := s.now } }
    let s := if corrected.isEmpty then s else setFault s 0x1000
    if uncorrectable.isEmpty then s else setFault s 0x1001

def execMramScrubPass (corrected uncorrectable : List Nat) (s : State) : Host.Outcome State Fault Refusal :=
  .next (s.on (scrubPass corrected uncorrectable))

/-- When the item of a class that has waited longest fell due; none where none waits (R442). -/
def oldestDue (s : Chip) (c : AgedClass) : Option Nat :=
  let least (l : List Nat) : Option Nat := l.foldl (fun a t => some (min t (a.getD t))) none
  match c with
  | .ledger => s.ledger.queue.head?.map (·.tick)
  | .flush => least ((s.sketch.queue.head?.map RecEvent.tick).toList ++ (s.sketch.done.head?.map Capture.tick).toList)
  | .selfTest => if isStandby s then s.pair.shadow.selfTick else none
  | .estimator => least (((List.range 12).filter (slotAdmitted s)).flatMap fun j => stepDue (s.bat j) :: (restDue (s.bat j)).toList)
  | .scrub => some s.mram.scrubTick

/-- The class's bound has passed since its work fell due (R442). -/
def agedOut (s : Chip) (c : AgedClass) : Bool := (oldestDue s c).any fun t => decide (t + agedBound c ≤ s.now)

def isScrub : AgedClass → Bool
  | .scrub => true
  | _ => false

/-- A class has missed its bound; its work goes on (R443). -/
def agingExpiry (c : AgedClass) (s : Chip) : Chip :=
  if yardAlive s && agedOut s c then setFault s (if isScrub c then 0x1003 else 0x1004) else s

def execAgingBoundExpiry (c : AgedClass) (s : State) : Host.Outcome State Fault Refusal := .next (s.on (agingExpiry c))

end Sys2Proof.Machine
end

