-- ==== Sys2Proof/Machine/Session.lean ====
section
/-! DEFINITION. The session opcodes, FENCE, events, the service opcodes, and packets that fail the framing checks (R287-R319). -/

namespace Sys2Proof.Machine

/-! ## HELLO, PING, GOODBYE (R307, R309, R317) -/

def version : Nat := 0x10

/-- A version is common to the host's range and the controller's (R307). -/
def agreed (hi lo : Nat) : Option Nat := if max lo version ≤ min hi version then some (min hi version) else none

def deviceIdBytes : List Byte := (List.range 8).map Config.deviceId

def helloData (s : Chip) (p : Port) (ver depth : Nat) (dev : List Byte) : List Byte :=
  le 1 ver ++ le 1 version ++ le 1 version ++ le 1 s.strap.code ++ le 2 (portLimit p) ++ le 1 depth ++ le 1 (portCode p) ++ dev

def bodyHello : Body := fun rq _ s =>
  match agreed (arg rq 0 1) (arg rq 1 1) with
  | some v =>
    let s := s.modPort rq.port fun ps => { ps with ver := BitVec.ofNat 8 v, station := BitVec.ofNat 16 (arg rq 2 2) }
    (.reply .ok (helloData s rq.port v 8 deviceIdBytes), s)
  | none => (.reply .version [0x10#8, 0x10#8], s)

def execHello (rq : Request) (s : State) : Host.Outcome State Fault Refusal :=
  .next (s.on (serve 0x0001 { lenLo := 8, lenHi := 8, anyVer := true, inRecovery := true } bodyHello rq))

def bodyPing : Body := fun rq _ s => (.reply .ok rq.params, s)

def execPing (rq : Request) (s : State) : Host.Outcome State Fault Refusal :=
  .next (s.on (serve 0x0003 { lenLo := 0, lenHi := 4096, inRecovery := true } bodyPing rq))

/-- The station of WD1 leaves (R421). -/
def leavesDog (s : Chip) (p : Port) : Bool :=
  s.dogs.wd1.state != .disarmed && s.img.dogs.wd1Disarm && (s.port p).station == s.dogs.wd1.station

def bodyGoodbye : Body := fun rq _ s =>
  let s := if leavesDog s rq.port then disarmWd1 s else s
  (.bare .ok, s.modPort rq.port fun ps => { ps with ver := 0x10#8, station := 0#16 })

def execGoodbye (rq : Request) (s : State) : Host.Outcome State Fault Refusal := .next (s.on (serve 0x0007 {} bodyGoodbye rq))

/-! ## FENCE (R300) -/

def bodyFence : Body := fun rq r s =>
  let ms := arg rq 2 2
  if 60000 < ms then (.bare .outOfRange, s)
  else
    let f : Fence :=
      { ref := r, bothPorts := (arg rq 0 1).testBit 1,
        ledger := if (arg rq 0 1).testBit 0 then s.ledger.queue.getLast?.map LedgerRec.seq else none,
        drafts := if (arg rq 0 1).testBit 0 then (s.ledger.drafts.getD []).length else 0,
        deadline := s.now + (if ms = 0 then 1000 else ms) * 1000 }
    (.later, s.modPort rq.port fun ps => { ps with fence := some f })

def execFence (rq : Request) (s : State) : Host.Outcome State Fault Refusal := .next (s.on (serve 0x0006 {} bodyFence rq))

/-- A request that the fence covers. -/
def covered (f : Fence) (r : ReqRef) : Bool := decide (r.receipt < f.ref.receipt) && (f.bothPorts || r.port == f.ref.port)

/-- Requests whose setpoint, mode change, sequence start or stop, snapshot, commit or mailbox entry has not applied yet. -/
def unapplied (s : Chip) : List ReqRef :=
  s.chQueue.map ChSet.ref ++ s.railQueue.map RailSet.ref ++ s.book.queue.filterMap EnergySet.ref? ++ s.sense.queue.map SeqSet.ref
    ++ (s.mode.pend.map PendMode.asked).getD [] ++ s.ledger.work.hosts ++ (s.cfg.apply.map fun a => a.2.1).toList ++ (s.cfg.copying.map CfgCopy.ref).toList
    ++ (s.box ++ s.boxWait ++ s.boxDue).map BoxEntry.ref

/-- Every earlier request of the port has its reply formed. -/
def repliesFormed (s : Chip) (f : Fence) (p : Port) : Bool :=
  (s.port p).replies.all fun x => !decide (x.receipt < f.ref.receipt) || x.reply.isSome

/-- The `n` records that waited for their SEQs as the FENCE was taken have them and are committed. -/
def draftsCommitted (s : Chip) (n : Nat) : Bool :=
  n == 0 || (s.ledger.drafts.isNone
    && !s.ledger.queue.any fun r => decide ((r.seq + 2 ^ 32 - s.ledger.settledAt) % 2 ^ 32 < n))

/-- The conditions of a FENCE hold. -/
def fenceHolds (s : Chip) (f : Fence) : Bool :=
  repliesFormed s f f.ref.port && (!f.bothPorts || (repliesFormed s f .tw && repliesFormed s f .spi))
    && !(unapplied s).any (covered f)
    && (f.ledger.all fun q => !s.ledger.queue.any fun r => r.seq == q) && draftsCommitted s f.drafts

/-- The fence ends and the port resumes. -/
def endFence (p : Port) (f : Fence) (st : Status) (data : List Byte) (s : Chip) : Chip :=
  formReply (s.modPort p fun ps => { ps with fence := none }) f.ref st data

def fenceRelease (p : Port) (s : Chip) : Chip :=
  match (s.port p).fence with
  | some f => if fenceHolds s f && !s.fw.yardStop then endFence p f .ok (le 8 s.hall) s else s
  | none => s

def execFenceRelease (p : Port) (s : State) : Host.Outcome State Fault Refusal := .next (s.on (fenceRelease p))

/-- The deadline has passed with the conditions not met; where they hold the FENCE is released. -/
def fenceTimeout (p : Port) (s : Chip) : Chip :=
  match (s.port p).fence with
  | some f => if f.deadline ≤ s.now && !s.fw.yardStop && !fenceHolds s f then endFence p f .timeout [] s else s
  | none => s

def execFenceTimeout (p : Port) (s : State) : Host.Outcome State Fault Refusal := .next (s.on (fenceTimeout p))

/-! ## EVENT_READ (R301, R302) -/

/-- An event record's 24 bytes (R302). -/
def eventRecBytes (e : EventRec) : List Byte :=
  le 1 e.cls ++ [e.tag] ++ le 1 (bitN 0 e.completion + (if e.completion then portCode e.port * 2 else 0)) ++ zeros 1
    ++ le 2 e.seq.toNat ++ le 2 (if e.completion then e.status.code else 0) ++ fit 16 e.body

/-- The record is acknowledged by `ack`: at or before it, modulo 2^16. -/
def ackedBy (ack : Nat) (e : EventRec) : Bool := decide ((ack + 65536 - e.seq.toNat) % 65536 < 32768)

def bodyEventRead : Body := fun rq _ s =>
  let e := s.events
  let q := if (arg rq 3 1).testBit 0 then e.queue.filter fun x => !ackedBy (arg rq 0 2) x else e.queue
  let room := unitsThatFit rq.port 8 24
  let n := if arg rq 2 1 = 0 then room else min room (arg rq 2 1)
  let out := q.take n
  let s := { s with events := { e with queue := q, droppedRead := 0 } }
  (.reply .ok (le 1 out.length ++ zeros 3 ++ le 4 e.droppedRead ++ out.flatMap eventRecBytes) (decide (out.length < q.length)), s)

def execEventRead (rq : Request) (s : State) : Host.Outcome State Fault Refusal := .next (s.on (serve 0x0008 {} bodyEventRead rq))

/-! ## SUMMARY (R314, R315) -/

def pageHead (s : Chip) (k : Nat) : List Byte := le 2 k ++ le 2 4 ++ le 8 s.hall

def page0 (s : Chip) (p : Port) : List Byte :=
  let f := s.fw
  let other := fwSlot s 0 (1 - f.run)
  let v := s.imgValid
  pageHead s 0 ++ deviceIdBytes ++ [Config.stableRev, Config.studioRev] ++ le 2 Config.romVersion.toNat
    ++ le 4 (if f.patchRuns then (fwSlot s 1 f.patchSlot).version else 0) ++ le 4 (fwSlot s 0 f.run).version
    ++ le 4 (if other.valid == .valid then other.version else 0) ++ le 1 f.run ++ le 1 s.strap.code ++ [(s.port p).ver]
    ++ le 1 version ++ le 4 (modeWord s.mode) ++ le 2 s.mode.epoch ++ le 2 (if inHall s then nodeId s else 0xFFFF)
    ++ le 2 (if v then 1 else 0) ++ le 1 (if hasState s then s.cfg.slot else 0xFF)
    ++ le 1 (bitN 0 v + bitN 1 (v && s.img.signed) + bitN 2 (s.cfg.stage != .none)) ++ le 4 (if v then s.img.seqNo else 0)
    ++ fit 32 (if v then s.img.digest else [])
    ++ le 4 s.retained.wd0 ++ le 4 s.retained.wd1 ++ le 4 s.retained.resets ++ le 1 s.retained.cause
    ++ le 1 (bitN 0 (s.dogs.wd1.state != .disarmed) + bitN 1 s.dogs.hostLoss) ++ zeros 2 ++ le 4 s.ledger.pos.nextSeq
    ++ le 4 (s.ledger.pos.ack.getD none32) ++ le 4 (ledgerWord s) ++ le 4 (energyWord s) ++ le 4 (measWord s)
    ++ le 2 s.events.queue.length ++ le 2 s.events.nextSeq.toNat ++ le 4 s.events.droppedWake
    ++ (List.range 19).flatMap (fun b => le 1 (digest s (stickyOf s (b + 1)))) ++ zeros 9

def page1 (s : Chip) : List Byte :=
  pageHead s 1 ++ (List.range 32).flatMap (fun n => le 4 (chWordAll s n)) ++ (List.range 32).flatMap fun n => le 2 (s.chCfg n).gen

def page2 (s : Chip) : List Byte :=
  pageHead s 2 ++ (List.range 16).flatMap (fun k => le 4 (railWord s k)) ++ (List.range 12).flatMap fun j => le 4 (batWord s j)

def page3 (s : Chip) : List Byte :=
  pageHead s 3 ++ (List.range 8).flatMap (fun n => le 4 (linkWord s n))
    ++ (List.range 8).flatMap (fun n =>
      let b := s.burst n
      let on := b.running
      le 4 (if on then b.power else 0) ++ le 4 (if on then b.rectPart else 0) ++ le 8 (earmarkLeft s b))
    ++ le 8 s.energy.eEarmark

def page (s : Chip) (p : Port) : Nat → List Byte
  | 0 => page0 s p
  | 1 => page1 s
  | 2 => page2 s
  | _ => page3 s

/-- The leading pages that fit in `room` bytes. -/
def pagesThatFit : List (List Byte) → Nat → List (List Byte)
  | [], _ => []
  | p :: ps, room => if p.length ≤ room then p :: pagesThatFit ps (room - p.length) else []

def bodySummary : Body := fun rq _ s =>
  let first := arg rq 0 1
  let pages := if s.fw.recovery then 1 else 4
  if pages ≤ first then (.bare .outOfRange, s)
  else
    let all := ((List.range pages).drop first).map (page s rq.port)
    let want := if arg rq 1 1 = 0 then all else all.take (arg rq 1 1)
    let out := pagesThatFit want (portLimit rq.port)
    (.reply .ok out.flatten (decide (out.length < all.length)), s)

def execSummary (rq : Request) (s : State) : Host.Outcome State Fault Refusal :=
  .next (s.on (serve 0x0002 { inPowerDown := true, inRecovery := true } bodySummary rq))

/-! ## Service opcodes (R318) -/

/-- Service event of a calibration reading. -/
def postCal (s : Chip) (r : ReqRef) (st : Status) : Chip :=
  let v := s.svc
  let mean (sum : Int) : Int := rdiv sum v.calN
  post s 0x0E (le 1 1 ++ le 1 v.calObj ++ zeros 2 ++ leI 4 (mean v.calSumI) ++ leI 4 (rdiv v.calSumV (v.calN * 1000)) ++ le 4 v.calN)
    [(r, st)]

/-- The object codes that the selected object admits. -/
def svcAdmits (s : Chip) (o : Nat) : Bool :=
  if s.mode.svcKind == 1 then (members s s.mode.svcIndex).contains o
  else if s.mode.svcKind == 2 then
    match slotOfRail s s.mode.svcIndex with
    | some j => (batBind s j).any (fun b => b.channel == o) || o == 0x20 + j
    | none => false
  else false

def bodySvcCalRead : Body := fun rq r s =>
  let o := arg rq 0 1
  let ms := arg rq 2 2
  if s.mode.mode != .service then (.notInMode s, s)
  else if !isObject o then (.bare .badParam, s)
  else if ms < 1 || 10000 < ms then (.bare .outOfRange, s)
  else if (meterCfg s o).isNone then (.bare .configInvalid, s)
  else if !svcAdmits s o then (.notInMode s, s)
  else
    let s := match s.svc.calRef with
      | some old => postCal s old .aborted
      | none => s
    let s := { s with svc := { s.svc with
      calRef := some r, calObj := o, calEnd := s.now + ms * 1000, calSumI := 0, calSumV := 0, calN := 0 } }
    (.reply .accepted (le 4 (meterWord s o)), s)

def execSvcCalRead (rq : Request) (s : State) : Host.Outcome State Fault Refusal :=
  .next (s.on (serve 0x0E01 { activeOnly := true } bodySvcCalRead rq))

/-- The averaging time has ended. -/
def svcCalDone (s : Chip) : Chip :=
  match s.svc.calRef with
  | some r =>
    if s.svc.calEnd ≤ s.now then
      let s := postCal s r .ok
      { s with svc := { s.svc with calRef := none } }
    else s
  | none => s

def execSvcCalReadDone (s : State) : Host.Outcome State Fault Refusal := .next (s.on svcCalDone)

/-- SVC_FET_EXERCISE (R318): a SPARE channel is DENIED as CH_ON denies it (R16). -/
def bodySvcFetExercise : Body := fun rq r s =>
  let n := arg rq 0 1
  let g := arg rq 2 2
  let ms := arg rq 4 4
  if s.mode.mode != .service then (.notInMode s, s)
  else if 31 < n || ms < 1 || 10000 < ms then (.bare .outOfRange, s)
  else if g != 0xFFFF && g != (s.chCfg n).gen then (.reply .roleChanged (genData s n), s)
  else if !svcPicks s n then (.notInMode s, s)
  else if (s.chCfg n).role == 0 then (.bare .denied, s)
  else if (s.ch n).disabled then (.bare .channelDisabled, s)
  else if s.chQueue.any fun e => e.ch == n then (.later, queueCh s n (.exercise ms) r false)
  else if (s.ch n).state != .off || (s.ch n).intentOn then (.bare .denied, s)
  else (.reply .accepted (chData s n), queueCh s n (.exercise ms) r true)

def execSvcFetExercise (rq : Request) (s : State) : Host.Outcome State Fault Refusal :=
  .next (s.on (serve 0x0E02 { lenLo := 8, lenHi := 8, activeOnly := true, queue := 1 } bodySvcFetExercise rq))

/-- The hold of an exercise has ended: the channel turns off, and its event completes the exercise. -/
def exerciseEnd (s : Chip) : Chip :=
  let n := s.svc.exCh
  if (s.ch n).state == .on && (s.ch n).exercise && (s.svc.exEnd.any fun t => t ≤ s.now) then
    let s := { s with svc := { s.svc with exRef := none, exEnd := none } }
    chStop (s.modCh n fun c => { c with intentOn := false, brk := { c.brk with retries := 0 } }) n .hostOff .soft .off .ok
  else s

def execFetExerciseHoldEnd (s : State) : Host.Outcome State Fault Refusal := .next (s.on exerciseEnd)

/-! ## Packets that fail the framing checks (R291, R292, R319) -/

/-- The opcode index, as runs of codes (R319). -/
def opcodeRuns : List (Nat × Nat) :=
  [(0x0001, 0x0008), (0x0101, 0x0103), (0x0201, 0x0206), (0x0210, 0x0213), (0x0301, 0x0309), (0x0401, 0x0405),
   (0x0410, 0x0413), (0x0501, 0x0506), (0x0601, 0x0603), (0x0610, 0x0614), (0x0701, 0x0706), (0x0801, 0x0806)]
  ++ [(0x0901, 0x0905), (0x0A01, 0x0A03), (0x0B01, 0x0B08), (0x0C01, 0x0C06), (0x0C10, 0x0C11), (0x0C20, 0x0C21),
   (0x0D01, 0x0D05), (0x0E01, 0x0E02), (0x0F01, 0x0F02)]

def inIndex (op : Nat) : Bool := opcodeRuns.any fun r => decide (r.1 ≤ op) && decide (op ≤ r.2)

/-- Checks 1 to 4 of R291 on a whole packet, against a version. -/
def framing (p : Port) (ver : Byte) (b : List Byte) : Option Status :=
  let len := field b 4 2
  if b.length != 10 + len || portLimit p < len then some .badLength
  else if field b (8 + len) 2 != (crc16 (b.take (8 + len))).toNat then some .badCrc
  else if field b 2 2 != 1 && b.getD 0 0#8 != ver then some .version
  else if !inIndex (field b 2 2) then some .badOpcode
  else none

def framingData (st : Status) : List Byte := if st == .version then [0x10#8, 0x10#8] else []

/-- The CRC source of a port (R343). -/
def crcSource (p : Port) : Nat := 0x0A00 + portCode p

/-- The Yard takes a packet that fails a framing check and answers it; a failed CRC sets its port's source (R343). -/
def badRequest (p : Port) (b : List Byte) (s : Chip) : Chip :=
  if takes s p && isNext s p b then
    match framing p (s.port p).ver b with
    | some st =>
      let t := takeRequest s p (b.getD 1 0#8) b
      formReply (if st == .badCrc then setFault t.2 (crcSource p) else t.2) t.1 st (framingData st)
    | none => s
  else s

end Sys2Proof.Machine
end

