-- ==== Sys2Proof/Machine/Wires.lean ====
section
/-! DEFINITION. The host's two-wire and SPI targets: transfers into the request queues and out of the reply queues
(R320-R328). -/

namespace Sys2Proof.Machine

/-- The bytes of a reply (R288, R289). -/
def replyBytes (r : Reply) : List Byte :=
  let flags := bitN 0 r.more + bitN 1 r.eventPending + bitN 2 r.modeChanged + bitN 3 r.roleSeen
  let h := [r.ver, r.tag] ++ le 2 r.status.code ++ le 2 r.data.length ++ le 1 r.credits ++ le 1 flags ++ r.data
  h ++ le 2 (crc16 h).toNat

/-- The oldest unconsumed reply, where it is formed (R296, R324). -/
def waitingReply (s : Chip) (p : Port) : Option Reply := (s.port p).replies.head?.bind Slot.reply

/-- What a read of the reply window returns first: the waiting reply or an idle one (R298, R324). -/
def windowReply (s : Chip) (p : Port) : Reply := (waitingReply s p).getD (newReply s p 0#8 .ok [] false)

/-- Reads `n` bytes of the reply window; a reply read to its last byte is consumed (R324). -/
def readWindow (s : Chip) (p : Port) (n : Nat) : Chip :=
  let bytes := replyBytes (windowReply s p)
  let out := bytes.take n ++ List.replicate (n - bytes.length) 0xFF#8
  let s := s.modPort p fun ps => { ps with lastRead := out }
  if bytes.length ≤ n then
    if (waitingReply s p).isSome then s.modPort p fun ps => { ps with replies := ps.replies.tail }
    else clearFlags s p
  else s

/-- The last packet still moves from the receive buffer into the request queue, for up to 5 µs (R325). -/
def moving (s : Chip) (p : Port) : Bool :=
  (s.port p).received.any fun x => decide (s.now < x.1 + 5) && decide (s.now < x.1 + x.2 % 6)

/-- A write would be taken: the receive buffer is free, and the request queue or the reply queue has room (R295, R325,
R328). -/
def wouldTake (s : Chip) (p : Port) : Bool :=
  !s.fw.yardStop && !moving s p && (decide ((s.port p).queue.length < 8) || decide ((s.port p).replies.length < 8))

/-- A packet arrives at a port (R294, R295): it enters the request queue, or is answered QUEUE_FULL, or is dropped.  DESIGN
CHOICE: it counts as queued from its end on, while how long it moves out of the receive buffer is a free value. -/
def arrive (s : Chip) (p : Port) (bytes : List Byte) : Chip :=
  let free := s.draw
  let s := s.drawn.modPort p fun ps => { ps with received := some (s.now, free) }
  let ps := s.port p
  if ps.queue.length < 8 then s.modPort p fun ps => { ps with queue := ps.queue ++ [bytes] }
  else if ps.replies.length < 8 then
    let rep := newReply s p (bytes.getD 1 0#8) .queueFull [] false
    let s := s.modPort p fun ps => { ps with replies := ps.replies ++ [{ receipt := s.receipts, reply := some rep }] }
    clearFlags { s with receipts := s.receipts + 1 } p
  else s

/-! ## Two-wire (R320-R326) -/

/-- The member address (R321). -/
def memberAddr (s : Chip) : Nat := (if s.strap == .b then 0x58 else 0x48) + s.addr % 8

/-- The pair alias (R321). -/
def aliasAddr (s : Chip) : Nat := 0x50 + s.addr % 8

/-- The target acknowledges its address: from HOLD onwards the member address, and the alias while active, but in a
switch-over gap only once the drivers have resumed (R321, R322, R356). -/
def answers (s : Chip) (adr : Nat) : Bool :=
  yardAlive s && !s.fw.yardStop && (adr == memberAddr s || (adr == aliasAddr s && isActive s && s.pair.me.resumeAt.isNone))

/-- The minimal responder's receiver is awake and addressed (R326, R484). -/
def responderAnswers (s : Chip) (adr : Nat) : Bool := s.mode.mode == .off && s.ostler.rxAwake && adr == memberAddr s

/-- The receiver is addressed: it stays awake for 100 ms more (R326). -/
def rxKept (s : Chip) : Chip := { s with ostler := { s.ostler with rxLast := s.now } }

/-- A write transfer: its first data byte is the pointer (R323).  At the minimal responder the requests themselves are
commands of their own (R484). -/
def twWrite (adr : Nat) (bytes : List Byte) (s : Chip) : Chip :=
  if answers s adr && wouldTake s .tw then
    match bytes with
    | p :: b :: rest =>
      if p == 0#8 then
        let s := if 258 < (b :: rest).length then setFault s 0x0A02 else s
        arrive s .tw ((b :: rest).take 259)
      else s
    | _ => s
  else if responderAnswers s adr then rxKept s
  else s

def execTwWriteTransfer (adr : BitVec 7) (bytes : List Byte) (s : State) : Host.Outcome State Fault Refusal :=
  .next (s.on (twWrite adr.toNat bytes))

/-- A read transfer of `n` bytes (R324). -/
def twRead (adr n : Nat) (s : Chip) : Chip :=
  if answers s adr then readWindow s .tw n
  else if responderAnswers s adr then rxKept (readWindow s .tw n)
  else s

def execTwReadTransfer (adr : BitVec 7) (n : Nat) (s : State) : Host.Outcome State Fault Refusal :=
  .next (s.on (twRead adr.toNat n))

/-- HSCL was held low for more than 35 ms: the partial request is discarded and TW_HELD sets (R320). -/
def twHeld (s : Chip) : Chip := if yardAlive s then setFault s 0x0A04 else s

def execTwHeld (s : State) : Host.Outcome State Fault Refusal := .next (s.on twHeld)

/-! ## SPI (R327, R328) -/

/-- The port status byte (R328). -/
def spiStatusByte (s : Chip) : Nat :=
  2 ^ 7 + credits s.spi % 16 * 2 ^ 3 + bitN 2 (!s.events.queue.isEmpty) + bitN 1 (waitingReply s .spi).isSome
    + bitN 0 (wouldTake s .spi)

/-- Every transfer shifts out the status byte during its command byte. -/
def spiTransfer (s : Chip) (f : Chip → Chip) : Chip :=
  if yardAlive s then f { s with spiStatus := BitVec.ofNat 8 (spiStatusByte s) } else s

/-- A write transfer; without READY it is ignored (R328). -/
def spiWrite (bytes : List Byte) (s : Chip) : Chip :=
  spiTransfer s fun s =>
    if wouldTake s .spi && !bytes.isEmpty then
      let s := if 4106 < bytes.length then setFault s 0x0A03 else s
      arrive s .spi (bytes.take 4107)
    else s

def execSpiWrite (bytes : List Byte) (s : State) : Host.Outcome State Fault Refusal := .next (s.on (spiWrite bytes))

/-- A read transfer that clocks `n` bytes after the turnaround byte (R328). -/
def spiRead (n : Nat) (s : Chip) : Chip := spiTransfer s fun s => readWindow s .spi n

def execSpiRead (n : Nat) (s : State) : Host.Outcome State Fault Refusal := .next (s.on (spiRead n))

/-- Any other command byte: the transfer ends with the status byte (R328). -/
def spiOther (cmd : Byte) (s : Chip) : Chip :=
  if cmd == 0#8 || cmd == 0x80#8 then s else spiTransfer s fun s => s

def execSpiOtherCommand (cmd : Byte) (s : State) : Host.Outcome State Fault Refusal := .next (s.on (spiOther cmd))

end Sys2Proof.Machine
end

