-- ==== Sys2Proof/Machine/Waking.lean ====
section
/-! DEFINITION. The Ostler: supplies, pins, wake steps, dead-stop retries, the minimal responder, the clocks, and the ends of a
power-down (R41, R42, R326, R480-R500). -/

namespace Sys2Proof.Machine

/-! ## Supplies (R42, R481) -/

def setFeed (f : Feed) (on : Bool) (o : Ostler) : Ostler :=
  match f with
  | .vina => { o with vinA := on }
  | .vinb => { o with vinB := on }
  | .vka => { o with vka := on }

def feedSource : Feed → Nat
  | .vina => 0x0F00 | .vinb => 0x0F01 | .vka => 0x0F02

def bothLow (s : Chip) : Bool := !s.ostler.vinA && !s.ostler.vinB

/-- Both VINs are low: the Studio die loses power without a flush, and a wake in progress is abandoned (R42, R489). -/
def losePower (s : Chip) : Chip :=
  if s.mode.mode == .off then s
  else setErrn ((goOff 2 .supplyLoss s).modOst fun o => { o with deadStop := false, retryDue := none })

def supplyLoss (s : Chip) : Chip := losePower (s.modOst fun o => { o with vinA := false, vinB := false })

def execSupplyLoss (s : State) : Host.Outcome State Fault Refusal := .next (s.on supplyLoss)

def vinLow (f : Feed) (s : Chip) : Chip :=
  let s := s.modOst (setFeed f false)
  let s := if bothLow s then losePower s else s
  if yardAlive s then evalFault s (feedSource f) true else s

def execVinLow (f : Feed) (s : State) : Host.Outcome State Fault Refusal := .next (s.on (vinLow f))

/-- A supply returns: a wake that waits for it begins, and so does one after a supply loss or, both having been low, out of
dead-stop (R485, R493). -/
def vinReturn (f : Feed) (st : Straps) (s : Chip) : Chip :=
  let was := bothLow s
  let s := s.modOst (setFeed f true)
  if yardAlive s then setLive s (feedSource f) false
  else if s.mode.mode == .off && s.ostler.waiting then wakeIfReady st s
  else if s.mode.mode == .off && was && !bothLow s && !s.ostler.rstn
      && (s.ostler.offCause == .supplyLoss || s.ostler.deadStop) then requestWake st s
  else s

def execVinReturn (f : Feed) (st : Straps) (s : State) : Host.Outcome State Fault Refusal := .next (s.on (vinReturn f st))

/-- The keep-alive domain starts from cold: its registers restart, and a wake is asked for (R483, R485). -/
def keepalivePowerOn (st : Straps) (s : Chip) : Chip :=
  let o := s.ostler
  if s.mode.mode == .off && (!o.alive || (bothLow s && !o.vka)) then
    let s := studioLost s
    requestWake st (s.modOst fun o =>
      { alive := true, cause := 1, mons := List.replicate 4 {}, vinA := o.vinA, vinB := o.vinB, vka := o.vka, ts0 := o.ts0,
        rstn := o.rstn })
  else s

def execKeepalivePowerOn (st : Straps) (s : State) : Host.Outcome State Fault Refusal := .next (s.on (keepalivePowerOn st))

/-! ## RSTn and WAKEn (R485, R489, R491) -/

/-- RSTn stops the Studio die; in OFF too it is the reset cause, and RESET_PIN the CAUSE (R484, R487, R491). -/
def rstnAssert (s : Chip) : Chip :=
  let s := s.modOst fun o => { o with rstn := true }
  if s.mode.mode == .off then s.modOst fun o => { o with cause := 4, offCause := .resetPin }
  else setErrn ((goOff 4 .resetPin s).modOst fun o => { o with cause := 4, deadStop := false, retryDue := none })

def execRstnAssert (s : State) : Host.Outcome State Fault Refusal := .next (s.on rstnAssert)

def rstnRelease (st : Straps) (s : Chip) : Chip :=
  if s.ostler.rstn then requestWake st (s.modOst fun o => { o with rstn := false }) else s

def execRstnRelease (st : Straps) (s : State) : Host.Outcome State Fault Refusal := .next (s.on (rstnRelease st))

/-- A low pulse of 10 µs to 2 s ends. -/
def wakenPulse (lowNs : Nat) (st : Straps) (s : Chip) : Chip :=
  if s.ostler.alive && decide (10000 ≤ lowNs) && decide (lowNs < 2000000000) then requestWake st s else s

def execWakenPulse (lowNs : Nat) (st : Straps) (s : State) : Host.Outcome State Fault Refusal := .next (s.on (wakenPulse lowNs st))

/-- An OFF request to the Ostler: in OFF it cancels a waiting wake and ends dead-stop; in WAKE the present step ends first
(R489, R495).  A wake request of the same cycle does nothing (R490). -/
def requestOffPin (s : Chip) : Chip :=
  let s := s.modOst fun o => { o with offTick := some s.now }
  match s.mode.mode with
  | .off =>
    let held := s.ostler.deadStop || s.ostler.waiting || s.ostler.rewakeAt.isSome
    setErrn (s.modOst fun o =>
      { o with waiting := false, rewakeAt := none, deadStop := false, retryDue := none, wakeTag := none,
               offCause := if held then .hostRequest else o.offCause })
  | .wake =>
    if s.ostler.wakeTick == some s.now then
      let held := s.ostler.deadStop
      setErrn ((goOff 0 (if held then .hostRequest else s.ostler.offCause) s).modOst fun o =>
        { o with deadStop := false, retryDue := none, waiting := false })
    else s.modOst fun o => { o with offAsked := true }
  | _ => s

def execWakenLongLow (s : State) : Host.Outcome State Fault Refusal := .next (s.on requestOffPin)

/-! ## Wake steps (R486) -/

/-- Timeout of a step, in µs; a regulator's doubles with each attempt. -/
def stepTimeout (step tries : Nat) : Nat :=
  match step with
  | 1 => 500 * 2 ^ (tries - 1)
  | 2 => 2000 * 2 ^ (tries - 1)
  | 3 => 500 * 2 ^ (tries - 1)
  | 4 => 10000
  | 5 => 200
  | 6 => 50000
  | _ => 500000

/-- A step is running: no discharge or PLL reset is under way. -/
def stepRuns (s : Chip) : Bool :=
  s.mode.mode == .wake && decide (1 ≤ s.ostler.step) && decide (s.ostler.step ≤ 7) && s.ostler.discharge.isNone

def stepDeadline (s : Chip) : Nat := s.ostler.stepAt + stepTimeout s.ostler.step s.ostler.tries

/-- The next step begins, or the OFF request that waited for the step's end takes effect (R489). -/
def nextStep (s : Chip) : Chip :=
  if s.ostler.offAsked then endInOff s
  else if s.ostler.step = 5 then enterW6 s
  else s.modOst fun o => { o with step := o.step + 1, stepAt := s.now, tries := 1, discharge := none }

def stepGood (s : Chip) : Chip :=
  if stepRuns s && decide (s.ostler.step ≤ 6) && decide (s.now ≤ stepDeadline s) then
    nextStep (s.modOst fun o => { o with stepRetried := o.stepRetried || decide (1 < o.tries) })
  else s

def execWakeStepGood (s : State) : Host.Outcome State Fault Refusal := .next (s.on stepGood)

/-- A step fails: dead-stop, or OFF where it was asked for. -/
def stepFails (code : Nat) (s : Chip) : Chip :=
  if s.ostler.offAsked then endInOff s else enterDeadStop code s.ostler.tries s

/-- The PLL's reference is the RC from here on; every 10 s the crystal is tried again (R486, R497). -/
def rcReference (s : Chip) : Chip :=
  { s with clk := { s.clk with degraded := true }, ostler := { s.ostler with xtalNext := s.now + 10000000, xtalOk := none } }

/-- The crystal has failed, and the RC is the reference (R486, R497). -/
def onRc (s : Chip) : Chip := (rcReference s).modOst fun o => { o with xtalFailed := true }

/-- A regulator that may be tried again is discharged for 1 ms; the PLL is reset for 50 µs. -/
def retryStep (wait : Nat) (s : Chip) : Chip := s.modOst fun o => { o with discharge := some (s.now + wait) }

/-- A step misses its timeout; `rcUsable` says whether the 50 MHz RC can be the reference. -/
def stepTimedOut (rcUsable : Bool) (s : Chip) : Chip :=
  if !stepRuns s || s.now < stepDeadline s then s
  else
    let again := decide (s.ostler.tries ≤ 3)
    match s.ostler.step with
    | 4 => if rcUsable then nextStep (onRc s) else stepFails 0x14 s
    | 5 =>
      if again then retryStep 50 s
      else if rcUsable && !s.clk.degraded then
        (rcReference s).modOst fun o => { o with stepAt := s.now, tries := 1 }
      else stepFails 0x15 s
    | 6 => stepFails 0x16 s
    | 7 => if s.ostler.offAsked then endInOff s else wakeDone false s
    | k => if again then retryStep 1000 s else stepFails (0x10 + k) s

def execWakeStepTimeout (rcUsable : Bool) (s : State) : Host.Outcome State Fault Refusal := .next (s.on (stepTimedOut rcUsable))

def stepRetry (s : Chip) : Chip :=
  if s.mode.mode == .wake && s.ostler.discharge.any fun t => t ≤ s.now then
    s.modOst fun o => { o with discharge := none, stepAt := s.now, tries := o.tries + 1 }
  else s

def execWakeStepRetry (s : State) : Host.Outcome State Fault Refusal := .next (s.on stepRetry)

/-- W7 completes within its time: the mode commits at the next boundary, which this command is (R487). -/
def wakeComplete (s : Chip) : Chip :=
  if stepRuns s && s.ostler.step == 7 && decide (s.now ≤ stepDeadline s) then
    if s.ostler.offAsked then endInOff s else wakeDone true s
  else s

def execWakeComplete (s : State) : Host.Outcome State Fault Refusal := .next (s.on wakeComplete)

/-! ## Dead-stop retries and the absence of the Studio die (R23, R493, R499) -/

/-- A retry that falls due waits until it can start, and is counted when it does. -/
def deadStopRetry (st : Straps) (s : Chip) : Chip :=
  let o := s.ostler
  if s.mode.mode == .off && o.deadStop && (o.retryDue.any fun t => t ≤ s.now) && decide (o.series < 5) && canWake s then
    beginWake st (s.modOst fun o =>
      { o with cause := 7, series := o.series + 1,
               record := { o.record with retries := o.record.retries + 1 } })
  else s

def execDeadStopRetry (st : Straps) (s : State) : Host.Outcome State Fault Refusal := .next (s.on (deadStopRetry st))

/-- Three ticks without a frame on the die link: the Ostler holds the outputs and steps the supplies down. -/
def studioAbsent (s : Chip) : Chip :=
  if (yardAlive s || s.ostler.step == 7) && decide (3 ≤ s.pair.me.noLink) then
    setErrn ((goOff 6 .powerOn s).modOst fun o => { o with rewakeAt := some (s.now + 10000) })
  else s

def execStudioAbsent (s : State) : Host.Outcome State Fault Refusal := .next (s.on studioAbsent)

/-- 10 ms later it wakes from W1; the third such wake within 600 s is dead-stop instead. -/
def studioAbsentRewake (st : Straps) (s : Chip) : Chip :=
  if s.mode.mode == .off && s.ostler.rewakeAt.any fun t => t ≤ s.now then
    let recent := s.ostler.absences.filter fun t => s.now < t + 600000000
    let s := s.modOst fun o => { o with rewakeAt := none, cause := 6 }
    if 2 ≤ recent.length then enterDeadStop 0x1A 0 (s.modOst fun o => { o with absences := [] })
    else
      wakeIfReady st (s.modOst fun o => { o with absences := s.now :: recent, waiting := true })
  else s

def execStudioAbsentRewake (st : Straps) (s : State) : Host.Outcome State Fault Refusal := .next (s.on (studioAbsentRewake st))

/-! ## The end of a power-down (R41) -/

/-- Nothing that the flush commits is left. -/
def flushed (s : Chip) : Bool :=
  s.ledger.queue.isEmpty && s.ledger.drafts.isNone && s.ledger.work.closes.isEmpty && s.sketch.queue.isEmpty

/-- Checkpoint and summary are written, what is left is lost and counted, and the Studio die loses power; a wake asked for
meanwhile follows (R41, R489), and the backstop ends in dead-stop (R504). -/
def flushEnd (st : Straps) (good : Bool) (s : Chip) : Chip :=
  if yardAlive s && s.mode.stage == .powerDown && (flushed s || s.ostler.flushAt.any fun t => t + 200000 ≤ s.now) then
    let lost := s.ledger.queue.length + (s.ledger.drafts.getD []).length + s.sketch.queue.length
    let s := if lost = 0 then s else
      writeCounts { s with retained := { s.retained with flush := sat32 s.retained.flush lost } }
    let s := if 0 < lost then setFault s 0x1104 else s
    let s := writeSummary good (writeCheckpoint s)
    let hot := s.ostler.thermal
    let s := goOff 3 .hostRequest s
    let s := s.modOst fun o => { o with thermal := false, waiting := o.wakeAfter, wakeAfter := false }
    wakeIfReady st (setErrn (if hot then enterDeadStop 0x18 0 s else s))
  else s

def execPowerDownFlushEnd (s : State) (st : Straps := {}) (good : Bool := true) : Host.Outcome State Fault Refusal :=
  .next (s.on (flushEnd st good))

/-! ## Window monitors (R278, R279) -/

/-- WAKE_ON selects the level. -/
def wakesOn (c : MonCfg) (was new : Level) : Bool :=
  match c.wakeOn, new with
  | 1, .above => true
  | 2, .below => true
  | 3, .inWindow => false
  | 3, _ => was == .inWindow
  | _, _ => false

/-- The settings by which a monitor compares: the run-time ones from HOLD onwards; before that WM0 to WM3 have those that the
Ostler holds (R279, R281). -/
def monSettings (s : Chip) (m : Nat) : MonCfg :=
  if !yardAlive s && m < 4 then tget s.ostler.mons m
  else { (monCfg s m).getD {} with low := (s.mon m).low, high := (s.mon m).high, deglitch := (s.mon m).deglitch }

/-- A monitor compares its input, which has held for some cycles (R277, R278): a new level is routed from HOLD onwards; WM0 to
WM3 act in OFF with the settings that the Ostler holds, and count its cycles of 500 ns (R279). -/
def levelChange (m : Nat) (held : HeldInput) (st : Straps) (s : Chip) : Chip :=
  let was := (s.mon m).level
  let set := monSettings s m
  let lvl := compareLevel was set.low set.high held.uV
  let n := if yardAlive s then heldFor s m held.cycles else if s.mode.mode == .off then held.cycles / 50 else held.cycles
  if was == lvl || !s.ostler.alive || settles s m || n < set.deglitch then s
  else
    let low := decide (m < 4)
    let s' := match s.mode.mode with
      | .off => if low then moveLevel m lvl s else s
      | .wake => if low || decide (3 < s.ostler.step) then moveLevel m lvl s else s
      | _ =>
        match monCfg s m with
        | some c => setLevel s m c lvl
        | none => s
    if low && wakesOn set was lvl then requestWake st s' else s'

def execWmLevelChange (m : Fin 24) (held : HeldInput) (st : Straps) (s : State) : Host.Outcome State Fault Refusal :=
  .next (s.on (levelChange m held st))

/-! ## The minimal responder (R326, R484) -/

def rxWake (s : Chip) : Chip :=
  if s.mode.mode == .off && s.ostler.alive && !s.ostler.rxAwake then s.modOst fun o => { o with rxAwake := true, rxLast := s.now }
  else s

def execOstlerRxWake (s : State) : Host.Outcome State Fault Refusal := .next (s.on rxWake)

def rxSleep (s : Chip) : Chip :=
  if s.mode.mode == .off && decide (s.ostler.rxLast + 100000 ≤ s.now) then s.modOst fun o => { o with rxAwake := false } else s

def execOstlerRxSleep (s : State) : Host.Outcome State Fault Refusal := .next (s.on rxSleep)

/-- The responder answers: its one reply waits in the two-wire window. -/
def respondWith (ver tag : Byte) (st : Status) (data : List Byte) (s : Chip) : Chip :=
  let rep : Reply := { ver := ver, tag := tag, status := st, data := data, credits := 1 }
  let s := s.modPort .tw fun ps => { ps with replies := [{ receipt := s.receipts, reply := some rep }] }
  { s with receipts := s.receipts + 1, ostler := { s.ostler with rxLast := s.now } }

/-- A request at the responder, after checks 1 and 3 of R291 (its packet is whole, with a good CRC and a known opcode). -/
def respond (anyVer : Bool) (rq : Request) (f : Chip → Status × List Byte × Chip) (s : Chip) : Chip :=
  if s.mode.mode == .off && s.ostler.rxAwake && rq.port == .tw then
    if portLimit .tw < rq.params.length then respondWith 0x10#8 rq.tag .badLength [] s
    else if !anyVer && rq.ver != 0x10#8 then respondWith 0x10#8 rq.tag .version [0x10#8, 0x10#8] s
    else
      let r := f s
      respondWith 0x10#8 rq.tag r.1 r.2.1 r.2.2
  else s

/-- The mode state word in OFF (R484). -/
def offWord (s : Chip) : Nat :=
  modeWord { cause := if s.ostler.deadStop then .wakeFailure else s.ostler.offCause }

def respHello (rq : Request) (s : Chip) : Status × List Byte × Chip :=
  match agreed (arg rq 0 1) (arg rq 1 1) with
  | some v => (.ok, helloData s .tw v 1 (zeros 8), s)
  | none => (.version, [0x10#8, 0x10#8], s)

def execResponderHello (rq : Request) (s : State) : Host.Outcome State Fault Refusal := .next (s.on (respond true rq (respHello rq)))

def execResponderPing (rq : Request) (s : State) : Host.Outcome State Fault Refusal :=
  .next (s.on (respond false rq fun s => (.ok, rq.params, s)))

def execResponderModeGet (rq : Request) (s : State) : Host.Outcome State Fault Refusal :=
  .next (s.on (respond false rq fun s => (.ok, le 4 (offWord s) ++ zeros 12, s)))

/-- The wake request that the responder accepts; its reply goes out before the wake begins, when the port falls silent. -/
def responderModeRequest (rq : Request) (st : Straps) (s : Chip) : Chip :=
  let target := arg rq 0 1
  let word := le 4 (offWord s)
  let takes := s.mode.mode == .off && s.ostler.rxAwake && rq.port == .tw && rq.ver == 0x10#8
    && decide (rq.params.length ≤ portLimit .tw)
  if target = 2 || target = 3 then
    let s := respond false rq (fun s => (.accepted, word, s)) s
    if takes then
      let out := ((waitingReply s .tw).map replyBytes).getD []
      let s := requestWake st (s.modOst fun o => { o with wakeTag := some rq.tag })
      if s.mode.mode == .wake then s.modPort .tw fun ps => { ps with lastRead := out } else s
    else s
  else if target = 0 then
    let s := if takes then requestOffPin s else s
    respond false rq (fun s => (.ok, le 4 (offWord s), s)) s
  else respond false rq (fun s => (.notInMode, word, s)) s

def execResponderModeRequest (rq : Request) (st : Straps) (s : State) : Host.Outcome State Fault Refusal :=
  .next (s.on (responderModeRequest rq st))

/-- Block 0x0F as the Ostler shows it: the recorded failure, and the present supply and clock sources. -/
def recordPage (s : Chip) : List Byte :=
  let o := s.ostler
  le 1 0x0F ++ le 1 0 ++ zeros 2 ++ le 4 0
    ++ bitmap 32 (fun i => o.record.code != 0 && i == o.record.code)
    ++ bitmap 32 fun i => (i == 0 && !o.vinA) || (i == 1 && !o.vinB) || (i == 2 && !o.vka) || (i == 8 && o.xtalFailed)
        || (i == 9 && s.clk.degraded)

def execResponderFaultBlockGet (rq : Request) (s : State) : Host.Outcome State Fault Refusal :=
  .next (s.on (respond false rq fun s =>
    if arg rq 0 1 == 0x0F && arg rq 1 1 == 0 then (.ok, recordPage s, s) else (.notInMode, le 4 (offWord s), s)))

/-- The five opcodes of the responder's table. -/
def respTable (op : Nat) : Bool := op == 0x0001 || op == 0x0003 || op == 0x0101 || op == 0x0102 || op == 0x0802

def execResponderOther (rq : Request) (opcode : Half) (s : State) : Host.Outcome State Fault Refusal :=
  .next (s.on fun c =>
    if respTable opcode.toNat then c
    else
      respond false rq (fun s =>
        if inIndex opcode.toNat then (.notInMode, le 4 (offWord s), s) else (.badOpcode, [], s)) c)

/-- A packet that fails a framing check, at the Yard or at the responder. -/
def execBadRequest (p : Port) (bytes : List Byte) (s : State) : Host.Outcome State Fault Refusal :=
  .next (s.on fun c =>
    if c.mode.mode == .off then
      if c.ostler.rxAwake && p == .tw then
        match framing p 0x10#8 bytes with
        | some st => respondWith 0x10#8 (bytes.getD 1 0#8) st (framingData st) c
        | none => c
      else c
    else badRequest p bytes c)

/-! ## Clocks (R497, R498) -/

/-- The Studio die runs from the PLL. -/
def clocked (s : Chip) : Bool := yardAlive s || decide (6 ≤ s.ostler.step)

/-- The reference is the RC from here on. -/
def toRc (s : Chip) : Chip :=
  let s := onRc s
  if yardAlive s then evalFault (evalFault s 0x0F08 true) 0x0F09 true else s

def xtalFail (s : Chip) : Chip :=
  if clocked s && !s.clk.degraded then toRc s
  else if clocked s then s.modOst fun o => { o with xtalOk := none }
  else s

def execXtalFail (s : State) : Host.Outcome State Fault Refusal := .next (s.on xtalFail)

/-- Every 10 s the crystal is restarted. -/
def xtalRetry (s : Chip) : Chip :=
  if yardAlive s && s.clk.degraded && s.ostler.xtalOk.isNone && decide (s.ostler.xtalNext ≤ s.now) then
    s.modOst fun o => { o with xtalNext := s.now + 10000000, xtalOk := some s.now }
  else s

def execXtalRetry (s : State) : Host.Outcome State Fault Refusal := .next (s.on xtalRetry)

/-- The crystal has passed for 1 s: the reference switches back. -/
def xtalRestore (s : Chip) : Chip :=
  if yardAlive s && s.clk.degraded && s.ostler.xtalOk.any fun t => t + 1000000 ≤ s.now then
    let s := { s with clk := { s.clk with degraded := false } }
    let s := s.modOst fun o => { o with xtalFailed := false, xtalOk := none }
    setLive (setLive s 0x0F08 false) 0x0F09 false
  else s

def execXtalRestore (s : State) : Host.Outcome State Fault Refusal := .next (s.on xtalRestore)

/-- The PLL loses lock; `recovered` says that it locks again within 200 µs. -/
def pllUnlock (recovered : Bool) (s : Chip) : Chip :=
  if !clocked s then s
  else if s.clk.degraded then enterDeadStop 0x19 0 s
  else
    let s := setFault s 0x0F0A
    if recovered then s else toRc s

def execPllUnlock (recovered : Bool) (s : State) : Host.Outcome State Fault Refusal := .next (s.on (pllUnlock recovered))

def rcClockFail (s : Chip) : Chip := if clocked s && s.clk.degraded then enterDeadStop 0x19 0 s else s

def execRcClockFail (s : State) : Host.Outcome State Fault Refusal := .next (s.on rcClockFail)

end Sys2Proof.Machine
end

