-- ==== Sys2Proof/Machine/Tick.lean ====
section
/-! DEFINITION. The tick boundary (R26-R28): what is latched, the order in which the engines work, when queued setpoints
take effect, and the reactions to faults (R407-R410). -/

namespace Sys2Proof.Machine

/-! ## What is latched (R26) -/

/-- Entry `n` of the list goes to object `n`; objects beyond the list keep what they had. -/
def latchFrom {α β : Type} (put : Nat → α → β → α) : Nat → List α → List β → List α
  | n, a :: as, b :: bs => put n a b :: latchFrom put (n + 1) as bs
  | _, as, _ => as

/-- A fast-decimator current in mA, clamped to the front end's range (R236, R519).  DESIGN CHOICE: the spec states no
calibration of the fast path; the model takes that of the metering path (R237), and a free value where there is none. -/
def fastCurrent (s : Chip) (o : Nat) (vs : Int) : Int :=
  match meterCfg s o with
  | some c => roundAway (sampleCurrent c (shuntTemp c (s.meter o)) (clampCurrent vs)) 1000
  | none => Config.openReading (0x200 + o) vs

/-- A fast-decimator voltage in mV, clamped (R236, R519): the pin voltage itself where no metering calibration is. -/
def fastVoltage (s : Chip) (o : Nat) (vm : Int) : Int :=
  match meterCfg s o with
  | some c => roundAway (sampleVoltage c (clampVoltage vm)) 1000
  | none => roundAway (clampVoltage vm) 1000000

def fastCh (s : Chip) (n : Nat) (x : ChLatch) : ChFast :=
  { vIn := x.vIn, vOut := fastVoltage s n x.vm, i := fastCurrent s n x.vs, gateOk := x.gateOk, limiting := x.limiting }

def fastTerm (s : Chip) (j : Nat) (x : TermLatch) : TermFast :=
  { v := fastVoltage s (0x20 + j) x.vm, i := fastCurrent s (0x20 + j) x.vs }

/-- The values that the outside world shows at this boundary are latched. -/
def latchAll (l : Latch) (s : Chip) : Chip :=
  { s with chs := latchFrom (fun n c x => { c with lat := fastCh s n x }) 0 s.chs l.chs,
           rails := latchFrom (fun _ r x => { r with lp := { r.lp with lat := x } }) 0 s.rails l.rails,
           terms := latchFrom (fun j _ x => fastTerm s j x) 0 s.terms l.terms,
           ostler := { s.ostler with supplyOut := l.supplyOut } }

/-- Ticks in a row without a valid die-link frame, while the Studio die sends any: from step W7 on (R23). -/
def dieLinkTick (l : Latch) (s : Chip) : Chip :=
  s.modMe fun p => { p with noLink := if l.dieLink then 0 else p.noLink + 1 }

/-- The values of the tick join the means of the energy step, and form the tick demand (R143). -/
def powerSums (s : Chip) : Chip :=
  let sums := (List.range 32).map fun n => tget s.book.sums n + chPower s n
  { s with
    book := { s.book with sums := sums, demandSum := s.book.demandSum + loadPower s, roSum := s.book.roSum + rectOutput s,
                          n := s.book.n + 1 },
    energy := { s.energy with tickDemand := loadPower s } }

/-! ## Setpoints (R27, R28) -/

/-- Setpoints taken before this boundary take effect; entries of the mailbox find what the protective actions of the same
boundary have left (R27-R29, R434); with a change of mode or roles due, they wait for it. -/
def applySetpoints (s : Chip) : Chip :=
  applySeqQueue (if setpointsWait s then s else applyQueues s)

/-! ## Stages of a sequence -/

/-- Since when the bus has been high enough for the end of stage 1 (R39). -/
def settleTick (s : Chip) : Chip :=
  let v := (s.ch s.img.energy.busSenseCh).lat.vIn
  let high := s.mode.stage == .startSources
    && decide (((s.img.energy.vBridge + s.img.modes.exitHyst : Nat) : Int) ≤ v)
  { s with mode := { s.mode with settleSince := if high then some (s.mode.settleSince.getD s.now) else none } }

/-! ## Thermistors of the transistor models (R97) -/

/-- The thermistor of a channel's transistor model is read (R97). -/
def trefRead (n : Nat) (s : Chip) : Chip :=
  let therm := (s.brkCfg n).therm
  let h := tget s.hk therm
  if soaRuns s n && !followsLeader s n && therm != 0xFF && h.taken then
    let b := (s.ch n).brk
    let t := (thermTemp s therm h.uV).filter fun t => decide (-4000 ≤ t) && decide (t ≤ 15000)
    let okSince := if t.isNone then none else some (b.trefOk.getD s.now)
    let bad := t.isNone || (b.trefBad && !(okSince.any fun since => since + 100000 ≤ s.now))
    let s := s.modCh n fun c =>
      { c with brk := { c.brk with tref := t.orElse fun _ => c.brk.tref, trefBad := bad, trefOk := okSince } }
    evalFault s (chSource 3 2 n) t.isNone
  else s

/-- Tref is refreshed every 1 ms (R97): at the ticks whose count is a multiple of 1,000. -/
def trefStep (s : Chip) : Chip :=
  if studioRuns s && s.now % 1000 == 0 then forEach 32 (fun n s => trefRead n s) s else s

/-! ## Block resets (R409) -/

/-- Load links: every port is DOWN, its transition and its pending request go; grants stand. -/
def resetLinks (s : Chip) : Chip :=
  forEach 8 (fun n s =>
    if (s.linkCfg? n).isSome then
      let s := refuseBurst (linkDown s n) n .linkDisabled
      s.modLink n fun l => { l with llak := false, setv := none, repeatFall := false }
    else s) s

/-- Measurement: every running sequence stops, and the capture FIFOs are empty. -/
def resetSense (s : Chip) : Chip :=
  let s := forEach 8 (fun k s =>
    if (s.seq k).state == .running then seqHalt s k [] else s) s
  forEach 16 (fun t s => s.modCap t fun c => { c with fifo := [] }) s

/-- Downstream: the transaction in progress ends TIMEOUT, and the recovery of the bus runs and leaves its lines high or low
(R333, R341, R409). -/
def resetBuses (low : List Bool) (s : Chip) : Chip :=
  forEach 4 (fun k s =>
    let s := if (s.bus k).run.isSome then dsFinish s k 5 [] else s
    setStuck (recovers s k (!tget low k)) k (tget low k)) s

/-- What the reset of each block does. -/
def resetBlock (l : Latch) (b : Nat) (s : Chip) : Chip :=
  if b = 0x06 then resetLinks s
  else if b = 0x09 then resetSense s
  else if b = 0x0A then emptyPorts s
  else if b = 0x0B then resetBuses l.dsLow s
  else if b = 0x0D then linkRestart s
  else if b = 0x13 then yardStopNow s false
  else s

/-- A block has been reset in the last second. -/
def resetLately (s : Chip) (b : Nat) : Bool := s.faults.resets.any fun x => x.1 == b && decide (s.now < x.2 + 1000000)

/-- A block reset, at most once in any second. -/
def tryReset (l : Latch) (s : Chip) (b : Nat) : Chip :=
  if resetLately s b then s
  else
    let s := { s with faults := { s.faults with resets := (b, s.now) :: s.faults.resets.filter fun x => x.1 != b } }
    resetBlock l b s

/-! ## Reactions (R407, R408, R410) -/

/-- The sources among `ids` whose mask has bit `k`. -/
def reacting (s : Chip) (ids : List Nat) (k : Nat) : List Nat := ids.filter fun i => (maskOf s i).testBit k

/-- The non-maskable interrupt of these sources: their records, and their IDs forwarded to the Yard. -/
def nmi (ids : List Nat) (s : Chip) : Chip :=
  let s := ids.foldl (fun s id => recPost s 0x07 0 id []) s
  { s with faults := { s.faults with nmi := if ids.isEmpty then s.faults.nmi else ids } }

/-- The reactions of the bits that have set since the last boundary, in the order of R408: a LOCKOUT that is to come commits
first, and the others follow it; then ERR_PIN, NMI, block resets; a chip reset supersedes the block resets. -/
def reactions (l : Latch) (s : Chip) : Chip :=
  if s.mode.lockout.isSome && mayLock s then s else
  let ids := s.faults.fired
  let s := setErrn { s with faults := { s.faults with fired := [] } }
  let s := nmi (reacting s ids 1) s
  match reacting s ids 3 with
  | id :: _ => chipReset 5 id (sevOf s id == 3) s
  | [] => ((reacting s ids 2).map (· / 256)).eraseDups.foldl (tryReset l) s

/-- The sources whose cause is looked at at every boundary: the supplies and clocks, LINK_LOST, BMS_LOST, FLOOR, HK_STALE.  Each
other lasting source has an evaluation of its own, at its own rate: a sample, a poll, a frame, an energy step (R403, R411). -/
def watchedAlways (id : Nat) : Bool :=
  [0x0F00, 0x0F01, 0x0F02, 0x0F08, 0x0F09, 0x0911].contains id || (decide (0x0610 ≤ id) && decide (id ≤ 0x0617))
    || (List.range 12).any fun j => id == batSource 1 j || id == batSource 6 j

/-- A bit that was cleared while its cause lasts sets again at the cause's next evaluation (R411): here those of every
boundary. -/
def renewFaults (s : Chip) : Chip := (s.faults.live.filter watchedAlways).foldl setFault s

/-! ## The boundary -/

/-- Time advances: the tick count, and hall time. -/
def clockTick (s : Chip) : Chip := hallTimeTick { s with clk := { s.clk with tick := s.clk.tick + 1 } }

/-- The engines' work (R26, R28): protection, then the loops, whose work ends at this boundary; then the end of a SERVICE
stop, whose mode change the commands of the tick wait for; then the setpoints, which take effect from it, and the links,
which see what the boundary has applied (R47, R125, R190). -/
def enginesTick (s : Chip) : Chip :=
  let s := powerSums (forEach 32 (fun n s => chTick s n) s)
  let s := forEach 16 (fun k s => railTick s k) s
  forEach 8 (fun n s => linkTick s n) (applySetpoints (svcStep (hostLossStep s)))

/-- The work of the other blocks at a boundary. -/
def blocksTick (l : Latch) (s : Chip) : Chip :=
  let s := dsTick l (forEach 12 (fun j s => batTick s j) s)
  let s := exhaustStep (settleTick (if sequences s then stageProgress s else s))
  let s := yardTick (hkStep (trefStep (copyTick (attestTick (ledgerTick s)))))
  let s := pairTick l s
  trimTick (throttleTick (hallTick s))

/-- A boundary of a member that runs: the tick that ends has sent its mirror frame (R349), and the next one begins. -/
def runTick (l : Latch) (s : Chip) : Chip :=
  let s := dieLinkTick l (latchAll l (clockTick (mirrorSend s)))
  let s := blocksTick l (enginesTick s)
  keepView (reactions l (renewFaults s))

/-- A boundary in OFF, WAKE and from HOLD onwards: without a running Studio die the tick count alone goes on, and from
step W6 hall time with it (R1, R23, R36). -/
def tick (l : Latch) (s : Chip) : Chip :=
  if studioRuns s then runTick l s
  else if decide (6 ≤ s.ostler.step) then
    let s := clockTick s
    let s := if s.clk.degraded then markUnc s else s
    if s.ostler.step == 7 then dieLinkTick l s else s
  else { s with clk := { s.clk with tick := s.clk.tick + 1 } }

def execTick (l : Latch) (s : State) : Host.Outcome State Fault Refusal := .next (s.on (tick l))

end Sys2Proof.Machine
end

