-- ==== Sys2Proof/Machine/Dispatch.lean ====
section
/-! DEFINITION. The dispatch: one arm per command. -/

namespace Sys2Proof.Machine

def exec (i : Instr) (s : State) : Host.Outcome State Fault Refusal :=
  match i with
  | .tick l => Sys2Proof.Machine.execTick l s
  | .modeCommit => Sys2Proof.Machine.execModeCommit s
  | .lockoutCommit => Sys2Proof.Machine.execLockoutCommit s
  | .holdAutoReady => Sys2Proof.Machine.execHoldAutoReady s
  | .stageEnd => Sys2Proof.Machine.execStageEnd s
  | .startSourcesSpacing => Sys2Proof.Machine.execStartSourcesSpacing s
  | .stageTimeout => Sys2Proof.Machine.execStageTimeout s
  | .bridgeEvent r convs => Sys2Proof.Machine.execBridgeEvent r convs s
  | .shortfall => Sys2Proof.Machine.execShortfall s
  | .bridgeDwellMet => Sys2Proof.Machine.execBridgeDwellMet s
  | .handoverComplete => Sys2Proof.Machine.execHandoverComplete s
  | .powerDownFlushEnd st good => Sys2Proof.Machine.execPowerDownFlushEnd s st good
  | .supplyLoss => Sys2Proof.Machine.execSupplyLoss s
  | .vinLow f => Sys2Proof.Machine.execVinLow f s
  | .vinReturn f st => Sys2Proof.Machine.execVinReturn f st s
  | .studioAbsent => Sys2Proof.Machine.execStudioAbsent s
  | .studioAbsentRewake st => Sys2Proof.Machine.execStudioAbsentRewake st s
  | .gapHold => Sys2Proof.Machine.execGapHold s
  | .shortCircuitTrip ch => Sys2Proof.Machine.execShortCircuitTrip ch s
  | .instantaneousTrip ch => Sys2Proof.Machine.execInstantaneousTrip ch s
  | .chargePumpUv ch => Sys2Proof.Machine.execChargePumpUv ch s
  | .insertion ch => Sys2Proof.Machine.execInsertion ch s
  | .removal ch => Sys2Proof.Machine.execRemoval ch s
  | .insertDelayExpiry ch => Sys2Proof.Machine.execInsertDelayExpiry ch s
  | .primerRearm ch => Sys2Proof.Machine.execPrimerRearm ch s
  | .primerTimeout ch => Sys2Proof.Machine.execPrimerTimeout ch s
  | .closeTimeout ch => Sys2Proof.Machine.execCloseTimeout ch s
  | .primerOverlapEnd ch => Sys2Proof.Machine.execPrimerOverlapEnd ch s
  | .ksFaultTimer ch => Sys2Proof.Machine.execKsFaultTimer ch s
  | .retryDue ch => Sys2Proof.Machine.execRetryDue ch s
  | .retryReset ch => Sys2Proof.Machine.execRetryReset ch s
  | .railStart r => Sys2Proof.Machine.execRailStart r s
  | .railInputUv r => Sys2Proof.Machine.execRailInputUv r s
  | .ocLatch r => Sys2Proof.Machine.execOcLatch r s
  | .phaseOc r phase a b => Sys2Proof.Machine.execPhaseOc r phase a b s
  | .railOvervoltage r => Sys2Proof.Machine.execRailOvervoltage r s
  | .stageTempRead r => Sys2Proof.Machine.execStageTempRead r s
  | .burstEnter r => Sys2Proof.Machine.execBurstEnter r s
  | .burstWake r => Sys2Proof.Machine.execBurstWake r s
  | .currentBalance r => Sys2Proof.Machine.execCurrentBalance r s
  | .energyStep => Sys2Proof.Machine.execEnergyStep s
  | .weightUpdate => Sys2Proof.Machine.execWeightUpdate s
  | .capOver => Sys2Proof.Machine.execCapOver s
  | .rectStatusPoll => Sys2Proof.Machine.execRectStatusPoll s
  | .rectStatusAgeExpiry ch => Sys2Proof.Machine.execRectStatusAgeExpiry ch s
  | .burstEnd n => Sys2Proof.Machine.execBurstEnd n s
  | .hallCapRound => Sys2Proof.Machine.execHallCapRound s
  | .capReportDeadline => Sys2Proof.Machine.execCapReportDeadline s
  | .capAllocApply => Sys2Proof.Machine.execCapAllocApply s
  | .hallCapLost => Sys2Proof.Machine.execHallCapLost s
  | .admitAttempt j serial profile temp => Sys2Proof.Machine.execAdmitAttempt j serial profile temp s
  | .admitTempRetry j => Sys2Proof.Machine.execAdmitTempRetry j s
  | .bmsPoll j serial temp => Sys2Proof.Machine.execBmsPoll j serial temp s
  | .bmsLost j => Sys2Proof.Machine.execBmsLost j s
  | .estimatorStep j => Sys2Proof.Machine.execEstimatorStep j s
  | .restSample j vMean => Sys2Proof.Machine.execRestSample j vMean s
  | .ceiling j => Sys2Proof.Machine.execCeiling j s
  | .floor j => Sys2Proof.Machine.execFloor j s
  | .termLoss j => Sys2Proof.Machine.execTermLoss j s
  | .meterSample o vs vm => Sys2Proof.Machine.execMeterSample o vs vm s
  | .shuntTempRead o => Sys2Proof.Machine.execShuntTempRead o s
  | .checkpoint => Sys2Proof.Machine.execCheckpoint s
  | .ledgerPeriodClose => Sys2Proof.Machine.execLedgerPeriodClose s
  | .ledgerCommit signGood => Sys2Proof.Machine.execLedgerCommit signGood s
  | .seqConversion k pos nv => Sys2Proof.Machine.execSeqConversion k pos nv s
  | .seqStopComplete k => Sys2Proof.Machine.execSeqStopComplete k s
  | .housekeepingReading inp c0 c1 c2 c3 => Sys2Proof.Machine.execHousekeepingReading inp c0 c1 c2 c3 s
  | .wmLevelChange m held st => Sys2Proof.Machine.execWmLevelChange m held st s
  | .windowEventDeferred m => Sys2Proof.Machine.execWindowEventDeferred m s
  | .captureStamp t src lvl at_ => Sys2Proof.Machine.execCaptureStamp t src lvl at_ s
  | .twWriteTransfer adr bytes => Sys2Proof.Machine.execTwWriteTransfer adr bytes s
  | .twReadTransfer adr n => Sys2Proof.Machine.execTwReadTransfer adr n s
  | .twHeld => Sys2Proof.Machine.execTwHeld s
  | .spiWrite bytes => Sys2Proof.Machine.execSpiWrite bytes s
  | .spiRead n => Sys2Proof.Machine.execSpiRead n s
  | .spiOtherCommand cmd => Sys2Proof.Machine.execSpiOtherCommand cmd s
  | .ostlerRxWake => Sys2Proof.Machine.execOstlerRxWake s
  | .ostlerRxSleep => Sys2Proof.Machine.execOstlerRxSleep s
  | .responderHello rq => Sys2Proof.Machine.execResponderHello rq s
  | .responderPing rq => Sys2Proof.Machine.execResponderPing rq s
  | .responderModeGet rq => Sys2Proof.Machine.execResponderModeGet rq s
  | .responderModeRequest rq st => Sys2Proof.Machine.execResponderModeRequest rq st s
  | .responderFaultBlockGet rq => Sys2Proof.Machine.execResponderFaultBlockGet rq s
  | .responderOther rq opcode => Sys2Proof.Machine.execResponderOther rq opcode s
  | .hello rq => Sys2Proof.Machine.execHello rq s
  | .summary rq => Sys2Proof.Machine.execSummary rq s
  | .ping rq => Sys2Proof.Machine.execPing rq s
  | .wdChallenge rq => Sys2Proof.Machine.execWdChallenge rq s
  | .wdServe rq received => Sys2Proof.Machine.execWdServe rq received s
  | .fence rq => Sys2Proof.Machine.execFence rq s
  | .fenceRelease p => Sys2Proof.Machine.execFenceRelease p s
  | .fenceTimeout p => Sys2Proof.Machine.execFenceTimeout p s
  | .goodbye rq => Sys2Proof.Machine.execGoodbye rq s
  | .eventRead rq => Sys2Proof.Machine.execEventRead rq s
  | .modeGet rq => Sys2Proof.Machine.execModeGet rq s
  | .modeRequest rq => Sys2Proof.Machine.execModeRequest rq s
  | .serviceSelect rq => Sys2Proof.Machine.execServiceSelect rq s
  | .chGet rq => Sys2Proof.Machine.execChGet rq s
  | .chOn rq => Sys2Proof.Machine.execChOn rq s
  | .chOff rq => Sys2Proof.Machine.execChOff rq s
  | .chDisable rq => Sys2Proof.Machine.execChDisable rq s
  | .chEnable rq => Sys2Proof.Machine.execChEnable rq s
  | .chStateAll rq => Sys2Proof.Machine.execChStateAll rq s
  | .brkGet rq => Sys2Proof.Machine.execBrkGet rq s
  | .brkClearLockout rq => Sys2Proof.Machine.execBrkClearLockout rq s
  | .brkCurveGet rq => Sys2Proof.Machine.execBrkCurveGet rq s
  | .brkEval rq => Sys2Proof.Machine.execBrkEval rq s
  | .railGet rq => Sys2Proof.Machine.execRailGet rq s
  | .railOn rq => Sys2Proof.Machine.execRailOn rq s
  | .railOff rq => Sys2Proof.Machine.execRailOff rq s
  | .railDisable rq => Sys2Proof.Machine.execRailDisable rq s
  | .railEnable rq => Sys2Proof.Machine.execRailEnable rq s
  | .railSet rq => Sys2Proof.Machine.execRailSet rq s
  | .railClearLatch rq => Sys2Proof.Machine.execRailClearLatch rq s
  | .railStateAll rq => Sys2Proof.Machine.execRailStateAll rq s
  | .railPhasesGet rq => Sys2Proof.Machine.execRailPhasesGet rq s
  | .energyGet rq => Sys2Proof.Machine.execEnergyGet rq s
  | .capSet rq => Sys2Proof.Machine.execCapSet rq s
  | .chargeSet rq => Sys2Proof.Machine.execChargeSet rq s
  | .bridgeGet rq => Sys2Proof.Machine.execBridgeGet rq s
  | .rectGet rq => Sys2Proof.Machine.execRectGet rq s
  | .llGet rq => Sys2Proof.Machine.execLlGet rq s
  | .llStateAll rq => Sys2Proof.Machine.execLlStateAll rq s
  | .llDisable rq => Sys2Proof.Machine.execLlDisable rq s
  | .llEnable rq => Sys2Proof.Machine.execLlEnable rq s
  | .batGet rq => Sys2Proof.Machine.execBatGet rq s
  | .batStateAll rq => Sys2Proof.Machine.execBatStateAll rq s
  | .batAdmit rq => Sys2Proof.Machine.execBatAdmit rq s
  | .batRelease rq => Sys2Proof.Machine.execBatRelease rq s
  | .batRestGet rq => Sys2Proof.Machine.execBatRestGet rq s
  | .batProfileGet rq => Sys2Proof.Machine.execBatProfileGet rq s
  | .meterGet rq => Sys2Proof.Machine.execMeterGet rq s
  | .meterAll rq => Sys2Proof.Machine.execMeterAll rq s
  | .shelfTotalsGet rq => Sys2Proof.Machine.execShelfTotalsGet rq s
  | .ledgerInfo rq => Sys2Proof.Machine.execLedgerInfo rq s
  | .ledgerRead rq => Sys2Proof.Machine.execLedgerRead rq s
  | .ledgerAck rq => Sys2Proof.Machine.execLedgerAck rq s
  | .ledgerAttest rq => Sys2Proof.Machine.execLedgerAttest rq s
  | .ledgerSnapshot rq => Sys2Proof.Machine.execLedgerSnapshot rq s
  | .cfgInfo rq => Sys2Proof.Machine.execCfgInfo rq s
  | .cfgRead rq => Sys2Proof.Machine.execCfgRead rq s
  | .cfgStageBegin rq => Sys2Proof.Machine.execCfgStageBegin rq s
  | .cfgStageWrite rq => Sys2Proof.Machine.execCfgStageWrite rq s
  | .cfgStageEnd rq => Sys2Proof.Machine.execCfgStageEnd rq s
  | .cfgStageChecked => Sys2Proof.Machine.execCfgStageChecked s
  | .cfgCommit rq => Sys2Proof.Machine.execCfgCommit rq s
  | .mailboxEntry => Sys2Proof.Machine.execMailboxEntry s
  | .mailboxTimeout => Sys2Proof.Machine.execMailboxTimeout s
  | .cfgApply => Sys2Proof.Machine.execCfgApply s
  | .faultScan rq => Sys2Proof.Machine.execFaultScan rq s
  | .faultBlockGet rq => Sys2Proof.Machine.execFaultBlockGet rq s
  | .faultClear rq => Sys2Proof.Machine.execFaultClear rq s
  | .faultSeveritySet rq => Sys2Proof.Machine.execFaultSeveritySet rq s
  | .wdGet rq => Sys2Proof.Machine.execWdGet rq s
  | .countsGet rq => Sys2Proof.Machine.execCountsGet rq s
  | .wdExpiry w => Sys2Proof.Machine.execWdExpiry w s
  | .wd0Service seq token => Sys2Proof.Machine.execWd0Service seq token s
  | .yardRestart => Sys2Proof.Machine.execYardRestart s
  | .recInfo rq => Sys2Proof.Machine.execRecInfo rq s
  | .recRead rq => Sys2Proof.Machine.execRecRead rq s
  | .recFreeze rq => Sys2Proof.Machine.execRecFreeze rq s
  | .recThaw rq => Sys2Proof.Machine.execRecThaw rq s
  | .recTrigger rq => Sys2Proof.Machine.execRecTrigger rq s
  | .captureTrigger d cause => Sys2Proof.Machine.execCaptureTrigger d cause s
  | .captureComplete d => Sys2Proof.Machine.execCaptureComplete d s
  | .sketchbookFlush readBackGood => Sys2Proof.Machine.execSketchbookFlush readBackGood s
  | .recSummary good => Sys2Proof.Machine.execRecSummary s good
  | .freezeEffect good => Sys2Proof.Machine.execFreezeEffect s good
  | .fwInfo rq => Sys2Proof.Machine.execFwInfo rq s
  | .fwStageBegin rq => Sys2Proof.Machine.execFwStageBegin rq s
  | .fwStageWrite rq => Sys2Proof.Machine.execFwStageWrite rq s
  | .fwStageEnd rq => Sys2Proof.Machine.execFwStageEnd rq s
  | .fwVerifyDone eccBad => Sys2Proof.Machine.execFwVerifyDone eccBad s
  | .fwActivateTrial rq => Sys2Proof.Machine.execFwActivateTrial rq s
  | .fwActivateConfirm rq => Sys2Proof.Machine.execFwActivateConfirm rq s
  | .fwActivateRevert rq => Sys2Proof.Machine.execFwActivateRevert rq s
  | .fwActivateRestart => Sys2Proof.Machine.execFwActivateRestart s
  | .mramScrubPass corrected uncorrectable => Sys2Proof.Machine.execMramScrubPass corrected uncorrectable s
  | .agingBoundExpiry c => Sys2Proof.Machine.execAgingBoundExpiry c s
  | .driverSelftestPass passed => Sys2Proof.Machine.execDriverSelftestPass passed s
  | .pairHealth rq => Sys2Proof.Machine.execPairHealth rq s
  | .pairGet rq => Sys2Proof.Machine.execPairGet rq s
  | .pairHandover rq => Sys2Proof.Machine.execPairHandover rq s
  | .handoverQueueDrained => Sys2Proof.Machine.execHandoverQueueDrained s
  | .handoverRelinquish => Sys2Proof.Machine.execHandoverRelinquish s
  | .handoverAbort => Sys2Proof.Machine.execHandoverAbort s
  | .roleTakeAtStart => Sys2Proof.Machine.execRoleTakeAtStart s
  | .heartbeatLoss => Sys2Proof.Machine.execHeartbeatLoss s
  | .takeover => Sys2Proof.Machine.execTakeover s
  | .driverResume => Sys2Proof.Machine.execDriverResume s
  | .forceInRise => Sys2Proof.Machine.execForceInRise s
  | .forceInFall => Sys2Proof.Machine.execForceInFall s
  | .failoverBlockedTakeover => Sys2Proof.Machine.execFailoverBlockedTakeover s
  | .resyncDwell => Sys2Proof.Machine.execResyncDwell s
  | .mirror payload => Sys2Proof.Machine.execMirror payload s
  | .linkTrain p => Sys2Proof.Machine.execLinkTrain p s
  | .linkHelloTimer p => Sys2Proof.Machine.execLinkHelloTimer p s
  | .linkHello p f => Sys2Proof.Machine.execLinkHello p f s
  | .linkDown p c => Sys2Proof.Machine.execLinkDown p c s
  | .timeExchange t1 => Sys2Proof.Machine.execTimeExchange t1 s
  | .timeReq p f t2 t3 => Sys2Proof.Machine.execTimeReq p f t2 t3 s
  | .timeResp p f t4 => Sys2Proof.Machine.execTimeResp p f t4 s
  | .broadcast p f => Sys2Proof.Machine.execBroadcast p f s
  | .barrierArrive p f => Sys2Proof.Machine.execBarrierArrive p f s
  | .barrierOpen p f => Sys2Proof.Machine.execBarrierOpen p f s
  | .barrierRelease p f => Sys2Proof.Machine.execBarrierRelease p f s
  | .barrierTimeout => Sys2Proof.Machine.execBarrierTimeout s
  | .schedule p f => Sys2Proof.Machine.execSchedule p f s
  | .scheduleReq p f => Sys2Proof.Machine.execScheduleReq p f s
  | .scheduleAns p f => Sys2Proof.Machine.execScheduleAns p f s
  | .scheduleReqTimeout => Sys2Proof.Machine.execScheduleReqTimeout s
  | .scheduleAction => Sys2Proof.Machine.execScheduleAction s
  | .message p f => Sys2Proof.Machine.execMessage p f s
  | .messageAck p f => Sys2Proof.Machine.execMessageAck p f s
  | .messageTimeout => Sys2Proof.Machine.execMessageTimeout s
  | .capReport p f => Sys2Proof.Machine.execCapReport p f s
  | .capAlloc p f => Sys2Proof.Machine.execCapAlloc p f s
  | .collectReq p f => Sys2Proof.Machine.execCollectReq p f s
  | .collectData p f => Sys2Proof.Machine.execCollectData p f s
  | .collectNoReply => Sys2Proof.Machine.execCollectNoReply s
  | .hallGet rq => Sys2Proof.Machine.execHallGet rq s
  | .hallTimeGet rq => Sys2Proof.Machine.execHallTimeGet rq s
  | .hallBroadcast rq => Sys2Proof.Machine.execHallBroadcast rq s
  | .hallBarrier rq => Sys2Proof.Machine.execHallBarrier rq s
  | .stillLifeSchedule rq => Sys2Proof.Machine.execStillLifeSchedule rq s
  | .hallResetSchedule rq => Sys2Proof.Machine.execHallResetSchedule rq s
  | .snapshotCollectStart rq => Sys2Proof.Machine.execSnapshotCollectStart rq s
  | .snapshotCollectRead rq => Sys2Proof.Machine.execSnapshotCollectRead rq s
  | .snapshotCollectStatus rq => Sys2Proof.Machine.execSnapshotCollectStatus rq s
  | .snapshotCollectCancel rq => Sys2Proof.Machine.execSnapshotCollectCancel rq s
  | .hallSend rq => Sys2Proof.Machine.execHallSend rq s
  | .measStatus rq => Sys2Proof.Machine.execMeasStatus rq s
  | .sarReading rq => Sys2Proof.Machine.execSarReading rq s
  | .seqStart rq => Sys2Proof.Machine.execSeqStart rq s
  | .seqStop rq => Sys2Proof.Machine.execSeqStop rq s
  | .seqGet rq => Sys2Proof.Machine.execSeqGet rq s
  | .measRingRead rq => Sys2Proof.Machine.execMeasRingRead rq s
  | .wmGetAll rq => Sys2Proof.Machine.execWmGetAll rq s
  | .wmSet rq => Sys2Proof.Machine.execWmSet rq s
  | .capArm rq => Sys2Proof.Machine.execCapArm rq s
  | .capRead rq => Sys2Proof.Machine.execCapRead rq s
  | .svcCalRead rq => Sys2Proof.Machine.execSvcCalRead rq s
  | .svcCalReadDone => Sys2Proof.Machine.execSvcCalReadDone s
  | .svcFetExercise rq => Sys2Proof.Machine.execSvcFetExercise rq s
  | .fetExerciseHoldEnd => Sys2Proof.Machine.execFetExerciseHoldEnd s
  | .dsTransact rq => Sys2Proof.Machine.execDsTransact rq s
  | .dsStatus rq => Sys2Proof.Machine.execDsStatus rq s
  | .dsTransaction k o => Sys2Proof.Machine.execDsTransaction k o s
  | .dsArbLost k => Sys2Proof.Machine.execDsArbLost k s
  | .arbStop k dataHigh clockHigh => Sys2Proof.Machine.execArbStop k dataHigh clockHigh s
  | .arbBackoffExpiry k => Sys2Proof.Machine.execArbBackoffExpiry k s
  | .dsTimeout k dataHigh clockHigh => Sys2Proof.Machine.execDsTimeout k dataHigh clockHigh s
  | .dsRecoveryRetry k dataHigh clockHigh => Sys2Proof.Machine.execDsRecoveryRetry k dataHigh clockHigh s
  | .setv n f => Sys2Proof.Machine.execSetv n f s
  | .setvSettled n => Sys2Proof.Machine.execSetvSettled n s
  | .settleTimeout n => Sys2Proof.Machine.execSettleTimeout n s
  | .slew n f => Sys2Proof.Machine.execSlew n f s
  | .burstReq n f => Sys2Proof.Machine.execBurstReq n f s
  | .burstRel n f => Sys2Proof.Machine.execBurstRel n f s
  | .llHello n f => Sys2Proof.Machine.execLlHello n f s
  | .llRead n f => Sys2Proof.Machine.execLlRead n f s
  | .llPing n f => Sys2Proof.Machine.execLlPing n f s
  | .llBitTimeout n => Sys2Proof.Machine.execLlBitTimeout n s
  | .linkLost n => Sys2Proof.Machine.execLinkLost n s
  | .throttleIgnored n => Sys2Proof.Machine.execThrottleIgnored n s
  | .wakenPulse lowNs st => Sys2Proof.Machine.execWakenPulse lowNs st s
  | .wakenLongLow => Sys2Proof.Machine.execWakenLongLow s
  | .keepalivePowerOn st => Sys2Proof.Machine.execKeepalivePowerOn st s
  | .wakeStepGood => Sys2Proof.Machine.execWakeStepGood s
  | .wakeStepTimeout rcUsable => Sys2Proof.Machine.execWakeStepTimeout rcUsable s
  | .wakeStepRetry => Sys2Proof.Machine.execWakeStepRetry s
  | .wakeComplete => Sys2Proof.Machine.execWakeComplete s
  | .deadStopRetry st => Sys2Proof.Machine.execDeadStopRetry st s
  | .rstnAssert => Sys2Proof.Machine.execRstnAssert s
  | .rstnRelease st => Sys2Proof.Machine.execRstnRelease st s
  | .xtalFail => Sys2Proof.Machine.execXtalFail s
  | .xtalRetry => Sys2Proof.Machine.execXtalRetry s
  | .xtalRestore => Sys2Proof.Machine.execXtalRestore s
  | .pllUnlock recovered => Sys2Proof.Machine.execPllUnlock recovered s
  | .tempSample counts => Sys2Proof.Machine.execTempSample counts s
  | .referenceTrim => Sys2Proof.Machine.execReferenceTrim s
  | .ostlerTs0Read t st => Sys2Proof.Machine.execOstlerTs0Read t s st
  | .badRequest p bytes => Sys2Proof.Machine.execBadRequest p bytes s
  | .llRejectedFrame n bits => Sys2Proof.Machine.execLlRejectedFrame n bits s
  | .linkCrc p => Sys2Proof.Machine.execLinkCrc p s
  | .arbLostRetry k => Sys2Proof.Machine.execArbLostRetry k s
  | .rectModePoll => Sys2Proof.Machine.execRectModePoll s
  | .serviceStopTimeout => Sys2Proof.Machine.execServiceStopTimeout s
  | .rcClockFail => Sys2Proof.Machine.execRcClockFail s

end Sys2Proof.Machine
end

