-- ==== Sys2Proof/Safety.lean ====
section
/-! DEFINITION. The terms in which statements speak: the parts of the block and what stays as it was, a command that
completes, a request that is taken, checked and answered (R288-R306), and the invariant of the block. -/

namespace Sys2Proof.Machine

/-! ## What stays as it was -/

/-- The parts of the block, one for each field of `Chip`. -/
inductive Part where
  | clk | strap | mode | img | imgValid | chs | chQueue | rails | railQueue | terms | bats | batRecs | hk | sram
  | seqs | mons | caps | sense | ds | dsPoll | throttled | energy | book | rects | links | bursts | meters | meterBook
  | ledger | tw | spi | addr | spiStatus | receipts | deadBelow | events | svc | faults | dogs | retained | pair | net
  | sketch | box | boxUsed | boxSeen | boxWait | boxDue | fw | otp | mram | cfg | ostler | heat
  deriving DecidableEq, Repr

/-- A part is the same in both states. -/
def Part.same (s t : Chip) : Part → Prop
  | .clk => t.clk = s.clk
  | .strap => t.strap = s.strap
  | .mode => t.mode = s.mode
  | .img => t.img = s.img
  | .imgValid => t.imgValid = s.imgValid
  | .chs => t.chs = s.chs
  | .chQueue => t.chQueue = s.chQueue
  | .rails => t.rails = s.rails
  | .railQueue => t.railQueue = s.railQueue
  | .terms => t.terms = s.terms
  | .bats => t.bats = s.bats
  | .batRecs => t.batRecs = s.batRecs
  | .hk => t.hk = s.hk
  | .sram => t.sram = s.sram
  | .seqs => t.seqs = s.seqs
  | .mons => t.mons = s.mons
  | .caps => t.caps = s.caps
  | .sense => t.sense = s.sense
  | .ds => t.ds = s.ds
  | .dsPoll => t.dsPoll = s.dsPoll
  | .throttled => t.throttled = s.throttled
  | .energy => t.energy = s.energy
  | .book => t.book = s.book
  | .rects => t.rects = s.rects
  | .links => t.links = s.links
  | .bursts => t.bursts = s.bursts
  | .meters => t.meters = s.meters
  | .meterBook => t.meterBook = s.meterBook
  | .ledger => t.ledger = s.ledger
  | .tw => t.tw = s.tw
  | .spi => t.spi = s.spi
  | .addr => t.addr = s.addr
  | .spiStatus => t.spiStatus = s.spiStatus
  | .receipts => t.receipts = s.receipts
  | .deadBelow => t.deadBelow = s.deadBelow
  | .events => t.events = s.events
  | .svc => t.svc = s.svc
  | .faults => t.faults = s.faults
  | .dogs => t.dogs = s.dogs
  | .retained => t.retained = s.retained
  | .pair => t.pair = s.pair
  | .net => t.net = s.net
  | .sketch => t.sketch = s.sketch
  | .box => t.box = s.box
  | .boxUsed => t.boxUsed = s.boxUsed
  | .boxSeen => t.boxSeen = s.boxSeen
  | .boxWait => t.boxWait = s.boxWait
  | .boxDue => t.boxDue = s.boxDue
  | .fw => t.fw = s.fw
  | .otp => t.otp = s.otp
  | .mram => t.mram = s.mram
  | .cfg => t.cfg = s.cfg
  | .ostler => t.ostler = s.ostler
  | .heat => t.heat = s.heat

/-- Nothing but the listed parts differs. -/
def Only (ps : List Part) (s t : Chip) : Prop := ∀ p, p ∉ ps → p.same s t

/-- The part that a host port is. -/
def portPart : Port → Part
  | .tw => .tw
  | .spi => .spi

/-- The command completes: it answers a next state in which the queue of commands is as it was and the block is one of
which `P` holds. -/
def Completes (c : Instr) (s : State) (P : Chip → Prop) : Prop :=
  ∃ t : Chip, exec c s = .next { s with chip := t } ∧ P t

/-- The command's whole effect: the next state is `s` with `t` for its block. -/
def Becomes (c : Instr) (s : State) (t : Chip) : Prop := exec c s = .next { s with chip := t }

/-! ## Requests -/

/-- The Yard takes the request now (R291, R296, R299, R300, R313, R361): it runs and is not being restarted, no handover
freezes the ports, no FENCE holds this port, its reply queue has room, so has the setpoint queue of the request's class,
and the request is the oldest at its port, whose turn it is. -/
abbrev Taken (opcode : Nat) (row : OpRow) (rq : Request) (s : Chip) : Prop :=
  yardAlive s = true ∧ s.fw.yardStop = false ∧ handFrozen s = false ∧ (s.port rq.port).fence = none
    ∧ (s.port rq.port).replies.length < 8 ∧ queueRoom s row.queue = true
    ∧ isNext s rq.port (requestBytes opcode rq) = true

/-- The request passes the checks that every opcode shares (R291, checks 1 to 9 as far as they are shared). -/
abbrev Checked (row : OpRow) (rq : Request) (s : Chip) : Prop :=
  rq.params.length ≤ portLimit rq.port ∧ (row.anyVer = true ∨ rq.ver = (s.port rq.port).ver) ∧ rq.tag ≠ 0#8
    ∧ row.lenLo ≤ rq.params.length ∧ rq.params.length ≤ row.lenHi ∧ rq.params.length % row.lenUnit = 0
    ∧ (rq.epoch = 0xFFFF#16 ∨ rq.epoch.toNat = s.mode.epoch)
    ∧ (row.activeOnly = true → s.mode.role ≠ .standby)
    ∧ (s.mode.stage = .powerDown → row.inPowerDown = true) ∧ (s.fw.recovery = true → row.inRecovery = true)

/-- Taken and checked. -/
abbrev Admitted (opcode : Nat) (row : OpRow) (rq : Request) (s : Chip) : Prop := Taken opcode row rq s ∧ Checked row rq s

/-- The request has its reply (R288, R296): the newest place of its port's reply queue is its own and holds a reply with
its tag, the port's agreed version, this status and these data. -/
def Replied (rq : Request) (st : Status) (data : List Byte) (s t : Chip) : Prop :=
  ∃ rep : Reply, (t.port rq.port).replies.getLast? = some { receipt := s.receipts, reply := some rep }
    ∧ rep.tag = rq.tag ∧ rep.status = st ∧ rep.data = data ∧ rep.ver = (t.port rq.port).ver

/-- The request holds its place in the reply queue, and its reply is formed later (R296, R297). -/
def Held (rq : Request) (s t : Chip) : Prop :=
  (t.port rq.port).replies.getLast? = some { receipt := s.receipts, reply := none }

/-- The reference under which a request that is taken now is answered later. -/
def refOf (rq : Request) (s : Chip) : ReqRef := { port := rq.port, tag := rq.tag, receipt := s.receipts }

/-- The request is taken and answered, and that is all it does. -/
def Answers (c : Request → Instr) (rq : Request) (s : State) (st : Status) (data : List Byte) : Prop :=
  Completes (c rq) s fun t => Replied rq st data s.chip t ∧ Only [portPart rq.port, .receipts] s.chip t

/-- The state in which the body meets the request: the request is off its queue and holds a place for its reply. -/
def taken (opcode : Nat) (rq : Request) (s : Chip) : Chip := (takeRequest s rq.port rq.tag (requestBytes opcode rq)).2

/-- The request is taken, `u` is what it makes of the block, and the reply with `st`, `data` and
the mark that more follows is formed on `u` (R288). -/
def Serves (c : Request → Instr) (rq : Request) (s : State) (u : Chip) (st : Status) (data : List Byte)
    (more : Bool := false) : Prop :=
  Becomes (c rq) s (formReply u (refOf rq s.chip) st data more)

/-- A frame of type `typ` reaches the member on a port that is UP, with a length that fits, its CRC, hops to spare and no
reserved destination kind (R10, R372, R373, R378, R379), and `v` is the state in which it has its effect. -/
abbrev Heard (typ p : Nat) (f : Frame) (s v : Chip) : Prop :=
  yardAlive (clearSent s) = true ∧ portUsed (clearSent s) p = true ∧ ((clearSent s).np p).state = .up
    ∧ f.ftype.toNat = typ ∧ lenFits typ f.payload.length = true ∧ f.crc = frameCrc f ∧ f.hops.toNat < 32 ∧ dstRejected typ f = false
    ∧ v = (clearSent s).modNp p fun x => { x with lastValid := s.now }

/-- A routed frame is for this member, in a hall (R372, R386). -/
abbrev Delivered (f : Frame) (v : Chip) : Prop :=
  inHall v = true ∧ deliversHere v f = true
    ∧ (toActive f = true → isActive v = true ∧ (f.epoch = 0xFFFF#16 ∨ f.epoch.toNat = v.mode.epoch))

/-! ## The invariant of the block -/

/-- A port's queues are within their depths (R294, R296). -/
structure PortInv (p : PortState) : Prop where
  queue : p.queue.length ≤ 8
  replies : p.replies.length ≤ 8

/-- The queues behind the ports are within their depths: the setpoint queues of the channels and the rails, the protection
mailbox, the queue of each downstream bus and the slow results (R29), and the capture timers' FIFOs (R282). -/
structure Depths (channels : List ChSet) (rails : List RailSet) (box : List BoxEntry) (buses : List DsBus) (slow : Nat)
    (timers : List CapTimer) : Prop where
  channels : channels.length ≤ 64
  rails : rails.length ≤ 64
  box : box.length ≤ 16
  buses : ∀ k, (tget buses k).queue.length ≤ 32
  slow : slow ≤ 1024
  stamps : ∀ t, (tget timers t).fifo.length ≤ 8

/-- What every command keeps: the queues of R29 and R282 within their depths, the set sticky bits in rising order and each of
a source that exists (R403, R405), no more fuses blown than there are (R436), the measurement region in its canonical form
(R274). -/
structure Inv (s : Chip) : Prop where
  events : s.events.queue.length ≤ 256
  recorder : s.sketch.queue.length ≤ 256
  energy : s.book.queue.length ≤ 64
  ports : ∀ p, PortInv (s.port p)
  sticky : s.faults.sticky.Pairwise (· < ·)
  sources : ∀ i ∈ s.faults.sticky, sourceExists i = true
  rollback : s.otp.rollback ≤ 64
  sram : s.sram.wf = true
  depths : Depths s.chQueue s.railQueue s.box s.ds s.sense.slow s.caps

/-- The role epoch, as held and as retained, is no 0xFFFF (R310). -/
structure EpochOk (now kept : Nat) : Prop where
  now : now ≠ 0xFFFF
  kept : kept ≠ 0xFFFF

/-- Fuses are only ever blown (R436): the rollback counter does not fall, and CUSTOMER_KEY does not clear. -/
structure OtpGrows (a b : Otp) : Prop where
  rollback : a.rollback ≤ b.rollback
  key : a.customerKey = true → b.customerKey = true

end Sys2Proof.Machine
end

