-- ==== Sys2Proof/Certificates/Slice0/Obligations.lean ====
section
/-! DEFINITION. The statements for the provers. -/

open Sys2Proof Sys2Proof.Machine

/-- HELLO, PING, SUMMARY, EVENT_READ and MODE_GET are answered with what their rules give and touch nothing else (R307,
R309, R314, R317, R301, R57). -/
def Obligations.SessionOpcodesAnswer : Prop :=
  -- HELLO
  (∀ (rq : Request) (s : State), Admitted 0x0001 { lenLo := 8, lenHi := 8, anyVer := true, inRecovery := true } rq s.chip →
    arg rq 1 1 ≤ 0x10 → 0x10 ≤ arg rq 0 1 →
    Completes (.hello rq) s fun t =>
      Replied rq .ok ([0x10#8, 0x10#8, 0x10#8] ++ le 1 s.chip.strap.code ++ le 2 (portLimit rq.port) ++ le 1 8
          ++ le 1 (portCode rq.port) ++ (List.range 8).map Config.deviceId) s.chip t
      ∧ (t.port rq.port).ver = 0x10#8 ∧ (t.port rq.port).station = BitVec.ofNat 16 (arg rq 2 2)
      ∧ Only [portPart rq.port, .receipts] s.chip t) ∧
  -- PING
  (∀ (rq : Request) (s : State), Admitted 0x0003 { lenLo := 0, lenHi := 4096, inRecovery := true } rq s.chip →
    Answers .ping rq s .ok rq.params) ∧
  -- SUMMARY
  (∀ (rq : Request) (s : State), Admitted 0x0002 { inPowerDown := true, inRecovery := true } rq s.chip →
    s.chip.fw.recovery = false → arg rq 0 1 < 4 → arg rq 1 1 = 0 →
    Answers .summary rq s .ok
      (pagesThatFit (((List.range 4).drop (arg rq 0 1)).map (page s.chip rq.port)) (portLimit rq.port)).flatten) ∧
  -- EVENT_READ
  (∀ (rq : Request) (s : State), Admitted 0x0008 {} rq s.chip → (arg rq 3 1).testBit 0 = false → 1 ≤ arg rq 2 1 →
      arg rq 2 1 ≤ 10 →
    Completes (.eventRead rq) s fun t =>
      Replied rq .ok (le 1 (min (arg rq 2 1) s.chip.events.queue.length) ++ zeros 3 ++ le 4 s.chip.events.droppedRead
          ++ (s.chip.events.queue.take (arg rq 2 1)).flatMap eventRecBytes) s.chip t
      ∧ t.events = { s.chip.events with droppedRead := 0 } ∧ Only [portPart rq.port, .receipts, .events] s.chip t) ∧
  -- MODE_GET
  (∀ (rq : Request) (s : State), Admitted 0x0101 { lenLo := 0, lenHi := 0, inPowerDown := true, inRecovery := true } rq s.chip →
    Answers .modeGet rq s .ok (modeGetData s.chip))

/-- FENCE holds its port until it is released or times out; GOODBYE ends the session; a packet that fails a framing
check is answered with that check's status (R300, R309, R291, R292). -/
def Obligations.FenceAndGoodbyeComplete : Prop :=
  -- FENCE
  (∀ (rq : Request) (s : State), Admitted 0x0006 {} rq s.chip → arg rq 2 2 ≤ 60000 →
    Completes (.fence rq) s fun t =>
      Held rq s.chip t
      ∧ ((t.port rq.port).fence.map Fence.ref = some (refOf rq s.chip)
        ∧ (t.port rq.port).fence.map Fence.bothPorts = some ((arg rq 0 1).testBit 1)
        ∧ (t.port rq.port).fence.map Fence.deadline
            = some (s.chip.now + (if arg rq 2 2 = 0 then 1000 else arg rq 2 2) * 1000)
        ∧ Only [portPart rq.port, .receipts] s.chip t)) ∧
  -- FENCE_RELEASE
  (∀ (p : Port) (f : Fence) (s : State), (s.chip.port p).fence = some f → fenceHolds s.chip f = true →
    s.chip.fw.yardStop = false →
    Becomes (.fenceRelease p) s
      (formReply (s.chip.modPort p fun ps => { ps with fence := none }) f.ref .ok (le 8 s.chip.hall))) ∧
  -- FENCE_TIMEOUT
  (∀ (p : Port) (f : Fence) (s : State), (s.chip.port p).fence = some f → f.deadline ≤ s.chip.now →
    s.chip.fw.yardStop = false → fenceHolds s.chip f = false →
    Becomes (.fenceTimeout p) s (formReply (s.chip.modPort p fun ps => { ps with fence := none }) f.ref .timeout [])) ∧
  -- GOODBYE
  (∀ (rq : Request) (s : State), Admitted 0x0007 {} rq s.chip → leavesDog s.chip rq.port = false →
    Completes (.goodbye rq) s fun t =>
      Replied rq .ok [] s.chip t
      ∧ ((t.port rq.port).ver = 0x10#8 ∧ (t.port rq.port).station = 0#16 ∧
          Only [portPart rq.port, .receipts] s.chip t)) ∧
  -- BAD_REQUEST
  (∀ (p : Port) (b : List Byte) (st : Status) (s : State), takes s.chip p = true → isNext s.chip p b = true →
    framing p (s.chip.port p).ver b = some st → st ≠ .badCrc →
    Completes (.badRequest p b) s fun t =>
      (∃ rep : Reply, (t.port p).replies.getLast? = some { receipt := s.chip.receipts, reply := some rep }
        ∧ rep.tag = b.getD 1 0#8 ∧ rep.status = st) ∧ Only [portPart p, .receipts] s.chip t) ∧
  -- BAD_REQUEST with a failed CRC
  (∀ (p : Port) (b : List Byte) (s : State), takes s.chip p = true → isNext s.chip p b = true →
    framing p (s.chip.port p).ver b = some .badCrc →
    Becomes (.badRequest p b) s
      (formReply (setFault (takeRequest s.chip p (b.getD 1 0#8) b).2 (crcSource p)) (takeRequest s.chip p (b.getD 1 0#8) b).1 .badCrc []))

/-- Two-wire and SPI transfers put packets into the request queue and take replies out of the reply queue (R294, R320,
R323, R324, R328). Where the rules leave a choice its clauses state the model's, of the log entries 13, 63, 65. -/
def Obligations.WireTransfers : Prop :=
  -- TW_WRITE
  (∀ (adr : BitVec 7) (b : Byte) (bs : List Byte) (s : State), answers s.chip adr.toNat = true →
      s.chip.fw.yardStop = false →
    moving s.chip .tw = false → s.chip.tw.queue.length < 8 → bs.length ≤ 257 →
    Becomes (.twWriteTransfer adr (0#8 :: b :: bs)) s
      { s.chip.drawn with tw := { s.chip.tw with received := some (s.chip.now, s.chip.draw), queue := s.chip.tw.queue ++ [b :: bs] } }) ∧
  -- TW_READ
  (∀ (adr : BitVec 7) (n : Nat) (r : Reply) (s : State), answers s.chip adr.toNat = true →
      waitingReply s.chip .tw = some r →
    (replyBytes r).length ≤ n →
    Becomes (.twReadTransfer adr n) s
      { s.chip with tw := { s.chip.tw with
          lastRead := replyBytes r ++ List.replicate (n - (replyBytes r).length) 0xFF#8, replies := s.chip.tw.replies.tail } }) ∧
  -- TW_HELD
  (∀ s : State, yardAlive s.chip = true → Becomes .twHeld s (setFault s.chip 0x0A04)) ∧
  -- SPI_WRITE
  (∀ (b : Byte) (bs : List Byte) (s : State), yardAlive s.chip = true → s.chip.fw.yardStop = false →
      moving s.chip .spi = false →
    s.chip.spi.queue.length < 8 → bs.length ≤ 4105 →
    Becomes (.spiWrite (b :: bs)) s
      { s.chip.drawn with spiStatus := BitVec.ofNat 8 (spiStatusByte s.chip),
                          spi := { s.chip.spi with received := some (s.chip.now, s.chip.draw), queue := s.chip.spi.queue ++ [b :: bs] } }) ∧
  -- SPI_READ
  (∀ (n : Nat) (r : Reply) (s : State), yardAlive s.chip = true → waitingReply s.chip .spi = some r →
    (replyBytes r).length ≤ n →
    Becomes (.spiRead n) s
      { s.chip with spiStatus := BitVec.ofNat 8 (spiStatusByte s.chip), spi := { s.chip.spi with
          lastRead := replyBytes r ++ List.replicate (n - (replyBytes r).length) 0xFF#8, replies := s.chip.spi.replies.tail } }) ∧
  -- SPI_OTHER
  (∀ (cmd : Byte) (s : State), yardAlive s.chip = true → cmd ≠ 0#8 → cmd ≠ 0x80#8 →
    Becomes (.spiOtherCommand cmd) s { s.chip with spiStatus := BitVec.ofNat 8 (spiStatusByte s.chip) })

/-- MODE_REQUEST RUN from READY is accepted and pends; SERVICE_SELECT selects the object in SERVICE (R37, R38, R47,
R57). -/
def Obligations.ModeOpcodesComplete : Prop :=
  -- MODE_REQUEST
  (∀ (rq : Request) (s : State), Admitted 0x0102 { inPowerDown := true } rq s.chip → arg rq 0 1 = 4 →
      s.chip.mode.role = .active →
    s.chip.mode.mode = .ready → s.chip.mode.stage = .none → s.chip.mode.pend = none → ∀ p : PendMode,
    p = { mode := .run, cause := .hostRequest, since := s.chip.now, asked := [refOf rq s.chip], refs := [refOf rq s.chip] } →
    Completes (.modeRequest rq) s fun t =>
      Replied rq .accepted (modeData s.chip) s.chip t
      ∧ (t.mode = { s.chip.mode with pend := some p }
        ∧ Only [portPart rq.port, .receipts, .mode] s.chip t)) ∧
  -- SERVICE_SELECT
  (∀ (rq : Request) (s : State), Admitted 0x0103 { activeOnly := true } rq s.chip → s.chip.mode.mode = .service →
    s.chip.mode.svcStop = none → svcOff s.chip = true →
    (arg rq 0 1 = 0 ∨ (arg rq 0 1 = 1 ∧ arg rq 1 1 ≤ 31 ∧ arg rq 2 2 = 0xFFFF ∧
        followsLeader s.chip (arg rq 1 1) = false)) →
    Completes (.serviceSelect rq) s fun t =>
      Replied rq .ok (modeData s.chip) s.chip t
      ∧ (t.mode = { s.chip.mode with svcKind := arg rq 0 1, svcIndex := if arg rq 0 1 == 0 then 0 else arg rq 1 1 }
        ∧ Only [portPart rq.port, .receipts, .mode] s.chip t))

/-- Mode changes commit at the boundary that is due, and the bridge event, the shortfall and the dwell do what R43 to
R50 give them (R28, R37, R38, R43, R44, R46, R47, R48, R50, R150, R153, R158). Where the rules leave a choice its
clauses state the model's, of the log entries 12, 75, 79, 162, 266. -/
def Obligations.ModeChangesCommit : Prop :=
  -- MODE_COMMIT
  (∀ (p : PendMode) (s : State), s.chip.mode.pend = some p → yardAlive s.chip = true → isActive s.chip = true →
    rolesWait s.chip = false → handFrozen s.chip = false → p.since < s.chip.now → ∀ u, u = commitPend s.chip p →
    Becomes .modeCommit s (if setpointsWait u then u else keepView (applyQueues u))) ∧
  -- LOCKOUT_COMMIT
  (∀ (c : Cause) (s : State), s.chip.mode.lockout = some c → mayLock s.chip = true → s.chip.pair.me.resumeAt = none →
    s.chip.mode.lockoutAt < s.chip.now → ∀ u, u = commitLockout s.chip c →
    Becomes .lockoutCommit s (if setpointsWait u then u else keepView (applyQueues u))) ∧
  -- HOLD_AUTO_READY
  (∀ s : State, s.chip.mode.mode = .hold → isActive s.chip = true → s.chip.mode.hostHold = false →
      s.chip.imgValid = true →
    s.chip.fw.recovery = false → critical s.chip = false → s.chip.mode.stage = .none → s.chip.mode.pend = none →
    s.chip.mode.lockout = none → handFrozen s.chip = false →
    Becomes .holdAutoReady s (atBoundary (fun c => commitMode (clearIntents c) .ready .config []) s.chip)) ∧
  -- BRIDGE_EVENT
  (∀ (k : Fin 16) (convs : List Int) (s : State), yardAlive s.chip = true → s.chip.mode.mode = .run →
      isActive s.chip = true →
    s.chip.mode.stage ≠ .handover → watchesBus s.chip k = true → confirmed s.chip k convs = true →
    s.chip.mode.pend = none →
    Completes (.bridgeEvent k convs) s fun t =>
      t.energy.vBref = s.chip.img.energy.vBridgeReg ∧ t.energy.raise = false
      ∧ t.mode = { s.chip.mode with dwellSince := none, pend := some { mode := .bridge, cause := .busSag, since := s.chip.now } }
      ∧ t.rails = (bridgeAllNow { s.chip with
          energy := { s.chip.energy with vBref := s.chip.img.energy.vBridgeReg, raise := false } }).rails) ∧
  -- SHORTFALL
  (∀ s : State, sequences s.chip = true → s.chip.mode.mode = .run → s.chip.mode.pend = none →
    (s.chip.mode.shortSince.any fun t => t + s.chip.img.modes.shortfallTime * 1000 ≤ s.chip.now) = true →
    s.chip.energy.rectBlind = false →
        ((railsOf s.chip true).any fun k => (s.chip.rail k).state == .armed && !railFloor s.chip k) = true →
    Becomes .shortfall s
      (let c := queueEnergy s.chip .bridgeAll
       { c with mode := { s.chip.mode with
          shortSince := none, pend := some { mode := .bridge, cause := .shortfall, since := s.chip.now } } })) ∧
  -- BRIDGE_DWELL_MET
  (∀ s : State, sequences s.chip = true → s.chip.mode.mode = .bridge → s.chip.mode.stage = .none →
      s.chip.mode.pend = none →
    (s.chip.mode.dwellSince.any fun t => t + dwellTicks s.chip ≤ s.chip.now) = true →
    Becomes .bridgeDwellMet s
      (standoffRectifiers (queueEnergy { s.chip with mode := { s.chip.mode with
          stage := .handover, target := .run, stageStart := s.chip.now, dwellSince := none } } .handover))) ∧
  -- HANDOVER_COMPLETE
  (∀ s : State, sequences s.chip = true → s.chip.mode.mode = .bridge → s.chip.mode.stage = .handover →
      s.chip.mode.pend = none →
    s.chip.book.queue = [] → (railsOf s.chip true).all (handed s.chip) = true →
    Becomes .handoverComplete s
      (atBoundary (fun c => commitMode { c with
          mode := { c.mode with stage := .none },
          energy := { c.energy with vBref := c.img.energy.vBridgeReg, raise := false } } .run .acReturn []) s.chip)) ∧
  -- SERVICE_STOP_TIMEOUT
  (∀ (t0 : Nat) (c : Cause) (s : State), s.chip.mode.svcStop = some (t0, c) → isActive s.chip = true →
      handFrozen s.chip = false →
    svcOff s.chip = false → t0 + s.chip.img.modes.stopTimeout * 1000 ≤ s.chip.now →
    Becomes .serviceStopTimeout s
      (svcStep (((svcChannel s.chip).map (stageDisableCh (((svcRail s.chip).map (stageDisableRail s.chip)).getD s.chip))).getD
        (((svcRail s.chip).map (stageDisableRail s.chip)).getD s.chip))))

/-- A stage that has ended is followed by the next; stage 1 starts its next source when the spacing is over; a stage at
its bound is forced on (R39, R40, R41, R489). -/
def Obligations.SequenceStagesMoveOn : Prop :=
  -- STAGE_END
  (∀ s : State, sequences s.chip = true → stageDone s.chip = true → Becomes .stageEnd s (nextStage s.chip)) ∧
  -- START_SOURCES_SPACING
  (∀ s : State, sequences s.chip = true → sourcesLeft s.chip = true → s.chip.mode.srcDue ≤ s.chip.now →
    Becomes .startSourcesSpacing s (startNextSource s.chip)) ∧
  -- STAGE_TIMEOUT in stage 1
  (∀ s : State, sequences s.chip = true → s.chip.mode.stage = .startSources →
    s.chip.mode.stageStart + s.chip.img.modes.startTimeout * 1000 ≤ s.chip.now → stageDone s.chip = false →
    Becomes .stageTimeout s (if s.chip.img.modes.blackStart then blackStart s.chip else beginStop s.chip .startTimeout [])) ∧
  -- STAGE_TIMEOUT in the other stages
  (∀ s : State, sequences s.chip = true →
    s.chip.mode.stage ∈ [Stage.startStore, .startLoads, .stopLoads, .stopStore, .stopSources] →
    s.chip.mode.stageStart + stageBound s.chip ≤ s.chip.now → stageDone s.chip = false →
    Becomes .stageTimeout s
      (nextStage { disableUnfinished s.chip with mode := { (disableUnfinished s.chip).mode with timedOut := true } })) ∧
  -- POWER_DOWN_FLUSH_END
  (∀ (st : Straps) (good : Bool) (s : State), yardAlive s.chip = true → s.chip.mode.stage = .powerDown →
    flushed s.chip = true → ∀ c : Chip, c = writeSummary good (writeCheckpoint s.chip) → c.ostler.thermal = false →
    Becomes (.powerDownFlushEnd st good) s
      (wakeIfReady st (setErrn ((goOff 3 .hostRequest c).modOst fun o =>
        { o with thermal := false, waiting := o.wakeAfter, wakeAfter := false }))))

/-- Losing and regaining the supplies, and the die link's silence (R23, R42, R357, R481, R483, R485, R493). -/
def Obligations.SuppliesAct : Prop :=
  -- SUPPLY_LOSS
  (∀ s : State, s.chip.mode.mode ≠ .off →
    Becomes .supplyLoss s
      (setErrn ((goOff 2 .supplyLoss (s.chip.modOst fun o => { o with vinA := false, vinB := false })).modOst fun o =>
        { o with deadStop := false, retryDue := none }))) ∧
  -- VIN_LOW with another feed good
  (∀ (f : Feed) (s : State), yardAlive s.chip = true → bothLow (s.chip.modOst (setFeed f false)) = false →
    Becomes (.vinLow f) s (evalFault (s.chip.modOst (setFeed f false)) (feedSource f) true)) ∧
  -- VIN_LOW of the last feed
  (∀ (f : Feed) (s : State), s.chip.mode.mode ≠ .off → bothLow (s.chip.modOst (setFeed f false)) = true →
    Becomes (.vinLow f) s
      (setErrn ((goOff 2 .supplyLoss (s.chip.modOst (setFeed f false))).modOst fun o => { o with deadStop := false, retryDue := none }))) ∧
  -- VIN_RETURN in OFF with a wake waiting
  (∀ (f : Feed) (st : Straps) (s : State), s.chip.mode.mode = .off → s.chip.ostler.waiting = true →
    Becomes (.vinReturn f st) s (wakeIfReady st (s.chip.modOst (setFeed f true)))) ∧
  -- VIN_RETURN in OFF after a supply loss
  (∀ (f : Feed) (st : Straps) (s : State), s.chip.mode.mode = .off → s.chip.ostler.waiting = false →
      bothLow s.chip = true →
    f ≠ .vka → s.chip.ostler.rstn = false → (s.chip.ostler.offCause = .supplyLoss ∨ s.chip.ostler.deadStop = true) →
    Becomes (.vinReturn f st) s (requestWake st (s.chip.modOst (setFeed f true)))) ∧
  -- VIN_RETURN from HOLD onwards
  (∀ (f : Feed) (st : Straps) (s : State), yardAlive s.chip = true →
    Becomes (.vinReturn f st) s (setLive (s.chip.modOst (setFeed f true)) (feedSource f) false)) ∧
  -- KEEPALIVE_POWER_ON
  (∀ (st : Straps) (s : State), s.chip.mode.mode = .off → s.chip.ostler.alive = false →
    Becomes (.keepalivePowerOn st) s
      (requestWake st ((studioLost s.chip).modOst fun o =>
        { alive := true, cause := 1, mons := List.replicate 4 {}, vinA := o.vinA, vinB := o.vinB, vka := o.vka, ts0 := o.ts0,
          rstn := o.rstn }))) ∧
  -- STUDIO_ABSENT
  (∀ s : State, yardAlive s.chip = true → 3 ≤ s.chip.pair.me.noLink →
    Becomes .studioAbsent s
      (setErrn ((goOff 6 .powerOn s.chip).modOst fun o => { o with rewakeAt := some (s.chip.now + 10000) }))) ∧
  -- STUDIO_ABSENT_REWAKE
  (∀ (st : Straps) (t0 : Nat) (s : State), s.chip.mode.mode = .off → s.chip.ostler.rewakeAt = some t0 →
      t0 ≤ s.chip.now →
    s.chip.ostler.absences = [] →
    Becomes (.studioAbsentRewake st) s
      (wakeIfReady st (s.chip.modOst fun o =>
        { o with rewakeAt := none, cause := 6, absences := [s.chip.now], waiting := true }))) ∧
  -- STUDIO_ABSENT_REWAKE the third time within 600 s
  (∀ (st : Straps) (t0 a b : Nat) (s : State), s.chip.mode.mode = .off → s.chip.ostler.rewakeAt = some t0 →
      t0 ≤ s.chip.now →
    s.chip.ostler.absences = [a, b] → s.chip.now < a + 600000000 → s.chip.now < b + 600000000 →
    Becomes (.studioAbsentRewake st) s
      (enterDeadStop 0x1A 0 (s.chip.modOst fun o => { o with rewakeAt := none, cause := 6, absences := [] }))) ∧
  -- GAP_HOLD
  (∀ s : State, isPaired s.chip = true → 1 ≤ s.chip.pair.me.noLink →
    Becomes .gapHold s (s.chip.modMe fun p => { p with gapHold := true })) ∧
  -- GAP_HOLD of a member alone, or with its frames coming
  (∀ s : State, isPaired s.chip = false ∨ s.chip.pair.me.noLink = 0 → Becomes .gapHold s s.chip)

/-- RSTn, WAKEn and the wake steps (R485, R486, R487, R489, R491, R493). Where the rules leave a choice its clauses
state the model's, of the log entries 142, 144, 146, 148, 149. -/
def Obligations.WakeStepsAdvance : Prop :=
  -- RSTN_ASSERT
  (∀ s : State, s.chip.mode.mode ≠ .off →
    Becomes .rstnAssert s
      (setErrn ((goOff 4 .resetPin (s.chip.modOst fun o => { o with rstn := true })).modOst fun o =>
        { o with cause := 4, deadStop := false, retryDue := none }))) ∧
  -- RSTN_RELEASE
  (∀ (st : Straps) (s : State), s.chip.ostler.rstn = true →
    Becomes (.rstnRelease st) s (requestWake st (s.chip.modOst fun o => { o with rstn := false }))) ∧
  -- WAKEN_PULSE
  (∀ (lowNs : Nat) (st : Straps) (s : State), s.chip.ostler.alive = true → 10000 ≤ lowNs → lowNs < 2000000000 →
    Becomes (.wakenPulse lowNs st) s (requestWake st s.chip)) ∧
  -- WAKEN_LONG_LOW in WAKE
  (∀ s : State, s.chip.mode.mode = .wake → s.chip.ostler.wakeTick ≠ some s.chip.now →
    Becomes .wakenLongLow s (s.chip.modOst fun o => { o with offTick := some s.chip.now, offAsked := true })) ∧
  -- WAKEN_LONG_LOW in the tick of the wake request: OFF wins
  (∀ s : State, s.chip.mode.mode = .wake → s.chip.ostler.wakeTick = some s.chip.now →
    Becomes .wakenLongLow s
      (setErrn ((goOff 0 (if s.chip.ostler.deadStop then .hostRequest else s.chip.ostler.offCause)
          (s.chip.modOst fun o => { o with offTick := some s.chip.now })).modOst fun o =>
        { o with deadStop := false, retryDue := none, waiting := false }))) ∧
  -- WAKE_STEP_GOOD of W1 to W4
  (∀ s : State, stepRuns s.chip = true → s.chip.ostler.step ≤ 4 → s.chip.ostler.offAsked = false →
    s.chip.now ≤ stepDeadline s.chip →
    Becomes .wakeStepGood s
      (s.chip.modOst fun o => { o with stepRetried := o.stepRetried || decide (1 < o.tries), step := o.step + 1,
                                       stepAt := s.chip.now, tries := 1, discharge := none })) ∧
  -- WAKE_STEP_TIMEOUT of W1 to W3 with attempts left
  (∀ (rc : Bool) (s : State), stepRuns s.chip = true → s.chip.ostler.step ≤ 3 → s.chip.ostler.tries ≤ 3 →
    stepDeadline s.chip ≤ s.chip.now →
    Becomes (.wakeStepTimeout rc) s (s.chip.modOst fun o => { o with discharge := some (s.chip.now + 1000) })) ∧
  -- WAKE_STEP_RETRY
  (∀ (t0 : Nat) (s : State), s.chip.mode.mode = .wake → s.chip.ostler.discharge = some t0 → t0 ≤ s.chip.now →
    Becomes .wakeStepRetry s
      (s.chip.modOst fun o => { o with discharge := none, stepAt := s.chip.now, tries := o.tries + 1 })) ∧
  -- WAKE_COMPLETE
  (∀ s : State, stepRuns s.chip = true → s.chip.ostler.step = 7 → s.chip.now ≤ stepDeadline s.chip →
      s.chip.ostler.offAsked = false →
    Becomes .wakeComplete s (wakeDone true s.chip)) ∧
  -- DEAD_STOP_RETRY
  (∀ (st : Straps) (t0 : Nat) (s : State), s.chip.mode.mode = .off → s.chip.ostler.deadStop = true →
    s.chip.ostler.retryDue = some t0 → t0 ≤ s.chip.now → s.chip.ostler.series < 5 → canWake s.chip = true →
    Becomes (.deadStopRetry st) s
      (beginWake st (s.chip.modOst fun o =>
        { o with cause := 7, series := o.series + 1,
                 record := { o.record with retries := o.record.retries + 1 } })))

/-- In OFF the minimal responder answers the opcodes of its table and NOT_IN_MODE to the others (R326, R484). -/
def Obligations.ResponderAnswersInOff : Prop :=
  -- RESPONDER_PING
  (∀ (rq : Request) (s : State), s.chip.mode.mode = .off → s.chip.ostler.rxAwake = true → rq.port = .tw →
    rq.params.length ≤ 248 → rq.ver = 0x10#8 →
    Becomes (.responderPing rq) s (respondWith 0x10#8 rq.tag .ok rq.params s.chip)) ∧
  -- RESPONDER_HELLO
  (∀ (rq : Request) (s : State), s.chip.mode.mode = .off → s.chip.ostler.rxAwake = true → rq.port = .tw →
    rq.params.length ≤ 248 → arg rq 1 1 ≤ 0x10 → 0x10 ≤ arg rq 0 1 →
    Becomes (.responderHello rq) s (respondWith 0x10#8 rq.tag .ok (helloData s.chip .tw 0x10 1 (zeros 8)) s.chip)) ∧
  -- RESPONDER_MODE_GET
  (∀ (rq : Request) (s : State), s.chip.mode.mode = .off → s.chip.ostler.rxAwake = true → rq.port = .tw →
    rq.params.length ≤ 248 → rq.ver = 0x10#8 →
    Becomes (.responderModeGet rq) s (respondWith 0x10#8 rq.tag .ok (le 4 (offWord s.chip) ++ zeros 12) s.chip)) ∧
  -- RESPONDER_MODE_REQUEST of OFF
  (∀ (rq : Request) (st : Straps) (s : State), s.chip.mode.mode = .off → s.chip.ostler.rxAwake = true →
      rq.port = .tw →
    rq.params.length ≤ 248 → rq.ver = 0x10#8 → arg rq 0 1 = 0 →
    Becomes (.responderModeRequest rq st) s
      (respondWith 0x10#8 rq.tag .ok (le 4 (offWord (requestOffPin s.chip))) (requestOffPin s.chip))) ∧
  -- RESPONDER_MODE_REQUEST of READY or HOLD, which asks for a wake
  (∀ (rq : Request) (st : Straps) (s : State) (u w : Chip), s.chip.mode.mode = .off → s.chip.ostler.rxAwake = true →
      rq.port = .tw →
    rq.params.length ≤ 248 → rq.ver = 0x10#8 → arg rq 0 1 = 2 ∨ arg rq 0 1 = 3 →
    u = respondWith 0x10#8 rq.tag .accepted (le 4 (offWord s.chip)) s.chip →
    w = requestWake st (u.modOst fun o => { o with wakeTag := some rq.tag }) →
    Becomes (.responderModeRequest rq st) s
      (if w.mode.mode == .wake then w.modPort .tw fun ps => { ps with lastRead := ((waitingReply u .tw).map replyBytes).getD [] }
       else w)) ∧
  -- RESPONDER_MODE_REQUEST of a mode that cannot be reached
  (∀ (rq : Request) (st : Straps) (s : State), s.chip.mode.mode = .off → s.chip.ostler.rxAwake = true →
      rq.port = .tw →
    rq.params.length ≤ 248 → rq.ver = 0x10#8 → arg rq 0 1 ≠ 0 → arg rq 0 1 ≠ 2 → arg rq 0 1 ≠ 3 →
    Becomes (.responderModeRequest rq st) s (respondWith 0x10#8 rq.tag .notInMode (le 4 (offWord s.chip)) s.chip)) ∧
  -- RESPONDER_FAULT_BLOCK_GET
  (∀ (rq : Request) (s : State), s.chip.mode.mode = .off → s.chip.ostler.rxAwake = true → rq.port = .tw →
    rq.params.length ≤ 248 → rq.ver = 0x10#8 → arg rq 0 1 = 0x0F → arg rq 1 1 = 0 →
    Becomes (.responderFaultBlockGet rq) s (respondWith 0x10#8 rq.tag .ok (recordPage s.chip) s.chip)) ∧
  -- RESPONDER_OTHER
  (∀ (rq : Request) (op : Half) (s : State), s.chip.mode.mode = .off → s.chip.ostler.rxAwake = true → rq.port = .tw →
    rq.params.length ≤ 248 → rq.ver = 0x10#8 → respTable op.toNat = false → inIndex op.toNat = true →
    Becomes (.responderOther rq op) s (respondWith 0x10#8 rq.tag .notInMode (le 4 (offWord s.chip)) s.chip)) ∧
  -- OSTLER_RX_WAKE
  (∀ s : State, s.chip.mode.mode = .off → s.chip.ostler.alive = true → s.chip.ostler.rxAwake = false →
    Becomes .ostlerRxWake s (s.chip.modOst fun o => { o with rxAwake := true, rxLast := s.chip.now })) ∧
  -- OSTLER_RX_SLEEP
  (∀ s : State, s.chip.mode.mode = .off → s.chip.ostler.rxLast + 100000 ≤ s.chip.now →
    Becomes .ostlerRxSleep s (s.chip.modOst fun o => { o with rxAwake := false }))

/-- The crystal, the RC reference and the PLL; temperature samples, the reference trims and TS0 (R485, R497, R498,
R501, R502, R503, R504, R505, R506). Where the rules leave a choice its clauses state the model's, of the log
entries 144, 153, 154, 155, 225. -/
def Obligations.ClocksAndHeatAct : Prop :=
  -- XTAL_FAIL
  (∀ s : State, yardAlive s.chip = true → s.chip.clk.degraded = false →
    Becomes .xtalFail s (evalFault (evalFault ((rcReference s.chip).modOst fun o => { o with xtalFailed := true }) 0x0F08 true) 0x0F09 true)) ∧
  -- XTAL_RETRY
  (∀ s : State, yardAlive s.chip = true → s.chip.clk.degraded = true → s.chip.ostler.xtalOk = none →
    s.chip.ostler.xtalNext ≤ s.chip.now →
    Becomes .xtalRetry s (s.chip.modOst fun o =>
      { o with xtalNext := s.chip.now + 10000000, xtalOk := some s.chip.now })) ∧
  -- XTAL_RESTORE
  (∀ (t0 : Nat) (s : State), yardAlive s.chip = true → s.chip.clk.degraded = true → s.chip.ostler.xtalOk = some t0 →
    t0 + 1000000 ≤ s.chip.now →
    Becomes .xtalRestore s (setLive (setLive ({ s.chip with clk := { s.chip.clk with degraded := false } }.modOst fun o =>
      { o with xtalFailed := false, xtalOk := none }) 0x0F08 false) 0x0F09 false)) ∧
  -- PLL_UNLOCK that recovers
  (∀ s : State, yardAlive s.chip = true → s.chip.clk.degraded = false →
      Becomes (.pllUnlock true) s (setFault s.chip 0x0F0A)) ∧
  -- RC_CLOCK_FAIL
  (∀ s : State, yardAlive s.chip = true → s.chip.clk.degraded = true →
      Becomes .rcClockFail s (enterDeadStop 0x19 0 s.chip)) ∧
  -- TEMP_SAMPLE
  (∀ (counts : List Nat) (x : Sample) (s : State), yardAlive s.chip = true → s.chip.heat.next ≤ s.chip.now →
    ((List.range 8).all fun k => !(sensor s.chip k).top) = true →
    x = ((List.range 12).map fun k => (counts.getD k 0, sensorTemp k (counts.getD k 0))) →
    Completes (.tempSample counts) s fun t =>
      t.heat.sensors = (List.range 12).map (sampleSensor s.chip x)
      ∧ t.heat.degraded = (decide (2 ≤ excluded t (List.range 8)) || decide (2 ≤ excluded t [8, 9, 10, 11]))
      ∧ t.heat.levels = (List.range 3).map (deviceLevel t)
      ∧ (tget t.heat.levels 0 = true → isSticky t 0x0E00 = true) ∧ (tget t.heat.levels 1 = true →
          isSticky t 0x0E01 = true)
      ∧ (isPaired s.chip = false → s.chip.pair.me.handHot = false → tget t.heat.levels 2 = true →
          isSticky t 0x0E02 = true)
      ∧ ((sensor t 0).valid = true → t.ostler.ts0 = (sensor t 0).t)
      ∧ (t.heat.next = s.chip.now + 50 ∨ t.heat.next = s.chip.now + 1000)) ∧
  -- REFERENCE_TRIM
  (∀ s : State, yardAlive s.chip = true → s.chip.heat.trimDue ≤ s.chip.now →
    Completes .referenceTrim s fun t =>
      t.heat.trimDue = s.chip.now + 10000 ∧
          (∀ k < 4, (tget t.heat.trimNext k - tget s.chip.heat.trimNext k).natAbs ≤ 2)
      ∧ Only [.heat] s.chip t) ∧
  -- OSTLER_TS0_READ
  (∀ (v : Int) (st : Straps) (s : State), s.chip.ostler.alive = true → yardAlive s.chip = false →
    v < 15000 ∨ s.chip.ostler.ts0 < 15000 ∨ (s.chip.mode.mode = .off ∧ s.chip.ostler.deadStop = true) →
    Becomes (.ostlerTs0Read v st) s (wakeIfReady st (s.chip.modOst fun o => { o with ts0 := v }))) ∧
  -- OSTLER_TS0_READ a second time at 150 °C
  (∀ (v : Int) (st : Straps) (s : State), s.chip.ostler.alive = true → yardAlive s.chip = false →
      ¬(s.chip.mode.mode = .off ∧ s.chip.ostler.deadStop = true) → 15000 ≤ v →
    15000 ≤ s.chip.ostler.ts0 →
    Becomes (.ostlerTs0Read v st) s (enterDeadStop 0x18 0 (s.chip.modOst fun o => { o with ts0 := v })))

/-- The channel and breaker reads answer with the channel record, the breaker record and the curve, and change nothing
(R81, R108). -/
def Obligations.ChannelOpcodesRead : Prop :=
  -- CH_GET
  (∀ (rq : Request) (s : State), Admitted 0x0201 {} rq s.chip → chChecks rq s.chip = none →
    Answers .chGet rq s .ok (chGetData s.chip (arg rq 0 1))) ∧
  -- CH_STATE_ALL
  (∀ (rq : Request) (s : State), Admitted 0x0206 {} rq s.chip →
    Answers .chStateAll rq s .ok ((List.range 32).flatMap fun n => le 4 (chWordAll s.chip n))) ∧
  -- BRK_GET
  (∀ (rq : Request) (s : State), Admitted 0x0210 {} rq s.chip → chChecks rq s.chip = none →
    Answers .brkGet rq s .ok (brkGetData s.chip (arg rq 0 1))) ∧
  -- BRK_CURVE_GET
  (∀ (rq : Request) (s : State), Admitted 0x0212 {} rq s.chip → chChecks rq s.chip = none →
      hasCurve s.chip (arg rq 0 1) = true →
    Answers .brkCurveGet rq s .ok (curveData s.chip (arg rq 0 1))) ∧
  -- BRK_EVAL
  (∀ (rq : Request) (s : State), Admitted 0x0213 { lenLo := 8, lenHi := 8 } rq s.chip → chChecks rq s.chip = none →
      hasCurve s.chip (arg rq 0 1) = true →
    Answers .brkEval rq s .ok (evalData (s.chip.brkCfg (arg rq 0 1)) (arg rq 4 4)))

/-- CH_ON of an idle channel is accepted and queued; CH_OFF, CH_DISABLE and CH_ENABLE are queued and answered when they
apply; BRK_CLEAR_LOCKOUT enters the mailbox (R28, R29, R68, R69, R81, R104, R108, R433). -/
def Obligations.ChannelCommandsQueue : Prop :=
  -- CH_ON
  (∀ (rq : Request) (s : State), Admitted 0x0202 { activeOnly := true, queue := 1 } rq s.chip →
      inStop s.chip = false → modeAdmitsOn s.chip = true → chCmdChecks rq s.chip = none →
      (s.chip.chCfg (arg rq 0 1)).role ≠ 0 → (s.chip.ch (arg rq 0 1)).disabled = false →
      (s.chip.ch (arg rq 0 1)).state = .off → (s.chip.chQueue.any fun e => e.ch == arg rq 0 1) = false →
    Completes (.chOn rq) s fun t =>
      Replied rq .accepted (chData s.chip (arg rq 0 1)) s.chip t
      ∧ (t.chQueue = s.chip.chQueue ++ [{ ch := arg rq 0 1, gen := (s.chip.chCfg (arg rq 0 1)).gen, cmd := .on, ref := refOf rq s.chip, replied := true }] ∧
          Only [portPart rq.port, .receipts, .chQueue] s.chip t)) ∧
  -- CH_OFF
  (∀ (rq : Request) (s : State), Admitted 0x0203 { activeOnly := true, queue := 1 } rq s.chip →
      chCmdChecks rq s.chip = none →
    Completes (.chOff rq) s fun t =>
      Held rq s.chip t ∧ (t.chQueue = s.chip.chQueue ++ [{ ch := arg rq 0 1, gen := (s.chip.chCfg (arg rq 0 1)).gen, cmd := .off, ref := refOf rq s.chip, replied := false }]
        ∧ Only [portPart rq.port, .receipts, .chQueue] s.chip t)) ∧
  -- CH_DISABLE
  (∀ (rq : Request) (s : State), Admitted 0x0204 { activeOnly := true, queue := 1 } rq s.chip →
      chCmdChecks rq s.chip = none →
    Completes (.chDisable rq) s fun t =>
      Held rq s.chip t ∧ (t.chQueue = s.chip.chQueue ++ [{ ch := arg rq 0 1, gen := (s.chip.chCfg (arg rq 0 1)).gen, cmd := .disable, ref := refOf rq s.chip, replied := false }]
        ∧ Only [portPart rq.port, .receipts, .chQueue] s.chip t)) ∧
  -- CH_ENABLE
  (∀ (rq : Request) (s : State), Admitted 0x0205 { activeOnly := true, queue := 1 } rq s.chip →
      chCmdChecks rq s.chip = none →
    Completes (.chEnable rq) s fun t =>
      Held rq s.chip t ∧ (t.chQueue = s.chip.chQueue ++ [{ ch := arg rq 0 1, gen := (s.chip.chCfg (arg rq 0 1)).gen, cmd := .enable, ref := refOf rq s.chip, replied := false }]
        ∧ Only [portPart rq.port, .receipts, .chQueue] s.chip t)) ∧
  -- BRK_CLEAR_LOCKOUT
  (∀ (rq : Request) (s : State), Admitted 0x0211 { activeOnly := true } rq s.chip → chCmdChecks rq s.chip = none →
      boxRoom s.chip = true →
    Completes (.brkClearLockout rq) s fun t =>
      Held rq s.chip t ∧ (t.box = s.chip.box ++ [⟨.clearLockout, 0x0211, refOf rq s.chip, rq.params, s.chip.now, (s.chip.chCfg (field rq.params 0 1)).gen⟩]
        ∧ Only [portPart rq.port, .receipts, .box] s.chip t))

/-- The rail reads answer with the rail record, the state words and the phase table, and change nothing (R140). -/
def Obligations.RailOpcodesRead : Prop :=
  -- RAIL_GET
  (∀ (rq : Request) (s : State), Admitted 0x0301 {} rq s.chip → arg rq 0 1 ≤ 15 →
    Answers .railGet rq s .ok (railGetData s.chip (arg rq 0 1))) ∧
  -- RAIL_STATE_ALL
  (∀ (rq : Request) (s : State), Admitted 0x0308 {} rq s.chip →
    Answers .railStateAll rq s .ok ((List.range 16).flatMap fun k => railData s.chip k)) ∧
  -- RAIL_PHASES_GET
  (∀ (rq : Request) (s : State), Admitted 0x0309 {} rq s.chip → railChecks rq s.chip = none →
    Answers .railPhasesGet rq s .ok (le 1 (phases (s.chip.railCfg (arg rq 0 1))) ++ le 1 (s.chip.railCfg (arg rq 0 1)).firstLane
      ++ le 2 (s.chip.railCfg (arg rq 0 1)).pwmPeriod
      ++ (List.range 12).flatMap (phaseEntry (s.chip.railCfg (arg rq 0 1)) (s.chip.rail (arg rq 0 1)))))

/-- RAIL_ON of an idle rail is accepted and queued; the other rail commands are queued and answered when they apply;
RAIL_CLEAR_LATCH enters the mailbox (R29, R122, R124, R135, R140, R433). -/
def Obligations.RailCommandsQueue : Prop :=
  -- RAIL_ON
  (∀ (rq : Request) (s : State), Admitted 0x0302 { activeOnly := true, queue := 2 } rq s.chip →
      inStop s.chip = false → modeAdmitsOn s.chip = true → railCmdChecks rq s.chip = none →
      (s.chip.rail (arg rq 0 1)).disabled = false → (s.chip.rail (arg rq 0 1)).state = .off →
      (s.chip.railQueue.any fun e => e.rail == arg rq 0 1) = false →
    Completes (.railOn rq) s fun t =>
      Replied rq .accepted (railData s.chip (arg rq 0 1)) s.chip t
      ∧ (t.railQueue = s.chip.railQueue ++ [{ rail := arg rq 0 1, cmd := .on, ref := refOf rq s.chip, replied := true, link := none }] ∧
          Only [portPart rq.port, .receipts, .railQueue] s.chip t)) ∧
  -- RAIL_OFF
  (∀ (rq : Request) (s : State), Admitted 0x0303 { activeOnly := true, queue := 2 } rq s.chip →
      railCmdChecks rq s.chip = none →
    Completes (.railOff rq) s fun t =>
      Held rq s.chip t ∧ (t.railQueue = s.chip.railQueue ++ [{ rail := arg rq 0 1, cmd := .off, ref := refOf rq s.chip, replied := false, link := none }]
        ∧ Only [portPart rq.port, .receipts, .railQueue] s.chip t)) ∧
  -- RAIL_DISABLE
  (∀ (rq : Request) (s : State), Admitted 0x0304 { activeOnly := true, queue := 2 } rq s.chip →
      railCmdChecks rq s.chip = none →
    Completes (.railDisable rq) s fun t =>
      Held rq s.chip t ∧ (t.railQueue = s.chip.railQueue ++ [{ rail := arg rq 0 1, cmd := .disable, ref := refOf rq s.chip, replied := false, link := none }]
        ∧ Only [portPart rq.port, .receipts, .railQueue] s.chip t)) ∧
  -- RAIL_ENABLE
  (∀ (rq : Request) (s : State), Admitted 0x0305 { activeOnly := true, queue := 2 } rq s.chip →
      railCmdChecks rq s.chip = none →
    Completes (.railEnable rq) s fun t =>
      Held rq s.chip t ∧ (t.railQueue = s.chip.railQueue ++ [{ rail := arg rq 0 1, cmd := .enable, ref := refOf rq s.chip, replied := false, link := none }]
        ∧ Only [portPart rq.port, .receipts, .railQueue] s.chip t)) ∧
  -- RAIL_SET
  (∀ (rq : Request) (s : State), Admitted 0x0306 { lenLo := 8, lenHi := 8, activeOnly := true, queue := 2 } rq s.chip →
      svcOtherRail s.chip (arg rq 0 1) = false → 1 ≤ arg rq 1 1 → arg rq 1 1 ≤ 3 → railChecks rq s.chip = none →
      railSetInRange s.chip (arg rq 0 1) (arg rq 1 1) (fieldI rq.params 4 4) = true →
      railSetAdmits s.chip (arg rq 0 1) (arg rq 1 1) = true → (s.chip.rail (arg rq 0 1)).disabled = false →
    Completes (.railSet rq) s fun t =>
      Held rq s.chip t ∧ (t.railQueue = s.chip.railQueue ++ [{ rail := arg rq 0 1, cmd := .set (arg rq 1 1) (fieldI rq.params 4 4), ref := refOf rq s.chip, replied := false, link := none }]
        ∧ Only [portPart rq.port, .receipts, .railQueue] s.chip t)) ∧
  -- RAIL_CLEAR_LATCH
  (∀ (rq : Request) (s : State), Admitted 0x0307 { activeOnly := true } rq s.chip → railCmdChecks rq s.chip = none →
      boxRoom s.chip = true →
    Completes (.railClearLatch rq) s fun t =>
      Held rq s.chip t ∧ (t.box = s.chip.box ++ [⟨.clearLatch, 0x0307, refOf rq s.chip, rq.params, s.chip.now, (s.chip.chCfg (field rq.params 0 1)).gen⟩]
        ∧ Only [portPart rq.port, .receipts, .box] s.chip t))

/-- The energy reads answer with their records; CAP_SET and CHARGE_SET queue the limit they name (R149, R164, R173).
Where the rules leave a choice its clauses state the model's, of the log entries 170. -/
def Obligations.EnergyOpcodesComplete : Prop :=
  -- ENERGY_GET
  (∀ (rq : Request) (s : State), Admitted 0x0401 {} rq s.chip →
    Answers .energyGet rq s .ok (energyGetData s.chip)) ∧
  -- BRIDGE_GET
  (∀ (rq : Request) (s : State), Admitted 0x0404 {} rq s.chip →
    Answers .bridgeGet rq s .ok (bridgeGetData s.chip)) ∧
  -- RECT_GET
  (∀ (rq : Request) (s : State), Admitted 0x0405 {} rq s.chip → (s.chip.chCfg (arg rq 0 1)).role = 1 →
      chChecks rq s.chip = none →
    Answers .rectGet rq s .ok (rectGetData s.chip (arg rq 0 1))) ∧
  -- CAP_SET of the shelf
  (∀ (rq : Request) (s : State), Admitted 0x0402 { lenLo := 8, lenHi := 8, activeOnly := true, queue := 3 } rq s.chip →
      arg rq 0 1 = 0 → capInRange (arg rq 4 4) = true →
    ∀ u, u = (queueEnergy (taken 0x0402 rq s.chip) (.cap false (arg rq 4 4) (refOf rq s.chip))) →
    Serves .capSet rq s u .ok (le 4 (energyWord s.chip))) ∧
  -- CAP_SET of the hall, at the root
  (∀ (rq : Request) (s : State), Admitted 0x0402 { lenLo := 8, lenHi := 8, activeOnly := true, queue := 3 } rq s.chip →
      arg rq 0 1 = 1 → capInRange (arg rq 4 4) = true → isRoot s.chip = true →
    ∀ u, u = (queueEnergy (taken 0x0402 rq s.chip) (.cap true (arg rq 4 4) (refOf rq s.chip))) →
    Serves .capSet rq s u .ok (le 4 (energyWord s.chip))) ∧
  -- CHARGE_SET
  (∀ (rq : Request) (m : ChargeMode) (s : State), Admitted 0x0403 { lenLo := 8, lenHi := 8, activeOnly := true, queue := 3 } rq s.chip →
      arg rq 0 1 = m.code → (m = ChargeMode.limit → arg rq 4 4 ≤ s.chip.img.caps.chargePMax) →
    ∀ u, u = (queueEnergy (taken 0x0403 rq s.chip) (.chargeMode m (if m = ChargeMode.limit then some (arg rq 4 4) else none) (refOf rq s.chip))) →
    Serves .chargeSet rq s u .ok (le 4 (energyWord s.chip)))

/-- LL_GET and LL_STATE_ALL answer with the link records; LL_DISABLE and LL_ENABLE act on the link at once (R203). -/
def Obligations.LinkOpcodesComplete : Prop :=
  -- LL_GET
  (∀ (rq : Request) (s : State), Admitted 0x0410 {} rq s.chip → linkChecks rq s.chip = none →
    Answers .llGet rq s .ok (linkGetData s.chip (arg rq 0 1))) ∧
  -- LL_STATE_ALL
  (∀ (rq : Request) (s : State), Admitted 0x0411 {} rq s.chip →
    Answers .llStateAll rq s .ok ((List.range 8).flatMap (linkData s.chip))) ∧
  -- LL_DISABLE
  (∀ (rq : Request) (s : State), Admitted 0x0412 { activeOnly := true } rq s.chip → linkChecks rq s.chip = none →
    ∀ u, u = (llDisable (taken 0x0412 rq s.chip) (arg rq 0 1)) →
    Serves .llDisable rq s u .ok (linkData u (arg rq 0 1))) ∧
  -- LL_ENABLE
  (∀ (rq : Request) (s : State), Admitted 0x0413 { activeOnly := true } rq s.chip → linkChecks rq s.chip = none →
    ∀ u, u = (linkDown ((taken 0x0413 rq s.chip).modLink (arg rq 0 1) fun l => { l with disabled := false }) (arg rq 0 1)) →
    Serves .llEnable rq s u .ok (linkData u (arg rq 0 1)))

/-- The battery reads answer with their records; BAT_ADMIT and BAT_RELEASE begin what they ask for (R206, R214, R235). -/
def Obligations.BatteryOpcodesComplete : Prop :=
  -- BAT_GET
  (∀ (rq : Request) (s : State), Admitted 0x0501 {} rq s.chip → batChecks rq s.chip = none →
    Answers .batGet rq s .ok (batGetData s.chip (arg rq 0 1))) ∧
  -- BAT_STATE_ALL
  (∀ (rq : Request) (s : State), Admitted 0x0502 {} rq s.chip →
    Answers .batStateAll rq s .ok ((List.range 12).flatMap (batData s.chip))) ∧
  -- BAT_ADMIT of an admitted slot
  (∀ (rq : Request) (s : State), Admitted 0x0503 { activeOnly := true } rq s.chip → batChecks rq s.chip = none →
      (s.chip.bat (arg rq 0 1)).admState = .admitted →
    ∀ u, u = (taken 0x0503 rq s.chip) →
    Serves .batAdmit rq s u .ok (batData s.chip (arg rq 0 1))) ∧
  -- BAT_ADMIT of another slot
  (∀ (rq : Request) (s : State), Admitted 0x0503 { activeOnly := true } rq s.chip → batChecks rq s.chip = none →
      (s.chip.bat (arg rq 0 1)).admState ≠ .admitted → (s.chip.bat (arg rq 0 1)).admState ≠ .identifying →
    ∀ u, u = ((startAdmission (reseat (taken 0x0503 rq s.chip) (arg rq 0 1)) (arg rq 0 1)).modBat (arg rq 0 1) fun b => { b with admitRefs := b.admitRefs ++ [refOf rq s.chip] }) →
    Serves .batAdmit rq s u .accepted (batData u (arg rq 0 1))) ∧
  -- BAT_RELEASE
  (∀ (rq : Request) (s : State), Admitted 0x0504 { activeOnly := true } rq s.chip → batChecks rq s.chip = none →
      slotAdmitted s.chip (arg rq 0 1) = true → slotBridging s.chip (arg rq 0 1) = false →
    ∀ u, u = ((releaseRail (taken 0x0504 rq s.chip) (railOf s.chip (arg rq 0 1))).modBat (arg rq 0 1) fun b => { b with releasing := true, releaseRefs := b.releaseRefs ++ [refOf rq s.chip] }) →
    Serves .batRelease rq s u .accepted (batData u (arg rq 0 1))) ∧
  -- BAT_REST_GET
  (∀ (rq : Request) (s : State), Admitted 0x0505 {} rq s.chip → batChecks rq s.chip = none →
    Answers .batRestGet rq s .ok (batRestData s.chip (arg rq 0 1))) ∧
  -- BAT_PROFILE_GET
  (∀ (rq : Request) (p : Profile) (s : State), Admitted 0x0506 {} rq s.chip → profileOf s.chip (arg rq 0 2) = some p →
    arg rq 2 1 = 0 → Answers .batProfileGet rq s .ok (profilePage p))

/-- The metering and ledger reads answer with their records; LEDGER_ACK acknowledges; LEDGER_ATTEST and LEDGER_SNAPSHOT
wait (R257, R261, R262, R263). Where the rules leave a choice its clauses state the model's, of the log entries 42,
51. -/
def Obligations.MeterAndLedgerOpcodesRead : Prop :=
  -- METER_GET
  (∀ (rq : Request) (s : State), Admitted 0x0601 {} rq s.chip → isObject (arg rq 0 1) = true → arg rq 1 1 ≤ 1 →
    Answers .meterGet rq s .ok (meterGetData s.chip (arg rq 0 1) (arg rq 1 1 == 1))) ∧
  -- METER_ALL
  (∀ (rq : Request) (s : State), Admitted 0x0602 {} rq s.chip → isObject (arg rq 0 1) = true → 1 ≤ arg rq 1 1 →
    arg rq 0 1 + arg rq 1 1 ≤ 44 → arg rq 1 1 ≤ unitsThatFit rq.port 0 16 →
    Answers .meterAll rq s .ok ((List.range (arg rq 1 1)).flatMap fun k =>
      le 8 (s.chip.meter (arg rq 0 1 + k)).imp ++ le 8 (s.chip.meter (arg rq 0 1 + k)).exp)) ∧
  -- SHELF_TOTALS_GET
  (∀ (rq : Request) (s : State), Admitted 0x0603 {} rq s.chip →
    Answers .shelfTotalsGet rq s .ok ((List.range 4).flatMap (fun k => le 8 (tget s.chip.meterBook.totals.sums k)) ++ le 8 s.chip.hall)) ∧
  -- LEDGER_INFO
  (∀ (rq : Request) (s : State), Admitted 0x0610 {} rq s.chip →
    Answers .ledgerInfo rq s .ok (ledgerInfoData s.chip)) ∧
  -- LEDGER_READ
  (∀ (rq : Request) (last : Nat) (s : State), Admitted 0x0611 { lenLo := 8, lenHi := 8 } rq s.chip →
    lastCommitted s.chip.ledger = some last → arg rq 0 4 ≤ last → arg rq 4 2 ≠ 0 →
    ∀ es, es = entriesThatFit (s.chip.ledger.entries.filter fun e => arg rq 0 4 ≤ e.seq) (portLimit rq.port - 4) (arg rq 4 2) →
    entriesBad s.chip (s.chip.ledger.entries.filter fun e => arg rq 0 4 ≤ e.seq) es.length = false →
    Answers .ledgerRead rq s .ok (le 2 es.length ++ zeros 2 ++ es.flatMap entryBytes)) ∧
  -- LEDGER_ACK
  (∀ (rq : Request) (last : Nat) (s : State), Admitted 0x0612 {} rq s.chip → lastCommitted s.chip.ledger = some last →
    arg rq 0 4 ≤ last → isAcked s.chip.ledger (arg rq 0 4) = true →
        Answers .ledgerAck rq s .ok (le 4 (ledgerWord s.chip))) ∧
  -- LEDGER_ACK of a committed record that is not acknowledged yet
  (∀ (rq : Request) (last : Nat) (s : State), Admitted 0x0612 {} rq s.chip → lastCommitted s.chip.ledger = some last →
    arg rq 0 4 ≤ last → isAcked s.chip.ledger (arg rq 0 4) = false →
    ∀ u, u = nearFullStep (writePos (taken 0x0612 rq s.chip) { s.chip.ledger.pos with ack := some (arg rq 0 4) }) →
    Serves .ledgerAck rq s u .ok (le 4 (ledgerWord u))) ∧
  -- LEDGER_ACK past the last committed record, or of none
  (∀ (rq : Request) (s : State), Admitted 0x0612 {} rq s.chip →
      ((lastCommitted s.chip.ledger).all fun last => last < arg rq 0 4) = true →
    Answers .ledgerAck rq s .outOfRange []) ∧
  -- LEDGER_ATTEST
  (∀ (rq : Request) (s : State), Admitted 0x0613 { lenLo := 16, lenHi := 16 } rq s.chip →
    Becomes (.ledgerAttest rq) s ((taken 0x0613 rq s.chip).setLedger fun l =>
      { l with attests := l.attests ++ [{ ref := refOf rq s.chip, nonce := rq.params.take 16, tick := s.chip.now }] })) ∧
  -- The oldest LEDGER_ATTEST at a tick boundary: the attestation once the engine is done, BUSY_RETRY after 50 ms
  (∀ (a : AttestReq) (rest : List AttestReq) (s : Chip), s.ledger.attests = a :: rest →
    ∀ u, u = s.drawn.setLedger (fun l => { l with attests := rest }) →
    (a.tick + 50000 ≤ s.now → attestTick s = formReply u a.ref .busyRetry [])
      ∧ (s.now < a.tick + 50000 → s.draw % 2 = 1 → attestTick s = formReply u a.ref .ok (attestData s.drawn a.nonce))
      ∧ (s.now < a.tick + 50000 → s.draw % 2 ≠ 1 → attestTick s = s.drawn)) ∧
  -- LEDGER_SNAPSHOT
  (∀ (rq : Request) (s : State), Admitted 0x0614 { activeOnly := true } rq s.chip → meteringRuns s.chip = true →
    Becomes (.ledgerSnapshot rq) s ((taken 0x0614 rq s.chip).setLedger fun l => { l with work := { l.work with hosts := l.work.hosts ++ [refOf rq s.chip] } }))

/-- Insertion, removal and the timers of a channel act as the channel state machine says (R53, R62, R66, R67, R72, R98,
R101, R102). -/
def Obligations.ChannelPresenceAndTimers : Prop :=
  -- INSERTION with the Studio die off
  (∀ (v w : Chip) (ch : Fin 32) (s : State), v = s.chip.modCh ch (fun c => { c with present := true, cut := false }) →
    w = ((slotOfCh v ch).map fun j => v.modBat j fun b => { b with closed := false }).getD v →
    presenceIgnored s.chip ch = false → studioRuns w = false → Becomes (.insertion ch) s w) ∧
  -- INSERTION with the Studio die running
  (∀ (v w u : Chip) (ch : Fin 32) (s : State), v = s.chip.modCh ch (fun c => { c with present := true, cut := false }) →
    w = ((slotOfCh v ch).map fun j => v.modBat j fun b => { b with closed := false }).getD v →
    presenceIgnored s.chip ch = false → studioRuns w = true → u = insertStart (post w 0x02 (chBody w ch 2) []) ch →
    Becomes (.insertion ch) s (match slotOfCh u ch with | some j => startAdmission u j | none => u)) ∧
  -- REMOVAL with the Studio die off
  (∀ (u v : Chip) (ch : Fin 32) (s : State),
    u = (members s.chip ch).foldl (fun u m => u.modCh m fun c => { c with present := false, main := .off, pre := .off, pull := .strong }) s.chip →
    v = (if stableActs u then u.modCh ch fun c => { c with cut := true } else u) →
    presenceIgnored s.chip ch = false → studioRuns v = false → Becomes (.removal ch) s v) ∧
  -- REMOVAL with the Studio die running
  (∀ (u v w : Chip) (ch : Fin 32) (s : State),
    u = (members s.chip ch).foldl (fun u m => u.modCh m fun c => { c with present := false, main := .off, pre := .off, pull := .strong }) s.chip →
    v = (if stableActs u then u.modCh ch fun c => { c with cut := true } else u) →
    presenceIgnored s.chip ch = false → studioRuns v = true →
    w = post (removeChannel v ch) 0x02 (chBody (removeChannel v ch) ch 3) [] →
    Becomes (.removal ch) s (match slotOfCh w ch with
      | some j => askClose (w.modBat j fun b => { b with removed := true, closed := false }) j 1
      | none => w)) ∧
  -- INSERT_DELAY_EXPIRY
  (∀ (ch : Fin 32) (s : State), (s.chip.ch ch).insertDue.any (fun d => decide (d ≤ s.chip.now)) = true →
      (s.chip.ch ch).state = .waitPresent → (s.chip.ch ch).stageWait = false → isPresent s.chip ch = true →
      admitsCh s.chip ch = true → rolesWait s.chip = false →
    Becomes (.insertDelayExpiry ch) s (if (s.chip.ch ch).brk.retryNext then startRetry s.chip ch else startInrush s.chip ch false)) ∧
  -- PRIMER_REARM
  (∀ (ch : Fin 32) (s : State), (s.chip.ch ch).state = .cooling → heatRearmed s.chip ch = true →
      rolesWait s.chip = false →
    Becomes (.primerRearm ch) s (primerGo s.chip ch)) ∧
  -- PRIMER_TIMEOUT
  (∀ (ch : Fin 32) (s : State), (s.chip.ch ch).state = .precharge →
      (s.chip.chCfg ch).primerTimeout * 1000 ≤ s.chip.now - (s.chip.ch ch).t0 →
    Becomes (.primerTimeout ch) s (tripOrHold s.chip ch [.primerTimeout] 0xFF)) ∧
  -- CLOSE_TIMEOUT
  (∀ (ch : Fin 32) (s : State), (s.chip.ch ch).state = .closing →
      (s.chip.chCfg ch).closeTimeout ≤ s.chip.now - (s.chip.ch ch).t1 →
    Becomes (.closeTimeout ch) s (tripOrHold s.chip ch [.closeTimeout] 0xFF)) ∧
  -- PRIMER_OVERLAP_END
  (∀ (ch : Fin 32) (s : State), (s.chip.ch ch).overlapEnd.any (fun d => decide (d ≤ s.chip.now)) = true →
    Becomes (.primerOverlapEnd ch) s (s.chip.modCh ch fun c => { c with pre := .off, pull := .soft, overlapEnd := none })) ∧
  -- KS_FAULT_TIMER
  (∀ (ch : Fin 32) (s : State), (s.chip.ch ch).state = .limiting →
      (s.chip.chCfg ch).ksFaultTime * 1000 ≤ (s.chip.ch ch).ksTimer →
    Becomes (.ksFaultTimer ch) s (tripOrHold s.chip ch [.ksFaultTimer] 0xFF))

/-- The comparators, the charge pump and the retry timers act on the breaker they belong to (R24, R62, R76, R77, R88,
R89, R99, R100, R102, R105). -/
def Obligations.BreakerEventsAct : Prop :=
  -- SHORT_CIRCUIT_TRIP
  (∀ (k : Nat) (ch : Fin 32) (s : State), k = leaderOf s.chip ch → stableActs s.chip = true →
    Becomes (.shortCircuitTrip ch) s (driversOff (s.chip.modCh ch fun c => { c with brk := { c.brk with scLatch := some (driverOn (s.chip.ch k) || c.brk.scLatch == some true) } }) k .strong)) ∧
  -- INSTANTANEOUS_TRIP
  (∀ (k : Nat) (ch : Fin 32) (s : State), k = leaderOf s.chip ch → studioRuns s.chip = true →
      driverOn (s.chip.ch k) = true →
    Becomes (.instantaneousTrip ch) s (driversOff (s.chip.modCh ch fun c => { c with brk := { c.brk with instLatch := some true } }) k .strong)) ∧
  -- CHARGE_PUMP_UV
  (∀ (k : Nat) (ch : Fin 32) (s : State), k = leaderOf s.chip ch → studioRuns s.chip = true →
      driverOn (s.chip.ch k) = true →
    Becomes (.chargePumpUv ch) s (tripOrHold s.chip k [.chargePump] 0xFF)) ∧
  -- RETRY_DUE
  (∀ (ch : Fin 32) (s : State), (s.chip.ch ch).state = .tripped →
      (s.chip.ch ch).brk.due.any (fun d => decide (d ≤ s.chip.now)) = true → (s.chip.ch ch).intentOn = true →
      admitsCh s.chip ch = true → isPresent s.chip ch = true → rolesWait s.chip = false →
    Becomes (.retryDue ch) s (startRetry s.chip ch)) ∧
  -- RETRY_RESET
  (∀ (ch : Fin 32) (s : State), (s.chip.ch ch).state = .on →
      (s.chip.ch ch).brk.onSince.any (fun t => decide (t + (s.chip.brkCfg ch).retryReset * 1000000 ≤ s.chip.now)) = true →
    Becomes (.retryReset ch) s (s.chip.modCh ch fun c => { c with brk := { c.brk with retries := 0 } }))

/-- The rail events start, stop, latch and trim the rail they belong to as the rail state machine says (R116, R118,
R120, R121, R126, R127, R128, R129, R130, R131, R132, R136). -/
def Obligations.RailEventsAct : Prop :=
  -- RAIL_START
  (∀ (v : Chip) (r : Fin 16) (s : State), (s.chip.rail r).state = .wait → railMayStart s.chip r = true →
    v = s.chip.modRail r (fun x => { x with stageWait := false, lp := { x.lp with
      ref := if (s.chip.railCfg r).bus then 0 else x.lp.vRail, eI1 := 0,
      trims := List.replicate (phases (s.chip.railCfg r)) 0, trimSat := List.replicate (phases (s.chip.railCfg r)) 0,
      balNext := s.chip.now + (s.chip.prot r).balPeriod } }) →
    Becomes (.railStart r) s (setRailState (beginSwitching v r) r .rampUp [])
      ∧ ((s.chip.rail r).lp.switching = false →
        ((beginSwitching v r).rail r).lp.switching = true
        ∧ ((beginSwitching v r).rail r).lp.u = startPreset (s.chip.rail r)
        ∧ ((beginSwitching v r).rail r).lp.preset = some (startPreset (s.chip.rail r))
        ∧ ((beginSwitching v r).rail r).lp.trims = List.replicate (phases (s.chip.railCfg r)) 0)) ∧
  -- RAIL_INPUT_UV
  (∀ (r : Fin 16) (s : State), 10 ≤ (s.chip.rail r).uvTicks → railLive (s.chip.rail r) = true →
    Becomes (.railInputUv r) s (railStop ((setFault s.chip (railSource 4 r)).modRail r fun x => { x with uvTicks := 0 }) r .inputUv (if (s.chip.rail r).intentOn then .wait else .off))) ∧
  -- OC_LATCH
  (∀ (r : Fin 16) (s : State), (s.chip.railCfg r).bus = false → railLive (s.chip.rail r) = true →
      (s.chip.rail r).limSince.any (fun t => decide (t + (s.chip.prot r).ocLatch ≤ s.chip.now)) = true →
    Becomes (.ocLatch r) s (railStop (setFault s.chip (railSource 0 r)) r .overcurrent .latched)) ∧
  -- PHASE_OC
  (∀ (r : Fin 16) (phase : Fin 12) (a b : Int) (s : State), (s.chip.railCfg? r).isSome = true →
      phase.val < phases (s.chip.railCfg r) → railLive (s.chip.rail r) = true →
      (s.chip.prot r).phOc < (phaseCurrent (s.chip.railCfg r) a).natAbs →
      (s.chip.prot r).phOc < (phaseCurrent (s.chip.railCfg r) b).natAbs →
    Becomes (.phaseOc r phase a b) s (railStop (setFault s.chip (railSource 2 r)) r .phaseOc .latched)) ∧
  -- RAIL_OVERVOLTAGE
  (∀ (r : Fin 16) (s : State), 2 ≤ (s.chip.rail r).ovTicks → railLive (s.chip.rail r) = true →
    Becomes (.railOvervoltage r) s (railStop (setFault s.chip (railSource 3 r)) r .overvoltage .latched)) ∧
  -- CURRENT_BALANCE with a phase at the trim limit 1000 times
  (∀ (tr : List Int) (sat : List Nat) (r : Fin 16) (s : State),
    tr = (List.range (phases (s.chip.railCfg r))).map (fun i => trimStep (s.chip.prot r) (phases (s.chip.railCfg r))
      ((s.chip.rail r).lp.iRail - phases (s.chip.railCfg r) * tget (s.chip.rail r).lp.iPh i) (tget (s.chip.rail r).lp.trims i)) →
    sat = (List.range (phases (s.chip.railCfg r))).map (fun i =>
      if (tget tr i).natAbs = (s.chip.prot r).balTrimMax then tget (s.chip.rail r).lp.trimSat i + 1 else 0) →
    balances s.chip r = true → (s.chip.rail r).lp.balNext ≤ s.chip.now → (sat.any fun c => decide (1000 ≤ c)) = true →
    Becomes (.currentBalance r) s (setFault (s.chip.modRail r fun x =>
      { x with bal := true, lp := { x.lp with trims := tr, trimSat := sat, balNext := s.chip.now + (s.chip.prot r).balPeriod } })
      (railSource 8 r))) ∧
  -- CURRENT_BALANCE otherwise
  (∀ (tr : List Int) (sat : List Nat) (r : Fin 16) (s : State),
    tr = (List.range (phases (s.chip.railCfg r))).map (fun i => trimStep (s.chip.prot r) (phases (s.chip.railCfg r))
      ((s.chip.rail r).lp.iRail - phases (s.chip.railCfg r) * tget (s.chip.rail r).lp.iPh i) (tget (s.chip.rail r).lp.trims i)) →
    sat = (List.range (phases (s.chip.railCfg r))).map (fun i =>
      if (tget tr i).natAbs = (s.chip.prot r).balTrimMax then tget (s.chip.rail r).lp.trimSat i + 1 else 0) →
    balances s.chip r = true → (s.chip.rail r).lp.balNext ≤ s.chip.now →
        (sat.any fun c => decide (1000 ≤ c)) = false →
    Becomes (.currentBalance r) s (s.chip.modRail r fun x =>
      { x with bal := true, lp := { x.lp with trims := tr, trimSat := sat, balNext := s.chip.now + (s.chip.prot r).balPeriod } })) ∧
  -- BURST_ENTER
  (∀ (r : Fin 16) (s : State), (s.chip.rail r).state = .on → (s.chip.aux r).burstEnable = true →
      (s.chip.railCfg r).bus = false →
      (s.chip.rail r).lowSince.any (fun t => decide (t + (s.chip.aux r).burstDwell * 1000 ≤ s.chip.now)) = true →
    Becomes (.burstEnter r) s (setRailState (s.chip.modRail r fun x => { x with burstSum := 0, burstN := 0 }) r .burst [])) ∧
  -- BURST_WAKE
  (∀ (r : Fin 16) (t : Nat) (s : State), (s.chip.rail r).sleepSince = some t → (s.chip.rail r).state = .burst →
      ((s.chip.rail r).lp.vRail ≤ ((s.chip.rail r).vTarget : Int) * 1000 - 1000 * (s.chip.aux r).burstLow ∨ t + (s.chip.aux r).burstSleep ≤ s.chip.now) →
    Becomes (.burstWake r) s (if burstLeaves s.chip r then setRailState (burstAnew (beginSwitching s.chip r) r) r .on []
      else burstAnew (beginSwitching s.chip r) r)) ∧
  -- STAGE_TEMP_READ out of the plausible range, of a live rail
  (∀ (t : Int) (w x : Chip) (r : Fin 16) (s : State),
    (s.chip.railCfg? r).isSome = true → (s.chip.aux r).tempIn ≠ 0xFF →
        (tget s.chip.hk (s.chip.aux r).tempIn).taken = true →
    t = rdiv (((tget s.chip.hk (s.chip.aux r).tempIn).uV - (s.chip.aux r).tempOffset) * 100) (s.chip.aux r).tempSlope →
    t < -4000 ∨ 17500 < t → railLive (s.chip.rail r) = true → (s.chip.rail r).tempNext ≤ s.chip.now →
    w = (evalFault (s.chip.modRail r fun y => { y with tempNext := s.chip.now + 1000 }) (railSource 7 r) true).modRail r (fun y =>
      { y with temp := some t, tempBad := true, tempOk := none, otWarn := true, otSd := true }) →
    x = evalFault (evalFault w (railSource 5 r) true) (railSource 6 r) true →
    Becomes (.stageTempRead r) s (railStop (if (s.chip.rail r).otWarn then x else post x 0x03 (railBody x r 3) []) r .overtemp .otStop)) ∧
  -- STAGE_TEMP_READ below the levels, of a rail with neither level reached
  (∀ (t : Int) (w x : Chip) (r : Fin 16) (s : State),
    (s.chip.railCfg? r).isSome = true → (s.chip.aux r).tempIn ≠ 0xFF →
        (tget s.chip.hk (s.chip.aux r).tempIn).taken = true →
    t = rdiv (((tget s.chip.hk (s.chip.aux r).tempIn).uV - (s.chip.aux r).tempOffset) * 100) (s.chip.aux r).tempSlope →
    ¬ (t < -4000) → ¬ (17500 < t) → (s.chip.rail r).otWarn = false → (s.chip.rail r).otSd = false →
    (s.chip.rail r).tempBad = false → t < (s.chip.aux r).otWarnSet → t < (s.chip.aux r).otSdSet →
    (s.chip.rail r).state ≠ .otStop → (s.chip.rail r).tempNext ≤ s.chip.now →
    w = (evalFault (s.chip.modRail r fun y => { y with tempNext := s.chip.now + 1000 }) (railSource 7 r) false).modRail r (fun y =>
      { y with temp := some t, tempBad := false, tempOk := some ((s.chip.rail r).tempOk.getD s.chip.now), otWarn := false, otSd := false }) →
    x = evalFault (evalFault w (railSource 5 r) false) (railSource 6 r) false →
    Becomes (.stageTempRead r) s x)

/-- The energy rounds, the rectifier polls and the cap timers do what the energy rules give them (R143, R144, R150,
R159, R161, R163, R164, R165, R166, R168). -/
def Obligations.EnergyEventsAct : Prop :=
  -- ENERGY_STEP
  (∀ (u : Chip) (s : State), yardWorks s.chip = true → s.chip.imgValid = true → handFrozen s.chip = false →
      s.chip.book.nextStep ≤ s.chip.now →
      u = capCounts (storeMarks (energyFaults (rectAvail (formQuantities { s.chip with book := { s.chip.book with nextStep := s.chip.now + 1000 } })))) →
    Becomes .energyStep s (if isActive u then energyPolicy u else throttleLinks u false)) ∧
  -- WEIGHT_UPDATE
  (∀ (u : Chip) (s : State), yardWorks s.chip = true → s.chip.imgValid = true → s.chip.book.nextWeight ≤ s.chip.now →
      u = formPools (forEach 12 (fun j c => applyEUse c j) { s.chip with book := { s.chip.book with nextWeight := s.chip.now + s.chip.img.energy.weightPeriod * 1000 } }) →
    Becomes .weightUpdate s (if isActive u then forEach 12 (fun j c => if slotStands c j then queueEnergy c (.weight j (weightOf c j)) else c) u else u)) ∧
  -- CAP_OVER setting
  (∀ s : State, s.chip.book.capOver = false →
      s.chip.book.overSince.any (fun t => decide (t + s.chip.img.caps.capGrace * 1000 ≤ s.chip.now)) = true →
    Becomes .capOver s (capStateStep (evalFault { s.chip with book := { s.chip.book with capOver := true } } 0x0501 true))) ∧
  -- CAP_OVER clearing
  (∀ s : State, s.chip.book.capOver = true →
      s.chip.book.underSince.any (fun t => decide (t + s.chip.img.caps.capGrace * 1000 ≤ s.chip.now)) = true →
    Becomes .capOver s (capStateStep (setLive { s.chip with book := { s.chip.book with capOver := false } } 0x0501 false))) ∧
  -- RECT_STATUS_POLL
  (∀ (u : Chip) (s : State), polls s.chip = true → s.chip.dsPoll.statusNext ≤ s.chip.now →
      u = { s.chip with dsPoll := { s.chip.dsPoll with statusNext := s.chip.now + s.chip.img.energy.rectStatusPeriod * 1000 } } →
    Becomes .rectStatusPoll s ((channelsOf u 1).foldl (fun c n => c.modRect n fun r => { r with wantStatus := true }) u)) ∧
  -- RECT_MODE_POLL
  (∀ (u : Chip) (s : State), polls s.chip = true → s.chip.dsPoll.modeNext ≤ s.chip.now →
      u = { s.chip with dsPoll := { s.chip.dsPoll with modeNext := s.chip.now + 1000000 } } →
    Becomes .rectModePoll s ((channelsOf u 1).foldl (fun c n => c.modRect n fun r => { r with wantMode := true, wantPower := true }) u)) ∧
  -- RECT_STATUS_AGE_EXPIRY
  (∀ (u : Chip) (w : Chip) (ch : Fin 32) (s : State), (s.chip.chCfg ch).role = 1 → (s.chip.ch ch).state = .on →
      ageOut s.chip ch = true → (s.chip.rect ch).aged = false →
      u = evalFault (s.chip.modRect ch fun r => { r with aged := true }) (0x0520 + ch) true →
      w = energyEvent (u.modRect ch fun r => { r with avail := false, sharing := false }) ((u.rect ch).avail) 4 ch →
    Becomes (.rectStatusAgeExpiry ch) s (if rectBlindNow w then blindNow w else w)
      ∧ (blindNow w).energy.rectBlind = true ∧ (blindNow w).energy.pAv = 0 ∧ (blindNow w).energy.shortfall = false) ∧
  -- HALL_CAP_ROUND
  (∀ (u : Chip) (n : Nat) (s : State), u = clearSent s.chip → capMember u = true → n = u.hall / capPeriod →
      (u.net.cap.open_ && u.net.cap.round == n) = false →
    Becomes .hallCapRound s (reportWhenReady ({ u with energy := { u.energy with allocNext := none } }.modNet fun x =>
      { x with cap := { round := n, start := n * capPeriod, open_ := true, last := u.net.cap.last } }))) ∧
  -- CAP_REPORT_DEADLINE
  (∀ (u : Chip) (s : State), u = clearSent s.chip → capMember u = true → u.net.cap.open_ = true →
      u.net.cap.sent = false → u.net.cap.start + capReportBy ≤ u.hall →
    Becomes .capReportDeadline s (reportUp u)) ∧
  -- CAP_ALLOC_APPLY with an allocation
  (∀ (u : Chip) (a : Nat × Nat) (s : State), capMember s.chip = true → s.chip.net.cap.open_ = true →
      s.chip.net.cap.settled = false → s.chip.net.cap.start + capAllocBy ≤ s.chip.hall →
      s.chip.energy.allocNext = some a →
      u = s.chip.modNet (fun n => { n with cap := { n.cap with settled := true } }) →
    Becomes .capAllocApply s (setLive (setHallLive true { u with energy := { s.chip.energy with hallAlloc := a.1, allocNext := none, roundsMissed := 0 } }) 0x0504 false)) ∧
  -- CAP_ALLOC_APPLY without one
  (∀ (u : Chip) (s : State), capMember s.chip = true → s.chip.net.cap.open_ = true → s.chip.net.cap.settled = false →
      s.chip.net.cap.start + capAllocBy ≤ s.chip.hall → s.chip.energy.allocNext = none →
      u = s.chip.modNet (fun n => { n with cap := { n.cap with settled := true } }) →
    Becomes .capAllocApply s ({ u with energy := { s.chip.energy with roundsMissed := min 1000000 (s.chip.energy.roundsMissed + 1) } })) ∧
  -- HALL_CAP_LOST
  (∀ (b : Nat) (s : State), capMember s.chip = true → 3 ≤ s.chip.energy.roundsMissed →
      b = s.chip.img.caps.hallCapFallback →
    Becomes .hallCapLost s (evalFault (setHallLive false { s.chip with energy := { s.chip.energy with hallAlloc := if b = 0 then s.chip.energy.hallAlloc else b } }) 0x0504 true))

/-- An accepted load-link frame has the effect of its opcode; each of the others is rejected with its reason (R179,
R181, R182, R185, R186, R188, R189, R190, R193, R195, R198, R203). Where the rules leave a choice its clauses state
the model's, of the log entries 13, 29, 30, 202, 203, 204, 205. -/
def Obligations.LoadLinkFramesAct : Prop :=
  -- LL_HELLO
  (∀ (v : Nat) (u : Chip) (n : Fin 8) (f : LlFrame) (s : State), (s.chip.linkCfg? n).isSome = true →
      studioRuns s.chip = true → u = s.chip.modLink n (fun l => { l with lastFrame := s.chip.now }) →
      (u.link n).disabled = false → agree (f.arg.toNat / 65536 % 256) (f.arg.toNat / 256 % 256) 0x10 0x10 = some v →
    Becomes (.llHello n f) s (llRespond (setLinkState ((llAccept u n f.seq.toNat).modLink n fun l => { l with version := v }) n .up) n 1 f.seq.toNat (v * 65536 + 0x1010))) ∧
  -- SETV
  (∀ (k : Nat) (u : Chip) (n : Fin 8) (f : LlFrame) (s : State), (s.chip.linkCfg? n).isSome = true →
      studioRuns s.chip = true → u = s.chip.modLink n (fun l => { l with lastFrame := s.chip.now }) →
      (u.link n).disabled = false → llNoVersion (u.link n) = false →
      (u.link n).lastReq ≠ some (2, f.seq.toNat % 8, f.arg.toNat) → (u.link n).llak = false → linkRail u n = some k →
      railSetInRange u k 1 (f.arg.toNat * 5) = true → railRuns u k = true → queueRoom u 2 = true →
    Becomes (.setv n f) s (queueRail ((llAccept u n f.seq.toNat).modLink n fun l => { l with llak := true, setv := some (u.now, 0), lastReq := some (2, f.seq.toNat % 8, f.arg.toNat) }) k (.set 1 (f.arg.toNat * 5)) {} false (some n))) ∧
  -- SLEW
  (∀ (k : Nat) (u : Chip) (n : Fin 8) (f : LlFrame) (s : State), (s.chip.linkCfg? n).isSome = true →
      studioRuns s.chip = true → u = s.chip.modLink n (fun l => { l with lastFrame := s.chip.now }) →
      (u.link n).disabled = false → llNoVersion (u.link n) = false → linkRail u n = some k →
      railSetInRange u k 3 f.arg.toNat = true → queueRoom u 2 = true →
    Becomes (.slew n f) s (queueRail (llAccept u n f.seq.toNat) k (.set 3 f.arg.toNat) {} false (some n))) ∧
  -- BURST_REQ
  (∀ (u : Chip) (n : Fin 8) (f : LlFrame) (s : State), (s.chip.linkCfg? n).isSome = true → studioRuns s.chip = true →
      u = s.chip.modLink n (fun l => { l with lastFrame := s.chip.now }) → (u.link n).disabled = false →
      llNoVersion (u.link n) = false → (u.link n).lastReq ≠ some (4, f.seq.toNat % 8, f.arg.toNat) →
      (u.link n).llak = false → f.arg.toNat / 4096 % 4096 * 10000 ≠ 0 → f.arg.toNat % 4096 * 10 ≠ 0 →
      f.arg.toNat / 4096 % 4096 * 10000 ≤ (u.linkCfg n).burstPMax →
      f.arg.toNat % 4096 * 10 ≤ (u.linkCfg n).burstDMax → (u.burst n).grant ≠ .full → (u.burst n).grant ≠ .partial_ →
    Becomes (.burstReq n f) s (((llAccept u n f.seq.toNat).modLink n fun l => { l with llak := true, lastReq := some (4, f.seq.toNat % 8, f.arg.toNat) }).modBurst n fun b => { b with grant := .pending, refusal := .none, reqP := f.arg.toNat / 4096 % 4096 * 10000, reqD := f.arg.toNat % 4096 * 10, decided := none })) ∧
  -- BURST_REL
  (∀ (u : Chip) (n : Fin 8) (f : LlFrame) (s : State), (s.chip.linkCfg? n).isSome = true → studioRuns s.chip = true →
      u = s.chip.modLink n (fun l => { l with lastFrame := s.chip.now }) → llNoVersion (u.link n) = false →
      (u.burst n).running = true →
    Becomes (.burstRel n f) s ((llAccept u n f.seq.toNat).modBurst n fun b => { b with releasing := true })) ∧
  -- LL_READ
  (∀ (v : Nat) (u : Chip) (w : Chip) (n : Fin 8) (f : LlFrame) (s : State), (s.chip.linkCfg? n).isSome = true →
      studioRuns s.chip = true → u = s.chip.modLink n (fun l => { l with lastFrame := s.chip.now }) →
      llReadValue u n (f.arg.toNat / 65536 % 256) = some v →
      w = llRespond (llAccept u n f.seq.toNat) n 6 f.seq.toNat v →
    Becomes (.llRead n f) s (if f.arg.toNat / 65536 % 256 = 0 then w.modLink n fun l => { l with attn := false } else w)) ∧
  -- LL_PING
  (∀ (u : Chip) (n : Fin 8) (f : LlFrame) (s : State), (s.chip.linkCfg? n).isSome = true → studioRuns s.chip = true →
      u = s.chip.modLink n (fun l => { l with lastFrame := s.chip.now }) →
    Becomes (.llPing n f) s (llRespond (llAccept u n f.seq.toNat) n 7 f.seq.toNat f.arg.toNat)) ∧
  -- LL_REJECTED_FRAME with a wrong CRC
  (∀ (v : Nat) (n : Fin 8) (bits : BitVec 40) (s : State), (s.chip.linkCfg? n).isSome = true →
      studioRuns s.chip = true → v = bits.toNat → (llCrc (v / 256) != v % 256) = true →
    Becomes (.llRejectedFrame n bits) s (llReject s.chip n .crc (v / 2 ^ 32 % 8) (v / 2 ^ 35 % 16))) ∧
  -- LL_REJECTED_FRAME with an unused opcode
  (∀ (u : Chip) (v : Nat) (n : Fin 8) (bits : BitVec 40) (s : State), (s.chip.linkCfg? n).isSome = true →
      studioRuns s.chip = true → u = s.chip.modLink n (fun l => { l with lastFrame := s.chip.now }) → v = bits.toNat →
      llCrc (v / 256) = v % 256 → (v / 2 ^ 35 % 16 = 0 ∨ 7 < v / 2 ^ 35 % 16) →
    Becomes (.llRejectedFrame n bits) s (llReject u n .badOpcode (v / 2 ^ 32 % 8) (v / 2 ^ 35 % 16))) ∧
  -- LL_BIT_TIMEOUT
  (∀ (w : Chip) (n : Fin 8) (s : State), (s.chip.linkCfg? n).isSome = true → studioRuns s.chip = true →
      w = setFault s.chip (0x0608 + n) →
    Becomes (.llBitTimeout n) s (llReject w.drawn n .bitTimeout (w.draw % 8) (w.draw / 8 % 16)))

/-- The timers of a load link settle, end, release or lose what they belong to (R187, R190, R196, R197, R198, R199,
R202). Where the rules leave a choice its clauses state the model's, of the log entries 164, 165, 173. -/
def Obligations.LoadLinkTimersAct : Prop :=
  -- SETV_SETTLED
  (∀ (n : Fin 8) (s : State), refArrived s.chip n = true →
      (s.chip.link n).setv.any (fun t => decide ((s.chip.linkCfg n).settleTime ≤ t.2)) = true →
    Becomes (.setvSettled n) s (s.chip.modLink n fun l => { l with setv := none, llak := false })) ∧
  -- SETTLE_TIMEOUT
  (∀ (b : Bool) (n : Fin 8) (s : State), b = (linkRail s.chip n).any (railRuns s.chip) →
      (s.chip.link n).setv.any (fun t => decide (t.1 + (s.chip.linkCfg n).settleMax * 1000 ≤ s.chip.now) || !b) = true →
    Becomes (.settleTimeout n) s (postLink (setFault (s.chip.modLink n fun l => { l with setv := none, llak := false }) (0x0618 + n)) n 4)) ∧
  -- BURST_END
  (∀ (n : Fin 8) (s : State), (s.chip.burst n).running = true →
      (s.chip.burst n).start + (s.chip.burst n).dur * 1000 ≤ s.chip.now →
    Becomes (.burstEnd n) s (if (s.chip.link n).disabled then endGrant s.chip n .withdrawn .linkDisabled else endGrant s.chip n .ended .none)) ∧
  -- LINK_LOST
  (∀ (n : Fin 8) (s : State), (s.chip.linkCfg? n).isSome = true → (s.chip.link n).link = .up →
      (s.chip.linkCfg n).timeout ≠ 0 → (s.chip.link n).lastFrame + (s.chip.linkCfg n).timeout * 1000 ≤ s.chip.now →
    Becomes (.linkLost n) s (setLinkState (setFault s.chip (0x0610 + n)) n .lost)) ∧
  -- THROTTLE_IGNORED
  (∀ (n : Fin 8) (s : State), (s.chip.burst n).overSince.any (fun t => decide (t + 2 * (s.chip.linkCfg n).pollMax * 1000 ≤ s.chip.now)) = true →
    Becomes (.throttleIgnored n) s (evalFault s.chip (0x0620 + n) true))

/-- The battery events identify, watch, estimate and close the slot they belong to (R209, R210, R211, R212, R213, R216,
R217, R220, R223, R226, R231, R232). -/
def Obligations.BatteryEventsAct : Prop :=
  -- ADMIT_ATTEMPT that is due asks for the three values
  (∀ (sn : Option (List Byte)) (pr : Option Nat) (t : Option Int) (j : Fin 12) (s : State), seeksValues s.chip j = true →
    yardWorks s.chip = true → handFrozen s.chip = false → (s.chip.bat j).read = none →
        (s.chip.bat j).attemptDue ≤ s.chip.now →
    Becomes (.admitAttempt j sn pr t) s (beginRead s.chip j false [.serial, .profile, .temp])) ∧
  -- ADMIT_ATTEMPT with three good answers, at the active member
  (∀ (u v : Chip) (sn : List Byte) (pr : Nat) (t : Int) (r : BmsRead) (j : Fin 12) (s : State), seeksValues s.chip j = true →
    (s.chip.bat j).admState = .identifying → isActive s.chip = true → yardWorks s.chip = true →
        handFrozen s.chip = false →
    (s.chip.bat j).read = some r → r.left = 0 → r.poll = false → r.serial = some sn → r.profile = some pr →
        r.temp = some t →
    u = s.chip.modBat j (fun b => { b with read := none }) →
    v = u.modBat j (fun b => { b with profile := pr, temp := t, serial := sn }) →
    Becomes (.admitAttempt j sn pr t) s (match admitCheck v j sn pr t with
      | some why => refuseBat v j why | none => v.modBat j fun b => { b with passed := true })) ∧
  -- ADMIT_ATTEMPT, the third without good answers
  (∀ (u : Chip) (r : BmsRead) (j : Fin 12) (s : State), seeksValues s.chip j = true →
    (s.chip.bat j).admState = .identifying → isActive s.chip = true → yardWorks s.chip = true →
        handFrozen s.chip = false →
    (s.chip.bat j).read = some r → r.left = 0 → r.poll = false →
        (r.serial = none ∨ r.profile = none ∨ r.temp = none) →
    3 ≤ (s.chip.bat j).attempts + 1 → u = s.chip.modBat j (fun b => { b with read := none }) →
    Becomes (.admitAttempt j r.serial r.profile r.temp) s (refuseBat u j .noBms)) ∧
  -- ADMIT_ATTEMPT before the third without good answers
  (∀ (u : Chip) (r : BmsRead) (j : Fin 12) (s : State), seeksValues s.chip j = true →
    yardWorks s.chip = true → handFrozen s.chip = false →
    (s.chip.bat j).read = some r → r.left = 0 → r.poll = false →
        (r.serial = none ∨ r.profile = none ∨ r.temp = none) →
    ¬ 3 ≤ (s.chip.bat j).attempts + 1 → u = s.chip.modBat j (fun b => { b with read := none }) →
    Becomes (.admitAttempt j r.serial r.profile r.temp) s (u.modBat j fun b => { b with attempts := b.attempts + 1, attemptDue := u.now + 1000000 })) ∧
  -- ADMIT_TEMP_RETRY
  (∀ (j : Fin 12) (s : State), (s.chip.bat j).admState = .refused → (s.chip.bat j).refuse = .temperature →
      feedPresent s.chip j = true → (s.chip.bat j).tempRetry.any (fun t => decide (t ≤ s.chip.now)) = true →
    Becomes (.admitTempRetry j) s (startAdmission s.chip j)) ∧
  -- BMS_POLL that is due asks for temperature and serial number
  (∀ (sn : Option (List Byte)) (t : Option Int) (c : BatCfg) (j : Fin 12) (s : State), batBind s.chip j = some c →
      slotAdmitted s.chip j = true →
    (s.chip.bat j).known = true → yardWorks s.chip = true → (s.chip.bat j).read = none →
        (s.chip.bat j).pollNext ≤ s.chip.now →
    Becomes (.bmsPoll j sn t) s
      (beginRead (s.chip.modBat j fun b => { b with pollNext := s.chip.now + c.bmsPoll * 1000 }) j true [.temp, .serial])) ∧
  -- BMS_POLL with good answers
  (∀ (u v w : Chip) (sn : List Byte) (t : Int) (r : BmsRead) (c : BatCfg) (j : Fin 12) (s : State), batBind s.chip j = some c →
    slotAdmitted s.chip j = true → (s.chip.bat j).known = true → yardWorks s.chip = true →
        (s.chip.bat j).read = some r →
    r.left = 0 → r.poll = true → r.profile = none → r.serial = some sn → r.temp = some t →
    u = s.chip.modBat j (fun b => { b with read := none }) →
    v = setLive (u.modBat j fun b => { b with lastGood := u.now, temp := t, bmsLost := false }) (batSource 1 j) false →
    w = (if (u.bat j).bmsLost then postBat v j 5 [] else v) →
    Becomes (.bmsPoll j sn t) s (if sn != (w.bat j).serial && isActive w then closeSlot (setFault w (batSource 2 j)) j .serialChanged
      else tempLimitStep w j)) ∧
  -- BMS_POLL without
  (∀ (r : BmsRead) (c : BatCfg) (j : Fin 12) (s : State), batBind s.chip j = some c →
    slotAdmitted s.chip j = true → (s.chip.bat j).known = true → yardWorks s.chip = true →
        (s.chip.bat j).read = some r →
    r.left = 0 → r.poll = true → r.profile = none → (r.serial = none ∨ r.temp = none) →
    Becomes (.bmsPoll j r.serial r.temp) s (s.chip.modBat j fun b => { b with read := none })) ∧
  -- BMS_LOST
  (∀ (c : BatCfg) (j : Fin 12) (s : State), batBind s.chip j = some c → slotAdmitted s.chip j = true →
      (s.chip.bat j).known = true → (s.chip.bat j).bmsLost = false →
      (s.chip.bat j).lastGood + c.bmsLoss * 1000000 ≤ s.chip.now →
    Becomes (.bmsLost j) s (postBat (evalFault (s.chip.modBat j fun b => { b with bmsLost := true }) (batSource 1 j) true) j 5 [])) ∧
  -- ESTIMATOR_STEP
  (∀ (j : Fin 12) (s : State), slotAdmitted s.chip j = true → meteringRuns s.chip = true → yardWorks s.chip = true →
      stepDue (s.chip.bat j) ≤ s.chip.now → firstDue s.chip j = true →
    Becomes (.estimatorStep j) s (estStep s.chip j (s.chip.bat j).est.pCmd)) ∧
  -- REST_SAMPLE
  (∀ (k : Nat) (u : Chip) (c : BatCfg) (j : Fin 12) (vMean : Int) (s : State), batBind s.chip j = some c →
      slotAdmitted s.chip j = true → yardWorks s.chip = true → (s.chip.bat j).resting = true →
      k = (s.chip.bat j).est.rest.samples.length → k < 10 →
      (s.chip.bat j).est.rest.start + 2 ^ k * 1000000 ≤ s.chip.now →
      u = s.chip.modBat j (fun b => { b with est := { b.est with rest := { b.est.rest with samples := b.est.rest.samples ++ [vMean] } } }) →
    Becomes (.restSample j vMean) s (if 6 ≤ k then restFitStep u j c else u)) ∧
  -- CEILING
  (∀ (j : Fin 12) (s : State), slotAdmitted s.chip j = true → (s.chip.bat j).ceiling = false →
      10 ≤ (s.chip.bat j).ceilTicks →
    Becomes (.ceiling j) s (postBat (s.chip.modBat j fun b => { b with ceiling := true, ceilSoc := b.soc, ceilTicks := 0 }) j 3 [])) ∧
  -- FLOOR of a slot that is not bridging
  (∀ (u : Chip) (c : BatCfg) (j : Fin 12) (s : State), batBind s.chip j = some c → slotAdmitted s.chip j = true →
      (s.chip.bat j).floor = false → 10 ≤ (s.chip.bat j).floorTicks →
      u = postBat (evalFault (s.chip.modBat j fun b => { b with floor := true, soc := 0, floorTicks := 0 }) (batSource 6 j) true) j 3 [] →
      (u.rail c.rail).state ≠ .bridging →
    Becomes (.floor j) s (u)) ∧
  -- FLOOR of a bridging slot
  (∀ (u : Chip) (c : BatCfg) (j : Fin 12) (s : State), batBind s.chip j = some c → slotAdmitted s.chip j = true →
      (s.chip.bat j).floor = false → 10 ≤ (s.chip.bat j).floorTicks →
      u = postBat (evalFault (s.chip.modBat j fun b => { b with floor := true, soc := 0, floorTicks := 0 }) (batSource 6 j) true) j 3 [] →
      (u.rail c.rail).state = .bridging →
    Becomes (.floor j) s (setRailState ((lanesMid u c.rail).modRail c.rail fun r => { r with chargeSet := 0, idle := true, lp := { r.lp with ref := 0 } }) c.rail .armed [])) ∧
  -- TERM_LOSS
  (∀ (j : Fin 12) (s : State), slotAdmitted s.chip j = true →
      (4 ≤ (s.chip.bat j).lowTicks ∨ 2 ≤ (s.chip.bat j).badTicks) →
    Becomes (.termLoss j) s (closeSlot (setFault s.chip (batSource 3 j)) j .termLoss))

/-- A meter sample is clamped, converted and added to the energy registers; the shunt temperature, the checkpoint, the
period close and the commit act when due (R236, R237, R238, R240, R242, R244, R246, R249, R250, R254). -/
def Obligations.MeteringEventsAct : Prop :=
  -- METER_SAMPLE
  (∀ (u : Chip) (i0 : Int) (i : Int) (p : Int) (c : MeterCfg) (o : Fin 44) (vs vm : Int) (s : State), meterCfg s.chip o = some c →
      meteringRuns s.chip = true → s.chip.hall % 800 = 0 → (s.chip.meter o).sampled ≠ some s.chip.now →
      u = calSample (overrange s.chip o (atEnd (-160000000) 160000000 vs) (atEnd (-1000000000) 88000000000 vm)) o (clampCurrent vs) (clampVoltage vm) →
      i0 = sampleCurrent c (shuntTemp c (u.meter o)) (clampCurrent vs) →
      i = (if i0.natAbs < 1000 * c.creepI then 0 else i0) →
      p = roundAway (sampleVoltage c (clampVoltage vm) * i) 1000000 →
    Becomes (.meterSample o vs vm) s (addEnergy (u.modMeter o fun m => { m with window := ((sampleVoltage c (clampVoltage vm), i, p) :: m.window).take 125, updated := u.hall, sampled := some u.now }) o (8 * p))) ∧
  -- SHUNT_TEMP_READ in range, of an object whose compensation stands
  (∀ (c : MeterCfg) (q : Int) (o : Fin 44) (s : State), meterCfg s.chip o = some c → meteringRuns s.chip = true →
      (c.shuntTherm != 0xFF) = true → (tget s.chip.hk c.shuntTherm).taken = true →
      (s.chip.meter o).nextRead ≤ s.chip.now →
      (thermTemp s.chip c.shuntTherm (tget s.chip.hk c.shuntTherm).uV).filter (fun t => decide (-4000 ≤ t) && decide (t ≤ 15000)) = some q →
      (s.chip.meter o).compLost = false →
    Becomes (.shuntTempRead o) s (evalFault (s.chip.modMeter o fun m => { m with nextRead := s.chip.now + 100000, temp := some q, compLost := false, okSince := none, flags := { m.flags with comp := m.flags.comp || m.compLost }, shelfFlags := { m.shelfFlags with comp := m.shelfFlags.comp || m.compLost } }) (0x0840 + o) false)) ∧
  -- SHUNT_TEMP_READ out of range
  (∀ (c : MeterCfg) (o : Fin 44) (s : State), meterCfg s.chip o = some c → meteringRuns s.chip = true →
      (c.shuntTherm != 0xFF) = true → (tget s.chip.hk c.shuntTherm).taken = true →
      (s.chip.meter o).nextRead ≤ s.chip.now →
      (thermTemp s.chip c.shuntTherm (tget s.chip.hk c.shuntTherm).uV).filter (fun t => decide (-4000 ≤ t) && decide (t ≤ 15000)) = none →
    Becomes (.shuntTempRead o) s (evalFault (s.chip.modMeter o fun m => { m with nextRead := s.chip.now + 100000, compLost := true, okSince := none, flags := { m.flags with comp := true }, shelfFlags := { m.shelfFlags with comp := true } }) (0x0840 + o) true)) ∧
  -- CHECKPOINT
  (∀ s : State, yardAlive s.chip = true → s.chip.meterBook.ckNext ≤ s.chip.now →
    Becomes .checkpoint s (writeCheckpoint s.chip)) ∧
  -- LEDGER_PERIOD_CLOSE
  (∀ s : State, periodDue s.chip = true → stillDue s.chip = false → takeoverDue s.chip = false →
    Becomes .ledgerPeriodClose s (ledgerBoundary s.chip)) ∧
  -- LEDGER_COMMIT
  (∀ (signGood : Bool) (s : State), yardAlive s.chip = true →
    Becomes (.ledgerCommit signGood) s (commitOne s.chip signGood))

/-- The sensing reads answer with what they read; the sequence, monitor, capture and ring opcodes do what they name
(R266, R271, R274, R275, R278, R280, R282, R283, R284, R285). Where the rules leave a choice its clauses state the
model's, of the log entries 55, 258. -/
def Obligations.SenseOpcodesComplete : Prop :=
  -- MEAS_STATUS
  (∀ (rq : Request) (s : State), Admitted 0x0C01 {} rq s.chip →
    Answers .measStatus rq s .ok (le 4 (measWord s.chip) ++ le 4 s.chip.sense.slowDrops
      ++ le 4 ((List.range 8).foldl (fun a k => sat32 a (s.chip.seq k).lost) 0) ++ le 8 s.chip.hall)) ∧
  -- SAR_READING
  (∀ (rq : Request) (s : State), Admitted 0x0C02 {} rq s.chip → inScan s.chip (arg rq 0 1) = true →
    Answers .sarReading rq s .ok (leI 4 (tget s.chip.hk (arg rq 0 1)).uV ++ leI 2 (tget s.chip.hk (arg rq 0 1)).code
      ++ le 1 (bitN 0 (tget s.chip.hk (arg rq 0 1)).ovr) ++ zeros 1 ++ le 8 (tget s.chip.hk (arg rq 0 1)).hall)) ∧
  -- SEQ_START
  (∀ (rq : Request) (s : State), Admitted 0x0C03 {} rq s.chip → arg rq 0 1 ≤ 7 →
      (seqCfg s.chip (arg rq 0 1)).isNone = false →
    Becomes (.seqStart rq) s (queueSeq (taken 0x0C03 rq s.chip) (arg rq 0 1) true (refOf rq s.chip))) ∧
  -- SEQ_STOP of a stopped sequence
  (∀ (rq : Request) (s : State), Admitted 0x0C04 {} rq s.chip → arg rq 0 1 ≤ 7 →
      (s.chip.seq (arg rq 0 1)).state = .stopped → (s.chip.sense.queue.any fun e => e.seq == arg rq 0 1) = false →
    ∀ u, u = (taken 0x0C04 rq s.chip) →
    Serves .seqStop rq s u .ok (seqData s.chip (arg rq 0 1))) ∧
  -- SEQ_STOP of another sequence
  (∀ (rq : Request) (s : State), Admitted 0x0C04 {} rq s.chip → arg rq 0 1 ≤ 7 →
      (s.chip.seq (arg rq 0 1)).state ≠ .stopped →
    ∀ u, u = (queueSeq (taken 0x0C04 rq s.chip) (arg rq 0 1) false (refOf rq s.chip)) →
    Serves .seqStop rq s u .accepted (seqData s.chip (arg rq 0 1))) ∧
  -- SEQ_GET
  (∀ (rq : Request) (s : State), Admitted 0x0C05 {} rq s.chip → arg rq 0 1 ≤ 7 →
    Answers .seqGet rq s .ok (seqData s.chip (arg rq 0 1) ++ le 4 (s.chip.seq (arg rq 0 1)).wptr ++ le 4 (s.chip.seq (arg rq 0 1)).rptr
      ++ le 4 (s.chip.seq (arg rq 0 1)).lost)) ∧
  -- MEAS_RING_READ
  (∀ (rq : Request) (g : SeqCfg) (k : Nat) (run : Nat × Nat) (s : State), Admitted 0x0C06 { lenLo := 8, lenHi := 8 } rq s.chip →
    k = arg rq 0 1 → k ≤ 7 → seqInForce s.chip k = some g → ringBeyond (s.chip.seq k) (arg rq 4 4) = false →
    run = ringRun rq.port (s.chip.seq k) (arg rq 2 2) (arg rq 4 4) →
    ∀ u, u = (if arg rq 1 1 % 2 = 1 then ringAdvance (taken 0x0C06 rq s.chip) k g (ringLast run) else taken 0x0C06 rq s.chip) →
    Serves .measRingRead rq s u .ok (le 4 run.1 ++ le 4 run.2 ++ runWords s.chip g run) (ringMore u k run)) ∧
  -- WM_GET_ALL
  (∀ (rq : Request) (s : State), Admitted 0x0C10 {} rq s.chip →
    Answers .wmGetAll rq s .ok (le 8 ((List.range 24).foldl (fun a m => a + levelCode (s.chip.mon m).level * 2 ^ (2 * m)) 0))) ∧
  -- WM_SET
  (∀ (rq : Request) (s : State), Admitted 0x0C11 { lenLo := 8, lenHi := 8 } rq s.chip → arg rq 4 2 ≤ arg rq 6 2 →
      arg rq 0 1 ≤ 23 → arg rq 6 2 ≤ 1023 → (monCfg s.chip (arg rq 0 1)).isNone = false →
    ∀ u, u = ((taken 0x0C11 rq s.chip).modMon (arg rq 0 1) fun w => { w with deglitch := arg rq 1 1, low := arg rq 4 2, high := arg rq 6 2, setTick := s.chip.now }) →
    Serves .wmSet rq s u .ok (le 2 (arg rq 4 2) ++ le 2 (arg rq 6 2))) ∧
  -- CAP_ARM
  (∀ (rq : Request) (s : State), Admitted 0x0C20 {} rq s.chip → isCapSource (arg rq 1 1) = true →
      (isMonSource (arg rq 1 1) = true → arg rq 2 1 ≤ 4) → arg rq 0 1 ≤ 15 →
    ∀ u, u = ((taken 0x0C20 rq s.chip).modCap (arg rq 0 1) fun c =>
      if arg rq 3 1 % 2 = 1 then { c with source := BitVec.ofNat 8 (arg rq 1 1), seen := captureMark s.chip (arg rq 1 1), edge := BitVec.ofNat 8 (arg rq 2 1), armed := true }
      else { c with source := BitVec.ofNat 8 (arg rq 1 1), seen := captureMark s.chip (arg rq 1 1), edge := BitVec.ofNat 8 (arg rq 2 1), armed := false, fifo := [], count := 0 }) →
    Serves .capArm rq s u .ok (le 1 (arg rq 1 1) ++ le 1 (arg rq 2 1)
      ++ le 1 (bitN 0 (arg rq 3 1 % 2 == 1)) ++ le 1 (u.cap (arg rq 0 1)).fifo.length)) ∧
  -- CAP_READ
  (∀ (rq : Request) (s : State), Admitted 0x0C21 {} rq s.chip → arg rq 0 1 ≤ 15 →
    ∀ u, u = ((taken 0x0C21 rq s.chip).modCap (arg rq 0 1) fun c => { c with fifo := c.fifo.drop ((s.chip.cap (arg rq 0 1)).fifo.take (unitsThatFit rq.port 4 12)).length }) →
    Serves .capRead rq s u .ok (le 1 ((s.chip.cap (arg rq 0 1)).fifo.take (unitsThatFit rq.port 4 12)).length
      ++ le 1 (s.chip.cap (arg rq 0 1)).overflow ++ zeros 2 ++ ((s.chip.cap (arg rq 0 1)).fifo.take (unitsThatFit rq.port 4 12)).flatMap stampBytes)
      (decide (((s.chip.cap (arg rq 0 1)).fifo.take (unitsThatFit rq.port 4 12)).length < (s.chip.cap (arg rq 0 1)).fifo.length)))

/-- A conversion goes to its ring, a reading to its record, a level change to its monitor, a stamp to its timer (R265,
R266, R267, R270, R273, R277, R278, R279, R281, R521). -/
def Obligations.SenseEventsAct : Prop :=
  -- SEQ_CONVERSION
  (∀ (d : SeqStep) (o : Bool × Chip) (z : Nat) (w : Chip) (g : SeqCfg) (k : Fin 8) (pos : Fin 20) (nv : Int) (s : State),
    seqInForce s.chip k = some g → ((s.chip.seq k).state = .running ∨ inProgress s.chip (s.chip.seq k) pos = true) →
    takesSlot s.chip k g pos = true → d = tget g.steps (s.chip.seq k).step → o = sarOvr s.chip d.diff nv →
    z = dmaWord o.1 (sarUnder d.diff nv) d.input (k + pos % 2) (s.chip.seq k).step (sarFormat d.format (sarCode d.diff nv)) →
    w = captureWord (ringWrite o.2 k g z) k g z →
    Becomes (.seqConversion k pos nv) s (w.modSeq k fun q =>
      { q with step := if q.step + 1 < g.steps.length then q.step + 1 else 0, final := q.state == .stopping,
               frame := frameTick w + 1, last := some (frameTick w, pos.val) })) ∧
  -- SEQ_STOP_COMPLETE
  (∀ (u v : Chip) (k : Fin 8) (s : State), (s.chip.seq k).state = .stopping → awaitsWord s.chip k = false →
    u = s.chip.modSeq k (fun q => { q with state := .stopped, refs := [], old := none, zero := false }) →
    v = (if (s.chip.seq k).zero then seqZero (post u 0x07 (measBody u 1 k 0 0 (s.chip.seq k).wptr) (allWith (s.chip.seq k).refs .ok)) k
      else post u 0x07 (measBody u 1 k 0 0 (s.chip.seq k).wptr) (allWith (s.chip.seq k).refs .ok)) →
    Becomes (.seqStopComplete k) s (if (s.chip.seq k).startPend then seqBegin v k else v)) ∧
  -- HOUSEKEEPING_READING
  (∀ (sum : Int) (o : Bool × Chip) (inp : BitVec 7) (c0 c1 c2 c3 : Int) (s : State), s.chip.mode.mode ≠ .off →
      scanNext s.chip = some inp.toNat → scanReady s.chip = true →
      sum = 0 + sarCode false c0 + sarCode false c1 + sarCode false c2 + sarCode false c3 →
      o = [c0, c1, c2, c3].foldl (fun (a : Bool × Chip) x => (a.1 || (sarOvr a.2 false x).1, (sarOvr a.2 false x).2)) (false, s.chip) →
    Becomes (.housekeepingReading inp c0 c1 c2 c3) s (queueSlow { o.2 with hk := tset o.2.hk inp.toNat { taken := true, uV := roundAway (sum * 2500000) (16384 * 4), code := rdiv sum 4, ovr := o.1, hall := o.2.hall, tick := o.2.now }, sense := { o.2.sense with hkLast := some (inp.toNat, o.2.now) } })) ∧
  -- WM_LEVEL_CHANGE from HOLD onwards
  (∀ (c set : MonCfg) (lvl : Level) (m : Fin 24) (held : HeldInput) (st : Straps) (s : State), yardAlive s.chip = true →
    s.chip.ostler.alive = true → monCfg s.chip m = some c → set = monSettings s.chip m →
    lvl = compareLevel (s.chip.mon m).level set.low set.high held.uV → (s.chip.mon m).level ≠ lvl →
        settles s.chip m = false →
    set.deglitch ≤ heldFor s.chip m held.cycles →
    Becomes (.wmLevelChange m held st) s
      (if (decide (m.val < 4) && wakesOn set (s.chip.mon m).level lvl) = true then requestWake st (setLevel s.chip m c lvl)
        else setLevel s.chip m c lvl)) ∧
  -- WM_LEVEL_CHANGE of WM0 to WM3 in OFF
  (∀ (set : MonCfg) (lvl : Level) (m : Fin 24) (held : HeldInput) (st : Straps) (s : State), s.chip.mode.mode = .off →
    s.chip.ostler.alive = true → m.val < 4 → set = monSettings s.chip m →
    lvl = compareLevel (s.chip.mon m).level set.low set.high held.uV → (s.chip.mon m).level ≠ lvl →
        settles s.chip m = false →
    set.deglitch ≤ held.cycles / 50 → ∀ u, u = moveLevel m lvl s.chip →
    Becomes (.wmLevelChange m held st) s (if wakesOn set (s.chip.mon m).level lvl = true then requestWake st u else u)) ∧
  -- WINDOW_EVENT_DEFERRED
  (∀ (m : Fin 24) (s : State), yardAlive s.chip = true → (s.chip.mon m).deferred = true →
      (monCfg s.chip m).any MonCfg.event = true →
      (s.chip.mon m).lastEvent.all (fun t => decide (t + 1000 ≤ s.chip.now)) = true →
    Becomes (.windowEventDeferred m) s (windowEvent s.chip m)) ∧
  -- CAPTURE_STAMP with room
  (∀ (n : Nat) (u : Chip) (t : Fin 16) (src lvl : Byte) (at_ : Nat) (s : State), lvl.toNat = stampLevel s.chip src.toNat →
      studioRuns s.chip = true → (s.chip.cap t).armed = true → src ≠ 0#8 → (s.chip.cap t).source = src →
      edgeFresh s.chip (s.chip.cap t) = true → s.chip.hall ≤ at_ + 1 → at_ ≤ s.chip.hall + 100 →
      edgeTakes s.chip (s.chip.cap t) lvl.toNat = true → n = ((s.chip.cap t).count + 1) % 256 →
      u = (trigTimer s.chip (Fin.ofNat 16 t)).modCap t (fun c => { c with seen := captureMark s.chip src.toNat }) →
      (s.chip.cap t).fifo.length < 8 →
    Becomes (.captureStamp t src lvl at_) s (u.modCap t fun c => { c with count := n, fifo := c.fifo ++ [{ hall := at_, level := lvl, count := n }] })) ∧
  -- CAPTURE_STAMP with a full FIFO
  (∀ (n : Nat) (u : Chip) (t : Fin 16) (src lvl : Byte) (at_ : Nat) (s : State), lvl.toNat = stampLevel s.chip src.toNat →
      studioRuns s.chip = true → (s.chip.cap t).armed = true → src ≠ 0#8 → (s.chip.cap t).source = src →
      edgeFresh s.chip (s.chip.cap t) = true → s.chip.hall ≤ at_ + 1 → at_ ≤ s.chip.hall + 100 →
      edgeTakes s.chip (s.chip.cap t) lvl.toNat = true → n = ((s.chip.cap t).count + 1) % 256 →
      u = (trigTimer s.chip (Fin.ofNat 16 t)).modCap t (fun c => { c with seen := captureMark s.chip src.toNat }) →
      8 ≤ (s.chip.cap t).fifo.length →
    Becomes (.captureStamp t src lvl at_) s (setFault (u.modCap t fun c => { c with count := n, overflow := min 255 (c.overflow + 1) }) (0x0920 + t)))

/-- The configuration reads answer with the image; staging opens, writes and ends; a commit enters the mailbox (R456,
R465, R466, R467, R468, R469, R470, R476). Where the rules leave a choice its clauses state the model's, of the log
entries 120, 137, 139, 251, 257. -/
def Obligations.ConfigurationOpcodesComplete : Prop :=
  -- CFG_INFO
  (∀ (rq : Request) (s : State), Admitted 0x0701 {} rq s.chip →
      mramBad s.chip (slotBase s.chip.cfg.slot) 128 = false →
      mramBad s.chip (slotBase (otherSlot s.chip)) 128 = false →
    Answers .cfgInfo rq s .ok (cfgInfoData s.chip)) ∧
  -- CFG_READ
  (∀ (rq : Request) (raw : List Byte) (len base : Nat) (s : State), Admitted 0x0702 { lenLo := 12, lenHi := 12 } rq s.chip →
    arg rq 0 1 ≤ 2 → arg rq 4 4 % 4 = 0 → arg rq 8 2 % 4 = 0 → cfgSource s.chip (arg rq 0 1) = some (raw, len, base) →
    arg rq 4 4 < len → ∀ data, data = (raw.drop (arg rq 4 4)).take
      (if arg rq 8 2 = 0 then unitsThatFit rq.port 8 4 * 4 else min (arg rq 8 2) (unitsThatFit rq.port 8 4 * 4)) →
    mramBad s.chip (base + arg rq 4 4) data.length = false →
    Answers .cfgRead rq s .ok (le 4 (arg rq 4 4) ++ le 4 len ++ data)) ∧
  -- CFG_STAGE_BEGIN
  (∀ (rq : Request) (s : State), Admitted 0x0703 { lenLo := 8, lenHi := 8 } rq s.chip →
      lengthGood (arg rq 4 4) = true → committing s.chip = false → (s.chip.cfg.stage = .none ∨ arg rq 0 1 % 2 = 1) →
    ∀ u, u = ((abandonStage (taken 0x0703 rq s.chip)).modCfg fun c => { c with stage := .opened, stagePort := rq.port, stageLen := arg rq 4 4 }) →
    Serves .cfgStageBegin rq s u .ok (le 4 (cfgWord u))) ∧
  -- CFG_STAGE_WRITE
  (∀ (rq : Request) (s : State), Admitted 0x0704 { lenLo := 4, lenHi := 4096, lenUnit := 4 } rq s.chip →
      (rq.params.drop 4).length % 4 = 0 → stageOpenFor s.chip rq.port = true → arg rq 0 4 = s.chip.cfg.staged.length →
      s.chip.cfg.staged.length + (rq.params.drop 4).length ≤ s.chip.cfg.stageLen →
    ∀ u, u = ((mramWritten (stageBase + s.chip.cfg.staged.length) (rq.params.drop 4).length (taken 0x0704 rq s.chip)).modCfg fun c => { c with staged := c.staged ++ rq.params.drop 4 }) →
    Serves .cfgStageWrite rq s u .ok (le 4 (cfgWord u))) ∧
  -- CFG_STAGE_END
  (∀ (rq : Request) (s : State), Admitted 0x0705 {} rq s.chip → stageOpenFor s.chip rq.port = true →
      s.chip.cfg.staged.length = s.chip.cfg.stageLen →
    ∀ u, u = ((taken 0x0705 rq s.chip).modCfg fun c => { c with stage := .verifying, endRef := some (refOf rq s.chip) }) →
    Serves .cfgStageEnd rq s u .accepted (le 4 (cfgWord u))) ∧
  -- CFG_STAGE_CHECKED
  (∀ (r : Except CfgCheck (List CfgRec)) (u : Chip) (s : State), yardAlive s.chip = true →
      s.chip.cfg.stage = .verifying → r = checkStaged s.chip stageBase s.chip.cfg.staged →
      u = s.chip.modCfg (fun c => { c with lastCheck := (failing r).code, endRef := none }) →
    Becomes .cfgStageChecked s (if passes r then postCfg (u.modCfg fun c => { c with stage := .verified }) 1 0 (allWith s.chip.cfg.endRef.toList .ok) else postCfg (setFault (closeStage u) 0x1203) 1 (failing r).code (allWith s.chip.cfg.endRef.toList .configInvalid))) ∧
  -- CFG_COMMIT of the staged image
  (∀ (rq : Request) (s : State), Admitted 0x0706 { lenLo := 8, lenHi := 8 } rq s.chip →
    commitModeBad s.chip = false → arg rq 0 1 = 1 → commitRefused s.chip 1 (arg rq 4 4) = none →
        boxRoom s.chip = true →
    ∀ u, u = offerBox (taken 0x0706 rq s.chip) .commit 0x0706 rq (refOf rq s.chip) →
    Serves .cfgCommit rq s u .accepted (le 4 (cfgWord u))) ∧
  -- The copy of a commit at a tick boundary: it ends at one that is free, and not after its bound
  (∀ (k : CfgCopy) (s : Chip), s.cfg.copying = some k →
    ((s.draw % 2 = 1 ∨ k.since + copyTime k.raw.length ≤ s.now) → copyTick s = endCopy k s.drawn)
      ∧ (s.draw % 2 ≠ 1 → s.now < k.since + copyTime k.raw.length → copyTick s = s.drawn)) ∧
  -- The end of a commit's copy: the checks once more, then the flip
  (∀ (k : CfgCopy) (s u : Chip), u = s.modCfg (fun c => { c with copying := none }) →
    (copyChecked k.src k.raw u).1 = none →
    endCopy k s = (if commitModeBad (copyChecked k.src k.raw u).2 || commitHeld (copyChecked k.src k.raw u).2 k.src k.expected k.raw
      then postCfg (copyChecked k.src k.raw u).2 3 0 [(k.ref, .aborted)] else flipState k.raw k.ref (copyChecked k.src k.raw u).2)) ∧
  -- CFG_APPLY
  (∀ (raw : List Byte) (r : ReqRef) (t : Nat) (s : State), s.chip.cfg.apply = some (raw, r, t) →
      yardAlive s.chip = true → t < s.chip.now →
    ∀ u, u = postCfg (endStage (applyImage (readImage raw) (s.chip.modCfg fun c => { c with apply := none }))) 2 0 [(r, .ok)] →
    Becomes .cfgApply s (if setpointsWait u then u else keepView (applyQueues u)))

/-- The mailbox delivers its head; an entry that waited 10 ms for room is answered BUSY_RETRY (R29, R433). -/
def Obligations.MailboxDelivers : Prop :=
  -- MAILBOX_ENTRY of a commit
  (∀ (e : BoxEntry) (rest : List BoxEntry) (s : State), s.chip.box = e :: rest → yardAlive s.chip = true →
      boxAccepts { s.chip with box := rest } e = true → e.kind = .commit →
    Becomes .mailboxEntry s (admitWaiting (takeCommit e { s.chip with box := rest, boxUsed := e.ref.receipt :: s.chip.boxUsed }))) ∧
  -- MAILBOX_ENTRY of another entry
  (∀ (e : BoxEntry) (rest : List BoxEntry) (s : State), s.chip.box = e :: rest → yardAlive s.chip = true →
      boxAccepts { s.chip with box := rest } e = true → e.kind ≠ .commit →
    Becomes .mailboxEntry s (admitWaiting { s.chip with box := rest, boxUsed := e.ref.receipt :: s.chip.boxUsed, boxDue := s.chip.boxDue ++ [e] })) ∧
  -- MAILBOX_ENTRY whose receipt is not a fresh one of its opcode
  (∀ (e : BoxEntry) (rest : List BoxEntry) (s : State), s.chip.box = e :: rest → yardAlive s.chip = true →
      boxAccepts { s.chip with box := rest } e = false →
    Becomes .mailboxEntry s (admitWaiting (boxDenied e { s.chip with box := rest }))) ∧
  -- MAILBOX_TIMEOUT
  (∀ (s : State),
    Becomes .mailboxTimeout s ((s.chip.boxWait.filter fun e => decide (e.tick + 10000 ≤ s.chip.now)).foldl (fun c e => formReply c e.ref .busyRetry []) { s.chip with boxWait := s.chip.boxWait.filter fun e => !decide (e.tick + 10000 ≤ s.chip.now) }))

/-- The fault reads answer with the maps and the counters; FAULT_CLEAR clears the named sticky bits of one block; a
severity change enters the mailbox (R404, R405, R409, R410, R423, R424, R425). -/
def Obligations.FaultOpcodesComplete : Prop :=
  -- FAULT_SCAN
  (∀ (rq : Request) (s : State), Admitted 0x0801 { inRecovery := true } rq s.chip →
    Answers .faultScan rq s .ok (faultScanData s.chip)) ∧
  -- FAULT_BLOCK_GET
  (∀ (rq : Request) (s : State), Admitted 0x0802 {} rq s.chip → isBlock (arg rq 0 1) = true → arg rq 1 1 ≤ 3 →
    Answers .faultBlockGet rq s .ok (le 1 (arg rq 0 1) ++ le 1 (arg rq 1 1) ++ zeros 2 ++ le 4 s.chip.hall ++ blockPage s.chip (arg rq 0 1) (arg rq 1 1))) ∧
  -- FAULT_CLEAR
  (∀ (rq : Request) (s : State), Admitted 0x0803 { lenLo := 36, lenHi := 36 } rq s.chip →
      isBlock (arg rq 0 1) = true →
    ∀ u, u = ({ taken 0x0803 rq s.chip with faults := { s.chip.faults with sticky := s.chip.faults.sticky.filter fun i => !(i / 256 == arg rq 0 1 && bitAt (rq.params.drop 4) (i % 256)) } }) →
    Serves .faultClear rq s u .ok (le 1 (digest u (stickyOf u (arg rq 0 1))) ++ zeros 3)) ∧
  -- FAULT_SEVERITY_SET
  (∀ (rq : Request) (s : State), Admitted 0x0804 {} rq s.chip →
      severityChecks (arg rq 0 1) (arg rq 1 1) (arg rq 2 1) (arg rq 3 1) = none →
    Becomes (.faultSeveritySet rq) s (offerBox (taken 0x0804 rq s.chip) .severity 0x0804 rq (refOf rq s.chip))) ∧
  -- WD_GET
  (∀ (rq : Request) (s : State), Admitted 0x0805 {} rq s.chip →
    Answers .wdGet rq s .ok (wdGetData s.chip)) ∧
  -- COUNTS_GET
  (∀ (rq : Request) (s : State), Admitted 0x0806 { inRecovery := true } rq s.chip →
    Answers .countsGet rq s .ok (countsData s.chip))

/-- The watchdogs arm, are served and expire; the Yard restarts (R412, R413, R415, R416, R417, R418, R419, R431, R439). -/
def Obligations.WatchdogsServe : Prop :=
  -- WD_CHALLENGE
  (∀ (rq : Request) (s : State), Admitted 0x0004 {} rq s.chip → s.chip.img.dogs.wd1Period ≠ 0 →
    Answers .wdChallenge rq s .ok (le 4 s.chip.dogs.wd1.challenge ++ le 2 s.chip.dogs.wd1.seq
      ++ le 2 (if s.chip.dogs.wd1.state = .disarmed then (s.chip.port rq.port).station else s.chip.dogs.wd1.station).toNat
      ++ le 8 s.chip.dogs.wd1.opening ++ le 8 s.chip.dogs.wd1.deadline)) ∧
  -- WD_SERVE of a disarmed watchdog
  (∀ (rq : Request) (t : Nat) (s : State), Admitted 0x0005 { lenLo := 8, lenHi := 8 } rq s.chip →
      s.chip.img.dogs.wd1Period ≠ 0 →
    arg rq 0 2 = s.chip.dogs.wd1.seq →
    s.chip.dogs.wd1.state = .disarmed → arg rq 2 2 = dogToken s.chip.dogs.wd1 (s.chip.port rq.port).station.toNat →
    ∀ u, u = postDog (startCycle ((taken 0x0005 rq s.chip).modDog .wd1 fun w =>
      { w with state := .armed, first := true, station := (s.chip.port rq.port).station }) .wd1 t) .wd1 4 →
    Serves (fun rq => .wdServe rq t) rq s u .ok (le 4 (dogWord u .wd1))) ∧
  -- WD_SERVE within the window, or first
  (∀ (rq : Request) (t : Nat) (s : State), Admitted 0x0005 { lenLo := 8, lenHi := 8 } rq s.chip →
      s.chip.img.dogs.wd1Period ≠ 0 →
    arg rq 0 2 = s.chip.dogs.wd1.seq →
    s.chip.dogs.wd1.state ≠ .disarmed → (s.chip.port rq.port).station = s.chip.dogs.wd1.station →
    arg rq 2 2 = dogToken s.chip.dogs.wd1 s.chip.dogs.wd1.station.toNat →
    (s.chip.dogs.wd1.first = true ∨ (s.chip.dogs.wd1.opening ≤ t ∧ t ≤ s.chip.dogs.wd1.deadline)) →
    ∀ u, u = goodService (taken 0x0005 rq s.chip) .wd1 t →
    Serves (fun rq => .wdServe rq t) rq s u .ok (le 4 (dogWord u .wd1))) ∧
  -- WD_SERVE after the deadline or before the opening
  (∀ (rq : Request) (t : Nat) (s : State), Admitted 0x0005 { lenLo := 8, lenHi := 8 } rq s.chip →
      s.chip.img.dogs.wd1Period ≠ 0 →
    arg rq 0 2 = s.chip.dogs.wd1.seq →
    s.chip.dogs.wd1.state ≠ .disarmed → (s.chip.port rq.port).station = s.chip.dogs.wd1.station →
    arg rq 2 2 = dogToken s.chip.dogs.wd1 s.chip.dogs.wd1.station.toNat → s.chip.dogs.wd1.first = false →
    (s.chip.dogs.wd1.deadline < t ∨ t < s.chip.dogs.wd1.opening) →
    Becomes (.wdServe rq t) s (formReply (expireDog (taken 0x0005 rq s.chip) .wd1) (refOf rq s.chip)
      (if s.chip.dogs.wd1.deadline < t then .timeout else .denied) [])) ∧
  -- WD_EXPIRY
  (∀ (w : Dog) (s : State), yardAlive s.chip = true → (s.chip.dog w).state ≠ .disarmed →
      (s.chip.dog w).deadline + 200000 ≤ s.chip.hall →
    Becomes (.wdExpiry w) s (expireDog s.chip w)) ∧
  -- WD0_SERVICE with a wrong token
  (∀ (seq token : Half) (s : State), yardWorks s.chip = true → s.chip.dogs.wd0.state ≠ .disarmed →
      seq.toNat = s.chip.dogs.wd0.seq → token.toNat ≠ dogToken s.chip.dogs.wd0 0 →
    Becomes (.wd0Service seq token) s (expireDog s.chip .wd0)) ∧
  -- WD0_SERVICE in its window, or first
  (∀ (seq token : Half) (s : State), yardWorks s.chip = true → s.chip.dogs.wd0.state ≠ .disarmed →
      seq.toNat = s.chip.dogs.wd0.seq → token.toNat = dogToken s.chip.dogs.wd0 0 →
      (s.chip.dogs.wd0.first = true ∨ (s.chip.dogs.wd0.opening ≤ s.chip.hall ∧
      s.chip.hall ≤ s.chip.dogs.wd0.deadline)) →
    Becomes (.wd0Service seq token) s (goodService s.chip .wd0 s.chip.hall)) ∧
  -- YARD_RESTART
  (∀ (u : Chip) (w : Chip) (s : State), yardAlive s.chip = true → s.chip.fw.yardStop = true →
      u = yardVerify (s.chip.modFw fun f => { f with yardStop := false }) →
      w = tellActivation (if u.fw.recovery then armWd0 (holdInRecovery u) else if s.chip.fw.recovery then armWd0 u else u) →
      w.net.resetEvent = none →
    Becomes .yardRestart s (w))

/-- The recorder reads answer with its records; freeze, thaw and trigger act on it (R442, R443, R444, R445, R446, R450,
R453, R454). -/
def Obligations.RecorderOpcodesComplete : Prop :=
  -- REC_INFO
  (∀ (rq : Request) (s : State), Admitted 0x0901 {} rq s.chip →
    Answers .recInfo rq s .ok (recInfoData s.chip)) ∧
  -- REC_READ
  (∀ (rq : Request) (s : State), Admitted 0x0902 { lenLo := 12, lenHi := 12 } rq s.chip → 1 ≤ arg rq 0 1 →
      arg rq 0 1 ≤ 4 →
    (arg rq 0 1 = 4 → arg rq 1 1 ≤ 31 ∧
        ((tget s.chip.sketch.slots (arg rq 1 1)).any fun u => u.num % 2 ^ 32 == arg rq 8 4) = true) →
    ∀ us out, us = areaUnits s.chip (arg rq 0 1) (arg rq 1 1) (arg rq 4 4) →
    out = us.take (if arg rq 2 2 = 0 then unitsThatFit rq.port 8 (areaSize (arg rq 0 1))
      else min (arg rq 2 2) (unitsThatFit rq.port 8 (areaSize (arg rq 0 1)))) →
    (out.any fun u => mramBad s.chip u.2.2 (areaSize (arg rq 0 1))) = false →
    Answers .recRead rq s .ok (le 2 out.length ++ zeros 2 ++ le 4 ((out.head?.map fun u => u.1).getD (arg rq 4 4))
      ++ out.flatMap fun u => u.2.1)) ∧
  -- REC_FREEZE
  (∀ (rq : Request) (s : State), Admitted 0x0903 {} rq s.chip →
    ∀ u, u = (startFreeze (taken 0x0903 rq s.chip) 2 0) →
    Serves .recFreeze rq s u .ok (recWordData u)) ∧
  -- REC_THAW
  (∀ (rq : Request) (s : State), Admitted 0x0904 {} rq s.chip → s.chip.sketch.pending = none →
      s.chip.sketch.frozen = true →
    ∀ u, u = (thaw (taken 0x0904 rq s.chip)) →
    Serves .recThaw rq s u .ok (recWordData u)) ∧
  -- REC_TRIGGER
  (∀ (rq : Request) (s : State), Admitted 0x0905 { lenLo := 16, lenHi := 16 } rq s.chip →
    ∀ u, u = (recPost (forEach 4 (fun d c => if (arg rq 0 1).testBit d && (tget c.img.recs.defs d).enable then addTrigger c d .host else c) (taken 0x0905 rq s.chip)) 0x0C 0 0 ((rq.params.drop 4).take 12)) →
    Serves .recTrigger rq s u .ok (recWordData u))

/-- A trigger starts a capture; captures end and are flushed; a due freeze takes effect; the summary is written (R442,
R445, R446, R447, R448, R449, R450, R451, R452). -/
def Obligations.RecorderEventsAct : Prop :=
  -- CAPTURE_TRIGGER
  (∀ (u : Chip) (c : CapDef) (g : SeqCfg) (tr : Trig) (cap : Capture) (d : Fin 4) (cause : TrigCause) (s : State), yardAlive s.chip = true →
      s.chip.sketch.trigs.find? (fun t => t.defn == d.val && t.cause == cause) = some tr →
      u = s.chip.modSketch (fun k => { k with trigs := k.trigs.filter fun x => x != tr }) →
      c = tget u.img.recs.defs d → seqInForce u c.seq = some g → cap = captureOf u c g tr →
    cap.want = c.post ∧ cap.w = tr.w ∧ cap.hall = tr.hall ∧
    Becomes (.captureTrigger d cause) s (ringAdvance (u.modSketch fun k => { k with running := k.running ++ [cap] }) c.seq g (wrap32 (tr.w + cap.post.length)))) ∧
  -- CAPTURE_COMPLETE
  (∀ (c : Capture) (d : Fin 4) (s : State), s.chip.sketch.running.find? (fun c => c.defn == d.val) = some c →
      (c.want ≤ c.post.length ∨ (s.chip.seq c.seq).state = .stopped ∨ s.chip.sketch.suspended = true) →
    Becomes (.captureComplete d) s (s.chip.modSketch fun k => { k with running := k.running.filter fun x => x.defn != d.val, done := k.done ++ [{ c with truncated := !decide (c.want ≤ c.post.length), tick := s.chip.now }] })) ∧
  -- SKETCHBOOK_FLUSH of an event
  (∀ (e : RecEvent) (readBackGood : Bool) (s : State), yardAlive s.chip = true → s.chip.sketch.frozen = false →
      s.chip.sketch.queue.head? = some e → (∀ c, s.chip.sketch.done.head? = some c → e.tick ≤ c.tick) →
    Becomes (.sketchbookFlush readBackGood) s (flushEvent readBackGood s.chip)) ∧
  -- SKETCHBOOK_FLUSH of a capture
  (∀ (c : Capture) (readBackGood : Bool) (s : State), yardAlive s.chip = true → s.chip.sketch.frozen = false →
      s.chip.sketch.done.head? = some c → (∀ e, s.chip.sketch.queue.head? = some e → ¬ e.tick ≤ c.tick) →
    Becomes (.sketchbookFlush readBackGood) s (flushCapture readBackGood s.chip)) ∧
  -- REC_SUMMARY
  (∀ (good : Bool) (s : State), yardWorks s.chip = true → s.chip.sketch.summaryNext ≤ s.chip.now →
    Becomes (.recSummary good) s (writeSummary good (s.chip.modSketch fun k => { k with summaryNext := s.chip.now + s.chip.img.recs.period * 1000000 }))) ∧
  -- FREEZE_EFFECT
  (∀ (good : Bool) (u : Chip) (v : Chip) (s : State), yardAlive s.chip = true → freezeDue s.chip = true →
      u = flushAllEvents good s.chip →
      v = writeEvent good { kind := 0x0A, hall := u.hall, detail := le 1 u.sketch.cause } u →
    Becomes (.freezeEffect good) s (postRec (v.modSketch fun k => { k with pending := none, frozen := true, frozenHall := v.hall, dropFrozen := 0, running := [], trigs := [], done := [], lateSet := [] }) 2 0))

/-- FW_INFO answers with the slots; staging opens, writes and ends; an activation enters the mailbox (R429, R430, R433,
R434, R435, R437). -/
def Obligations.FirmwareOpcodesComplete : Prop :=
  -- FW_INFO
  (∀ (rq : Request) (s : State), Admitted 0x0D01 { inRecovery := true } rq s.chip →
    Answers .fwInfo rq s .ok (fwInfoData s.chip)) ∧
  -- FW_STAGE_BEGIN
  (∀ (rq : Request) (s : State), Admitted 0x0D02 { lenLo := 8, lenHi := 8, inRecovery := true } rq s.chip →
      arg rq 0 1 ≤ 1 → arg rq 4 4 % 4 = 0 → 256 ≤ arg rq 4 4 → arg rq 4 4 ≤ fwSlotSize (arg rq 0 1) →
      fwStaging s.chip = false → s.chip.fw.trial = false →
    ∀ u, u = ((setFwSlot (taken 0x0D02 rq s.chip) (arg rq 0 1) (1 - runningSlot s.chip.fw (arg rq 0 1)) fun _ => { valid := .staging }).modFw fun f => { f with stage := .opened, stageTarget := arg rq 0 1, stageLen := arg rq 4 4, staged := [] }) →
    Serves .fwStageBegin rq s u .ok (le 4 (fwWord u))) ∧
  -- FW_STAGE_WRITE
  (∀ (rq : Request) (s : State), Admitted 0x0D03 { lenLo := 4, lenHi := 4096, inRecovery := true } rq s.chip →
      (rq.params.drop 4).length % 4 = 0 → s.chip.fw.stage = .opened → arg rq 0 4 = s.chip.fw.staged.length →
      s.chip.fw.staged.length + (rq.params.drop 4).length ≤ s.chip.fw.stageLen →
    ∀ u, u = ((mramWritten (fwBase s.chip.fw.stageTarget (1 - runningSlot s.chip.fw s.chip.fw.stageTarget) + s.chip.fw.staged.length) (rq.params.drop 4).length (taken 0x0D03 rq s.chip)).modFw fun f => { f with staged := f.staged ++ rq.params.drop 4 }) →
    Serves .fwStageWrite rq s u .ok (le 4 (fwWord u))) ∧
  -- FW_STAGE_END
  (∀ (rq : Request) (s : State), Admitted 0x0D04 { inRecovery := true } rq s.chip → s.chip.fw.stage = .opened →
      s.chip.fw.staged.length = s.chip.fw.stageLen →
    ∀ u, u = ((taken 0x0D04 rq s.chip).modFw fun f => { f with stage := .verifying, endRef := some (refOf rq s.chip) }) →
    Serves .fwStageEnd rq s u .accepted (le 4 (fwWord u))) ∧
  -- FW_ACTIVATE_TRIAL
  (∀ (rq : Request) (s : State), Admitted 0x0D05 activateRow rq s.chip → arg rq 0 1 = 1 → arg rq 1 1 ≤ 1 →
      activateModeBad s.chip (arg rq 1 1) = false →
    Becomes (.fwActivateTrial rq) s (offerBox (taken 0x0D05 rq s.chip) (.activate 1) 0x0D05 rq (refOf rq s.chip))) ∧
  -- FW_ACTIVATE_CONFIRM
  (∀ (rq : Request) (s : State), Admitted 0x0D05 activateRow rq s.chip → arg rq 0 1 = 2 → arg rq 1 1 ≤ 1 →
    Becomes (.fwActivateConfirm rq) s (offerBox (taken 0x0D05 rq s.chip) (.activate 2) 0x0D05 rq (refOf rq s.chip))) ∧
  -- FW_ACTIVATE_REVERT
  (∀ (rq : Request) (s : State), Admitted 0x0D05 activateRow rq s.chip → arg rq 0 1 = 3 → arg rq 1 1 ≤ 1 →
      activateModeBad s.chip (arg rq 1 1) = false →
    Becomes (.fwActivateRevert rq) s (offerBox (taken 0x0D05 rq s.chip) (.activate 3) 0x0D05 rq (refOf rq s.chip)))

/-- Verification, the restart, the scrub pass, the aging bounds and the self-test act as given (R430, R432, R433, R434,
R438, R443, R531). -/
def Obligations.FirmwareEventsAct : Prop :=
  -- FW_VERIFY_DONE
  (∀ (k : Nat) (raw : List Byte) (n : Nat) (u : Chip) (eccBad : Bool) (s : State), yardAlive s.chip = true →
      s.chip.fw.stage = .verifying → k = 1 - runningSlot s.chip.fw s.chip.fw.stageTarget → raw = s.chip.fw.staged →
      n = fwVerify s.chip.otp s.chip.fw.stageTarget (eccBad || mramBad s.chip (fwBase s.chip.fw.stageTarget k) raw.length) raw →
      u = setFwSlot s.chip s.chip.fw.stageTarget k (fun _ => { valid := if n = 0 then .valid else .invalid, result := n, version := field raw 8 4, rollback := field raw 12 4, bytes := raw }) →
    Becomes (.fwVerifyDone eccBad) s (postFw (u.modFw fun f => { f with stage := if n = 0 then .verified else .none, staged := if n = 0 then raw else [], stageLen := 0, endRef := none }) 4 s.chip.fw.stageTarget n (allWith s.chip.fw.endRef.toList (if n = 0 then .ok else .configInvalid)))) ∧
  -- FW_ACTIVATE_RESTART
  (∀ (u : Chip) (r : ReqRef) (t : Nat) (a : Nat) (s : State), s.chip.fw.restart = some (t, r, a) →
      yardAlive s.chip = true → (replyRead s.chip r = true ∨ a + 100000 ≤ s.chip.now) →
      u = s.chip.modFw (fun f => { f with told := some (5, t), restart := none }) →
    Becomes .fwActivateRestart s (if t = 0 then yardStopNow u true else chipReset 8 0 false u)) ∧
  -- MRAM_SCRUB_PASS
  (∀ (u : Chip) (w : Chip) (corrected uncorrectable : List Nat) (s : State), yardAlive s.chip = true →
      u = { s.chip with mram := { bad := (uncorrectable.map mramWord).foldl (fun l a => insertUp a l) s.chip.mram.bad, scrubTick := s.chip.now } } →
      w = (if corrected.isEmpty then u else setFault u 0x1000) →
    Becomes (.mramScrubPass corrected uncorrectable) s (if uncorrectable.isEmpty then w else setFault w 0x1001)) ∧
  -- AGING_BOUND_EXPIRY
  (∀ (c : AgedClass) (s : State), yardAlive s.chip = true → agedOut s.chip c = true →
    Becomes (.agingBoundExpiry c) s (setFault s.chip (if isScrub c then 0x1003 else 0x1004))) ∧
  -- DRIVER_SELFTEST_PASS
  (∀ (u : Chip) (passed : Bool) (s : State), yardAlive s.chip = true → isStandby s.chip = true →
      u = s.chip.modShadow (fun h => { h with selfOk := passed, selfTick := some s.chip.now, selfHall := if passed then s.chip.hall else h.selfHall }) →
    Becomes (.driverSelftestPass passed) s (judgeReady (if passed then u else setFault u 0x0C08)))

/-- PAIR_HEALTH and PAIR_GET answer with the pair records; PAIR_HANDOVER begins the handover (R345, R361, R365). -/
def Obligations.PairOpcodesComplete : Prop :=
  -- PAIR_HEALTH
  (∀ (rq : Request) (s : State), Admitted 0x0A01 {} rq s.chip →
    Answers .pairHealth rq s .ok (pairHealthData s.chip)) ∧
  -- PAIR_GET
  (∀ (rq : Request) (s : State), Admitted 0x0A02 {} rq s.chip →
    Answers .pairGet rq s .ok (le 4 (pairWord s.chip) ++ le 1 s.chip.pair.me.kind.code ++ le 1 s.chip.pair.me.before ++ zeros 2
      ++ le 8 s.chip.pair.me.switchHall)) ∧
  -- PAIR_HANDOVER
  (∀ (rq : Request) (s : State), Admitted 0x0A03 { activeOnly := true, inPowerDown := true } rq s.chip →
      isPaired s.chip = true → partnerReady s.chip = true → s.chip.mode.stage ≠ .powerDown →
      (s.chip.mode.mode = .bridge → arg rq 0 1 % 2 = 1) → inHandover s.chip = false →
    ∀ u, u = (beginHandover (taken 0x0A03 rq s.chip) (some (refOf rq s.chip)) false false) →
    Serves .pairHandover rq s u .accepted (le 4 (pairWord u)))

/-- A handover drains, announces, relinquishes and, without the partner, aborts; a takeover takes the role with its
epoch (R347, R348, R349, R355, R356, R357, R359, R360, R361, R362). Where the rules leave a choice its clauses
state the model's, of the log entries 81, 89, 238, 241, 278. -/
def Obligations.HandoverStepsAct : Prop :=
  -- HANDOVER_QUEUE_DRAINED
  (∀ s : State, s.chip.pair.me.hand = .draining → isActive s.chip = true → nothingWaits s.chip = true →
    Becomes .handoverQueueDrained s (s.chip.modMe fun p => { p with hand := .announced (tickNo s.chip + 4) })) ∧
  -- HANDOVER_RELINQUISH
  (∀ (u : Chip) (t : Nat) (s : State), s.chip.pair.me.hand = .announced t → isActive s.chip = true →
      t + 1 ≤ tickNo s.chip → (meteringRuns s.chip && (periodDue s.chip || stillDue s.chip)) = false →
      u = (giveRole s.chip .handover).modMe (fun p => { p with hand := .gone t, handRose := false, gapHold := true, handEpoch := some s.chip.mode.epoch, handovers := sat32 p.handovers 1 }) →
    Becomes .handoverRelinquish s (if u.pair.me.handHot then setFault (u.modMe fun p => { p with handHot := false }) 0x0E02 else u)) ∧
  -- HANDOVER_ABORT
  (∀ (u : Chip) (t : Nat) (s : State), s.chip.pair.me.hand = .gone t → s.chip.pair.me.forceIn = false →
      s.chip.pair.me.handRose = false → t + 5 ≤ tickNo s.chip →
      u = takeRole s.chip s.chip.mode.epoch .handover false →
    Becomes .handoverAbort s (if s.chip.pair.me.handHot then setFault u 0x0E02 else u)) ∧
  -- ROLE_TAKE_AT_START with a partner heard
  (∀ (t : Nat) (s : State), s.chip.pair.me.listen = some t → yardAlive s.chip = true → s.chip.pair.me.heard = true →
      t + 10000 ≤ s.chip.now →
    Becomes .roleTakeAtStart s (startStandby s.chip)) ∧
  -- ROLE_TAKE_AT_START with none heard
  (∀ (t : Nat) (s : State), s.chip.pair.me.listen = some t → yardAlive s.chip = true → s.chip.pair.me.heard = false →
      t + (if s.chip.strap = .b then 20000 else 10000) ≤ s.chip.now →
    Becomes .roleTakeAtStart s (if s.chip.pair.me.forceIn then startStandby s.chip else wakeAdmissions (startRole s.chip))) ∧
  -- HEARTBEAT_LOSS
  (∀ s : State, isPaired s.chip = true → yardAlive s.chip = true → 3 ≤ s.chip.pair.partner.missed →
      s.chip.pair.partner.lost = false →
    Becomes .heartbeatLoss s (judgeReady (setFault (settleDrafts (s.chip.modPartner fun p => { p with lost := true })) 0x0C01))) ∧
  -- TAKEOVER
  (∀ s : State, yardAlive s.chip = true → isPaired s.chip = true → isStandby s.chip = true →
      s.chip.pair.shadow.ready = true → s.chip.pair.me.forceIn = false → takeoverTrigger s.chip = true →
      s.chip.mode.stage ≠ .powerDown →
    Becomes .takeover s (takeRole s.chip ((s.chip.pair.partner.head.map MirrorHead.epoch).getD s.chip.mode.epoch) (takeoverKind s.chip) (takeoverKind s.chip == .handover))) ∧
  -- DRIVER_RESUME
  (∀ (u : Chip) (t : Nat) (s : State), s.chip.pair.me.resumeAt = some t → isActive s.chip = true → t ≤ s.chip.now →
      u = resumeLinks (resumeRails (heldTrips (s.chip.modMe fun p => { p with resumeAt := none, gapHold := false }))) →
    Becomes .driverResume s (if critical u && mayLock u then commitLockout u (u.mode.lockout.getD .criticalFault) else u)) ∧
  -- FORCE_IN_RISE
  (∀ s : State,
    Becomes .forceInRise s (s.chip.modMe fun p => { p with forceIn := true, handRose := true })) ∧
  -- FORCE_IN_FALL
  (∀ s : State,
    Becomes .forceInFall s (s.chip.modMe fun p => { p with forceIn := false, fell := p.fell || p.forceIn, forceOut := p.forceOut || isActive s.chip })) ∧
  -- FAILOVER_BLOCKED_TAKEOVER
  (∀ (u : Chip) (s : State), yardAlive s.chip = true → isStandby s.chip = true → s.chip.pair.shadow.ready = false →
      s.chip.pair.me.forceIn = false →
      s.chip.pair.me.blockedSince.any (fun t => decide (t + 1000000 ≤ s.chip.now)) = true →
      s.chip.mode.stage ≠ .powerDown →
      u = dropShelf .feedOpen (takeRole s.chip ((s.chip.pair.partner.head.map MirrorHead.epoch).getD s.chip.mode.epoch) .blocked false) →
    Becomes .failoverBlockedTakeover s (commitMode (clearIntents { u with mode := { u.mode with stage := .none, pend := none, svcKind := 0, svcIndex := 0, svcStop := none, freshReady := false } }) .ready .criticalFault [])) ∧
  -- RESYNC_DWELL
  (∀ (s : State), s.chip.pair.shadow.cond3.any (fun t => decide (t + s.chip.img.pair.resyncDwell * 1000000 ≤ s.chip.now)) = true →
    Becomes .resyncDwell s (judgeReady (s.chip.modShadow fun h => { h with dwelt := true })))

/-- A mirror frame of 64 bytes is taken with its header, and a standby follows the active member it shows (R350, R351,
R352, R353, R358, R366). -/
def Obligations.MirrorFramesAct : Prop :=
  -- MIRROR with the Yard alive
  (∀ (h : MirrorHead) (u v c w x : Chip) (payload : List Byte) (s : State), isPaired s.chip = true →
      payload.length = 64 → (s.chip.np 0).state ≠ .topology →
    h = headOf payload →
    u = (touchNp0 s.chip).modPartner (fun q => { q with
      head := some h, got := if inTime (touchNp0 s.chip) (field payload 4 4) then field payload 4 4 :: q.got else q.got }) →
    v = u.modMe (fun q => { q with heardEpoch := h.epoch, heard := q.heard || (q.listen.isSome && h.active) }) →
    yardAlive s.chip = true → yardAlive v = true →
    c = (if h.strap = 1 ∨ h.strap = 2 then evalFault v 0x0C00 (h.strap == v.strap.code) else v) →
    w = settleTakeover (handoverSeen (if h.active then stillRecorded c (field payload 4 4) else c) h) h →
    x = crossCheck (if isStandby w && h.active then takeFrame payload (followEpoch (followMode w h.modeWord) h.epoch) else w) h →
    Becomes (.mirror payload) s (judgeReady (if isStandby x && decide (128 ≤ x.pair.partner.slices)
      then evalFault x 0x0C05 (!sameDigest x) else x))) ∧
  -- MIRROR before
  (∀ (h : MirrorHead) (u v : Chip) (payload : List Byte) (s : State), isPaired s.chip = true → payload.length = 64 →
      (s.chip.np 0).state ≠ .topology →
    h = headOf payload →
    u = (touchNp0 s.chip).modPartner (fun q => { q with
      head := some h, got := if inTime (touchNp0 s.chip) (field payload 4 4) then field payload 4 4 :: q.got else q.got }) →
    v = u.modMe (fun q => { q with heardEpoch := h.epoch, heard := q.heard || (q.listen.isSome && h.active) }) →
    yardAlive s.chip = false → s.chip.pair.me.listen.isSome = true → yardAlive v = false →
        Becomes (.mirror payload) s v)

/-- A Nymi port trains, greets, comes up after three good greetings, and goes down (R371, R374, R376, R378, R379,
R380). Where the rules leave a choice its clauses state the model's, of the log entries 13, 97, 100, 101. -/
def Obligations.NymiLinkActs : Prop :=
  -- LINK_TRAIN
  (∀ (u : Chip) (p : Fin 4) (s : State), u = clearSent s.chip → yardAlive u = true → portUsed u p = true →
      (u.np p).state = .down →
    Becomes (.linkTrain p) s (setNp p .training (u.modNp p fun x => { x with good := 0, near := none, recent := [], lastValid := u.now, helloNext := u.now }))) ∧
  -- LINK_HELLO_TIMER
  (∀ (u : Chip) (p : Fin 4) (s : State), u = clearSent s.chip → yardAlive u = true → portUsed u p = true →
      (u.np p).state ≠ .down → (u.np p).helloNext ≤ u.now →
    Becomes (.linkHelloTimer p) s (sendOn p (ownFrame u 0x02 neighbourDst (helloPayload u)) (nextFid (u.modNp p fun x => { x with helloNext := u.now + 100 })))) ∧
  -- LINK_HELLO of a fitting neighbour
  (∀ (u : Chip) (v : Chip) (n : Neighbour) (w : Chip) (p : Fin 4) (f : Frame) (s : State), u = clearSent s.chip →
      yardAlive u = true → portUsed u p = true → (u.np p).state ≠ .down → f.ftype.toNat = 0x02 →
      lenFits 0x02 f.payload.length = true → f.crc = frameCrc f → f.dst.toNat / 2 ^ 14 ≠ 3 →
      v = u.modNp p (fun x => { x with lastValid := u.now }) → f.hops.toNat < 32 → n = helloOf f.payload →
      n.strap ≤ 2 → neighbourFits v p n = true →
      w = v.modNp p (fun x => { x with near := some n, good := min 3 (x.good + 1) }) →
    Becomes (.linkHello p f) s (if 3 ≤ (w.np p).good then setNp p .up w else refreshNet w)) ∧
  -- LINK_HELLO of another
  (∀ (u : Chip) (v : Chip) (n : Neighbour) (p : Fin 4) (f : Frame) (s : State), u = clearSent s.chip →
      yardAlive u = true → portUsed u p = true → (u.np p).state ≠ .down → f.ftype.toNat = 0x02 →
      lenFits 0x02 f.payload.length = true → f.crc = frameCrc f → f.dst.toNat / 2 ^ 14 ≠ 3 →
      v = u.modNp p (fun x => { x with lastValid := u.now }) → f.hops.toNat < 32 → n = helloOf f.payload →
      n.strap ≤ 2 → neighbourFits v p n = false →
    Becomes (.linkHello p f) s (setNp p .topology (v.modNp p fun x => { x with near := some n, good := 0 }))) ∧
  -- LINK_HELLO of a ROLE strap without a meaning
  (∀ (u : Chip) (v : Chip) (p : Fin 4) (f : Frame) (s : State), u = clearSent s.chip → yardAlive u = true →
      portUsed u p = true → (u.np p).state ≠ .down → f.ftype.toNat = 0x02 → lenFits 0x02 f.payload.length = true →
      f.crc = frameCrc f → f.dst.toNat / 2 ^ 14 ≠ 3 → v = u.modNp p (fun x => { x with lastValid := u.now }) →
      f.hops.toNat < 32 → 2 < (helloOf f.payload).strap →
    Becomes (.linkHello p f) s v) ∧
  -- LINK_DOWN
  (∀ (u : Chip) (p : Fin 4) (c : DownCause) (s : State), u = clearSent s.chip → yardAlive u = true →
      portUsed u p = true → (u.np p).state ≠ .down → downCauseHolds u p c = true →
    Becomes (.linkDown p c) s (barrierCheck (takeDown p u))) ∧
  -- LINK_CRC
  (∀ (u : Chip) (p : Fin 4) (s : State), u = clearSent s.chip → yardAlive u = true → portUsed u p = true →
      (u.np p).state ≠ .down →
    Becomes (.linkCrc p) s (setFault (u.modNp p fun x => { x with crc := sat32 x.crc 1, recent := (u.now :: x.recent.filter fun t => u.now < t + 1000).take 8 }) (0x0D04 + p)))

/-- A member asks its time parent for the time, answers such a request, and applies the answer (R381, R382, R383,
R384). -/
def Obligations.HallTimeFramesAct : Prop :=
  -- TIME_EXCHANGE
  (∀ (u : Chip) (q : Nat) (t1 : Nat) (s : State), u = refreshNet (clearSent s.chip) → u.net.time.parent = some q →
      yardAlive u = true → parentThere u = true → u.net.time.next ≤ u.now →
    Becomes (.timeExchange t1) s (sendOn q (ownFrame u 0x03 neighbourDst []) (nextFid (u.modTime fun t => { t with ask := some (u.net.frameId, t1 % 2 ^ 64), last := if t.ask.isSome then none else t.last, next := u.now + u.img.hall.timePeriod })))) ∧
  -- TIME_REQ
  (∀ (v : Chip) (p : Fin 4) (f : Frame) (t2 t3 : Nat) (s : State), Heard 0x03 p f s.chip v →
    Becomes (.timeReq p f t2 t3) s (sendOn p { ownFrame v 0x04 neighbourDst (le 8 t2 ++ le 8 (tget v.net.time.lastT3 p)) with fid := f.fid } (v.modTime fun t => { t with lastT3 := tset t.lastT3 p (t3 % 2 ^ 64) }))) ∧
  -- TIME_RESP after an earlier exchange
  (∀ (v : Chip) (w : Chip) (x : Chip) (q : Nat) (a1 : Nat) (a2 : Nat) (a4 : Nat) (p : Fin 4) (f : Frame) (t4 : Nat) (s : State), Heard 0x04 p f s.chip v →
      v.net.time.ask = some (f.fid.toNat, q) → v.net.time.parent = some p.val →
      w = (if p.val = 0 then { v with pair := { v.pair with me := { v.pair.me with heardHall := field f.payload 0 8 / 256 / 100 * 100 } } } else v) →
      x = w.modTime (fun t => { t with ask := none, last := some (q, field f.payload 0 8, t4 % 2 ^ 64) }) →
      v.net.time.last = some (a1, a2, a4) → field f.payload 8 8 ≠ 0 →
    Becomes (.timeResp p f t4) s (applyOffset (exchangeOffset a1 a2 (field f.payload 8 8) a4 (tget x.img.hall.asym p)).1 (exchangeOffset a1 a2 (field f.payload 8 8) a4 (tget x.img.hall.asym p)).2 x)) ∧
  -- TIME_RESP, the first or without t3
  (∀ (v : Chip) (w : Chip) (x : Chip) (q : Nat) (p : Fin 4) (f : Frame) (t4 : Nat) (s : State), Heard 0x04 p f s.chip v →
      v.net.time.ask = some (f.fid.toNat, q) → v.net.time.parent = some p.val →
      w = (if p.val = 0 then { v with pair := { v.pair with me := { v.pair.me with heardHall := field f.payload 0 8 / 256 / 100 * 100 } } } else v) →
      x = w.modTime (fun t => { t with ask := none, last := some (q, field f.payload 0 8, t4 % 2 ^ 64) }) →
      (v.net.time.last = none ∨ field f.payload 8 8 = 0) →
    Becomes (.timeResp p f t4) s (x))

/-- Broadcasts, barriers, schedules and messages act at the member that hears them (R385, R386, R387, R388, R389, R390,
R391, R392, R394). Where the rules leave a choice its clauses state the model's, of the log entries 103, 106, 107,
109, 226. -/
def Obligations.HallEventFramesAct : Prop :=
  -- BROADCAST
  (∀ (v : Chip) (p : Fin 4) (f : Frame) (s : State), Heard 0x10 p f s.chip v → inHall v = true →
    Becomes (.broadcast p f) s (if climbs v p then climbBroadcast (some p.val) f v else spreadBroadcast (some p.val) f v)) ∧
  -- BARRIER_ARRIVE at an open barrier
  (∀ (v : Chip) (b : Barrier) (p : Fin 4) (f : Frame) (s : State), Heard 0x11 p f s.chip v → inHall v = true →
      v.net.barrier.filter (fun b => b.openAt.isSome) = some b →
    Becomes (.barrierArrive p f) s (barrierCheck (v.modNet fun n => { n with barrier := some { b with arrived := (p.val, { count := field f.payload 4 4, incomplete := field f.payload 2 1 % 2 == 1, conflict := field f.payload 2 1 / 2 % 2 == 1 }) :: b.arrived.filter (fun x => x.1 != p.val), conflict := b.conflict || b.id != field f.payload 0 2 } }))) ∧
  -- BARRIER_ARRIVE with none open
  (∀ (v : Chip) (p : Fin 4) (f : Frame) (s : State), Heard 0x11 p f s.chip v → inHall v = true →
      v.net.barrier.filter (fun b => b.openAt.isSome) = none →
    Becomes (.barrierArrive p f) s (if isRoot v then rootOpens (field f.payload 0 2) v else sendUp (some p.val) f v)) ∧
  -- BARRIER_OPEN
  (∀ (v : Chip) (p : Fin 4) (f : Frame) (s : State), Heard 0x12 p f s.chip v → inHall v = true →
    Becomes (.barrierOpen p f) s (openBarrier (field f.payload 0 2) (sendDown (some p.val) f v))) ∧
  -- BARRIER_RELEASE
  (∀ (v : Chip) (p : Fin 4) (f : Frame) (s : State), Heard 0x13 p f s.chip v → inHall v = true →
    Becomes (.barrierRelease p f) s (takeRelease f.payload (sendDown (some p.val) f v))) ∧
  -- BARRIER_TIMEOUT
  (∀ (u : Chip) (b : Barrier) (s : State), u = clearSent s.chip → u.net.barrier = some b → yardAlive u = true →
      inHall u = true → b.sent = false →
      b.openAt.any (fun t => decide (t + u.img.hall.barrierTimeout * 1000 ≤ u.now)) = true →
    Becomes .barrierTimeout s (sendAggregate true u)) ∧
  -- SCHEDULE
  (∀ (v : Chip) (w : Chip) (p : Fin 4) (f : Frame) (s : State), Heard 0x14 p f s.chip v → inHall v = true →
      schedAssigned f.payload = true → w = sendDown (some p.val) f v →
    Becomes (.schedule p f) s (if w.hall ≤ field f.payload 8 8 then holdSchedule f.payload w else if field f.payload 0 1 = 1 then stillDone (field f.payload 8 8) 1 none32 (setFault w 0x0D10) else setFault w 0x0D10)) ∧
  -- SCHEDULE of a kind or action without a meaning
  (∀ (v : Chip) (p : Fin 4) (f : Frame) (s : State), Heard 0x14 p f s.chip v → schedAssigned f.payload = false →
    Becomes (.schedule p f) s v) ∧
  -- SCHEDULE_REQ
  (∀ (v : Chip) (y : Status) (p : Fin 4) (f : Frame) (s : State), Heard 0x24 p f s.chip v → Delivered f v →
      isRoot v = true → yardWorks v = true → judgeSchedule v f.payload = y →
    Becomes (.scheduleReq p f) s (routeOn none (replyFrame (if y = .ok then acceptSchedule f.payload v else v) f 0x25 (le 2 y.code ++ zeros 2)) (if y = .ok then acceptSchedule f.payload v else v))) ∧
  -- SCHEDULE_ANS
  (∀ (v : Chip) (a : SchedAsk) (y : Status) (p : Fin 4) (f : Frame) (s : State), Heard 0x25 p f s.chip v →
      Delivered f v → v.net.asks.find? (fun x => x.fid == f.fid.toNat) = some a →
    statusOfCode (field f.payload 0 2) = some y →
    Becomes (.scheduleAns p f) s (formReply (v.modNet fun n => { n with asks := n.asks.filter fun x => x.fid != a.fid }) a.ref y (if y = .ok then le 8 a.at_ else []))) ∧
  -- SCHEDULE_REQ_TIMEOUT
  (∀ (s : State),
    Becomes .scheduleReqTimeout s ((s.chip.net.asks.filter fun a => answerOverdue s.chip a.sent).foldl (fun c a => formReply c a.ref .timeout []) (s.chip.modNet fun n => { n with asks := n.asks.filter fun a => !answerOverdue s.chip a.sent }))) ∧
  -- SCHEDULE_ACTION
  (∀ (u : Chip) (w : Chip) (s : State), u = clearSent s.chip → yardAlive u = true →
      w = (if u.net.still.any (fun x => decide (x.at_ ≤ u.hall)) then stillAction u else u) →
    Becomes .scheduleAction s (match w.net.reset with | some x => (if x.at_ ≤ w.hall then resetAction x w else w) | none => w)) ∧
  -- MESSAGE
  (∀ (v : Chip) (p : Fin 4) (f : Frame) (s : State), Heard 0x20 p f s.chip v → Delivered f v →
    Becomes (.message p f) s (routeOn none (ackFrame v f .ok) (deliverMessage f v))) ∧
  -- MESSAGE_ACK of a message that waits
  (∀ (v : Chip) (a : MsgAsk) (p : Fin 4) (f : Frame) (s : State), Heard 0x21 p f s.chip v → Delivered f v →
      v.net.msgs.find? (fun x => x.fid == f.fid.toNat) = some a →
    (field f.payload 0 2 = Status.ok.code ∨ field f.payload 0 2 = Status.roleChanged.code) →
    Becomes (.messageAck p f) s (postResult a ((f.payload.drop 4).take 2) (field f.payload 2 2) (if field f.payload 0 2 = Status.roleChanged.code then .roleChanged else .ok) (v.modNet fun n => { n with msgs := n.msgs.filter fun x => x.fid != f.fid.toNat }))) ∧
  -- MESSAGE_ACK of none
  (∀ (v : Chip) (p : Fin 4) (f : Frame) (s : State), Heard 0x21 p f s.chip v → Delivered f v →
      v.net.msgs.find? (fun x => x.fid == f.fid.toNat) = none →
    (field f.payload 0 2 = Status.ok.code ∨ field f.payload 0 2 = Status.roleChanged.code) →
    Becomes (.messageAck p f) s (if field f.payload 0 2 = Status.roleChanged.code then resendCap f.fid.toNat (field f.payload 2 2) v else v)) ∧
  -- MESSAGE_TIMEOUT
  (∀ s : State,
    Becomes .messageTimeout s ((s.chip.net.msgs.filter fun m => answerOverdue s.chip m.sent).foldl (fun c m => postResult m (le 2 c.draw) 0xFFFF .timeout c.drawn) (s.chip.modNet fun n => { n with msgs := n.msgs.filter fun m => !answerOverdue s.chip m.sent })))

/-- Cap reports and allocations, and the collection of a Still Life, act at the member they are delivered to (R168,
R169, R393, R395, R396). Where the rules leave a choice its clauses state the model's, of the log entries 108, 110,
111, 244, 245. -/
def Obligations.HallCapAndCollectFramesAct : Prop :=
  -- CAP_REPORT
  (∀ (v : Chip) (k : Nat) (putr : List (Nat × Nat × Nat) →
      List (Nat × Nat × Nat)) (p : Fin 4) (f : Frame) (s : State), Heard 0x22 p f s.chip v → Delivered f v →
      capMember v = true → k = f.src.toNat % 2 ^ 10 / 2 → (childPairs v).contains k = true →
      putr = (fun (l : List (Nat × Nat × Nat)) => (k, field f.payload 4 4, field f.payload 8 4) :: l.filter fun x => x.1 != k) →
    Becomes (.capReport p f) s (reportWhenReady (v.modNet fun n => { n with cap := { n.cap with last := putr n.cap.last, reports := if field f.payload 0 4 == roundField v then putr n.cap.reports else n.cap.reports } }))) ∧
  -- CAP_ALLOC
  (∀ (v : Chip) (p : Fin 4) (f : Frame) (s : State), Heard 0x23 p f s.chip v → Delivered f v → capMember v = true →
      v.net.cap.open_ = true → field f.payload 0 4 = roundField v → v.hall < v.net.cap.start + capAllocBy →
    Becomes (.capAlloc p f) s (splitHere (field f.payload 4 4) v)) ∧
  -- COLLECT_REQ
  (∀ (v : Chip) (p : Fin 4) (f : Frame) (s : State), Heard 0x30 p f s.chip v → Delivered f v →
    Becomes (.collectReq p f) s (answerCollect (v.modNet fun n => { n with collAsk := putAsk { src := f.src.toNat % 2 ^ 10, fid := f.fid.toNat, at_ := field f.payload 0 8, off := field f.payload 8 4 } n.collAsk }))) ∧
  -- COLLECT_DATA
  (∀ (v : Chip) (p : Fin 4) (f : Frame) (s : State), Heard 0x31 p f s.chip v → Delivered f v →
    Becomes (.collectData p f) s (takeStream (f.src.toNat % 2 ^ 10) (field f.payload 0 4) (field f.payload 4 1 % 2 == 1) (f.payload.drop 8) v)) ∧
  -- COLLECT_NO_REPLY after an answer
  (∀ (u : Chip) (s : State), u = clearSent s.chip → yardAlive u = true → u.net.coll.state = .running →
      u.net.coll.asked + 100000 ≤ u.now → u.net.coll.at_ + 6010000000 ≤ u.hall → u.net.coll.heard = true →
    Becomes .collectNoReply s (askNext u)) ∧
  -- COLLECT_NO_REPLY with nothing heard
  (∀ (u : Chip) (s : State), u = clearSent s.chip → yardAlive u = true → u.net.coll.state = .running →
      u.net.coll.asked + 100000 ≤ u.now → u.net.coll.at_ + 6010000000 ≤ u.hall → u.net.coll.heard = false →
    Becomes .collectNoReply s (finishMember (u.drawn.modColl fun c => { c with buf := c.buf ++ [unitHead u.net.coll.node 1 3 0 (le 2 u.draw) 0], units := sat32 c.units 1, noReply := sat32 c.noReply 1 })))

/-- The hall reads answer; broadcast, barrier, schedules, collection and messages begin what they name (R384, R386,
R387, R389, R390, R394, R395, R396, R399, R401). Where the rules leave a choice its clauses state the model's, of
the log entries 104, 109, 226, 243. -/
def Obligations.HallOpcodesComplete : Prop :=
  -- HALL_GET
  (∀ (rq : Request) (s : State), Admitted 0x0B01 {} rq s.chip →
    Answers .hallGet rq s .ok (hallGetData s.chip)) ∧
  -- HALL_TIME_GET
  (∀ (rq : Request) (s : State), Admitted 0x0B02 {} rq s.chip →
    Answers .hallTimeGet rq s .ok (hallTimeData s.chip)) ∧
  -- HALL_BROADCAST
  (∀ (rq : Request) (v : Chip) (s : State), Admitted 0x0B03 { lenLo := 8, lenHi := 8 } rq s.chip →
      v = clearSent (taken 0x0B03 rq s.chip) → hallDenied true v = false →
    ∀ u, u = (climbBroadcast none (ownFrame v 0x10 dstTree (le 2 (nodeId v) ++ zeros 2 ++ fit 8 rq.params ++ zeros 4)) (nextFid v)) →
    Serves .hallBroadcast rq s u .ok (le 4 (hallWord u))) ∧
  -- HALL_BARRIER
  (∀ (rq : Request) (v : Chip) (s : State), Admitted 0x0B04 {} rq s.chip → v = clearSent (taken 0x0B04 rq s.chip) →
      hallDenied true v = false → participant v = true → (v.net.barrier.any fun b => b.own) = false →
    Becomes (.hallBarrier rq) s (arriveHere (arg rq 0 2) (refOf rq s.chip)
      (formReply v (refOf rq s.chip) .accepted (le 4 (hallWord (arriveHere (arg rq 0 2) (refOf rq s.chip) v)))))) ∧
  -- STILL_LIFE_SCHEDULE at the root
  (∀ (rq : Request) (v : Chip) (s : State), Admitted 0x0B05 { lenLo := 8, lenHi := 8, activeOnly := true } rq s.chip →
      v = clearSent (taken 0x0B05 rq s.chip) → inHall s.chip = true → v.hall + minLead v ≤ (arg rq 0 8) →
      hallDenied true v = false → isRoot v = true →
      judgeSchedule v (le 1 1 ++ le 1 0 ++ le 2 (nodeId v) ++ zeros 4 ++ le 8 (arg rq 0 8)) = .ok →
    ∀ u, u = (acceptSchedule (le 1 1 ++ le 1 0 ++ le 2 (nodeId v) ++ zeros 4 ++ le 8 (arg rq 0 8)) v) →
    Serves .stillLifeSchedule rq s u .ok (le 8 (arg rq 0 8))) ∧
  -- STILL_LIFE_SCHEDULE elsewhere
  (∀ (rq : Request) (v : Chip) (f : Frame) (s : State), Admitted 0x0B05 { lenLo := 8, lenHi := 8, activeOnly := true } rq s.chip →
      v = clearSent (taken 0x0B05 rq s.chip) → inHall s.chip = true → v.hall + minLead v ≤ (arg rq 0 8) →
      hallDenied true v = false → isRoot v = false →
      f = { ownFrame v 0x24 (dstActive 0) (le 1 1 ++ le 1 0 ++ le 2 (nodeId v) ++ zeros 4 ++ le 8 (arg rq 0 8)) with epoch := 0xFFFF#16 } →
    Becomes (.stillLifeSchedule rq) s (routeOn none f (nextFid (v.modNet fun n => { n with asks := n.asks ++ [{ fid := v.net.frameId, at_ := (arg rq 0 8), ref := refOf rq s.chip, sent := v.now }] })))) ∧
  -- HALL_RESET_SCHEDULE at the root
  (∀ (rq : Request) (v : Chip) (s : State), Admitted 0x0B06 { lenLo := 12, lenHi := 12, activeOnly := true } rq s.chip →
      v = clearSent (taken 0x0B06 rq s.chip) → inHall s.chip = true → (arg rq 0 1 % 16) % 4 ≠ 0 →
      (arg rq 0 1 % 16) % 4 ≠ 3 → v.hall + minLead v ≤ (arg rq 4 8) → hallDenied true v = false → isRoot v = true →
      judgeSchedule v (le 1 2 ++ le 1 (arg rq 0 1 % 16) ++ le 2 (nodeId v) ++ zeros 4 ++ le 8 (arg rq 4 8)) = .ok →
    ∀ u, u = (acceptSchedule (le 1 2 ++ le 1 (arg rq 0 1 % 16) ++ le 2 (nodeId v) ++ zeros 4 ++ le 8 (arg rq 4 8)) v) →
    Serves .hallResetSchedule rq s u .ok (le 8 (arg rq 4 8))) ∧
  -- HALL_RESET_SCHEDULE elsewhere
  (∀ (rq : Request) (v : Chip) (f : Frame) (s : State), Admitted 0x0B06 { lenLo := 12, lenHi := 12, activeOnly := true } rq s.chip →
      v = clearSent (taken 0x0B06 rq s.chip) → inHall s.chip = true → (arg rq 0 1 % 16) % 4 ≠ 0 →
      (arg rq 0 1 % 16) % 4 ≠ 3 → v.hall + minLead v ≤ (arg rq 4 8) → hallDenied true v = false → isRoot v = false →
      f = { ownFrame v 0x24 (dstActive 0) (le 1 2 ++ le 1 (arg rq 0 1 % 16) ++ le 2 (nodeId v) ++ zeros 4 ++ le 8 (arg rq 4 8)) with epoch := 0xFFFF#16 } →
    Becomes (.hallResetSchedule rq) s (routeOn none f (nextFid (v.modNet fun n => { n with asks := n.asks ++ [{ fid := v.net.frameId, at_ := (arg rq 4 8), ref := refOf rq s.chip, sent := v.now }] })))) ∧
  -- SNAPSHOT_COLLECT_START
  (∀ (rq : Request) (v : Chip) (s : State), Admitted 0x0B07 { lenLo := 12, lenHi := 12 } rq s.chip →
      v = clearSent (taken 0x0B07 rq s.chip) → inHall v = true → arg rq 0 1 = 1 → collBusy v.net.coll = false →
    ∀ w, w = v.modColl (fun _ => { at_ := arg rq 4 8, ref := some (refOf rq s.chip) }) →
    Becomes (.snapshotCollectStart rq) s (askNext (formReply w (refOf rq s.chip) .accepted (collectStatus (askNext w))))) ∧
  -- SNAPSHOT_COLLECT_READ
  (∀ (rq : Request) (v : Chip) (us : List (List Byte)) (w : Chip) (s : State), Admitted 0x0B07 { lenLo := 12, lenHi := 12 } rq s.chip →
      v = clearSent (taken 0x0B07 rq s.chip) → inHall v = true → arg rq 0 1 = 2 →
      us = unitsFit v.net.coll.buf (portLimit rq.port - 4) (if arg rq 4 2 = 0 then v.net.coll.buf.length else arg rq 4 2) →
      w = v.modColl (fun c => { c with buf := v.net.coll.buf.drop us.length }) →
    ∀ u, u = (if v.net.coll.state == .waiting then askNext w else w) →
    Serves .snapshotCollectRead rq s u .ok (le 2 us.length ++ zeros 2 ++ us.flatten)
      (!(v.net.coll.buf.drop us.length).isEmpty || collBusy u.net.coll)) ∧
  -- SNAPSHOT_COLLECT_STATUS
  (∀ (rq : Request) (s : State), Admitted 0x0B07 {} rq s.chip → inHall s.chip = true → arg rq 0 1 = 3 →
    ∀ u, u = (taken 0x0B07 rq s.chip) →
    Serves .snapshotCollectStatus rq s u .ok (collectStatus s.chip)) ∧
  -- SNAPSHOT_COLLECT_CANCEL
  (∀ (rq : Request) (s : State), Admitted 0x0B07 {} rq s.chip → inHall s.chip = true → arg rq 0 1 = 4 →
    ∀ u, u = (if collBusy s.chip.net.coll then setColl .cancelled (taken 0x0B07 rq s.chip) else taken 0x0B07 rq s.chip) →
    Serves .snapshotCollectCancel rq s u .ok (collectStatus u)) ∧
  -- HALL_SEND
  (∀ (rq : Request) (v : Chip) (f : Frame) (w : Chip) (s : State), Admitted 0x0B08 { lenLo := 16, lenHi := 16 } rq s.chip →
      v = clearSent (taken 0x0B08 rq s.chip) → inHall v = true → arg rq 0 1 ≤ 1 →
      arg rq 2 2 < (if arg rq 0 1 = 0 then 2 * v.img.hall.pairs else v.img.hall.pairs) → f = sendFrame v rq →
      w = nextFid (v.modNet fun x => { x with msgs := x.msgs ++ [{ fid := v.net.frameId, dst := arg rq 2 2, ref := refOf rq s.chip, sent := v.now }] }) →
    ∀ x, x = formReply w (refOf rq s.chip) .accepted (le 2 v.net.frameId ++ zeros 2) →
    Becomes (.hallSend rq) s (if deliversHere x f = false then routeOn none f x
      else if toActive f && !(isActive x && (f.epoch == 0xFFFF#16 || f.epoch.toNat == x.mode.epoch)) then takeAck (ackFrame x f .roleChanged) x
      else takeAck (ackFrame x f .ok) (deliverMessage f x)))

/-- The service opcodes begin a calibration reading and a FET exercise; both end when due (R48, R94, R95, R241, R245). -/
def Obligations.ServiceOpcodesComplete : Prop :=
  -- SVC_CAL_READ
  (∀ (rq : Request) (s : State), Admitted 0x0E01 { activeOnly := true } rq s.chip → s.chip.mode.mode = .service →
      isObject (arg rq 0 1) = true → 1 ≤ arg rq 2 2 → arg rq 2 2 ≤ 10000 →
      (meterCfg s.chip (arg rq 0 1)).isSome = true → svcAdmits s.chip (arg rq 0 1) = true →
    ∀ u, u = ((fun (c : Chip) => { c with svc := { c.svc with calRef := some (refOf rq s.chip), calObj := arg rq 0 1, calEnd := c.now + arg rq 2 2 * 1000, calSumI := 0, calSumV := 0, calN := 0 } }) (match s.chip.svc.calRef with | some old => postCal (taken 0x0E01 rq s.chip) old .aborted | none => taken 0x0E01 rq s.chip)) →
    Serves .svcCalRead rq s u .accepted (le 4 (meterWord u (arg rq 0 1)))) ∧
  -- SVC_CAL_READ_DONE
  (∀ (u : Chip) (r : ReqRef) (s : State), s.chip.svc.calRef = some r → s.chip.svc.calEnd ≤ s.chip.now →
      u = postCal s.chip r .ok →
    Becomes .svcCalReadDone s ({ u with svc := { u.svc with calRef := none } })) ∧
  -- SVC_FET_EXERCISE
  (∀ (rq : Request) (s : State), Admitted 0x0E02 { lenLo := 8, lenHi := 8, activeOnly := true, queue := 1 } rq s.chip →
      s.chip.mode.mode = .service → arg rq 0 1 ≤ 31 → 1 ≤ arg rq 4 4 → arg rq 4 4 ≤ 10000 →
      (arg rq 2 2 = 0xFFFF ∨ arg rq 2 2 = (s.chip.chCfg (arg rq 0 1)).gen) → svcPicks s.chip (arg rq 0 1) = true →
      (s.chip.chCfg (arg rq 0 1)).role ≠ 0 → (s.chip.ch (arg rq 0 1)).disabled = false →
      (s.chip.chQueue.any fun e => e.ch == arg rq 0 1) = false → (s.chip.ch (arg rq 0 1)).state = .off →
      (s.chip.ch (arg rq 0 1)).intentOn = false →
    ∀ u, u = (queueCh (taken 0x0E02 rq s.chip) (arg rq 0 1) (.exercise (arg rq 4 4)) (refOf rq s.chip) true) →
    Serves .svcFetExercise rq s u .accepted (chData s.chip (arg rq 0 1))) ∧
  -- FET_EXERCISE_HOLD_END
  (∀ (n : Nat) (u : Chip) (s : State), n = s.chip.svc.exCh → (s.chip.ch n).state = .on →
      (s.chip.ch n).exercise = true → s.chip.svc.exEnd.any (fun t => decide (t ≤ s.chip.now)) = true →
      u = { s.chip with svc := { s.chip.svc with exRef := none, exEnd := none } } →
    Becomes .fetExerciseHoldEnd s (chStop (u.modCh n fun c => { c with intentOn := false, brk := { c.brk with retries := 0 } }) n .hostOff .soft .off .ok))

/-- A pass-through transfer is queued and numbered; a bus transfer ends with its result, is retried, or is given up
(R328, R329, R330, R332, R333, R334, R335, R337, R338). Where the rules leave a choice its clauses state the
model's, of the log entries 70, 71, 72, 73, 219. -/
def Obligations.DownstreamComplete : Prop :=
  -- DS_TRANSACT
  (∀ (rq : Request) (s : State), Admitted 0x0F01 { lenLo := 8 + arg rq 4 1, lenHi := 8 + arg rq 4 1, activeOnly := isWriteKind (arg rq 2 1) } rq s.chip →
      passLengths (arg rq 2 1) (arg rq 4 1) (arg rq 5 1) = true → arg rq 0 1 ≤ 3 → arg rq 1 1 ≤ 127 →
      arg rq 4 1 ≤ 32 → arg rq 5 1 ≤ 32 →
      (isWriteKind (arg rq 2 1) && running s.chip && isBound s.chip (arg rq 0 1) (arg rq 1 1)) = false →
      passCount (s.chip.bus (arg rq 0 1)) < 8 → dsRoom s.chip (arg rq 0 1) = true →
    ∀ u, u = (dsPut ((taken 0x0F01 rq s.chip).modBus (arg rq 0 1) fun b => { b with handle := (b.handle + 1) % 256 }) (arg rq 0 1)
      (.pass { handle := (s.chip.bus (arg rq 0 1)).handle, addr := arg rq 1 1, kind := arg rq 2 1, pec := arg rq 3 1 % 2 == 1,
               wdata := rq.params.drop 8, rlen := arg rq 5 1, ref := refOf rq s.chip })) →
    Serves .dsTransact rq s u .accepted (le 1 (s.chip.bus (arg rq 0 1)).handle ++ le 1 (s.chip.bus (arg rq 0 1)).queue.length ++ zeros 2)) ∧
  -- DS_STATUS
  (∀ (rq : Request) (s : State), Admitted 0x0F02 {} rq s.chip → arg rq 0 1 ≤ 3 → arg rq 2 1 % 2 = 0 →
    Answers .dsStatus rq s .ok (le 4 (busWord s.chip (arg rq 0 1)) ++ le 4 (s.chip.bus (arg rq 0 1)).completed ++ le 4 (s.chip.bus (arg rq 0 1)).arbStops
      ++ le 4 (s.chip.bus (arg rq 0 1)).timeouts ++ le 4 (s.chip.bus (arg rq 0 1)).ranges ++ le 1 0xFF ++ le 1 0xFF ++ zeros 34)) ∧
  -- DS_STATUS of a handle
  (∀ (rq : Request) (x : DsResult) (s : State), Admitted 0x0F02 {} rq s.chip → arg rq 0 1 ≤ 3 → arg rq 2 1 % 2 = 1 →
    handleOf (s.chip.bus (arg rq 0 1)) (arg rq 1 1) = some x →
    Answers .dsStatus rq s .ok (le 4 (busWord s.chip (arg rq 0 1)) ++ le 4 (s.chip.bus (arg rq 0 1)).completed ++ le 4 (s.chip.bus (arg rq 0 1)).arbStops
      ++ le 4 (s.chip.bus (arg rq 0 1)).timeouts ++ le 4 (s.chip.bus (arg rq 0 1)).ranges
      ++ le 1 x.handle ++ le 1 x.result ++ le 1 x.data.length ++ zeros 1 ++ fit 32 x.data)) ∧
  -- DS_TRANSACTION
  (∀ (u : Chip) (k : Fin 4) (o : BusOutcome) (s : State), u = dsTake s.chip k → dsActive (u.bus k) = true →
      wireShows o.result.toNat = true →
    Becomes (.dsTransaction k o) s (dsFinish u k (if (u.bus k).stuck then 7 else wireResult (u.bus k) o.result.toNat) o.data)) ∧
  -- DS_ARB_LOST
  (∀ (u : Chip) (w : Chip) (k : Fin 4) (s : State), u = dsTake s.chip k → dsActive (u.bus k) = true →
      w = modRun u k (fun r => { r with losses := r.losses + 1, waitFree := some u.now }) →
    Becomes (.dsArbLost k) s (if (w.bus k).run.any (fun r => 8 ≤ r.losses) then dsFinish w k 3 [] else w)) ∧
  -- ARB_STOP
  (∀ (u : Chip) (v : Chip) (w : Chip) (x : Chip) (k : Fin 4) (dataHigh clockHigh : Bool) (s : State), u = dsTake s.chip k →
      dsActive (u.bus k) = true → v = recovers (setFault (u.modBus k fun b => { b with arbStops := sat32 b.arbStops 1 }) (dsSource 0 k)) k (dataHigh && clockHigh) →
      w = (if dataHigh then v else setStuck v k true) →
      x = modRun w.drawn k (fun r => { r with stops := r.stops + 1, backoff := some ((w.drawn.bus k).recoverEnd + (2 * (1 + w.draw % 8) + memberIndex w) * 100) }) →
    Becomes (.arbStop k dataHigh clockHigh) s (if (x.bus k).run.any (fun r => 5 ≤ r.stops) then dsFinish x k 4 [] else x)) ∧
  -- ARB_BACKOFF_EXPIRY
  (∀ (k : Fin 4) (s : State),
    Becomes (.arbBackoffExpiry k) s (modRun s.chip k fun r => if r.backoff.any fun d => decide (d ≤ s.chip.now) then { r with backoff := none } else r)) ∧
  -- DS_TIMEOUT
  (∀ (u : Chip) (k : Fin 4) (dataHigh clockHigh : Bool) (s : State), u = recovers s.chip k (dataHigh && clockHigh) →
      (s.chip.bus k).run.any (fun r => decide (r.start + 25000 ≤ s.chip.now)) = true →
    Becomes (.dsTimeout k dataHigh clockHigh) s (dsFinish (if dataHigh then u else setStuck u k true) k 5 [])) ∧
  -- DS_RECOVERY_RETRY
  (∀ (k : Fin 4) (dataHigh clockHigh : Bool) (s : State), (s.chip.bus k).stuck = true →
      (s.chip.bus k).recoverDue ≤ s.chip.now →
    Becomes (.dsRecoveryRetry k dataHigh clockHigh) s (setStuck (recovers s.chip k (dataHigh && clockHigh)) k (!(dataHigh && clockHigh)))) ∧
  -- ARB_LOST_RETRY
  (∀ (k : Fin 4) (s : State),
    Becomes (.arbLostRetry k) s (modRun s.chip k fun r =>
      if r.waitFree.any (fun t => decide (t + bitTicks s.chip k (10 + 5 * memberIndex s.chip) ≤ s.chip.now)) then { r with waitFree := none } else r))

/-- A tick boundary runs the Yard, or with the Studio die off only counts (R1, R23, R36, R55). Where the rules leave a
choice its clauses state the model's, of the log entries 10, 11. -/
def Obligations.TickCountsOn : Prop :=
  -- TICK from HOLD onwards
  (∀ (l : Latch) (s : State), studioRuns s.chip = true →
    Becomes (.tick l) s (runTick l s.chip)) ∧
  -- TICK in OFF and before W6
  (∀ (l : Latch) (s : State), studioRuns s.chip = false → s.chip.ostler.step < 6 →
    Becomes (.tick l) s ({ s.chip with clk := { s.chip.clk with tick := s.chip.clk.tick + 1 } })) ∧
  -- TICK from W6 on
  (∀ (u : Chip) (l : Latch) (s : State), studioRuns s.chip = false → 6 ≤ s.chip.ostler.step →
      u = (if (clockTick s.chip).clk.degraded then markUnc (clockTick s.chip) else clockTick s.chip) →
    Becomes (.tick l) s (if u.ostler.step == 7 then dieLinkTick l u else u))

/-- A step runs the command at the front of the queue on the state with the queue's rest; with no command waiting the
block idles (R291, R301). Where the rules leave a choice its clauses state the model's, of the log entries 1. -/
def Obligations.StepRunsTheFrontCommand : Prop :=
  -- A waiting command
  (∀ (c : Instr) (s : State), step { s with pending := c :: s.pending } = exec c s) ∧
  -- No command waits
  (∀ s : State, s.pending = [] → step s = .next s)

/-- Every command answers a next state, and none leaves 0xFFFF in the role epoch, as held or as retained (R307, R310,
R356). -/
def Obligations.RoleEpochIsNeverFFFF : Prop :=
  -- Every command
  (∀ (c : Instr) (s : State), EpochOk s.chip.mode.epoch s.chip.pair.me.retEpoch →
    Completes c s fun t => EpochOk t.mode.epoch t.pair.me.retEpoch) ∧
  -- After reset
  (EpochOk State.reset.chip.mode.epoch State.reset.chip.pair.me.retEpoch)

/-- Reset leaves the member OFF with empty queues, no sticky bit and no fuse blown, and the invariant holds (R36, R307,
R403, R436). Where the rules leave a choice its clauses state the model's, of the log entries 3, 4, 5, 6, 7. -/
def Obligations.ResetLeavesTheMemberOff : Prop :=
  -- The reset state
  (State.reset.pending = [] ∧ State.reset.chip.mode.mode = .off
      ∧ (∀ p, (State.reset.chip.port p).ver = 0x10#8 ∧ (State.reset.chip.port p).station = 0#16
          ∧ (State.reset.chip.port p).queue = [] ∧ (State.reset.chip.port p).replies = [])
      ∧ State.reset.chip.events.queue = [] ∧ State.reset.chip.faults.sticky = []
      ∧ State.reset.chip.otp.rollback = 0 ∧ State.reset.chip.otp.customerKey = false) ∧
  -- The invariant
  (Inv State.reset.chip)

/-- Every step keeps the invariant: queues within their depths, sticky bits sorted and of sources that exist, fuses
within 64, the sample memory canonical (R29, R274, R282, R294, R296, R403, R405, R436). Where the rules leave a
choice its clauses state the model's, of the log entries 6, 7. -/
def Obligations.EveryStepKeepsTheInvariant : Prop :=
  -- One step
  (∀ s t : State, Inv s.chip → step s = .next t → Inv t.chip)

/-- No step unblows a fuse: the rollback counter never falls, and CUSTOMER_KEY never clears (R436). -/
def Obligations.FusesAreOnlyBlown : Prop :=
  -- One step
  (∀ s t : State, Inv s.chip → step s = .next t → OtpGrows s.chip.otp t.chip.otp)

/-- TICK alone moves time on: it counts one tick, and no other command changes the tick count (R8, R26). Where the
rules leave a choice its clauses state the model's, of the log entries 11. -/
def Obligations.OnlyTickTellsTime : Prop :=
  -- TICK
  (∀ (l : Latch) (s : State), Completes (.tick l) s fun t => t.clk.tick = s.chip.clk.tick + 1) ∧
  -- Every other command
  (∀ s t : State, step s = .next t → (∀ l : Latch, s.pending.head? ≠ some (.tick l)) →
      t.chip.clk.tick = s.chip.clk.tick)

/-- A record that finds the event queue full is not posted and is counted as dropped; one that finds room is appended
with the next sequence number (R305). -/
def Obligations.FullEventQueueDrops : Prop :=
  -- The queue is full
  (∀ (s : Chip) (cls : Nat) (body : List Byte) (done : Option (ReqRef × Status)), 256 ≤ s.events.queue.length →
    (postRecord s cls body done).events.queue = s.events.queue
      ∧ (postRecord s cls body done).events.nextSeq = s.events.nextSeq
      ∧ (postRecord s cls body done).events.droppedRead = min (2 ^ 32 - 1) (s.events.droppedRead + 1)
      ∧ (postRecord s cls body done).events.droppedWake = min (2 ^ 32 - 1) (s.events.droppedWake + 1)
      ∧ Only [.events] s (postRecord s cls body done)) ∧
  -- There is room
  (∀ (s : Chip) (cls : Nat) (body : List Byte) (done : Option (ReqRef × Status)), s.events.queue.length < 256 →
    ∃ r : EventRec, (postRecord s cls body done).events = { s.events with queue := s.events.queue ++ [r], nextSeq := s.events.nextSeq + 1#16 }
      ∧ r.seq = s.events.nextSeq ∧ r.cls = cls ∧ r.completion = done.isSome ∧
          Only [.events] s (postRecord s cls body done))

/-- A cause found while its STICKY bit is set merges into the set bit; a found cause sets the bit of a source that
exists, and no other (R404). -/
def Obligations.StickyBitsAbsorb : Prop :=
  -- The bit is set
  (∀ (s : Chip) (id : Nat), isSticky s id = true → setFault s id = s) ∧
  -- The bit is clear
  (∀ (s : Chip) (id i : Nat), sourceExists id = true →
    isSticky (setFault s id) i = (isSticky s i || i == id)) ∧
  -- A source that does not exist
  (∀ (s : Chip) (id : Nat), sourceExists id = false → setFault s id = s)

/-- A request that the Yard takes and that fails a shared check is answered with that check's status and data, and has
no other effect (R291, R292, R293, R310). -/
def Obligations.FailedChecksHaveNoEffect : Prop :=
  -- The first failing check
  (∀ (op : Nat) (row : OpRow) (body : Body) (rq : Request) (s : Chip) (st : Status) (data : List Byte),
    Taken op row rq s → firstChecks row rq s = some (.reply st data) →
    Replied rq st data s (serve op row body rq s) ∧ Only [portPart rq.port, .receipts] s (serve op row body rq s)) ∧
  -- LEN past the port's limit
  (∀ (row : OpRow) (rq : Request) (s : Chip), portLimit rq.port < rq.params.length →
      firstChecks row rq s = some (.reply .badLength [])) ∧
  -- Another version
  (∀ (row : OpRow) (rq : Request) (s : Chip), rq.params.length ≤ portLimit rq.port → row.anyVer = false →
      rq.ver ≠ (s.port rq.port).ver →
    firstChecks row rq s = some (.reply .version [0x10#8, 0x10#8])) ∧
  -- The checks against the epoch and the role
  (∀ (row : OpRow) (rq : Request) (s : Chip), rq.params.length ≤ portLimit rq.port →
      (row.anyVer = true ∨ rq.ver = (s.port rq.port).ver) →
    rq.tag ≠ 0#8 → row.lenLo ≤ rq.params.length → rq.params.length ≤ row.lenHi → rq.params.length % row.lenUnit = 0 →
    (rq.epoch ≠ 0xFFFF#16 → rq.epoch.toNat ≠ s.mode.epoch →
        firstChecks row rq s = some (.reply .roleChanged (epochData s)))
      ∧ ((rq.epoch = 0xFFFF#16 ∨ rq.epoch.toNat = s.mode.epoch) → row.activeOnly = true → s.mode.role = .standby →
          firstChecks row rq s = some (.reply .standby (standbyData s)))) ∧
  -- Tag 0
  (∀ (row : OpRow) (rq : Request) (s : Chip), rq.params.length ≤ portLimit rq.port →
      (row.anyVer = true ∨ rq.ver = (s.port rq.port).ver) →
    rq.tag = 0#8 → firstChecks row rq s = some (.reply .badParam [])) ∧
  -- The opcode's length
  (∀ (row : OpRow) (rq : Request) (s : Chip), rq.params.length ≤ portLimit rq.port →
      (row.anyVer = true ∨ rq.ver = (s.port rq.port).ver) →
    rq.tag ≠ 0#8 → (rq.params.length < row.lenLo ∨ row.lenHi < rq.params.length ∨ rq.params.length % row.lenUnit ≠ 0) →
    firstChecks row rq s = some (.reply .badLength [])) ∧
  -- Power-down and recovery
  (∀ (row : OpRow) (rq : Request) (s : Chip), rq.params.length ≤ portLimit rq.port →
      (row.anyVer = true ∨ rq.ver = (s.port rq.port).ver) →
    rq.tag ≠ 0#8 → row.lenLo ≤ rq.params.length → rq.params.length ≤ row.lenHi → rq.params.length % row.lenUnit = 0 →
    (rq.epoch = 0xFFFF#16 ∨ rq.epoch.toNat = s.mode.epoch) → (row.activeOnly = false ∨ s.mode.role ≠ .standby) →
    ((s.mode.stage = .powerDown ∧ row.inPowerDown = false) ∨ (s.fw.recovery = true ∧ row.inRecovery = false)) →
    firstChecks row rq s = some (.reply .notInMode (modeData s)))

/-- With FORCE_IN and FORCE_OUT both high member B gives up the active role and its FORCE_OUT falls; member A keeps the
role (R347). -/
def Obligations.RoleGivenWhenBothLinesHigh : Prop :=
  -- Member B
  (∀ s : Chip, s.strap = .b → isActive s = true → s.pair.me.forceIn = true → s.pair.me.forceOut = true →
    (forcedOff s).mode.role = .standby ∧ (forcedOff s).pair.me.forceOut = false) ∧
  -- Member A
  (∀ s : Chip, s.strap = .a → forcedOff s = s) ∧
  -- A line is low
  (∀ s : Chip, s.pair.me.forceIn = false ∨ s.pair.me.forceOut = false → forcedOff s = s)

/-- RAIL_CLEAR_LATCH, applied, takes a latched rail to OFF with INTENT_ON clear; on another rail it changes nothing and
is answered OK (R135, R433). -/
def Obligations.LatchClearsToOff : Prop :=
  -- The rail is latched
  (∀ (v : BoxView) (e : BoxEntry) (s : Chip),
    (s.railCfg? (field e.params 0 1)).isSome = true → svcOtherRail s (field e.params 0 1) = false →
    v.latched.contains (field e.params 0 1) = true →
    ((applyClearLatch v e s).rail (field e.params 0 1)).state = .off
      ∧ ((applyClearLatch v e s).rail (field e.params 0 1)).intentOn = false
      ∧ (applyClearLatch v e s).faults.sticky = s.faults.sticky) ∧
  -- The rail is not latched
  (∀ (v : BoxView) (e : BoxEntry) (s : Chip), (s.railCfg? (field e.params 0 1)).isSome = true →
    svcOtherRail s (field e.params 0 1) = false → v.latched.contains (field e.params 0 1) = false →
    applyClearLatch v e s = formReply s e.ref .ok (railData s (field e.params 0 1)))

/-- An OFF request in dead-stop ends it: no retry is left, ERRn is released, CAUSE is HOST_REQUEST, and the wake record
is kept (R495). -/
def Obligations.OffRequestEndsDeadStop : Prop :=
  -- WAKEN_LONG_LOW
  (∀ s : State, s.chip.mode.mode = .off → s.chip.ostler.deadStop = true →
    Completes .wakenLongLow s fun t =>
      t.ostler.deadStop = false ∧ t.ostler.retryDue = none ∧ t.ostler.record = s.chip.ostler.record
      ∧ offWord t = modeWord { cause := .hostRequest } ∧ t.mode = s.chip.mode
      ∧ (s.chip.ostler.resetting = false → (∀ i ∈ s.chip.faults.sticky, (maskOf s.chip i).testBit 4 = false) →
          t.faults.errn = false)
      ∧ Only [.ostler, .faults] s.chip t ∧ t.faults = { s.chip.faults with errn := t.faults.errn })

/-- At a boundary the mode moves only along R37: to a pending change's mode, into LOCKOUT, from HOLD to READY, from
BRIDGE to RUN, or at a blocked failover to READY (R27, R37, R43, R48, R50, R360). -/
def Obligations.BoundariesMoveTheModeAlongR37 : Prop :=
  -- MODE_COMMIT
  (∀ s t : State, exec .modeCommit s = .next t → t.chip.mode.mode ≠ s.chip.mode.mode →
    ∃ p, s.chip.mode.pend = some p ∧ p.since < s.chip.now ∧ t.chip.mode.mode = p.mode) ∧
  -- LOCKOUT_COMMIT
  (∀ s t : State, exec .lockoutCommit s = .next t → t.chip.mode.mode ≠ s.chip.mode.mode →
    s.chip.mode.lockout.isSome = true ∧ mayLock s.chip = true ∧ t.chip.mode.mode = .lockout) ∧
  -- HOLD_AUTO_READY
  (∀ s t : State, exec .holdAutoReady s = .next t → t.chip.mode.mode ≠ s.chip.mode.mode →
    s.chip.mode.mode = .hold ∧ s.chip.imgValid = true ∧ critical s.chip = false ∧ t.chip.mode.mode = .ready) ∧
  -- HANDOVER_COMPLETE
  (∀ s t : State, exec .handoverComplete s = .next t → t.chip.mode.mode ≠ s.chip.mode.mode →
    s.chip.mode.mode = .bridge ∧ s.chip.mode.stage = .handover ∧ t.chip.mode.mode = .run) ∧
  -- FAILOVER_BLOCKED_TAKEOVER
  (∀ s t : State, exec .failoverBlockedTakeover s = .next t → t.chip.mode.mode ≠ s.chip.mode.mode →
    isStandby s.chip = true ∧ t.chip.mode.mode = .ready)
end

