-- ==== Sys2Proof/Laws/Memory.lean ====
section
/-! SUPPORT. The measurement region: what a write changes, and that every write keeps the canonical form. -/

namespace Sys2Proof.Machine

theorem Memory.above_weaken {lo lo' : Nat} (h : lo' ≤ lo) : ∀ {m : Memory}, Memory.above lo m → Memory.above lo' m
  | [], _ => rfl
  | (a, b) :: m, k => by
    simp only [Memory.above, Bool.and_eq_true, decide_eq_true_eq] at k ⊢
    exact ⟨⟨by omega, k.1.2⟩, k.2⟩

theorem Memory.write_above (k : Nat) (v : Byte) : ∀ (lo : Nat) (m : Memory), lo ≤ k → Memory.above lo m →
    Memory.above lo (Memory.write m k v)
  | lo, [], h, _ => by
    unfold Memory.write
    split
    · rfl
    · rename_i hv
      simp [Memory.above, h, hv]
  | lo, (a, b) :: m, h, w => by
    simp only [Memory.above, Bool.and_eq_true, decide_eq_true_eq] at w
    have hb := w.1.2
    unfold Memory.write
    split
    · rename_i hk
      split
      · simp [Memory.above, w.1.1, hb, w.2]
      · rename_i hv
        simp only [Memory.above, Bool.and_eq_true, decide_eq_true_eq]
        exact ⟨⟨h, by simp [hv]⟩, ⟨⟨by omega, hb⟩, w.2⟩⟩
    · split
      · rename_i hk
        split
        · exact Memory.above_weaken (by omega) w.2
        · rename_i hv
          simp only [Memory.above, Bool.and_eq_true, decide_eq_true_eq]
          exact ⟨⟨h, by simp [hv]⟩, hk ▸ w.2⟩
      · simp only [Memory.above, Bool.and_eq_true, decide_eq_true_eq]
        exact ⟨⟨w.1.1, hb⟩, Memory.write_above k v (a + 1) m (by omega) w.2⟩

/-- A write keeps the canonical form. -/
theorem Memory.write_wf {m : Memory} (k : Nat) (v : Byte) (h : m.wf) : (m.write k v).wf :=
  Memory.write_above k v 0 m (Nat.zero_le k) h

theorem Memory.writeBytes_wf : ∀ (bs : List Byte) {m : Memory} (a : Nat), m.wf → (m.writeBytes a bs).wf
  | [], _, _, h => h
  | b :: bs, _, a, h => Memory.writeBytes_wf bs (a + 1) (Memory.write_wf a b h)

theorem Memory.writeWord_wf {m : Memory} (a w : Nat) (h : m.wf) : (m.writeWord a w).wf := Memory.writeBytes_wf _ a h

/-- Below the first listed address everything reads blank. -/
theorem Memory.read_below : ∀ {lo k : Nat} {m : Memory}, Memory.above lo m → k < lo → Memory.read m k = Memory.blank
  | _, _, [], _, _ => rfl
  | lo, k, (a, b) :: m, w, h => by
    simp only [Memory.above, Bool.and_eq_true, decide_eq_true_eq] at w
    have : a ≠ k := by omega
    simp [Memory.read, this, Memory.read_below w.2 (show k < a + 1 by omega)]

theorem Memory.read_write_above (k : Nat) (v : Byte) : ∀ (lo : Nat) (m : Memory), Memory.above lo m → ∀ j,
    Memory.read (Memory.write m k v) j = if j = k then v else Memory.read m j
  | lo, [], _, j => by
    unfold Memory.write
    by_cases hj : j = k
    · split <;> simp_all [Memory.read]
    · split <;> simp_all [Memory.read, Ne.symm hj]
  | lo, (a, b) :: m, w, j => by
    simp only [Memory.above, Bool.and_eq_true, decide_eq_true_eq] at w
    unfold Memory.write
    split
    · rename_i hk
      have below : k < a → Memory.read ((a, b) :: m) k = Memory.blank := fun _ => by
        have : a ≠ k := by omega
        simp [Memory.read, this, Memory.read_below w.2 (show k < a + 1 by omega)]
      split
      · rename_i hv
        by_cases hj : j = k
        · simp [hj, hv, below hk]
        · simp [hj]
      · by_cases hj : j = k
        · simp [hj, Memory.read]
        · simp [hj, Memory.read, Ne.symm hj]
    · split
      · rename_i hk
        split
        · rename_i hv
          by_cases hj : j = k
          · simp [hj, hv, Memory.read_below w.2 (show k < a + 1 by omega)]
          · have : a ≠ j := by omega
            simp [hj, Memory.read, this]
        · by_cases hj : j = k
          · simp [hj, Memory.read]
          · have : a ≠ j := by omega
            simp [hj, Memory.read, this, Ne.symm hj]
      · rename_i h1 h2
        have ih := Memory.read_write_above k v (a + 1) m w.2 j
        by_cases hj : j = k
        · have : a ≠ j := by omega
          simp [Memory.read, this, ih]
        · simp [Memory.read, ih, hj]

/-- Reading after a write of one byte. -/
theorem Memory.read_write {m : Memory} (k : Nat) (v : Byte) (h : m.wf) (j : Nat) :
    Memory.read (Memory.write m k v) j = if j = k then v else Memory.read m j :=
  Memory.read_write_above k v 0 m h j

/-- Reading after a write of consecutive bytes. -/
theorem Memory.read_writeBytes : ∀ (bs : List Byte) {m : Memory} (a j : Nat), m.wf →
    Memory.read (m.writeBytes a bs) j = if a ≤ j ∧ j < a + bs.length then bs.getD (j - a) 0#8 else Memory.read m j
  | [], m, a, j, _ => by
    have : ¬ (a ≤ j ∧ j < a) := by omega
    simp [Memory.writeBytes, this]
  | b :: bs, m, a, j, h => by
    have ih := Memory.read_writeBytes bs (a + 1) j (Memory.write_wf a b h)
    rw [Memory.writeBytes, ih, Memory.read_write a b h]
    by_cases hj : j = a
    · subst hj
      have n : ¬ (j + 1 ≤ j ∧ j < j + 1 + bs.length) := by omega
      simp [n]
    · by_cases h1 : a ≤ j ∧ j < a + (b :: bs).length
      · have h2 : a + 1 ≤ j ∧ j < a + 1 + bs.length := by simp at h1; omega
        have e : j - a = j - (a + 1) + 1 := by omega
        rw [if_pos h1, if_pos h2, e]; rfl
      · have h2 : ¬ (a + 1 ≤ j ∧ j < a + 1 + bs.length) := by simp at h1; omega
        rw [if_neg h1, if_neg h2, if_neg hj]

end Sys2Proof.Machine
end

