-- ==== Sys2Proof/Laws/Tab.lean ====
section
/-! SUPPORT. Tables read after they are written. -/

namespace Sys2Proof.Machine

@[simp] theorem tget_tset_self {α : Type} [Inhabited α] (l : List α) (n : Nat) (v : α) : tget (tset l n v) n = v := by
  induction l generalizing n with
  | nil => induction n with
    | zero => rfl
    | succ n ih => simpa [tget, tset] using ih
  | cons x xs ih =>
    cases n with
    | zero => rfl
    | succ n => simpa [tget, tset] using ih n

theorem tget_tset_other {α : Type} [Inhabited α] (l : List α) (n m : Nat) (v : α) (h : m ≠ n) :
    tget (tset l n v) m = tget l m := by
  induction l generalizing n m with
  | nil =>
    induction n generalizing m with
    | zero => cases m with
      | zero => exact absurd rfl h
      | succ m => simp [tget, tset]
    | succ n ih => cases m with
      | zero => simp [tget, tset]
      | succ m => simpa [tget, tset] using ih m (by omega)
  | cons x xs ih =>
    cases n with
    | zero => cases m with
      | zero => exact absurd rfl h
      | succ m => simp [tget, tset]
    | succ n => cases m with
      | zero => simp [tget, tset]
      | succ m => simpa [tget, tset] using ih n m (by omega)

@[simp] theorem tset_length {α : Type} [Inhabited α] (l : List α) (n : Nat) (v : α) :
    (tset l n v).length = max l.length (n + 1) := by
  induction l generalizing n with
  | nil => induction n with
    | zero => rfl
    | succ n ih => simp [tset, ih]
  | cons x xs ih =>
    cases n with
    | zero => simp [tset]
    | succ n => simp [tset, ih]

end Sys2Proof.Machine
end

