-- ==== Sys2Proof/Laws/Keeps.lean ====
section
/-! SUPPORT. What every operation of the block keeps, for the invariants over all commands: `Keeps s t` says that the
invariant goes over from `s` to `t`, that fuses are only blown, that no tick passes, and that the role epoch stays a legal
one. One lemma per operation, here for the combinators and the event queues; the others in `Keeps1` and the files after it. -/

namespace Sys2Proof.Machine

/-- From `s` to `t` the invariant is kept, fuses are only blown, no tick passes, and the role epoch stays a legal one. -/
structure Keeps (s t : Chip) : Prop where
  inv : Inv s → Inv t
  otp : Inv s → OtpGrows s.otp t.otp
  tick : t.clk.tick = s.clk.tick
  epoch : EpochOk s.mode.epoch s.pair.me.retEpoch → EpochOk t.mode.epoch t.pair.me.retEpoch

theorem OtpGrows.refl (a : Otp) : OtpGrows a a := ⟨Nat.le_refl _, id⟩

theorem OtpGrows.trans {a b c : Otp} (h : OtpGrows a b) (k : OtpGrows b c) : OtpGrows a c :=
  ⟨Nat.le_trans h.rollback k.rollback, k.key ∘ h.key⟩

theorem Keeps.refl (s : Chip) : Keeps s s := ⟨id, fun _ => .refl _, rfl, id⟩

theorem Keeps.trans {s t u : Chip} (h : Keeps s t) (k : Keeps t u) : Keeps s u := ⟨k.inv ∘ h.inv, fun b => (h.otp b).trans (k.otp (h.inv b)), k.tick.trans h.tick, k.epoch ∘ h.epoch⟩

theorem Keeps.same {x t : Chip} (h : t.events.queue = x.events.queue) (h1 : t.sketch.queue = x.sketch.queue)
    (h2 : t.book.queue = x.book.queue) (h3 : t.tw = x.tw) (h4 : t.spi = x.spi) (h5 : t.faults.sticky = x.faults.sticky)
    (h6 : t.otp = x.otp) (h7 : t.sram = x.sram) (h8 : t.clk.tick = x.clk.tick)
    (h9 : t.chQueue = x.chQueue) (h10 : t.railQueue = x.railQueue) (h11 : t.box = x.box)
    (h12 : t.ds = x.ds) (h13 : t.sense.slow = x.sense.slow) (h14 : t.caps = x.caps) (h15 : t.mode.epoch = x.mode.epoch)
    (h16 : t.pair.me.retEpoch = x.pair.me.retEpoch) : Keeps x t :=
  ⟨fun b => ⟨h ▸ b.events, h1 ▸ b.recorder, h2 ▸ b.energy,
    fun p => by cases p; exacts [(congrArg PortInv h3).mpr (b.ports .tw), (congrArg PortInv h4).mpr (b.ports .spi)],
    h5 ▸ b.sticky, h5 ▸ b.sources, h6 ▸ b.rollback, h7 ▸ b.sram,
    h9 ▸ h10 ▸ h11 ▸ h12 ▸ h13 ▸ h14 ▸ b.depths⟩, fun _ => h6 ▸ .refl _, h8, fun e => ⟨h15 ▸ e.now, h16 ▸ e.kept⟩⟩

theorem Keeps.lit {s x : Chip} {c_clk c_strap c_mode c_img c_imgValid c_chs c_chQueue c_rails c_railQueue c_terms c_bats c_batRecs c_hk c_sram c_seqs c_mons c_caps c_sense c_ds c_dsPoll c_throttled c_energy c_book c_rects c_links c_bursts c_meters c_meterBook c_ledger c_tw c_spi c_addr c_spiStatus c_receipts c_deadBelow c_events c_svc c_faults c_dogs c_retained c_pair c_net c_sketch c_box c_boxWait c_boxDue c_boxUsed c_boxSeen c_fw c_otp c_mram c_cfg c_ostler c_heat} (h : Keeps s x) (h0 : c_events.queue = x.events.queue) (h1 : c_sketch.queue = x.sketch.queue)
    (h2 : c_book.queue = x.book.queue) (h3 : c_tw = x.tw) (h4 : c_spi = x.spi) (h5 : c_faults.sticky = x.faults.sticky)
    (h6 : c_otp = x.otp) (h7 : c_sram = x.sram) (h8 : c_clk.tick = x.clk.tick)
    (h9 : c_chQueue = x.chQueue) (h10 : c_railQueue = x.railQueue) (h11 : c_box = x.box)
    (h12 : c_ds = x.ds) (h13 : c_sense.slow = x.sense.slow) (h14 : c_caps = x.caps) (h15 : c_mode.epoch = x.mode.epoch)
    (h16 : c_pair.me.retEpoch = x.pair.me.retEpoch) :
    Keeps s (Chip.mk c_clk c_strap c_mode c_img c_imgValid c_chs c_chQueue c_rails c_railQueue c_terms c_bats c_batRecs c_hk c_sram c_seqs c_mons c_caps c_sense c_ds c_dsPoll c_throttled c_energy c_book c_rects c_links c_bursts c_meters c_meterBook c_ledger c_tw c_spi c_addr c_spiStatus c_receipts c_deadBelow c_events c_svc c_faults c_dogs c_retained c_pair c_net c_sketch c_box c_boxWait c_boxDue c_boxUsed c_boxSeen c_fw c_otp c_mram c_cfg c_ostler c_heat) := h.trans (.same h0 h1 h2 h3 h4 h5 h6 h7 h8 h9 h10 h11 h12 h13 h14 h15 h16)

theorem Keeps.ite {s y z : Chip} {c : Prop} [Decidable c] (h : Keeps s y) (k : Keeps s z) : Keeps s (if c then y else z) := by
  split <;> assumption

theorem Keeps.iteSelf {s x y : Chip} {c : Prop} [Decidable c] (h : Keeps x y) (k : Keeps s x) : Keeps s (if c then y else x) := by
  split
  · exact k.trans h
  · exact k

theorem Keeps.bind {s x t : Chip} (k : Keeps s x → Keeps s t) (h : Keeps s x) : Keeps s t := k h

theorem Keeps.letC {s e : Chip} {b : Chip → Chip} (h : Keeps s e) (k : ∀ x, Keeps s x → Keeps s (b x)) : Keeps s (let x := e; b x) := k e h

theorem Keeps.letAny {α : Sort _} {s : Chip} {e : α} {b : α → Chip} (k : ∀ x, Keeps s (b x)) : Keeps s (let x := e; b x) := k e

theorem Keeps.foldl {α : Type} {s x : Chip} {g : Chip → α → Chip} {l : List α} (k : ∀ y a, Keeps y (g y a)) (h : Keeps s x) : Keeps s (l.foldl g x) := by
  induction l generalizing x with
  | nil => exact h
  | cons a l ih => exact ih (h.trans (k x a))

theorem Keeps.forEach {s x : Chip} {g : Nat → Chip → Chip} {n : Nat} (k : ∀ a y, Keeps y (g a y)) (h : Keeps s x) : Keeps s (forEach n g x) :=
  Keeps.foldl (fun y a => k a y) h

theorem Keeps.foldProj {α β : Type} {s : Chip} (p : β → Chip) {g : β → α → β} (k : ∀ b a, Keeps (p b) (p (g b a)))
    {l : List α} {b : β} (h : Keeps s (p b)) : Keeps s (p (l.foldl g b)) := by
  induction l generalizing b with
  | nil => exact h
  | cons a l ih => exact ih (h.trans (k b a))

theorem Keeps.foldMem {α : Type} {s x : Chip} {g : Chip → α → Chip} {l : List α} (k : ∀ a ∈ l, ∀ y, Keeps y (g y a)) (h : Keeps s x) :
    Keeps s (l.foldl g x) := by
  induction l generalizing x with
  | nil => exact h
  | cons a l ih => exact ih (fun b hb => k b (.tail _ hb)) (h.trans (k a (.head _) x))

theorem Keeps.optMap {α : Type} {s y : Chip} {o : Option α} {g : α → Chip} (k : ∀ a, Keeps y (g a)) (h : Keeps s y) : Keeps s ((o.map g).getD y) := by
  cases o
  · exact h
  · exact h.trans (k _)

theorem PortInv.of (p q : PortState) (h : PortInv p) (h1 : q.queue.length ≤ p.queue.length)
    (h2 : q.replies.length ≤ p.replies.length) : PortInv q := ⟨h1.trans h.queue, h2.trans h.replies⟩

theorem Keeps.port {z s : Chip} (p : Port) (q : PortState) (hz : Keeps z s)
    (h : PortInv (s.port p) → PortInv q) : Keeps z (s.setPort p q) := by
  refine hz.trans ⟨fun b => ?_, ?_, ?_, ?_⟩
  · cases p
    · exact ⟨b.events, b.recorder, b.energy, fun p => by cases p; exacts [h (b.ports .tw), b.ports .spi], b.sticky, b.sources,
        b.rollback, b.sram, b.depths⟩
    · exact ⟨b.events, b.recorder, b.energy, fun p => by cases p; exacts [b.ports .tw, h (b.ports .spi)], b.sticky, b.sources,
        b.rollback, b.sram, b.depths⟩
  · cases p <;> exact fun _ => .refl _
  · cases p <;> rfl
  · cases p <;> exact id

theorem Keeps.modPort {z s : Chip} (p : Port) (f : PortState → PortState) (hz : Keeps z s)
    (h : ∀ q, PortInv q → PortInv (f q)) : Keeps z (s.modPort p f) := .port p _ hz (h _)

theorem postRecord_keeps {z} (s cls body done) (hz : Keeps z s) : Keeps z (postRecord s cls body done) := by
  refine hz.trans ?_
  unfold postRecord
  dsimp only
  split
  · exact ⟨fun b => ⟨by simp; omega, b.recorder, b.energy, b.ports, b.sticky, b.sources, b.rollback, b.sram, b.depths⟩, fun _ => .refl _, rfl, id⟩
  · exact .lit (.refl _) rfl rfl rfl rfl rfl rfl rfl rfl rfl rfl rfl rfl rfl rfl rfl rfl rfl

theorem post_keeps {z} (s cls body done) (hz : Keeps z s) : Keeps z (post s cls body done) := by
  refine hz.trans ?_
  unfold post
  split
  · exact postRecord_keeps _ _ _ _ (.refl _)
  · exact Keeps.foldl (fun y a => postRecord_keeps _ _ _ _ (.refl _)) (.refl _)

theorem recPost_keeps {z} (s k v c d) (hz : Keeps z s) : Keeps z (recPost s k v c d) := by
  refine hz.trans ?_
  unfold recPost
  dsimp only
  split
  · exact .lit (.refl _) rfl rfl rfl rfl rfl rfl rfl rfl rfl rfl rfl rfl rfl rfl rfl rfl rfl
  split
  · exact .lit (.refl _) rfl rfl rfl rfl rfl rfl rfl rfl rfl rfl rfl rfl rfl rfl rfl rfl rfl
  · exact ⟨fun b => ⟨b.events, by simp; omega, b.energy, b.ports, b.sticky, b.sources, b.rollback, b.sram, b.depths⟩, fun _ => .refl _, rfl, id⟩


theorem bus_depth {l : List DsBus} (h : ∀ k, (tget l k).queue.length ≤ 32) (k : Nat) (b : DsBus) (hb : b.queue.length ≤ 32) (j : Nat) :
    (tget (tset l k b) j).queue.length ≤ 32 := by
  by_cases e : j = k
  · subst e; simpa using hb
  · rw [tget_tset_other _ _ _ _ e]; exact h j

theorem timer_depth {l : List CapTimer} (h : ∀ k, (tget l k).fifo.length ≤ 8) (k : Nat) (b : CapTimer) (hb : b.fifo.length ≤ 8) (j : Nat) :
    (tget (tset l k b) j).fifo.length ≤ 8 := by
  by_cases e : j = k
  · subst e; simpa using hb
  · rw [tget_tset_other _ _ _ _ e]; exact h j

/-- Only the depths of the queues behind the ports are at stake. -/

theorem Keeps.depths {z x t : Chip} (hz : Keeps z x) (h : t.events.queue = x.events.queue) (h1 : t.sketch.queue = x.sketch.queue)
    (h2 : t.book.queue = x.book.queue) (h3 : t.tw = x.tw) (h4 : t.spi = x.spi) (h5 : t.faults.sticky = x.faults.sticky)
    (h6 : t.otp = x.otp) (h7 : t.sram = x.sram) (h8 : t.clk.tick = x.clk.tick) (h15 : t.mode.epoch = x.mode.epoch)
    (h16 : t.pair.me.retEpoch = x.pair.me.retEpoch)
    (k : Depths x.chQueue x.railQueue x.box x.ds x.sense.slow x.caps → Depths t.chQueue t.railQueue t.box t.ds t.sense.slow t.caps) :
    Keeps z t := hz.trans
  ⟨fun b => ⟨h ▸ b.events, h1 ▸ b.recorder, h2 ▸ b.energy,
    fun p => by cases p; exacts [(congrArg PortInv h3).mpr (b.ports .tw), (congrArg PortInv h4).mpr (b.ports .spi)],
    h5 ▸ b.sticky, h5 ▸ b.sources, h6 ▸ b.rollback, h7 ▸ b.sram, k b.depths⟩, fun _ => h6 ▸ .refl _, h8, fun e => ⟨h15 ▸ e.now, h16 ▸ e.kept⟩⟩

end Sys2Proof.Machine
end

