-- ==== Sys2Proof/Laws/Keeps1.lean ====
section
/-! SUPPORT. What the operations of Tab, Ops, PowerOps, RailLoop, Rails, LoadLink, Energy keep. -/

namespace Sys2Proof.Machine

theorem Chip_drawn_keeps {z : Chip} (s : Chip) (hz : Keeps z s) : Keeps z (Chip.drawn s) := by
  refine hz.trans ?_
  clear hz
  unfold Chip.drawn
  repeat' first
    | with_reducible assumption
    | (extract_lets +onlyGivenNames x; subst x)
    | with_reducible apply Keeps.refl
    | fail_if_no_progress (with_reducible refine Keeps.lit ?_ rfl rfl rfl rfl rfl rfl rfl rfl rfl rfl rfl rfl rfl rfl rfl rfl rfl)

theorem Chip_setCh_keeps {z : Chip} (s : Chip) (n : Nat) (c : Ch) (hz : Keeps z s) : Keeps z (Chip.setCh s n c) := by
  refine hz.trans ?_
  clear hz
  unfold Chip.setCh
  repeat' first
    | with_reducible assumption
    | with_reducible apply Keeps.refl
    | fail_if_no_progress (with_reducible refine Keeps.lit ?_ rfl rfl rfl rfl rfl rfl rfl rfl rfl rfl rfl rfl rfl rfl rfl rfl rfl)

theorem Chip_modCh_keeps {z : Chip} (s : Chip) (n : Nat) (f : Ch → Ch) (hz : Keeps z s) : Keeps z (Chip.modCh s n f) := by
  refine hz.trans ?_
  clear hz
  unfold Chip.modCh
  repeat' first
    | with_reducible apply Chip_setCh_keeps
    | with_reducible assumption
    | with_reducible apply Keeps.refl

theorem Chip_setRail_keeps {z : Chip} (s : Chip) (n : Nat) (r : Rail) (hz : Keeps z s) : Keeps z (Chip.setRail s n r) := by
  refine hz.trans ?_
  clear hz
  unfold Chip.setRail
  repeat' first
    | with_reducible assumption
    | with_reducible apply Keeps.refl
    | fail_if_no_progress (with_reducible refine Keeps.lit ?_ rfl rfl rfl rfl rfl rfl rfl rfl rfl rfl rfl rfl rfl rfl rfl rfl rfl)

theorem Chip_modRail_keeps {z : Chip} (s : Chip) (n : Nat) (f : Rail → Rail) (hz : Keeps z s) : Keeps z (Chip.modRail s n f) := by
  refine hz.trans ?_
  clear hz
  unfold Chip.modRail
  repeat' first
    | with_reducible apply Chip_setRail_keeps
    | with_reducible assumption
    | with_reducible apply Keeps.refl

theorem Chip_setRect_keeps {z : Chip} (s : Chip) (n : Nat) (r : Rect) (hz : Keeps z s) : Keeps z (Chip.setRect s n r) := by
  refine hz.trans ?_
  clear hz
  unfold Chip.setRect
  repeat' first
    | with_reducible assumption
    | with_reducible apply Keeps.refl
    | fail_if_no_progress (with_reducible refine Keeps.lit ?_ rfl rfl rfl rfl rfl rfl rfl rfl rfl rfl rfl rfl rfl rfl rfl rfl rfl)

theorem Chip_modRect_keeps {z : Chip} (s : Chip) (n : Nat) (f : Rect → Rect) (hz : Keeps z s) : Keeps z (Chip.modRect s n f) := by
  refine hz.trans ?_
  clear hz
  unfold Chip.modRect
  repeat' first
    | with_reducible apply Chip_setRect_keeps
    | with_reducible assumption
    | with_reducible apply Keeps.refl

theorem Chip_setLink_keeps {z : Chip} (s : Chip) (n : Nat) (l : Link) (hz : Keeps z s) : Keeps z (Chip.setLink s n l) := by
  refine hz.trans ?_
  clear hz
  unfold Chip.setLink
  repeat' first
    | with_reducible assumption
    | with_reducible apply Keeps.refl
    | fail_if_no_progress (with_reducible refine Keeps.lit ?_ rfl rfl rfl rfl rfl rfl rfl rfl rfl rfl rfl rfl rfl rfl rfl rfl rfl)

theorem Chip_modLink_keeps {z : Chip} (s : Chip) (n : Nat) (f : Link → Link) (hz : Keeps z s) : Keeps z (Chip.modLink s n f) := by
  refine hz.trans ?_
  clear hz
  unfold Chip.modLink
  repeat' first
    | with_reducible apply Chip_setLink_keeps
    | with_reducible assumption
    | with_reducible apply Keeps.refl

theorem Chip_setBurst_keeps {z : Chip} (s : Chip) (n : Nat) (b : Burst) (hz : Keeps z s) : Keeps z (Chip.setBurst s n b) := by
  refine hz.trans ?_
  clear hz
  unfold Chip.setBurst
  repeat' first
    | with_reducible assumption
    | with_reducible apply Keeps.refl
    | fail_if_no_progress (with_reducible refine Keeps.lit ?_ rfl rfl rfl rfl rfl rfl rfl rfl rfl rfl rfl rfl rfl rfl rfl rfl rfl)

theorem Chip_modBurst_keeps {z : Chip} (s : Chip) (n : Nat) (f : Burst → Burst) (hz : Keeps z s) : Keeps z (Chip.modBurst s n f) := by
  refine hz.trans ?_
  clear hz
  unfold Chip.modBurst
  repeat' first
    | with_reducible apply Chip_setBurst_keeps
    | with_reducible assumption
    | with_reducible apply Keeps.refl

theorem Chip_setBat_keeps {z : Chip} (s : Chip) (j : Nat) (b : Bat) (hz : Keeps z s) : Keeps z (Chip.setBat s j b) := by
  refine hz.trans ?_
  clear hz
  unfold Chip.setBat
  repeat' first
    | with_reducible assumption
    | with_reducible apply Keeps.refl
    | fail_if_no_progress (with_reducible refine Keeps.lit ?_ rfl rfl rfl rfl rfl rfl rfl rfl rfl rfl rfl rfl rfl rfl rfl rfl rfl)

theorem Chip_modBat_keeps {z : Chip} (s : Chip) (j : Nat) (f : Bat → Bat) (hz : Keeps z s) : Keeps z (Chip.modBat s j f) := by
  refine hz.trans ?_
  clear hz
  unfold Chip.modBat
  repeat' first
    | with_reducible apply Chip_setBat_keeps
    | with_reducible assumption
    | with_reducible apply Keeps.refl

theorem clearFlags_keeps {z : Chip} (s : Chip) (p : Port) (hz : Keeps z s) : Keeps z (clearFlags s p) := by
  unfold clearFlags
  exact .modPort _ _ hz fun q h => ⟨h.queue, h.replies⟩

theorem formReply_keeps {z : Chip} (s : Chip) (r : ReqRef) (st : Status) (data : List Byte) (more : Bool) (hz : Keeps z s) : Keeps z (formReply s r st data more) := by
  unfold formReply
  split
  · apply clearFlags_keeps
    apply Keeps.modPort _ _ hz
    exact fun q h => ⟨h.queue, by simpa using h.replies⟩
  · exact hz

theorem takeRequest_keeps {z : Chip} (s : Chip) (p : Port) (tag : Byte) (bytes : List Byte) (hz : Keeps z s)
    (hr : (s.port p).replies.length < 8) : Keeps z (takeRequest s p tag bytes).2 := by
  unfold takeRequest
  refine .lit (Keeps.port p _ hz fun h => ⟨?_, ?_⟩) rfl rfl rfl rfl rfl rfl rfl rfl rfl rfl rfl rfl rfl rfl rfl rfl rfl
  · show (if _ then _ else _ : List (List Byte)).length ≤ 8
    split
    · simpa using h.queue.trans (by omega)
    · exact h.queue
  · simp; omega

theorem acceptFirst_keeps {z : Chip} (r : ReqRef) (data : Chip → List Byte) (act : Chip → Chip) (s : Chip)
    (ha : ∀ x, Keeps x (act x)) (hz : Keeps z s) : Keeps z (acceptFirst r data act s).2 :=
  (formReply_keeps s r .accepted (data (act s)) false hz).trans (ha _)

theorem answer_keeps {z : Chip} (r : ReqRef) (a : Ans × Chip) (hz : Keeps z a.2) : Keeps z (answer r a) := by
  unfold answer
  split
  · exact formReply_keeps _ _ _ _ _ hz
  · exact hz

theorem serve_keeps {z : Chip} (opcode : Nat) (row : OpRow) (body : Body) (rq : Request) (s : Chip)
    (hb : ∀ x, Keeps x (body rq (takeRequest s rq.port rq.tag (requestBytes opcode rq)).1 x).2) (hz : Keeps z s) :
    Keeps z (serve opcode row body rq s) := by
  unfold serve
  split
  · rename_i h
    have hr : (s.port rq.port).replies.length < 8 := by simp [takes] at h; exact h.1.1.1.1.1.2
    have ht := takeRequest_keeps s rq.port rq.tag (requestBytes opcode rq) hz hr
    dsimp only
    split
    · exact answer_keeps _ _ ht
    · exact answer_keeps _ _ (ht.trans (hb _))
  · exact hz

theorem setLive_keeps {z : Chip} (s : Chip) (id : Nat) (on : Bool) (hz : Keeps z s) : Keeps z (setLive s id on) := by
  refine hz.trans ?_
  clear hz
  unfold setLive
  repeat' first
    | with_reducible assumption
    | (extract_lets +onlyGivenNames x; subst x)
    | with_reducible apply Keeps.ite
    | with_reducible apply Keeps.refl
    | fail_if_no_progress (with_reducible refine Keeps.lit ?_ rfl rfl rfl rfl rfl rfl rfl rfl rfl rfl rfl rfl rfl rfl rfl rfl rfl)

theorem addTrigger_keeps {z : Chip} (s : Chip) (d : Nat) (cause : TrigCause) (hz : Keeps z s) : Keeps z (addTrigger s d cause) := by
  refine hz.trans ?_
  clear hz
  unfold addTrigger
  repeat' first
    | with_reducible assumption
    | fail_if_no_progress beta_reduce
    | (extract_lets +onlyGivenNames x; subst x)
    | with_reducible apply Keeps.ite
    | with_reducible apply Keeps.refl
    | fail_if_no_progress (with_reducible refine Keeps.lit ?_ rfl rfl rfl rfl rfl rfl rfl rfl rfl rfl rfl rfl rfl rfl rfl rfl rfl)

theorem trigWhere_keeps {z : Chip} (s : Chip) (f : CapDef → Bool) (cause : TrigCause) (hz : Keeps z s) : Keeps z (trigWhere s f cause) := by
  refine hz.trans ?_
  clear hz
  unfold trigWhere
  repeat' first
    | with_reducible apply addTrigger_keeps
    | with_reducible assumption
    | (with_reducible apply Keeps.foldl; intro _ _)
    | fail_if_no_progress beta_reduce
    | (extract_lets +onlyGivenNames x; subst x)
    | with_reducible apply Keeps.ite
    | with_reducible apply Keeps.refl

theorem trigTimer_keeps {z : Chip} (s : Chip) (t : Fin 16) (hz : Keeps z s) : Keeps z (trigTimer s t) := by
  refine hz.trans ?_
  clear hz
  unfold trigTimer
  repeat' first
    | with_reducible apply trigWhere_keeps
    | with_reducible assumption
    | fail_if_no_progress beta_reduce
    | with_reducible apply Keeps.refl

theorem startFreeze_keeps {z : Chip} (s : Chip) (cause source : Nat) (hz : Keeps z s) : Keeps z (startFreeze s cause source) := by
  refine hz.trans ?_
  clear hz
  unfold startFreeze
  repeat' first
    | with_reducible assumption
    | fail_if_no_progress beta_reduce
    | (extract_lets +onlyGivenNames x; subst x)
    | with_reducible apply Keeps.ite
    | with_reducible apply Keeps.refl
    | fail_if_no_progress (with_reducible refine Keeps.lit ?_ rfl rfl rfl rfl rfl rfl rfl rfl rfl rfl rfl rfl rfl rfl rfl rfl rfl)

theorem trigFault_keeps {z : Chip} (s : Chip) (id sev : Nat) (hz : Keeps z s) : Keeps z (trigFault s id sev) := by
  refine hz.trans ?_
  clear hz
  unfold trigFault
  repeat' first
    | with_reducible apply trigWhere_keeps
    | with_reducible assumption
    | (extract_lets +onlyGivenNames x; refine Keeps.bind (x := x) (fun hx => ?_) ?_; rotate_left; subst x; rotate_right; clear_value x)
    | with_reducible apply Keeps.ite
    | with_reducible apply Keeps.refl

theorem recordSet_keeps {z : Chip} (s : Chip) (id sev mask : Nat) (hz : Keeps z s) : Keeps z (recordSet s id sev mask) := by
  refine hz.trans ?_
  clear hz
  unfold recordSet
  repeat' first
    | with_reducible apply trigFault_keeps
    | with_reducible apply startFreeze_keeps
    | with_reducible apply recPost_keeps
    | with_reducible assumption
    | with_reducible apply Keeps.ite
    | with_reducible apply Keeps.refl

theorem insertUp_mem (n i : Nat) (l : List Nat) : i ∈ insertUp n l ↔ i = n ∨ i ∈ l := by
  induction l with
  | nil => simp [insertUp]
  | cons x xs ih =>
    unfold insertUp
    split
    · simp
    split
    · simp_all
    · simp [ih]; tauto

theorem insertUp_rising (n : Nat) (l : List Nat) (h : l.Pairwise (· < ·)) : (insertUp n l).Pairwise (· < ·) := by
  induction l with
  | nil => simp [insertUp]
  | cons x xs ih =>
    rw [List.pairwise_cons] at h
    unfold insertUp
    split
    · rw [List.pairwise_cons, List.pairwise_cons]
      refine ⟨fun a ha => ?_, h⟩
      rcases List.mem_cons.mp ha with rfl | ha
      · assumption
      · have := h.1 a ha; omega
    split
    · rw [List.pairwise_cons]; exact h
    · rw [List.pairwise_cons]
      refine ⟨fun a ha => ?_, ih h.2⟩
      rcases (insertUp_mem _ _ _).mp ha with rfl | ha
      · omega
      · exact h.1 a ha

theorem stick_keeps (s : Chip) (id : Nat) (l : List Nat) (h : sourceExists id = true) :
    Keeps s { s with faults := { s.faults with sticky := insertUp id s.faults.sticky, fired := l } } :=
  ⟨fun b => ⟨b.events, b.recorder, b.energy, b.ports, insertUp_rising _ _ b.sticky, fun i hi => by
    rcases (insertUp_mem _ _ _).mp hi with rfl | hi
    · exact h
    · exact b.sources i hi, b.rollback, b.sram, b.depths⟩, fun _ => .refl _, rfl, fun e => e⟩

theorem setFault_keeps {z : Chip} (s : Chip) (id : Nat) (hz : Keeps z s) : Keeps z (setFault s id) := by
  refine hz.trans ?_
  clear hz
  unfold setFault
  split
  · exact .refl _
  · rename_i h
    have h := stick_keeps s id (s.faults.fired ++ [id]) (by simp at h; exact h.1)
    repeat' first
      | with_reducible apply recordSet_keeps
      | with_reducible apply post_keeps
      | with_reducible assumption
                | (extract_lets +onlyGivenNames x; refine Keeps.bind (x := x) (fun hx => ?_) ?_; rotate_left; subst x; rotate_right; clear_value x)
      | (extract_lets +onlyGivenNames x; subst x)
      | with_reducible apply Keeps.ite
      | with_reducible apply Keeps.refl
      | fail_if_no_progress (with_reducible refine Keeps.lit ?_ rfl rfl rfl rfl rfl rfl rfl rfl rfl rfl rfl rfl rfl rfl rfl rfl rfl)

theorem evalFault_keeps {z : Chip} (s : Chip) (id : Nat) (on : Bool) (hz : Keeps z s) : Keeps z (evalFault s id on) := by
  refine hz.trans ?_
  clear hz
  unfold evalFault
  repeat' first
    | with_reducible apply setFault_keeps
    | with_reducible apply setLive_keeps
    | with_reducible assumption
    | (extract_lets +onlyGivenNames x; refine Keeps.bind (x := x) (fun hx => ?_) ?_; rotate_left; subst x; rotate_right; clear_value x)
    | with_reducible apply Keeps.ite
    | with_reducible apply Keeps.refl

theorem setRailState_keeps {z : Chip} (s : Chip) (k : Nat) (st : RailState) (done : List (ReqRef × Status)) (hz : Keeps z s) : Keeps z (setRailState s k st done) := by
  refine hz.trans ?_
  clear hz
  unfold setRailState
  repeat' first
    | with_reducible apply recPost_keeps
    | with_reducible apply post_keeps
    | with_reducible apply Chip_modRail_keeps
    | with_reducible assumption
    | fail_if_no_progress beta_reduce
    | (extract_lets +onlyGivenNames x; refine Keeps.bind (x := x) (fun hx => ?_) ?_; rotate_left; subst x; rotate_right; clear_value x)
    | with_reducible apply Keeps.ite
    | with_reducible apply Keeps.refl

theorem setLimit_keeps {z : Chip} (s : Chip) (k : Nat) (on : Bool) (hz : Keeps z s) : Keeps z (setLimit s k on) := by
  refine hz.trans ?_
  clear hz
  unfold setLimit
  repeat' first
    | with_reducible apply post_keeps
    | with_reducible apply Chip_modRail_keeps
    | with_reducible assumption
    | fail_if_no_progress beta_reduce
    | (extract_lets +onlyGivenNames x; refine Keeps.bind (x := x) (fun hx => ?_) ?_; rotate_left; subst x; rotate_right; clear_value x)
    | with_reducible apply Keeps.ite
    | with_reducible apply Keeps.refl

theorem lanesMid_keeps {z : Chip} (s : Chip) (k : Nat) (hz : Keeps z s) : Keeps z (lanesMid s k) := by
  refine hz.trans ?_
  clear hz
  unfold lanesMid
  repeat' first
    | with_reducible apply setLimit_keeps
    | with_reducible apply Chip_modRail_keeps
    | with_reducible assumption
    | fail_if_no_progress beta_reduce
    | with_reducible apply Keeps.refl

theorem railStop_keeps {z : Chip} (s : Chip) (k : Nat) (cause : RailStop) (st : RailState) (hz : Keeps z s) : Keeps z (railStop s k cause st) := by
  refine hz.trans ?_
  clear hz
  unfold railStop
  repeat' first
    | with_reducible apply lanesMid_keeps
    | with_reducible apply setRailState_keeps
    | with_reducible apply Chip_modRail_keeps
    | with_reducible assumption
    | fail_if_no_progress beta_reduce
    | with_reducible apply Keeps.refl

theorem railFeedOpen_keeps {z : Chip} (s : Chip) (k : Nat) (hz : Keeps z s) : Keeps z (railFeedOpen s k) := by
  refine hz.trans ?_
  clear hz
  unfold railFeedOpen
  repeat' first
    | with_reducible apply railStop_keeps
    | with_reducible assumption
    | (extract_lets +onlyGivenNames x; subst x)
    | with_reducible apply Keeps.ite
    | with_reducible apply Keeps.refl

theorem railKill_keeps {z : Chip} (s : Chip) (k : Nat) (cause : RailStop) (hz : Keeps z s) : Keeps z (railKill s k cause) := by
  refine hz.trans ?_
  clear hz
  unfold railKill
  repeat' first
    | with_reducible apply railStop_keeps
    | with_reducible apply setRailState_keeps
    | with_reducible apply Chip_modRail_keeps
    | with_reducible assumption
    | fail_if_no_progress beta_reduce
    | (extract_lets +onlyGivenNames x; refine Keeps.bind (x := x) (fun hx => ?_) ?_; rotate_left; subst x; rotate_right; clear_value x)
    | (extract_lets +onlyGivenNames x; subst x)
    | with_reducible apply Keeps.ite
    | with_reducible apply Keeps.refl
    | fail_if_no_progress (with_reducible refine Keeps.lit ?_ rfl rfl rfl rfl rfl rfl rfl rfl rfl rfl rfl rfl rfl rfl rfl rfl rfl)
    | split

theorem postLink_keeps {z : Chip} (s : Chip) (n kind : Nat) (hz : Keeps z s) : Keeps z (postLink s n kind) := by
  refine hz.trans ?_
  clear hz
  unfold postLink
  repeat' first
    | with_reducible apply post_keeps
    | with_reducible assumption
    | with_reducible apply Keeps.refl

theorem endGrant_keeps {z : Chip} (s : Chip) (n : Nat) (g : Grant) (why : Refuse) (hz : Keeps z s) : Keeps z (endGrant s n g why) := by
  refine hz.trans ?_
  clear hz
  unfold endGrant
  repeat' first
    | with_reducible apply postLink_keeps
    | with_reducible apply Chip_modBurst_keeps
    | with_reducible apply Chip_modLink_keeps
    | with_reducible assumption
    | fail_if_no_progress beta_reduce
    | with_reducible apply Keeps.ite
    | with_reducible apply Keeps.refl

theorem refuseBurst_keeps {z : Chip} (s : Chip) (n : Nat) (why : Refuse) (hz : Keeps z s) : Keeps z (refuseBurst s n why) := by
  refine hz.trans ?_
  clear hz
  unfold refuseBurst
  repeat' first
    | with_reducible apply postLink_keeps
    | with_reducible apply Chip_modBurst_keeps
    | with_reducible apply Chip_modLink_keeps
    | with_reducible assumption
    | fail_if_no_progress beta_reduce
    | (extract_lets +onlyGivenNames x; refine Keeps.bind (x := x) (fun hx => ?_) ?_; rotate_left; subst x; rotate_right; clear_value x)
    | with_reducible apply Keeps.ite
    | with_reducible apply Keeps.refl

theorem withdrawFeed_keeps {z : Chip} (s : Chip) (n : Nat) (hz : Keeps z s) : Keeps z (withdrawFeed s n) := by
  refine hz.trans ?_
  clear hz
  unfold withdrawFeed
  repeat' first
    | with_reducible apply endGrant_keeps
    | with_reducible apply Chip_modBurst_keeps
    | with_reducible assumption
    | (with_reducible apply Keeps.forEach; intro _ _)
    | fail_if_no_progress beta_reduce
    | with_reducible apply Keeps.ite
    | with_reducible apply Keeps.refl

theorem leftOn_keeps {z : Chip} (s : Chip) (n : Nat) (hz : Keeps z s) : Keeps z (leftOn s n) := by
  refine hz.trans ?_
  clear hz
  unfold leftOn
  repeat' first
    | with_reducible apply withdrawFeed_keeps
    | with_reducible apply railFeedOpen_keeps
    | with_reducible assumption
    | fail_if_no_progress beta_reduce
    | with_reducible apply Keeps.refl
    | fail_if_no_progress (with_reducible refine Keeps.lit ?_ rfl rfl rfl rfl rfl rfl rfl rfl rfl rfl rfl rfl rfl rfl rfl rfl rfl)
    | split

theorem setChState_keeps {z : Chip} (s : Chip) (n : Nat) (st : ChState) (done : List (ReqRef × Status)) (hz : Keeps z s) : Keeps z (setChState s n st done) := by
  refine hz.trans ?_
  clear hz
  unfold setChState
  repeat' first
    | with_reducible apply leftOn_keeps
    | with_reducible apply post_keeps
    | with_reducible apply Chip_modCh_keeps
    | with_reducible assumption
    | fail_if_no_progress beta_reduce
    | (extract_lets +onlyGivenNames x; refine Keeps.bind (x := x) (fun hx => ?_) ?_; rotate_left; subst x; rotate_right; clear_value x)
    | (extract_lets +onlyGivenNames x; subst x)
    | with_reducible apply Keeps.ite
    | with_reducible apply Keeps.refl

theorem driversOff_keeps {z : Chip} (s : Chip) (n : Nat) (p : Pull) (hz : Keeps z s) : Keeps z (driversOff s n p) := by
  refine hz.trans ?_
  clear hz
  unfold driversOff
  repeat' first
    | with_reducible apply Chip_modCh_keeps
    | with_reducible assumption
    | (with_reducible apply Keeps.foldl; intro _ _)
    | fail_if_no_progress beta_reduce
    | with_reducible apply Keeps.refl

theorem chanStopRecord_keeps {z : Chip} (s : Chip) (n : Nat) (cause : ChStop) (hz : Keeps z s) : Keeps z (chanStopRecord s n cause) := by
  refine hz.trans ?_
  clear hz
  unfold chanStopRecord
  repeat' first
    | with_reducible apply recPost_keeps
    | with_reducible assumption
    | with_reducible apply Keeps.ite
    | with_reducible apply Keeps.refl

theorem chStop_keeps {z : Chip} (s : Chip) (n : Nat) (cause : ChStop) (p : Pull) (st : ChState) (status : Status) (hz : Keeps z s) : Keeps z (chStop s n cause p st status) := by
  refine hz.trans ?_
  clear hz
  unfold chStop
  repeat' first
    | with_reducible apply chanStopRecord_keeps
    | with_reducible apply driversOff_keeps
    | with_reducible apply setChState_keeps
    | with_reducible apply Chip_modCh_keeps
    | with_reducible assumption
    | fail_if_no_progress beta_reduce
    | with_reducible apply Keeps.ite
    | with_reducible apply Keeps.refl

theorem chIdle_keeps {z : Chip} (s : Chip) (n : Nat) (st : ChState) (status : Status) (hz : Keeps z s) : Keeps z (chIdle s n st status) := by
  refine hz.trans ?_
  clear hz
  unfold chIdle
  repeat' first
    | with_reducible apply setChState_keeps
    | with_reducible apply Chip_modCh_keeps
    | with_reducible assumption
    | fail_if_no_progress beta_reduce
    | with_reducible apply Keeps.ite
    | with_reducible apply Keeps.refl

theorem chClose_keeps {z : Chip} (s : Chip) (n : Nat) (hz : Keeps z s) : Keeps z (chClose s n) := by
  refine hz.trans ?_
  clear hz
  unfold chClose
  repeat' first
    | with_reducible apply setChState_keeps
    | with_reducible apply Chip_modCh_keeps
    | with_reducible assumption
    | (with_reducible apply Keeps.foldl; intro _ _)
    | fail_if_no_progress beta_reduce
    | with_reducible apply Keeps.refl

theorem primerGo_keeps {z : Chip} (s : Chip) (n : Nat) (hz : Keeps z s) : Keeps z (primerGo s n) := by
  refine hz.trans ?_
  clear hz
  unfold primerGo
  repeat' first
    | with_reducible apply chClose_keeps
    | with_reducible apply setChState_keeps
    | with_reducible apply Chip_modCh_keeps
    | with_reducible assumption
    | fail_if_no_progress beta_reduce
    | (extract_lets +onlyGivenNames x; refine Keeps.bind (x := x) (fun hx => ?_) ?_; rotate_left; subst x; rotate_right; clear_value x)
    | with_reducible apply Keeps.ite
    | with_reducible apply Keeps.refl

theorem startInrush_keeps {z : Chip} (s : Chip) (n : Nat) (retry : Bool) (hz : Keeps z s) : Keeps z (startInrush s n retry) := by
  refine hz.trans ?_
  clear hz
  unfold startInrush
  repeat' first
    | with_reducible apply primerGo_keeps
    | with_reducible apply setChState_keeps
    | with_reducible apply Chip_modCh_keeps
    | with_reducible assumption
    | (with_reducible apply Keeps.foldl; intro _ _)
    | fail_if_no_progress beta_reduce
    | (extract_lets +onlyGivenNames x; refine Keeps.bind (x := x) (fun hx => ?_) ?_; rotate_left; subst x; rotate_right; clear_value x)
    | with_reducible apply Keeps.ite
    | with_reducible apply Keeps.refl

theorem startRetry_keeps {z : Chip} (s : Chip) (n : Nat) (hz : Keeps z s) : Keeps z (startRetry s n) := by
  refine hz.trans ?_
  clear hz
  unfold startRetry
  repeat' first
    | with_reducible apply startInrush_keeps
    | with_reducible apply Chip_modCh_keeps
    | with_reducible assumption
    | fail_if_no_progress beta_reduce
    | with_reducible apply Keeps.refl

theorem chBegin_keeps {z : Chip} (s : Chip) (n : Nat) (hz : Keeps z s) : Keeps z (chBegin s n) := by
  refine hz.trans ?_
  clear hz
  unfold chBegin
  repeat' first
    | with_reducible apply startInrush_keeps
    | with_reducible apply setChState_keeps
    | with_reducible apply Chip_modCh_keeps
    | with_reducible assumption
    | fail_if_no_progress beta_reduce
    | (extract_lets +onlyGivenNames x; refine Keeps.bind (x := x) (fun hx => ?_) ?_; rotate_left; subst x; rotate_right; clear_value x)
    | with_reducible apply Keeps.ite
    | with_reducible apply Keeps.refl

theorem trip_keeps {z : Chip} (s : Chip) (n : Nat) (causes : List ChStop) (member : Nat) (hz : Keeps z s) : Keeps z (trip s n causes member) := by
  refine hz.trans ?_
  clear hz
  unfold trip
  repeat' first
    | with_reducible apply chStop_keeps
    | with_reducible apply setFault_keeps
    | with_reducible apply Chip_modCh_keeps
    | with_reducible assumption
    | (with_reducible apply Keeps.foldl; intro _ _)
    | fail_if_no_progress beta_reduce
    | (extract_lets +onlyGivenNames x; refine Keeps.bind (x := x) (fun hx => ?_) ?_; rotate_left; subst x; rotate_right; clear_value x)
    | (extract_lets +onlyGivenNames x; subst x)
    | with_reducible apply Keeps.ite
    | with_reducible apply Keeps.refl
    | (with_reducible apply Keeps.optMap; intro _)
    | fail_if_no_progress (with_reducible refine Keeps.lit ?_ rfl rfl rfl rfl rfl rfl rfl rfl rfl rfl rfl rfl rfl rfl rfl rfl rfl)
    | split

theorem tripOrHold_keeps {z : Chip} (s : Chip) (n : Nat) (causes : List ChStop) (member : Nat) (hz : Keeps z s) : Keeps z (tripOrHold s n causes member) := by
  refine hz.trans ?_
  clear hz
  unfold tripOrHold
  repeat' first
    | with_reducible apply trip_keeps
    | with_reducible apply Chip_modCh_keeps
    | with_reducible assumption
    | fail_if_no_progress beta_reduce
    | with_reducible apply Keeps.ite
    | with_reducible apply Keeps.refl

theorem heldTrip_keeps {z : Chip} (s : Chip) (n : Nat) (hz : Keeps z s) : Keeps z (heldTrip s n) := by
  refine hz.trans ?_
  clear hz
  unfold heldTrip
  repeat' first
    | with_reducible apply trip_keeps
    | with_reducible apply Chip_modCh_keeps
    | with_reducible assumption
    | fail_if_no_progress beta_reduce
    | (extract_lets +onlyGivenNames x; refine Keeps.bind (x := x) (fun hx => ?_) ?_; rotate_left; subst x; rotate_right; clear_value x)
    | (extract_lets +onlyGivenNames x; subst x)
    | with_reducible apply Keeps.ite
    | with_reducible apply Keeps.refl

theorem clearIntents_keeps {z : Chip} (s : Chip) (hz : Keeps z s) : Keeps z (clearIntents s) := by
  refine hz.trans ?_
  clear hz
  unfold clearIntents
  repeat' first
    | with_reducible apply chIdle_keeps
    | with_reducible apply Chip_modRail_keeps
    | with_reducible apply Chip_modCh_keeps
    | with_reducible assumption
    | (with_reducible apply Keeps.forEach; intro _ _)
    | fail_if_no_progress beta_reduce
    | (extract_lets +onlyGivenNames x; refine Keeps.bind (x := x) (fun hx => ?_) ?_; rotate_left; subst x; rotate_right; clear_value x)
    | with_reducible apply Keeps.ite
    | with_reducible apply Keeps.refl

theorem releaseChannel_keeps {z : Chip} (s : Chip) (n : Nat) (hz : Keeps z s) : Keeps z (releaseChannel s n) := by
  refine hz.trans ?_
  clear hz
  unfold releaseChannel
  repeat' first
    | with_reducible apply startInrush_keeps
    | with_reducible apply Chip_modCh_keeps
    | with_reducible assumption
    | fail_if_no_progress beta_reduce
    | (extract_lets +onlyGivenNames x; refine Keeps.bind (x := x) (fun hx => ?_) ?_; rotate_left; subst x; rotate_right; clear_value x)
    | with_reducible apply Keeps.ite
    | with_reducible apply Keeps.refl

theorem releaseStage_keeps {z : Chip} (s : Chip) (hz : Keeps z s) : Keeps z (releaseStage s) := by
  refine hz.trans ?_
  clear hz
  unfold releaseStage
  repeat' first
    | with_reducible apply releaseChannel_keeps
    | with_reducible apply Chip_modRail_keeps
    | with_reducible assumption
    | (with_reducible apply Keeps.forEach; intro _ _)
    | fail_if_no_progress beta_reduce
    | with_reducible apply Keeps.ite
    | with_reducible apply Keeps.refl

theorem railLatch_keeps {z : Chip} (s : Chip) (k : Nat) (hz : Keeps z s) : Keeps z (railLatch s k) := by
  refine hz.trans ?_
  clear hz
  unfold railLatch
  repeat' first
    | with_reducible apply Chip_modRail_keeps
    | with_reducible assumption
    | fail_if_no_progress beta_reduce
    | with_reducible apply Keeps.refl

theorem beginSwitching_keeps {z : Chip} (s : Chip) (k : Nat) (hz : Keeps z s) : Keeps z (beginSwitching s k) := by
  refine hz.trans ?_
  clear hz
  unfold beginSwitching
  repeat' first
    | with_reducible apply Chip_modRail_keeps
    | with_reducible assumption
    | fail_if_no_progress beta_reduce
    | with_reducible apply Keeps.ite
    | with_reducible apply Keeps.refl

theorem enterBridging_keeps {z : Chip} (s : Chip) (k : Nat) (uB : Int) (hz : Keeps z s) : Keeps z (enterBridging s k uB) := by
  refine hz.trans ?_
  clear hz
  unfold enterBridging
  repeat' first
    | with_reducible apply setLimit_keeps
    | with_reducible apply setRailState_keeps
    | with_reducible apply Chip_modRail_keeps
    | with_reducible assumption
    | fail_if_no_progress beta_reduce
    | with_reducible apply Keeps.refl

theorem loopStep_keeps {z : Chip} (s : Chip) (k : Nat) (hz : Keeps z s) : Keeps z (loopStep s k) := by
  refine hz.trans ?_
  clear hz
  unfold loopStep
  repeat' first
    | with_reducible apply setLimit_keeps
    | with_reducible apply Chip_modRail_keeps
    | with_reducible assumption
    | fail_if_no_progress beta_reduce
    | with_reducible apply Keeps.ite
    | with_reducible apply Keeps.refl

theorem dacStep_keeps {z : Chip} (s : Chip) (k : Nat) (hz : Keeps z s) : Keeps z (dacStep s k) := by
  refine hz.trans ?_
  clear hz
  unfold dacStep
  repeat' first
    | with_reducible apply Chip_modRail_keeps
    | with_reducible assumption
    | fail_if_no_progress beta_reduce
    | with_reducible apply Keeps.ite
    | with_reducible apply Keeps.refl

theorem rampEnd_keeps {z : Chip} (s : Chip) (k : Nat) (hz : Keeps z s) : Keeps z (rampEnd s k) := by
  refine hz.trans ?_
  clear hz
  unfold rampEnd
  repeat' first
    | with_reducible apply railStop_keeps
    | with_reducible apply lanesMid_keeps
    | with_reducible apply setRailState_keeps
    | with_reducible apply Chip_modRail_keeps
    | with_reducible assumption
    | fail_if_no_progress beta_reduce
    | (extract_lets +onlyGivenNames x; refine Keeps.bind (x := x) (fun hx => ?_) ?_; rotate_left; subst x; rotate_right; clear_value x)
    | (extract_lets +onlyGivenNames x; subst x)
    | with_reducible apply Keeps.ite
    | with_reducible apply Keeps.refl

theorem rampDone_keeps {z : Chip} (s : Chip) (k : Nat) (hz : Keeps z s) : Keeps z (rampDone s k) := by
  refine hz.trans ?_
  clear hz
  unfold rampDone
  repeat' first
    | with_reducible apply enterBridging_keeps
    | with_reducible apply setRailState_keeps
    | with_reducible apply Chip_modRail_keeps
    | with_reducible assumption
    | fail_if_no_progress beta_reduce
    | (extract_lets +onlyGivenNames x; refine Keeps.bind (x := x) (fun hx => ?_) ?_; rotate_left; subst x; rotate_right; clear_value x)
    | (extract_lets +onlyGivenNames x; subst x)
    | with_reducible apply Keeps.ite
    | with_reducible apply Keeps.refl

theorem handStep_keeps {z : Chip} (s : Chip) (k : Nat) (h : Int × Nat) (hz : Keeps z s) : Keeps z (handStep s k h) := by
  refine hz.trans ?_
  clear hz
  unfold handStep
  repeat' first
    | with_reducible apply setRailState_keeps
    | with_reducible apply Chip_modRail_keeps
    | with_reducible assumption
    | fail_if_no_progress beta_reduce
    | (extract_lets +onlyGivenNames x; refine Keeps.bind (x := x) (fun hx => ?_) ?_; rotate_left; subst x; rotate_right; clear_value x)
    | (extract_lets +onlyGivenNames x; subst x)
    | with_reducible apply Keeps.ite
    | with_reducible apply Keeps.refl

theorem rampStep_keeps {z : Chip} (s : Chip) (k : Nat) (hz : Keeps z s) : Keeps z (rampStep s k) := by
  refine hz.trans ?_
  clear hz
  unfold rampStep
  repeat' first
    | with_reducible apply handStep_keeps
    | with_reducible apply rampDone_keeps
    | with_reducible apply rampEnd_keeps
    | with_reducible apply enterBridging_keeps
    | with_reducible apply Chip_modRail_keeps
    | with_reducible assumption
    | fail_if_no_progress beta_reduce
    | (extract_lets +onlyGivenNames x; refine Keeps.bind (x := x) (fun hx => ?_) ?_; rotate_left; subst x; rotate_right; clear_value x)
    | (extract_lets +onlyGivenNames x; subst x)
    | with_reducible apply Keeps.ite
    | with_reducible apply Keeps.refl
    | fail_if_no_progress (with_reducible refine Keeps.lit ?_ rfl rfl rfl rfl rfl rfl rfl rfl rfl rfl rfl rfl rfl rfl rfl rfl rfl)
    | split

theorem idleStep_keeps {z : Chip} (s : Chip) (k : Nat) (hz : Keeps z s) : Keeps z (idleStep s k) := by
  refine hz.trans ?_
  clear hz
  unfold idleStep
  repeat' first
    | with_reducible apply beginSwitching_keeps
    | with_reducible apply setLimit_keeps
    | with_reducible apply Chip_modRail_keeps
    | with_reducible assumption
    | fail_if_no_progress beta_reduce
    | (extract_lets +onlyGivenNames x; subst x)
    | with_reducible apply Keeps.ite
    | with_reducible apply Keeps.refl

theorem holdPreset_keeps {z : Chip} (s : Chip) (k : Nat) (hz : Keeps z s) : Keeps z (holdPreset s k) := by
  refine hz.trans ?_
  clear hz
  unfold holdPreset
  repeat' first
    | with_reducible apply Chip_modRail_keeps
    | with_reducible assumption
    | fail_if_no_progress beta_reduce
    | (extract_lets +onlyGivenNames x; subst x)
    | with_reducible apply Keeps.ite
    | with_reducible apply Keeps.refl

theorem burstAnew_keeps {z : Chip} (s : Chip) (k : Nat) (hz : Keeps z s) : Keeps z (burstAnew s k) := by
  refine hz.trans ?_
  clear hz
  unfold burstAnew
  repeat' first
    | with_reducible apply Chip_modRail_keeps
    | with_reducible assumption
    | fail_if_no_progress beta_reduce
    | with_reducible apply Keeps.refl

theorem burstWakes_keeps {z : Chip} (s : Chip) (k : Nat) (hz : Keeps z s) : Keeps z (burstWakes s k) := by
  refine hz.trans ?_
  clear hz
  unfold burstWakes
  repeat' first
    | with_reducible apply burstAnew_keeps
    | with_reducible apply beginSwitching_keeps
    | with_reducible apply setRailState_keeps
    | with_reducible assumption
    | (extract_lets +onlyGivenNames x; refine Keeps.bind (x := x) (fun hx => ?_) ?_; rotate_left; subst x; rotate_right; clear_value x)
    | (extract_lets +onlyGivenNames x; subst x)
    | with_reducible apply Keeps.ite
    | with_reducible apply Keeps.refl

theorem burstStep_keeps {z : Chip} (s : Chip) (k : Nat) (hz : Keeps z s) : Keeps z (burstStep s k) := by
  refine hz.trans ?_
  clear hz
  unfold burstStep
  repeat' first
    | with_reducible apply burstWakes_keeps
    | with_reducible apply burstAnew_keeps
    | with_reducible apply setLimit_keeps
    | with_reducible apply setRailState_keeps
    | with_reducible apply Chip_modRail_keeps
    | with_reducible assumption
    | fail_if_no_progress beta_reduce
    | (extract_lets +onlyGivenNames x; refine Keeps.bind (x := x) (fun hx => ?_) ?_; rotate_left; subst x; rotate_right; clear_value x)
    | (extract_lets +onlyGivenNames x; subst x)
    | with_reducible apply Keeps.ite
    | with_reducible apply Keeps.refl
    | fail_if_no_progress (with_reducible refine Keeps.lit ?_ rfl rfl rfl rfl rfl rfl rfl rfl rfl rfl rfl rfl rfl rfl rfl rfl rfl)
    | split

theorem railWatch_keeps {z : Chip} (s : Chip) (k : Nat) (hz : Keeps z s) : Keeps z (railWatch s k) := by
  refine hz.trans ?_
  clear hz
  unfold railWatch
  repeat' first
    | with_reducible apply Chip_modRail_keeps
    | with_reducible assumption
    | fail_if_no_progress beta_reduce
    | with_reducible apply Keeps.ite
    | with_reducible apply Keeps.refl

theorem pwmStep_keeps {z : Chip} (s : Chip) (k : Nat) (hz : Keeps z s) : Keeps z (pwmStep s k) := by
  refine hz.trans ?_
  clear hz
  unfold pwmStep
  repeat' first
    | with_reducible apply Chip_modRail_keeps
    | with_reducible assumption
    | fail_if_no_progress beta_reduce
    | with_reducible apply Keeps.ite
    | with_reducible apply Keeps.refl

theorem railTick_keeps {z : Chip} (s : Chip) (k : Nat) (hz : Keeps z s) : Keeps z (railTick s k) := by
  refine hz.trans ?_
  clear hz
  unfold railTick
  repeat' first
    | with_reducible apply pwmStep_keeps
    | with_reducible apply railWatch_keeps
    | with_reducible apply burstStep_keeps
    | with_reducible apply holdPreset_keeps
    | with_reducible apply idleStep_keeps
    | with_reducible apply rampStep_keeps
    | with_reducible apply dacStep_keeps
    | with_reducible apply loopStep_keeps
    | with_reducible apply railLatch_keeps
    | with_reducible apply evalFault_keeps
    | with_reducible apply Chip_modRail_keeps
    | with_reducible assumption
    | fail_if_no_progress beta_reduce
    | (extract_lets +onlyGivenNames x; refine Keeps.bind (x := x) (fun hx => ?_) ?_; rotate_left; subst x; rotate_right; clear_value x)
    | with_reducible apply Keeps.ite
    | with_reducible apply Keeps.refl

theorem railInputUv_keeps {z : Chip} (k : Nat) (s : Chip) (hz : Keeps z s) : Keeps z (railInputUv k s) := by
  refine hz.trans ?_
  clear hz
  unfold railInputUv
  repeat' first
    | with_reducible apply railStop_keeps
    | with_reducible apply setFault_keeps
    | with_reducible apply Chip_modRail_keeps
    | with_reducible assumption
    | fail_if_no_progress beta_reduce
    | (extract_lets +onlyGivenNames x; refine Keeps.bind (x := x) (fun hx => ?_) ?_; rotate_left; subst x; rotate_right; clear_value x)
    | with_reducible apply Keeps.ite
    | with_reducible apply Keeps.refl

theorem ocLatch_keeps {z : Chip} (k : Nat) (s : Chip) (hz : Keeps z s) : Keeps z (ocLatch k s) := by
  refine hz.trans ?_
  clear hz
  unfold ocLatch
  repeat' first
    | with_reducible apply railStop_keeps
    | with_reducible apply setFault_keeps
    | with_reducible assumption
    | fail_if_no_progress beta_reduce
    | with_reducible apply Keeps.ite
    | with_reducible apply Keeps.refl

theorem railOvervoltage_keeps {z : Chip} (k : Nat) (s : Chip) (hz : Keeps z s) : Keeps z (railOvervoltage k s) := by
  refine hz.trans ?_
  clear hz
  unfold railOvervoltage
  repeat' first
    | with_reducible apply railStop_keeps
    | with_reducible apply setFault_keeps
    | with_reducible assumption
    | with_reducible apply Keeps.ite
    | with_reducible apply Keeps.refl

theorem railStops_keeps {z : Chip} (s : Chip) (k : Nat) (hz : Keeps z s) : Keeps z (railStops s k) := by
  refine hz.trans ?_
  clear hz
  unfold railStops
  repeat' first
    | with_reducible apply railOvervoltage_keeps
    | with_reducible apply ocLatch_keeps
    | with_reducible apply railInputUv_keeps
    | with_reducible assumption
    | with_reducible apply Keeps.refl

theorem railAnswer_keeps {z : Chip} (s : Chip) (e : RailSet) (st : Status) (data : List Byte) (hz : Keeps z s) : Keeps z (railAnswer s e st data) := by
  refine hz.trans ?_
  clear hz
  unfold railAnswer
  repeat' first
    | with_reducible apply formReply_keeps
    | with_reducible apply post_keeps
    | with_reducible assumption
    | with_reducible apply Keeps.ite
    | with_reducible apply Keeps.refl

theorem railApplyOn_keeps {z : Chip} (s : Chip) (e : RailSet) (hz : Keeps z s) : Keeps z (railApplyOn s e) := by
  refine hz.trans ?_
  clear hz
  unfold railApplyOn
  repeat' first
    | with_reducible apply railAnswer_keeps
    | with_reducible apply setRailState_keeps
    | with_reducible apply formReply_keeps
    | with_reducible apply Chip_modRail_keeps
    | with_reducible assumption
    | fail_if_no_progress beta_reduce
    | (extract_lets +onlyGivenNames x; refine Keeps.bind (x := x) (fun hx => ?_) ?_; rotate_left; subst x; rotate_right; clear_value x)
    | (extract_lets +onlyGivenNames x; subst x)
    | with_reducible apply Keeps.ite
    | with_reducible apply Keeps.refl
    | fail_if_no_progress (with_reducible refine Keeps.lit ?_ rfl rfl rfl rfl rfl rfl rfl rfl rfl rfl rfl rfl rfl rfl rfl rfl rfl)
    | split

theorem railActOff_keeps {z : Chip} (s : Chip) (k : Nat) (mode : Bool) (hz : Keeps z s) : Keeps z (railActOff s k mode) := by
  refine hz.trans ?_
  clear hz
  unfold railActOff
  repeat' first
    | with_reducible apply railStops_keeps
    | with_reducible apply beginSwitching_keeps
    | with_reducible apply railKill_keeps
    | with_reducible apply setLimit_keeps
    | with_reducible apply setRailState_keeps
    | with_reducible apply Chip_modRail_keeps
    | with_reducible assumption
    | fail_if_no_progress beta_reduce
    | (extract_lets +onlyGivenNames x; refine Keeps.bind (x := x) (fun hx => ?_) ?_; rotate_left; subst x; rotate_right; clear_value x)
    | (extract_lets +onlyGivenNames x; subst x)
    | with_reducible apply Keeps.ite
    | with_reducible apply Keeps.refl
    | fail_if_no_progress (with_reducible refine Keeps.lit ?_ rfl rfl rfl rfl rfl rfl rfl rfl rfl rfl rfl rfl rfl rfl rfl rfl rfl)
    | split

theorem railActDisable_keeps {z : Chip} (s : Chip) (k : Nat) (hz : Keeps z s) : Keeps z (railActDisable s k) := by
  refine hz.trans ?_
  clear hz
  unfold railActDisable
  repeat' first
    | with_reducible apply railStops_keeps
    | with_reducible apply railKill_keeps
    | with_reducible apply Chip_modRail_keeps
    | with_reducible assumption
    | fail_if_no_progress beta_reduce
    | with_reducible apply Keeps.refl

theorem railWrite_keeps {z : Chip} (s : Chip) (k kind : Nat) (v : Int) (hz : Keeps z s) : Keeps z (railWrite s k kind v) := by
  refine hz.trans ?_
  clear hz
  unfold railWrite
  repeat' first
    | with_reducible apply setFault_keeps
    | with_reducible apply Chip_modRail_keeps
    | with_reducible assumption
    | fail_if_no_progress beta_reduce
    | with_reducible apply Keeps.ite
    | with_reducible apply Keeps.refl

theorem attnRail_keeps {z : Chip} (s : Chip) (k : Nat) (hz : Keeps z s) : Keeps z (attnRail s k) := by
  refine hz.trans ?_
  clear hz
  unfold attnRail
  repeat' first
    | with_reducible apply Chip_modLink_keeps
    | with_reducible assumption
    | (with_reducible apply Keeps.forEach; intro _ _)
    | fail_if_no_progress beta_reduce
    | with_reducible apply Keeps.ite
    | with_reducible apply Keeps.refl

theorem applyRail_keeps {z : Chip} (s : Chip) (e : RailSet) (hz : Keeps z s) : Keeps z (applyRail s e) := by
  refine hz.trans ?_
  clear hz
  unfold applyRail
  repeat' first
    | with_reducible apply attnRail_keeps
    | with_reducible apply railWrite_keeps
    | with_reducible apply railActDisable_keeps
    | with_reducible apply railActOff_keeps
    | with_reducible apply railApplyOn_keeps
    | with_reducible apply railAnswer_keeps
    | with_reducible apply railStops_keeps
    | with_reducible apply Chip_modRail_keeps
    | with_reducible assumption
    | fail_if_no_progress beta_reduce
    | (extract_lets +onlyGivenNames x; refine Keeps.bind (x := x) (fun hx => ?_) ?_; rotate_left; subst x; rotate_right; clear_value x)
    | (extract_lets +onlyGivenNames x; subst x)
    | with_reducible apply Keeps.ite
    | with_reducible apply Keeps.refl
    | fail_if_no_progress (with_reducible refine Keeps.lit ?_ rfl rfl rfl rfl rfl rfl rfl rfl rfl rfl rfl rfl rfl rfl rfl rfl rfl)
    | split

theorem applyHostRail_keeps {z : Chip} (links : List RailSet) (s : Chip) (e : RailSet) (hz : Keeps z s) : Keeps z (applyHostRail links s e) := by
  refine hz.trans ?_
  clear hz
  unfold applyHostRail
  repeat' first
    | with_reducible apply applyRail_keeps
    | with_reducible apply attnRail_keeps
    | with_reducible assumption
    | (extract_lets +onlyGivenNames x; refine Keeps.bind (x := x) (fun hx => ?_) ?_; rotate_left; subst x; rotate_right; clear_value x)
    | with_reducible apply Keeps.ite
    | with_reducible apply Keeps.refl

theorem applyRailQueue_keeps {z : Chip} (s : Chip) (hz : Keeps z s) : Keeps z (applyRailQueue s) := by
  unfold applyRailQueue
  exact .foldl (fun _ _ => applyHostRail_keeps _ _ _ (.refl _)) (.foldl (fun _ _ => applyRail_keeps _ _ (.refl _))
    (.depths hz rfl rfl rfl rfl rfl rfl rfl rfl rfl rfl rfl fun d => ⟨d.channels, Nat.zero_le _, d.box, d.buses, d.slow, d.stamps⟩))

theorem queueRail_keeps {z : Chip} (s : Chip) (k : Nat) (cmd : RailCmd) (r : ReqRef) (replied : Bool) (link : Option Nat) (hz : Keeps z s) : Keeps z (queueRail s k cmd r replied link) := by
  unfold queueRail
  split
  · rename_i h
    refine .depths hz rfl rfl rfl rfl rfl rfl rfl rfl rfl rfl rfl fun d => ⟨d.channels, ?_, d.box, d.buses, d.slow, d.stamps⟩
    simpa [queueRoom] using h
  · exact hz

theorem bodyRailGet_keeps {z : Chip} (rq : Request) (r : ReqRef) (s : Chip) (hz : Keeps z s) : Keeps z (bodyRailGet rq r s).2 := by
  refine hz.trans ?_
  clear hz
  unfold bodyRailGet
  repeat' first
    | with_reducible assumption
    | fail_if_no_progress beta_reduce
    | (extract_lets +onlyGivenNames x; subst x)
    | with_reducible apply Keeps.ite
    | with_reducible apply Keeps.refl
    | fail_if_no_progress (with_reducible refine Keeps.lit ?_ rfl rfl rfl rfl rfl rfl rfl rfl rfl rfl rfl rfl rfl rfl rfl rfl rfl)
    | split

theorem bodyRailOn_keeps {z : Chip} (rq : Request) (r : ReqRef) (s : Chip) (hz : Keeps z s) : Keeps z (bodyRailOn rq r s).2 := by
  refine hz.trans ?_
  clear hz
  unfold bodyRailOn
  repeat' first
    | with_reducible apply queueRail_keeps
    | with_reducible assumption
    | fail_if_no_progress beta_reduce
    | (extract_lets +onlyGivenNames x; subst x)
    | with_reducible apply Keeps.ite
    | with_reducible apply Keeps.refl
    | fail_if_no_progress (with_reducible refine Keeps.lit ?_ rfl rfl rfl rfl rfl rfl rfl rfl rfl rfl rfl rfl rfl rfl rfl rfl rfl)
    | split

theorem bodyRailCmd_keeps {z : Chip} (cmd : RailCmd) (rq : Request) (r : ReqRef) (s : Chip) (hz : Keeps z s) : Keeps z (bodyRailCmd cmd rq r s).2 := by
  refine hz.trans ?_
  clear hz
  unfold bodyRailCmd
  repeat' first
    | with_reducible apply queueRail_keeps
    | with_reducible assumption
    | fail_if_no_progress beta_reduce
    | with_reducible apply Keeps.refl
    | fail_if_no_progress (with_reducible refine Keeps.lit ?_ rfl rfl rfl rfl rfl rfl rfl rfl rfl rfl rfl rfl rfl rfl rfl rfl rfl)
    | split

theorem bodyRailSet_keeps {z : Chip} (rq : Request) (r : ReqRef) (s : Chip) (hz : Keeps z s) : Keeps z (bodyRailSet rq r s).2 := by
  refine hz.trans ?_
  clear hz
  unfold bodyRailSet
  repeat' first
    | with_reducible apply queueRail_keeps
    | with_reducible assumption
    | fail_if_no_progress beta_reduce
    | (extract_lets +onlyGivenNames x; subst x)
    | with_reducible apply Keeps.ite
    | with_reducible apply Keeps.refl
    | fail_if_no_progress (with_reducible refine Keeps.lit ?_ rfl rfl rfl rfl rfl rfl rfl rfl rfl rfl rfl rfl rfl rfl rfl rfl rfl)
    | split

theorem bodyRailStateAll_keeps {z : Chip} (rq : Request) (r : ReqRef) (s : Chip) (hz : Keeps z s) : Keeps z (bodyRailStateAll rq r s).2 := by
  refine hz.trans ?_
  clear hz
  unfold bodyRailStateAll
  repeat' first
    | with_reducible assumption
    | fail_if_no_progress beta_reduce
    | with_reducible apply Keeps.refl

theorem bodyRailPhasesGet_keeps {z : Chip} (rq : Request) (r : ReqRef) (s : Chip) (hz : Keeps z s) : Keeps z (bodyRailPhasesGet rq r s).2 := by
  refine hz.trans ?_
  clear hz
  unfold bodyRailPhasesGet
  repeat' first
    | with_reducible assumption
    | fail_if_no_progress beta_reduce
    | (extract_lets +onlyGivenNames x; subst x)
    | with_reducible apply Keeps.refl
    | fail_if_no_progress (with_reducible refine Keeps.lit ?_ rfl rfl rfl rfl rfl rfl rfl rfl rfl rfl rfl rfl rfl rfl rfl rfl rfl)
    | split

theorem railStart_keeps {z : Chip} (k : Nat) (s : Chip) (hz : Keeps z s) : Keeps z (railStart k s) := by
  refine hz.trans ?_
  clear hz
  unfold railStart
  repeat' first
    | with_reducible apply beginSwitching_keeps
    | with_reducible apply setRailState_keeps
    | with_reducible apply Chip_modRail_keeps
    | with_reducible assumption
    | fail_if_no_progress beta_reduce
    | (extract_lets +onlyGivenNames x; refine Keeps.bind (x := x) (fun hx => ?_) ?_; rotate_left; subst x; rotate_right; clear_value x)
    | (extract_lets +onlyGivenNames x; subst x)
    | with_reducible apply Keeps.ite
    | with_reducible apply Keeps.refl

theorem phaseOc_keeps {z : Chip} (k phase : Nat) (a b : Int) (s : Chip) (hz : Keeps z s) : Keeps z (phaseOc k phase a b s) := by
  refine hz.trans ?_
  clear hz
  unfold phaseOc
  repeat' first
    | with_reducible apply railStop_keeps
    | with_reducible apply setFault_keeps
    | with_reducible assumption
    | (extract_lets +onlyGivenNames x; subst x)
    | with_reducible apply Keeps.ite
    | with_reducible apply Keeps.refl

theorem stageTempRead_keeps {z : Chip} (k : Nat) (s : Chip) (hz : Keeps z s) : Keeps z (stageTempRead k s) := by
  refine hz.trans ?_
  clear hz
  unfold stageTempRead
  repeat' first
    | with_reducible apply railStop_keeps
    | with_reducible apply setRailState_keeps
    | with_reducible apply evalFault_keeps
    | with_reducible apply post_keeps
    | with_reducible apply Chip_modRail_keeps
    | with_reducible assumption
    | fail_if_no_progress beta_reduce
    | (extract_lets +onlyGivenNames x; refine Keeps.bind (x := x) (fun hx => ?_) ?_; rotate_left; subst x; rotate_right; clear_value x)
    | (extract_lets +onlyGivenNames x; subst x)
    | with_reducible apply Keeps.ite
    | with_reducible apply Keeps.refl

theorem burstEnter_keeps {z : Chip} (k : Nat) (s : Chip) (hz : Keeps z s) : Keeps z (burstEnter k s) := by
  refine hz.trans ?_
  clear hz
  unfold burstEnter
  repeat' first
    | with_reducible apply burstAnew_keeps
    | with_reducible apply setRailState_keeps
    | with_reducible assumption
    | fail_if_no_progress beta_reduce
    | with_reducible apply Keeps.ite
    | with_reducible apply Keeps.refl

theorem burstWake_keeps {z : Chip} (k : Nat) (s : Chip) (hz : Keeps z s) : Keeps z (burstWake k s) := by
  refine hz.trans ?_
  clear hz
  unfold burstWake
  repeat' first
    | with_reducible apply burstWakes_keeps
    | with_reducible assumption
    | fail_if_no_progress beta_reduce
    | (extract_lets +onlyGivenNames x; subst x)
    | with_reducible apply Keeps.ite
    | with_reducible apply Keeps.refl
    | fail_if_no_progress (with_reducible refine Keeps.lit ?_ rfl rfl rfl rfl rfl rfl rfl rfl rfl rfl rfl rfl rfl rfl rfl rfl rfl)
    | split

theorem currentBalance_keeps {z : Chip} (k : Nat) (s : Chip) (hz : Keeps z s) : Keeps z (currentBalance k s) := by
  refine hz.trans ?_
  clear hz
  unfold currentBalance
  repeat' first
    | with_reducible apply setFault_keeps
    | with_reducible apply Chip_modRail_keeps
    | with_reducible assumption
    | fail_if_no_progress beta_reduce
    | (extract_lets +onlyGivenNames x; refine Keeps.bind (x := x) (fun hx => ?_) ?_; rotate_left; subst x; rotate_right; clear_value x)
    | (extract_lets +onlyGivenNames x; subst x)
    | with_reducible apply Keeps.ite
    | with_reducible apply Keeps.refl

theorem llReject_keeps {z : Chip} (s : Chip) (n : Nat) (why : Reject) (seq op : Nat) (hz : Keeps z s) : Keeps z (llReject s n why seq op) := by
  refine hz.trans ?_
  clear hz
  unfold llReject
  repeat' first
    | with_reducible apply setFault_keeps
    | with_reducible apply Chip_modLink_keeps
    | with_reducible assumption
    | fail_if_no_progress beta_reduce
    | (extract_lets +onlyGivenNames x; refine Keeps.bind (x := x) (fun hx => ?_) ?_; rotate_left; subst x; rotate_right; clear_value x)
    | with_reducible apply Keeps.ite
    | with_reducible apply Keeps.refl

theorem llAccept_keeps {z : Chip} (s : Chip) (n seq : Nat) (hz : Keeps z s) : Keeps z (llAccept s n seq) := by
  refine hz.trans ?_
  clear hz
  unfold llAccept
  repeat' first
    | with_reducible apply Chip_modLink_keeps
    | with_reducible assumption
    | fail_if_no_progress beta_reduce
    | with_reducible apply Keeps.refl

theorem setLinkState_keeps {z : Chip} (s : Chip) (n : Nat) (st : LinkState) (hz : Keeps z s) : Keeps z (setLinkState s n st) := by
  refine hz.trans ?_
  clear hz
  unfold setLinkState
  repeat' first
    | with_reducible apply postLink_keeps
    | with_reducible apply setLive_keeps
    | with_reducible apply Chip_modLink_keeps
    | with_reducible assumption
    | fail_if_no_progress beta_reduce
    | with_reducible apply Keeps.ite
    | with_reducible apply Keeps.refl

theorem llRespond_keeps {z : Chip} (s : Chip) (n op seq payload : Nat) (hz : Keeps z s) : Keeps z (llRespond s n op seq payload) := by
  refine hz.trans ?_
  clear hz
  unfold llRespond
  repeat' first
    | with_reducible apply Chip_modLink_keeps
    | with_reducible assumption
    | fail_if_no_progress beta_reduce
    | with_reducible apply Keeps.ite
    | with_reducible apply Keeps.refl

theorem llHello_keeps {z : Chip} (s : Chip) (n seq arg : Nat) (hz : Keeps z s) : Keeps z (llHello s n seq arg) := by
  refine hz.trans ?_
  clear hz
  unfold llHello
  repeat' first
    | with_reducible apply llRespond_keeps
    | with_reducible apply setLinkState_keeps
    | with_reducible apply llAccept_keeps
    | with_reducible apply llReject_keeps
    | with_reducible apply Chip_modLink_keeps
    | with_reducible assumption
    | fail_if_no_progress beta_reduce
    | (extract_lets +onlyGivenNames x; refine Keeps.bind (x := x) (fun hx => ?_) ?_; rotate_left; subst x; rotate_right; clear_value x)
    | with_reducible apply Keeps.refl
    | fail_if_no_progress (with_reducible refine Keeps.lit ?_ rfl rfl rfl rfl rfl rfl rfl rfl rfl rfl rfl rfl rfl rfl rfl rfl rfl)
    | split

theorem llSetv_keeps {z : Chip} (s : Chip) (n seq arg : Nat) (hz : Keeps z s) : Keeps z (llSetv s n seq arg) := by
  refine hz.trans ?_
  clear hz
  unfold llSetv
  repeat' first
    | with_reducible apply llAccept_keeps
    | with_reducible apply llReject_keeps
    | with_reducible apply queueRail_keeps
    | with_reducible apply Chip_modLink_keeps
    | with_reducible assumption
    | fail_if_no_progress beta_reduce
    | (extract_lets +onlyGivenNames x; refine Keeps.bind (x := x) (fun hx => ?_) ?_; rotate_left; subst x; rotate_right; clear_value x)
    | with_reducible apply Keeps.ite
    | with_reducible apply Keeps.refl
    | fail_if_no_progress (with_reducible refine Keeps.lit ?_ rfl rfl rfl rfl rfl rfl rfl rfl rfl rfl rfl rfl rfl rfl rfl rfl rfl)
    | split

theorem llSlew_keeps {z : Chip} (s : Chip) (n seq arg : Nat) (hz : Keeps z s) : Keeps z (llSlew s n seq arg) := by
  refine hz.trans ?_
  clear hz
  unfold llSlew
  repeat' first
    | with_reducible apply llAccept_keeps
    | with_reducible apply llReject_keeps
    | with_reducible apply queueRail_keeps
    | with_reducible assumption
    | fail_if_no_progress beta_reduce
    | with_reducible apply Keeps.ite
    | with_reducible apply Keeps.refl
    | fail_if_no_progress (with_reducible refine Keeps.lit ?_ rfl rfl rfl rfl rfl rfl rfl rfl rfl rfl rfl rfl rfl rfl rfl rfl rfl)
    | split

theorem llBurstReq_keeps {z : Chip} (s : Chip) (n seq arg : Nat) (hz : Keeps z s) : Keeps z (llBurstReq s n seq arg) := by
  refine hz.trans ?_
  clear hz
  unfold llBurstReq
  repeat' first
    | with_reducible apply llAccept_keeps
    | with_reducible apply llReject_keeps
    | with_reducible apply Chip_modBurst_keeps
    | with_reducible apply Chip_modLink_keeps
    | with_reducible assumption
    | fail_if_no_progress beta_reduce
    | (extract_lets +onlyGivenNames x; refine Keeps.bind (x := x) (fun hx => ?_) ?_; rotate_left; subst x; rotate_right; clear_value x)
    | (extract_lets +onlyGivenNames x; subst x)
    | with_reducible apply Keeps.ite
    | with_reducible apply Keeps.refl

theorem llBurstRel_keeps {z : Chip} (s : Chip) (n seq : Nat) (hz : Keeps z s) : Keeps z (llBurstRel s n seq) := by
  refine hz.trans ?_
  clear hz
  unfold llBurstRel
  repeat' first
    | with_reducible apply llAccept_keeps
    | with_reducible apply llReject_keeps
    | with_reducible apply Chip_modBurst_keeps
    | with_reducible assumption
    | fail_if_no_progress beta_reduce
    | with_reducible apply Keeps.ite
    | with_reducible apply Keeps.refl

theorem llRead_keeps {z : Chip} (s : Chip) (n seq arg : Nat) (hz : Keeps z s) : Keeps z (llRead s n seq arg) := by
  refine hz.trans ?_
  clear hz
  unfold llRead
  repeat' first
    | with_reducible apply llRespond_keeps
    | with_reducible apply llAccept_keeps
    | with_reducible apply llReject_keeps
    | with_reducible apply Chip_modLink_keeps
    | with_reducible assumption
    | fail_if_no_progress beta_reduce
    | (extract_lets +onlyGivenNames x; refine Keeps.bind (x := x) (fun hx => ?_) ?_; rotate_left; subst x; rotate_right; clear_value x)
    | (extract_lets +onlyGivenNames x; subst x)
    | with_reducible apply Keeps.ite
    | with_reducible apply Keeps.refl
    | fail_if_no_progress (with_reducible refine Keeps.lit ?_ rfl rfl rfl rfl rfl rfl rfl rfl rfl rfl rfl rfl rfl rfl rfl rfl rfl)
    | split

theorem llFrame_keeps {z : Chip} (n op seq arg : Nat) (s : Chip) (hz : Keeps z s) : Keeps z (llFrame n op seq arg s) := by
  refine hz.trans ?_
  clear hz
  unfold llFrame
  repeat' first
    | with_reducible apply llRead_keeps
    | with_reducible apply llBurstRel_keeps
    | with_reducible apply llBurstReq_keeps
    | with_reducible apply llSlew_keeps
    | with_reducible apply llSetv_keeps
    | with_reducible apply llHello_keeps
    | with_reducible apply llRespond_keeps
    | with_reducible apply llAccept_keeps
    | with_reducible apply llReject_keeps
    | with_reducible apply Chip_modLink_keeps
    | with_reducible assumption
    | fail_if_no_progress beta_reduce
    | (extract_lets +onlyGivenNames x; refine Keeps.bind (x := x) (fun hx => ?_) ?_; rotate_left; subst x; rotate_right; clear_value x)
    | (extract_lets +onlyGivenNames x; subst x)
    | with_reducible apply Keeps.ite
    | with_reducible apply Keeps.refl
    | fail_if_no_progress (with_reducible refine Keeps.lit ?_ rfl rfl rfl rfl rfl rfl rfl rfl rfl rfl rfl rfl rfl rfl rfl rfl rfl)
    | split

theorem llRejectedFrame_keeps {z : Chip} (n : Nat) (bits : BitVec 40) (s : Chip) (hz : Keeps z s) : Keeps z (llRejectedFrame n bits s) := by
  refine hz.trans ?_
  clear hz
  unfold llRejectedFrame
  repeat' first
    | with_reducible apply llFrame_keeps
    | with_reducible apply llReject_keeps
    | with_reducible assumption
    | (extract_lets +onlyGivenNames x; subst x)
    | with_reducible apply Keeps.ite
    | with_reducible apply Keeps.refl

theorem llBitTimeout_keeps {z : Chip} (n : Nat) (s : Chip) (hz : Keeps z s) : Keeps z (llBitTimeout n s) := by
  refine hz.trans ?_
  clear hz
  unfold llBitTimeout
  repeat' first
    | with_reducible apply llReject_keeps
    | with_reducible apply setFault_keeps
    | with_reducible apply Chip_drawn_keeps
    | with_reducible assumption
    | (extract_lets +onlyGivenNames x; refine Keeps.bind (x := x) (fun hx => ?_) ?_; rotate_left; subst x; rotate_right; clear_value x)
    | with_reducible apply Keeps.ite
    | with_reducible apply Keeps.refl

theorem linkLost_keeps {z : Chip} (n : Nat) (s : Chip) (hz : Keeps z s) : Keeps z (linkLost n s) := by
  refine hz.trans ?_
  clear hz
  unfold linkLost
  repeat' first
    | with_reducible apply setLinkState_keeps
    | with_reducible apply setFault_keeps
    | with_reducible assumption
    | (extract_lets +onlyGivenNames x; subst x)
    | with_reducible apply Keeps.ite
    | with_reducible apply Keeps.refl

theorem setvSettled_keeps {z : Chip} (n : Nat) (s : Chip) (hz : Keeps z s) : Keeps z (setvSettled n s) := by
  refine hz.trans ?_
  clear hz
  unfold setvSettled
  repeat' first
    | with_reducible apply Chip_modLink_keeps
    | with_reducible assumption
    | fail_if_no_progress beta_reduce
    | with_reducible apply Keeps.ite
    | with_reducible apply Keeps.refl

theorem settleTimeout_keeps {z : Chip} (n : Nat) (s : Chip) (hz : Keeps z s) : Keeps z (settleTimeout n s) := by
  refine hz.trans ?_
  clear hz
  unfold settleTimeout
  repeat' first
    | with_reducible apply postLink_keeps
    | with_reducible apply setFault_keeps
    | with_reducible apply Chip_modLink_keeps
    | with_reducible assumption
    | fail_if_no_progress beta_reduce
    | (extract_lets +onlyGivenNames x; refine Keeps.bind (x := x) (fun hx => ?_) ?_; rotate_left; subst x; rotate_right; clear_value x)
    | (extract_lets +onlyGivenNames x; subst x)
    | with_reducible apply Keeps.ite
    | with_reducible apply Keeps.refl

theorem throttleIgnored_keeps {z : Chip} (n : Nat) (s : Chip) (hz : Keeps z s) : Keeps z (throttleIgnored n s) := by
  refine hz.trans ?_
  clear hz
  unfold throttleIgnored
  repeat' first
    | with_reducible apply evalFault_keeps
    | with_reducible assumption
    | fail_if_no_progress beta_reduce
    | with_reducible apply Keeps.ite
    | with_reducible apply Keeps.refl

theorem burstEnd_keeps {z : Chip} (n : Nat) (s : Chip) (hz : Keeps z s) : Keeps z (burstEnd n s) := by
  refine hz.trans ?_
  clear hz
  unfold burstEnd
  repeat' first
    | with_reducible apply endGrant_keeps
    | with_reducible assumption
    | (extract_lets +onlyGivenNames x; subst x)
    | with_reducible apply Keeps.ite
    | with_reducible apply Keeps.refl

theorem applyGrant_keeps {z : Chip} (s : Chip) (n : Nat) (hz : Keeps z s) : Keeps z (applyGrant s n) := by
  refine hz.trans ?_
  clear hz
  unfold applyGrant
  repeat' first
    | with_reducible apply postLink_keeps
    | with_reducible apply Chip_modBurst_keeps
    | with_reducible apply Chip_modLink_keeps
    | with_reducible assumption
    | fail_if_no_progress beta_reduce
    | with_reducible apply Keeps.ite
    | with_reducible apply Keeps.refl
    | fail_if_no_progress (with_reducible refine Keeps.lit ?_ rfl rfl rfl rfl rfl rfl rfl rfl rfl rfl rfl rfl rfl rfl rfl rfl rfl)
    | split

theorem linkTick_keeps {z : Chip} (s : Chip) (n : Nat) (hz : Keeps z s) : Keeps z (linkTick s n) := by
  refine hz.trans ?_
  clear hz
  unfold linkTick
  repeat' first
    | with_reducible apply applyGrant_keeps
    | with_reducible apply endGrant_keeps
    | with_reducible apply Chip_modLink_keeps
    | with_reducible assumption
    | fail_if_no_progress beta_reduce
    | (extract_lets +onlyGivenNames x; refine Keeps.bind (x := x) (fun hx => ?_) ?_; rotate_left; subst x; rotate_right; clear_value x)
    | (extract_lets +onlyGivenNames x; subst x)
    | with_reducible apply Keeps.ite
    | with_reducible apply Keeps.refl
    | fail_if_no_progress (with_reducible refine Keeps.lit ?_ rfl rfl rfl rfl rfl rfl rfl rfl rfl rfl rfl rfl rfl rfl rfl rfl rfl)
    | split

theorem bodyLlGet_keeps {z : Chip} (rq : Request) (r : ReqRef) (s : Chip) (hz : Keeps z s) : Keeps z (bodyLlGet rq r s).2 := by
  refine hz.trans ?_
  clear hz
  unfold bodyLlGet
  repeat' first
    | with_reducible assumption
    | fail_if_no_progress beta_reduce
    | with_reducible apply Keeps.refl
    | fail_if_no_progress (with_reducible refine Keeps.lit ?_ rfl rfl rfl rfl rfl rfl rfl rfl rfl rfl rfl rfl rfl rfl rfl rfl rfl)
    | split

theorem bodyLlStateAll_keeps {z : Chip} (rq : Request) (r : ReqRef) (s : Chip) (hz : Keeps z s) : Keeps z (bodyLlStateAll rq r s).2 := by
  refine hz.trans ?_
  clear hz
  unfold bodyLlStateAll
  repeat' first
    | with_reducible assumption
    | fail_if_no_progress beta_reduce
    | with_reducible apply Keeps.refl

theorem llDisable_keeps {z : Chip} (s : Chip) (n : Nat) (hz : Keeps z s) : Keeps z (llDisable s n) := by
  refine hz.trans ?_
  clear hz
  unfold llDisable
  repeat' first
    | with_reducible apply refuseBurst_keeps
    | with_reducible apply Chip_modLink_keeps
    | with_reducible assumption
    | fail_if_no_progress beta_reduce
    | with_reducible apply Keeps.refl

theorem bodyLlDisable_keeps {z : Chip} (rq : Request) (r : ReqRef) (s : Chip) (hz : Keeps z s) : Keeps z (bodyLlDisable rq r s).2 := by
  refine hz.trans ?_
  clear hz
  unfold bodyLlDisable
  repeat' first
    | with_reducible apply llDisable_keeps
    | with_reducible assumption
    | fail_if_no_progress beta_reduce
    | (extract_lets +onlyGivenNames x; refine Keeps.bind (x := x) (fun hx => ?_) ?_; rotate_left; subst x; rotate_right; clear_value x)
    | with_reducible apply Keeps.refl
    | fail_if_no_progress (with_reducible refine Keeps.lit ?_ rfl rfl rfl rfl rfl rfl rfl rfl rfl rfl rfl rfl rfl rfl rfl rfl rfl)
    | split

theorem linkDown_keeps {z : Chip} (s : Chip) (n : Nat) (hz : Keeps z s) : Keeps z (linkDown s n) := by
  refine hz.trans ?_
  clear hz
  unfold linkDown
  repeat' first
    | with_reducible apply setLinkState_keeps
    | with_reducible apply Chip_modLink_keeps
    | with_reducible assumption
    | fail_if_no_progress beta_reduce
    | with_reducible apply Keeps.refl

theorem bodyLlEnable_keeps {z : Chip} (rq : Request) (r : ReqRef) (s : Chip) (hz : Keeps z s) : Keeps z (bodyLlEnable rq r s).2 := by
  refine hz.trans ?_
  clear hz
  unfold bodyLlEnable
  repeat' first
    | with_reducible apply linkDown_keeps
    | with_reducible apply Chip_modLink_keeps
    | with_reducible assumption
    | fail_if_no_progress beta_reduce
    | (extract_lets +onlyGivenNames x; refine Keeps.bind (x := x) (fun hx => ?_) ?_; rotate_left; subst x; rotate_right; clear_value x)
    | (extract_lets +onlyGivenNames x; subst x)
    | with_reducible apply Keeps.refl
    | fail_if_no_progress (with_reducible refine Keeps.lit ?_ rfl rfl rfl rfl rfl rfl rfl rfl rfl rfl rfl rfl rfl rfl rfl rfl rfl)
    | split

theorem energyEvent_keeps {z : Chip} (s : Chip) (changed : Bool) (kind ch : Nat) (hz : Keeps z s) : Keeps z (energyEvent s changed kind ch) := by
  refine hz.trans ?_
  clear hz
  unfold energyEvent
  repeat' first
    | with_reducible apply post_keeps
    | with_reducible assumption
    | with_reducible apply Keeps.ite
    | with_reducible apply Keeps.refl

theorem formQuantities_keeps {z : Chip} (s : Chip) (hz : Keeps z s) : Keeps z (formQuantities s) := by
  refine hz.trans ?_
  clear hz
  unfold formQuantities
  repeat' first
    | with_reducible assumption
    | fail_if_no_progress beta_reduce
    | (extract_lets +onlyGivenNames x; subst x)
    | with_reducible apply Keeps.ite
    | with_reducible apply Keeps.refl
    | fail_if_no_progress (with_reducible refine Keeps.lit ?_ rfl rfl rfl rfl rfl rfl rfl rfl rfl rfl rfl rfl rfl rfl rfl rfl rfl)

theorem rectAvail_keeps {z : Chip} (s : Chip) (hz : Keeps z s) : Keeps z (rectAvail s) := by
  refine hz.trans ?_
  clear hz
  unfold rectAvail
  repeat' first
    | with_reducible apply energyEvent_keeps
    | with_reducible apply evalFault_keeps
    | with_reducible apply Chip_modRect_keeps
    | with_reducible assumption
    | (with_reducible apply Keeps.foldl; intro _ _)
    | fail_if_no_progress beta_reduce
    | with_reducible apply Keeps.ite
    | with_reducible apply Keeps.refl

theorem askWrite_keeps {z : Chip} (s : Chip) (n : Nat) (mV : Int) (hz : Keeps z s) : Keeps z (askWrite s n mV) := by
  refine hz.trans ?_
  clear hz
  unfold askWrite
  repeat' first
    | with_reducible apply Chip_modRect_keeps
    | with_reducible assumption
    | fail_if_no_progress beta_reduce
    | (extract_lets +onlyGivenNames x; subst x)
    | with_reducible apply Keeps.ite
    | with_reducible apply Keeps.refl

theorem shareRectifiers_keeps {z : Chip} (s : Chip) (hz : Keeps z s) : Keeps z (shareRectifiers s) := by
  refine hz.trans ?_
  clear hz
  unfold shareRectifiers
  repeat' first
    | with_reducible apply askWrite_keeps
    | with_reducible apply Chip_modRect_keeps
    | with_reducible assumption
    | (with_reducible apply Keeps.foldl; intro _ _)
    | fail_if_no_progress beta_reduce
    | (extract_lets +onlyGivenNames x; subst x)
    | with_reducible apply Keeps.ite
    | with_reducible apply Keeps.refl
    | fail_if_no_progress (with_reducible refine Keeps.lit ?_ rfl rfl rfl rfl rfl rfl rfl rfl rfl rfl rfl rfl rfl rfl rfl rfl rfl)

theorem standoffRectifiers_keeps {z : Chip} (s : Chip) (hz : Keeps z s) : Keeps z (standoffRectifiers s) := by
  refine hz.trans ?_
  clear hz
  unfold standoffRectifiers
  repeat' first
    | with_reducible apply askWrite_keeps
    | with_reducible assumption
    | (with_reducible apply Keeps.foldl; intro _ _)
    | fail_if_no_progress beta_reduce
    | with_reducible apply Keeps.ite
    | with_reducible apply Keeps.refl

theorem formPools_keeps {z : Chip} (s : Chip) (hz : Keeps z s) : Keeps z (formPools s) := by
  refine hz.trans ?_
  clear hz
  unfold formPools
  repeat' first
    | with_reducible assumption
    | (extract_lets +onlyGivenNames x; subst x)
    | with_reducible apply Keeps.refl
    | fail_if_no_progress (with_reducible refine Keeps.lit ?_ rfl rfl rfl rfl rfl rfl rfl rfl rfl rfl rfl rfl rfl rfl rfl rfl rfl)

theorem storeMarks_keeps {z : Chip} (s : Chip) (hz : Keeps z s) : Keeps z (storeMarks s) := by
  refine hz.trans ?_
  clear hz
  unfold storeMarks
  repeat' first
    | with_reducible apply energyEvent_keeps
    | with_reducible apply evalFault_keeps
    | with_reducible assumption
    | (extract_lets +onlyGivenNames x; subst x)
    | with_reducible apply Keeps.ite
    | with_reducible apply Keeps.refl
    | fail_if_no_progress (with_reducible refine Keeps.lit ?_ rfl rfl rfl rfl rfl rfl rfl rfl rfl rfl rfl rfl rfl rfl rfl rfl rfl)

theorem queueEnergy_keeps {z : Chip} (s : Chip) (e : EnergySet) (hz : Keeps z s) : Keeps z (queueEnergy s e) := by
  refine hz.trans ?_
  unfold queueEnergy
  split
  · exact ⟨fun b => ⟨b.events, b.recorder, by simp; omega, b.ports, b.sticky, b.sources, b.rollback, b.sram, b.depths⟩, fun _ => .refl _, rfl, id⟩
  · exact .refl _

theorem setCharges_keeps {z : Chip} (s : Chip) (shares : List (Nat × Int)) (hz : Keeps z s) : Keeps z (setCharges s shares) := by
  refine hz.trans ?_
  clear hz
  unfold setCharges
  repeat' first
    | with_reducible apply queueEnergy_keeps
    | with_reducible assumption
    | (with_reducible apply Keeps.foldl; intro _ _)
    | fail_if_no_progress beta_reduce
    | with_reducible apply Keeps.refl

theorem discharge_keeps {z : Chip} (s : Chip) (p : Int) (hz : Keeps z s) : Keeps z (discharge s p).1 := by
  refine hz.trans ?_
  clear hz
  unfold discharge
  repeat' first
    | with_reducible apply setCharges_keeps
    | with_reducible assumption
    | fail_if_no_progress beta_reduce
    | with_reducible apply Keeps.ite
    | with_reducible apply Keeps.refl

theorem charge_keeps {z : Chip} (s : Chip) (p : Int) (hz : Keeps z s) : Keeps z (charge s p) := by
  refine hz.trans ?_
  clear hz
  unfold charge
  repeat' first
    | with_reducible apply setCharges_keeps
    | with_reducible assumption
    | fail_if_no_progress beta_reduce
    | with_reducible apply Keeps.refl

theorem storeStep_keeps {z : Chip} (s : Chip) (hz : Keeps z s) : Keeps z (storeStep s).1 := by
  unfold storeStep
  dsimp only
  split
  · exact .lit (discharge_keeps _ _ hz) rfl rfl rfl rfl rfl rfl rfl rfl rfl rfl rfl rfl rfl rfl rfl rfl rfl
  split
  · exact charge_keeps _ _ (.lit hz rfl rfl rfl rfl rfl rfl rfl rfl rfl rfl rfl rfl rfl rfl rfl rfl rfl)
  · exact setCharges_keeps _ _ (.lit hz rfl rfl rfl rfl rfl rfl rfl rfl rfl rfl rfl rfl rfl rfl rfl rfl rfl)

theorem throttleLinks_keeps {z : Chip} (s : Chip) (changed : Bool) (hz : Keeps z s) : Keeps z (throttleLinks s changed) := by
  refine hz.trans ?_
  clear hz
  unfold throttleLinks
  repeat' first
    | with_reducible apply setLive_keeps
    | with_reducible apply Chip_modBurst_keeps
    | with_reducible apply Chip_modLink_keeps
    | with_reducible assumption
    | (with_reducible apply Keeps.foldl; intro _ _)
    | fail_if_no_progress beta_reduce
    | (extract_lets +onlyGivenNames x; refine Keeps.bind (x := x) (fun hx => ?_) ?_; rotate_left; subst x; rotate_right; clear_value x)
    | (extract_lets +onlyGivenNames x; subst x)
    | with_reducible apply Keeps.ite
    | with_reducible apply Keeps.refl

theorem throttleStep_keeps {z : Chip} (s : Chip) (unmet : Int) (hz : Keeps z s) : Keeps z (throttleStep s unmet) := by
  refine hz.trans ?_
  clear hz
  unfold throttleStep
  repeat' first
    | with_reducible apply throttleLinks_keeps
    | with_reducible apply setFault_keeps
    | with_reducible assumption
    | fail_if_no_progress beta_reduce
    | (extract_lets +onlyGivenNames x; subst x)
    | with_reducible apply Keeps.ite
    | with_reducible apply Keeps.refl
    | fail_if_no_progress (with_reducible refine Keeps.lit ?_ rfl rfl rfl rfl rfl rfl rfl rfl rfl rfl rfl rfl rfl rfl rfl rfl rfl)

theorem capCounts_keeps {z : Chip} (s : Chip) (hz : Keeps z s) : Keeps z (capCounts s) := by
  refine hz.trans ?_
  clear hz
  unfold capCounts
  repeat' first
    | with_reducible apply setFault_keeps
    | with_reducible apply setLive_keeps
    | with_reducible assumption
    | fail_if_no_progress beta_reduce
    | (extract_lets +onlyGivenNames x; refine Keeps.bind (x := x) (fun hx => ?_) ?_; rotate_left; subst x; rotate_right; clear_value x)
    | (extract_lets +onlyGivenNames x; subst x)
    | with_reducible apply Keeps.ite
    | with_reducible apply Keeps.refl
    | fail_if_no_progress (with_reducible refine Keeps.lit ?_ rfl rfl rfl rfl rfl rfl rfl rfl rfl rfl rfl rfl rfl rfl rfl rfl rfl)
    | split

theorem capStateStep_keeps {z : Chip} (s : Chip) (hz : Keeps z s) : Keeps z (capStateStep s) := by
  refine hz.trans ?_
  clear hz
  unfold capStateStep
  repeat' first
    | with_reducible apply energyEvent_keeps
    | with_reducible assumption
    | fail_if_no_progress beta_reduce
    | (extract_lets +onlyGivenNames x; subst x)
    | with_reducible apply Keeps.ite
    | with_reducible apply Keeps.refl
    | fail_if_no_progress (with_reducible refine Keeps.lit ?_ rfl rfl rfl rfl rfl rfl rfl rfl rfl rfl rfl rfl rfl rfl rfl rfl rfl)

theorem capOver_keeps {z : Chip} (s : Chip) (hz : Keeps z s) : Keeps z (capOver s) := by
  refine hz.trans ?_
  clear hz
  unfold capOver
  repeat' first
    | with_reducible apply capStateStep_keeps
    | with_reducible apply evalFault_keeps
    | with_reducible apply setLive_keeps
    | with_reducible assumption
    | fail_if_no_progress beta_reduce
    | (extract_lets +onlyGivenNames x; subst x)
    | with_reducible apply Keeps.ite
    | with_reducible apply Keeps.refl
    | fail_if_no_progress (with_reducible refine Keeps.lit ?_ rfl rfl rfl rfl rfl rfl rfl rfl rfl rfl rfl rfl rfl rfl rfl rfl rfl)

theorem decideLink_keeps {z : Chip} (s : Chip) (n : Nat) (hz : Keeps z s) : Keeps z (decideLink s n) := by
  refine hz.trans ?_
  clear hz
  unfold decideLink
  repeat' first
    | with_reducible apply Chip_modBurst_keeps
    | with_reducible assumption
    | fail_if_no_progress beta_reduce
    | (extract_lets +onlyGivenNames x; subst x)
    | with_reducible apply Keeps.ite
    | with_reducible apply Keeps.refl
    | fail_if_no_progress (with_reducible refine Keeps.lit ?_ rfl rfl rfl rfl rfl rfl rfl rfl rfl rfl rfl rfl rfl rfl rfl rfl rfl)
    | split

theorem decideBurst_keeps {z : Chip} (s : Chip) (n : Nat) (hz : Keeps z s) : Keeps z (decideBurst s n) := by
  refine hz.trans ?_
  clear hz
  unfold decideBurst
  repeat' first
    | with_reducible apply decideLink_keeps
    | with_reducible apply formPools_keeps
    | with_reducible assumption
    | (extract_lets +onlyGivenNames x; subst x)
    | with_reducible apply Keeps.ite
    | with_reducible apply Keeps.refl

theorem decideBursts_keeps {z : Chip} (s : Chip) (hz : Keeps z s) : Keeps z (decideBursts s) := by
  refine hz.trans ?_
  clear hz
  unfold decideBursts
  repeat' first
    | with_reducible apply decideBurst_keeps
    | with_reducible assumption
    | (with_reducible apply Keeps.forEach; intro _ _)
    | fail_if_no_progress beta_reduce
    | with_reducible apply Keeps.refl

theorem raiseStep_keeps {z : Chip} (s : Chip) (hz : Keeps z s) : Keeps z (raiseStep s) := by
  refine hz.trans ?_
  clear hz
  unfold raiseStep
  repeat' first
    | with_reducible assumption
    | (extract_lets +onlyGivenNames x; subst x)
    | with_reducible apply Keeps.ite
    | with_reducible apply Keeps.refl
    | fail_if_no_progress (with_reducible refine Keeps.lit ?_ rfl rfl rfl rfl rfl rfl rfl rfl rfl rfl rfl rfl rfl rfl rfl rfl rfl)

theorem modeConditions_keeps {z : Chip} (s : Chip) (hz : Keeps z s) : Keeps z (modeConditions s) := by
  refine hz.trans ?_
  clear hz
  unfold modeConditions
  repeat' first
    | with_reducible assumption
    | (extract_lets +onlyGivenNames x; subst x)
    | with_reducible apply Keeps.ite
    | with_reducible apply Keeps.refl
    | fail_if_no_progress (with_reducible refine Keeps.lit ?_ rfl rfl rfl rfl rfl rfl rfl rfl rfl rfl rfl rfl rfl rfl rfl rfl rfl)

theorem energyFaults_keeps {z : Chip} (s : Chip) (hz : Keeps z s) : Keeps z (energyFaults s) := by
  refine hz.trans ?_
  clear hz
  unfold energyFaults
  repeat' first
    | with_reducible apply evalFault_keeps
    | with_reducible assumption
    | (extract_lets +onlyGivenNames x; subst x)
    | with_reducible apply Keeps.refl
    | fail_if_no_progress (with_reducible refine Keeps.lit ?_ rfl rfl rfl rfl rfl rfl rfl rfl rfl rfl rfl rfl rfl rfl rfl rfl rfl)

theorem energyPolicy_keeps {z : Chip} (s : Chip) (hz : Keeps z s) : Keeps z (energyPolicy s) := by
  refine hz.trans ?_
  clear hz
  unfold energyPolicy
  repeat' first
    | with_reducible apply modeConditions_keeps
    | with_reducible apply raiseStep_keeps
    | with_reducible apply decideBursts_keeps
    | with_reducible apply capStateStep_keeps
    | with_reducible apply throttleStep_keeps
    | with_reducible apply storeStep_keeps
    | with_reducible apply standoffRectifiers_keeps
    | with_reducible apply shareRectifiers_keeps
    | with_reducible assumption
    | fail_if_no_progress beta_reduce
    | (extract_lets +onlyGivenNames x; subst x)
    | with_reducible apply Keeps.ite
    | with_reducible apply Keeps.refl
    | fail_if_no_progress (with_reducible refine Keeps.lit ?_ rfl rfl rfl rfl rfl rfl rfl rfl rfl rfl rfl rfl rfl rfl rfl rfl rfl)
    | split

theorem energyStep_keeps {z : Chip} (s : Chip) (hz : Keeps z s) : Keeps z (energyStep s) := by
  refine hz.trans ?_
  clear hz
  unfold energyStep
  repeat' first
    | with_reducible apply energyPolicy_keeps
    | with_reducible apply energyFaults_keeps
    | with_reducible apply capCounts_keeps
    | with_reducible apply throttleLinks_keeps
    | with_reducible apply storeMarks_keeps
    | with_reducible apply rectAvail_keeps
    | with_reducible apply formQuantities_keeps
    | with_reducible assumption
    | (extract_lets +onlyGivenNames x; refine Keeps.bind (x := x) (fun hx => ?_) ?_; rotate_left; subst x; rotate_right; clear_value x)
    | (extract_lets +onlyGivenNames x; subst x)
    | with_reducible apply Keeps.ite
    | with_reducible apply Keeps.refl
    | fail_if_no_progress (with_reducible refine Keeps.lit ?_ rfl rfl rfl rfl rfl rfl rfl rfl rfl rfl rfl rfl rfl rfl rfl rfl rfl)

theorem blindNow_keeps {z : Chip} (s : Chip) (hz : Keeps z s) : Keeps z (blindNow s) := by
  refine hz.trans ?_
  clear hz
  unfold blindNow
  repeat' first
    | with_reducible apply evalFault_keeps
    | with_reducible apply setLive_keeps
    | with_reducible assumption
    | (extract_lets +onlyGivenNames x; subst x)
    | with_reducible apply Keeps.refl
    | fail_if_no_progress (with_reducible refine Keeps.lit ?_ rfl rfl rfl rfl rfl rfl rfl rfl rfl rfl rfl rfl rfl rfl rfl rfl rfl)

theorem rectAgeExpiry_keeps {z : Chip} (n : Nat) (s : Chip) (hz : Keeps z s) : Keeps z (rectAgeExpiry n s) := by
  refine hz.trans ?_
  clear hz
  unfold rectAgeExpiry
  repeat' first
    | with_reducible apply blindNow_keeps
    | with_reducible apply energyEvent_keeps
    | with_reducible apply evalFault_keeps
    | with_reducible apply Chip_modRect_keeps
    | with_reducible assumption
    | fail_if_no_progress beta_reduce
    | (extract_lets +onlyGivenNames x; refine Keeps.bind (x := x) (fun hx => ?_) ?_; rotate_left; subst x; rotate_right; clear_value x)
    | (extract_lets +onlyGivenNames x; subst x)
    | with_reducible apply Keeps.ite
    | with_reducible apply Keeps.refl

theorem beginHand_keeps {z : Chip} (s : Chip) (k : Nat) (hz : Keeps z s) : Keeps z (beginHand s k) := by
  refine hz.trans ?_
  clear hz
  unfold beginHand
  repeat' first
    | with_reducible apply setLimit_keeps
    | with_reducible apply Chip_modRail_keeps
    | with_reducible assumption
    | fail_if_no_progress beta_reduce
    | with_reducible apply Keeps.refl

theorem beginHands_keeps {z : Chip} (s : Chip) (hz : Keeps z s) : Keeps z (beginHands s) := by
  refine hz.trans ?_
  clear hz
  unfold beginHands
  repeat' first
    | with_reducible apply beginHand_keeps
    | with_reducible assumption
    | (with_reducible apply Keeps.forEach; intro _ _)
    | fail_if_no_progress beta_reduce
    | with_reducible apply Keeps.ite
    | with_reducible apply Keeps.refl

theorem applyEnergy_keeps {z : Chip} (s : Chip) (e : EnergySet) (hz : Keeps z s) : Keeps z (applyEnergy s e) := by
  refine hz.trans ?_
  clear hz
  unfold applyEnergy
  repeat' first
    | with_reducible apply beginHands_keeps
    | with_reducible apply charge_keeps
    | with_reducible apply enterBridging_keeps
    | with_reducible apply setFault_keeps
    | with_reducible apply Chip_modRail_keeps
    | with_reducible assumption
    | (with_reducible apply Keeps.forEach; intro _ _)
    | fail_if_no_progress beta_reduce
    | (extract_lets +onlyGivenNames x; subst x)
    | with_reducible apply Keeps.ite
    | with_reducible apply Keeps.refl
    | fail_if_no_progress (with_reducible refine Keeps.lit ?_ rfl rfl rfl rfl rfl rfl rfl rfl rfl rfl rfl rfl rfl rfl rfl rfl rfl)
    | split

theorem applyEnergyQueue_keeps {z : Chip} (s : Chip) (hz : Keeps z s) : Keeps z (applyEnergyQueue s) := by
  unfold applyEnergyQueue
  refine .foldl (fun _ _ => applyEnergy_keeps _ _ (.refl _)) (hz.trans ?_)
  exact ⟨fun b => ⟨b.events, b.recorder, Nat.le_trans (List.length_filter_le _ _) b.energy, b.ports, b.sticky, b.sources, b.rollback, b.sram, b.depths⟩, fun _ => .refl _, rfl, id⟩

theorem bodyEnergyGet_keeps {z : Chip} (rq : Request) (r : ReqRef) (s : Chip) (hz : Keeps z s) : Keeps z (bodyEnergyGet rq r s).2 := by
  refine hz.trans ?_
  clear hz
  unfold bodyEnergyGet
  repeat' first
    | with_reducible assumption
    | fail_if_no_progress beta_reduce
    | with_reducible apply Keeps.refl

theorem bodyChargeSet_keeps {z : Chip} (rq : Request) (r : ReqRef) (s : Chip) (hz : Keeps z s) : Keeps z (bodyChargeSet rq r s).2 := by
  refine hz.trans ?_
  clear hz
  unfold bodyChargeSet
  repeat' first
    | with_reducible apply queueEnergy_keeps
    | with_reducible assumption
    | fail_if_no_progress beta_reduce
    | (extract_lets +onlyGivenNames x; subst x)
    | with_reducible apply Keeps.ite
    | with_reducible apply Keeps.refl
    | fail_if_no_progress (with_reducible refine Keeps.lit ?_ rfl rfl rfl rfl rfl rfl rfl rfl rfl rfl rfl rfl rfl rfl rfl rfl rfl)
    | split

theorem bodyBridgeGet_keeps {z : Chip} (rq : Request) (r : ReqRef) (s : Chip) (hz : Keeps z s) : Keeps z (bodyBridgeGet rq r s).2 := by
  refine hz.trans ?_
  clear hz
  unfold bodyBridgeGet
  repeat' first
    | with_reducible assumption
    | fail_if_no_progress beta_reduce
    | with_reducible apply Keeps.refl

theorem bodyRectGet_keeps {z : Chip} (rq : Request) (r : ReqRef) (s : Chip) (hz : Keeps z s) : Keeps z (bodyRectGet rq r s).2 := by
  refine hz.trans ?_
  clear hz
  unfold bodyRectGet
  repeat' first
    | with_reducible assumption
    | fail_if_no_progress beta_reduce
    | (extract_lets +onlyGivenNames x; subst x)
    | with_reducible apply Keeps.ite
    | with_reducible apply Keeps.refl
    | fail_if_no_progress (with_reducible refine Keeps.lit ?_ rfl rfl rfl rfl rfl rfl rfl rfl rfl rfl rfl rfl rfl rfl rfl rfl rfl)
    | split

end Sys2Proof.Machine
end

