-- ==== Sys2Proof/Laws/Keeps2.lean ====
section
/-! SUPPORT. What the operations of Metering, Downstream, Ledger, Curve, Channels, Batteries keep. -/

namespace Sys2Proof.Machine

theorem Chip_setMeter_keeps {z : Chip} (s : Chip) (o : Nat) (m : Meter) (hz : Keeps z s) : Keeps z (Chip.setMeter s o m) := by
  refine hz.trans ?_
  clear hz
  unfold Chip.setMeter
  repeat' first
    | with_reducible assumption
    | with_reducible apply Keeps.refl
    | fail_if_no_progress (with_reducible refine Keeps.lit ?_ rfl rfl rfl rfl rfl rfl rfl rfl rfl rfl rfl rfl rfl rfl rfl rfl rfl)

theorem Chip_modMeter_keeps {z : Chip} (s : Chip) (o : Nat) (f : Meter → Meter) (hz : Keeps z s) : Keeps z (Chip.modMeter s o f) := by
  refine hz.trans ?_
  clear hz
  unfold Chip.modMeter
  repeat' first
    | with_reducible apply Chip_setMeter_keeps
    | with_reducible assumption
    | with_reducible apply Keeps.refl

theorem intoTotal_keeps {z : Chip} (s : Chip) (o uJ : Nat) (importing : Bool) (hz : Keeps z s) : Keeps z (intoTotal s o uJ importing) := by
  refine hz.trans ?_
  clear hz
  unfold intoTotal
  repeat' first
    | with_reducible apply Chip_modMeter_keeps
    | with_reducible assumption
    | with_reducible exact rfl
    | fail_if_no_progress beta_reduce
    | (extract_lets +onlyGivenNames x; refine Keeps.bind (x := x) (fun hx => ?_) ?_; rotate_left; subst x; rotate_right; clear_value x)
    | (extract_lets +onlyGivenNames x; subst x)
    | with_reducible apply Keeps.refl
    | fail_if_no_progress (with_reducible refine Keeps.lit ?_ rfl rfl rfl rfl rfl rfl rfl rfl rfl rfl rfl rfl rfl rfl rfl rfl rfl)
    | split

theorem addEnergy_keeps {z : Chip} (s : Chip) (o : Nat) (e : Int) (hz : Keeps z s) : Keeps z (addEnergy s o e) := by
  refine hz.trans ?_
  clear hz
  unfold addEnergy
  repeat' first
    | with_reducible apply intoTotal_keeps
    | with_reducible apply Chip_setMeter_keeps
    | with_reducible assumption
    | (extract_lets +onlyGivenNames x; refine Keeps.bind (x := x) (fun hx => ?_) ?_; rotate_left; subst x; rotate_right; clear_value x)
    | (extract_lets +onlyGivenNames x; subst x)
    | with_reducible apply Keeps.ite
    | with_reducible apply Keeps.refl

theorem overrange_keeps {z : Chip} (s : Chip) (o : Nat) (i v : Bool) (hz : Keeps z s) : Keeps z (overrange s o i v) := by
  refine hz.trans ?_
  clear hz
  unfold overrange
  repeat' first
    | with_reducible apply Chip_modMeter_keeps
    | with_reducible apply setFault_keeps
    | with_reducible assumption
    | with_reducible exact rfl
    | fail_if_no_progress beta_reduce
    | (extract_lets +onlyGivenNames x; refine Keeps.bind (x := x) (fun hx => ?_) ?_; rotate_left; subst x; rotate_right; clear_value x)
    | with_reducible apply Keeps.ite
    | with_reducible apply Keeps.refl

theorem calSample_keeps {z : Chip} (s : Chip) (o : Nat) (vs vm : Int) (hz : Keeps z s) : Keeps z (calSample s o vs vm) := by
  refine hz.trans ?_
  clear hz
  unfold calSample
  repeat' first
    | with_reducible assumption
    | (extract_lets +onlyGivenNames x; subst x)
    | with_reducible apply Keeps.ite
    | with_reducible apply Keeps.refl
    | fail_if_no_progress (with_reducible refine Keeps.lit ?_ rfl rfl rfl rfl rfl rfl rfl rfl rfl rfl rfl rfl rfl rfl rfl rfl rfl)

theorem meterSample_keeps {z : Chip} (o : Nat) (vs vm : Int) (s : Chip) (hz : Keeps z s) : Keeps z (meterSample o vs vm s) := by
  refine hz.trans ?_
  clear hz
  unfold meterSample
  repeat' first
    | with_reducible apply calSample_keeps
    | with_reducible apply overrange_keeps
    | with_reducible apply addEnergy_keeps
    | with_reducible apply Chip_modMeter_keeps
    | with_reducible assumption
    | with_reducible exact rfl
    | fail_if_no_progress beta_reduce
    | (extract_lets +onlyGivenNames x; refine Keeps.bind (x := x) (fun hx => ?_) ?_; rotate_left; subst x; rotate_right; clear_value x)
    | (extract_lets +onlyGivenNames x; subst x)
    | with_reducible apply Keeps.ite
    | with_reducible apply Keeps.refl
    | fail_if_no_progress (with_reducible refine Keeps.lit ?_ rfl rfl rfl rfl rfl rfl rfl rfl rfl rfl rfl rfl rfl rfl rfl rfl rfl)
    | split

theorem shuntTempRead_keeps {z : Chip} (o : Nat) (s : Chip) (hz : Keeps z s) : Keeps z (shuntTempRead o s) := by
  refine hz.trans ?_
  clear hz
  unfold shuntTempRead
  repeat' first
    | with_reducible apply Chip_modMeter_keeps
    | with_reducible apply evalFault_keeps
    | with_reducible assumption
    | with_reducible exact rfl
    | fail_if_no_progress beta_reduce
    | (extract_lets +onlyGivenNames x; refine Keeps.bind (x := x) (fun hx => ?_) ?_; rotate_left; subst x; rotate_right; clear_value x)
    | (extract_lets +onlyGivenNames x; subst x)
    | with_reducible apply Keeps.ite
    | with_reducible apply Keeps.refl
    | fail_if_no_progress (with_reducible refine Keeps.lit ?_ rfl rfl rfl rfl rfl rfl rfl rfl rfl rfl rfl rfl rfl rfl rfl rfl rfl)
    | split

theorem retainedWritten_keeps {z : Chip} (k : Nat) (s : Chip) (hz : Keeps z s) : Keeps z (retainedWritten k s) := by
  refine hz.trans ?_
  clear hz
  unfold retainedWritten
  repeat' first
    | with_reducible assumption
    | fail_if_no_progress beta_reduce
    | (extract_lets +onlyGivenNames x; subst x)
    | with_reducible apply Keeps.refl
    | fail_if_no_progress (with_reducible refine Keeps.lit ?_ rfl rfl rfl rfl rfl rfl rfl rfl rfl rfl rfl rfl rfl rfl rfl rfl rfl)

theorem writeCheckpoint_keeps {z : Chip} (s : Chip) (hz : Keeps z s) : Keeps z (writeCheckpoint s) := by
  refine hz.trans ?_
  clear hz
  unfold writeCheckpoint
  repeat' first
    | with_reducible apply retainedWritten_keeps
    | with_reducible assumption
    | with_reducible apply Keeps.ite
    | with_reducible apply Keeps.refl
    | fail_if_no_progress (with_reducible refine Keeps.lit ?_ rfl rfl rfl rfl rfl rfl rfl rfl rfl rfl rfl rfl rfl rfl rfl rfl rfl)

theorem checkpoint_keeps {z : Chip} (s : Chip) (hz : Keeps z s) : Keeps z (checkpoint s) := by
  refine hz.trans ?_
  clear hz
  unfold checkpoint
  repeat' first
    | with_reducible apply writeCheckpoint_keeps
    | with_reducible assumption
    | with_reducible apply Keeps.ite
    | with_reducible apply Keeps.refl

theorem writeCounts_keeps {z : Chip} (s : Chip) (hz : Keeps z s) : Keeps z (writeCounts s) := by
  refine hz.trans ?_
  clear hz
  unfold writeCounts
  repeat' first
    | with_reducible apply retainedWritten_keeps
    | with_reducible assumption
    | (extract_lets +onlyGivenNames x; subst x)
    | with_reducible apply Keeps.ite
    | with_reducible apply Keeps.refl
    | fail_if_no_progress (with_reducible refine Keeps.lit ?_ rfl rfl rfl rfl rfl rfl rfl rfl rfl rfl rfl rfl rfl rfl rfl rfl rfl)

theorem bodyMeterGet_keeps {z : Chip} (rq : Request) (r : ReqRef) (s : Chip) (hz : Keeps z s) : Keeps z (bodyMeterGet rq r s).2 := by
  refine hz.trans ?_
  clear hz
  unfold bodyMeterGet
  repeat' first
    | with_reducible assumption
    | fail_if_no_progress beta_reduce
    | with_reducible apply Keeps.ite
    | with_reducible apply Keeps.refl
    | fail_if_no_progress (with_reducible refine Keeps.lit ?_ rfl rfl rfl rfl rfl rfl rfl rfl rfl rfl rfl rfl rfl rfl rfl rfl rfl)
    | split

theorem bodyMeterAll_keeps {z : Chip} (rq : Request) (r : ReqRef) (s : Chip) (hz : Keeps z s) : Keeps z (bodyMeterAll rq r s).2 := by
  refine hz.trans ?_
  clear hz
  unfold bodyMeterAll
  repeat' first
    | with_reducible assumption
    | fail_if_no_progress beta_reduce
    | (extract_lets +onlyGivenNames x; subst x)
    | with_reducible apply Keeps.ite
    | with_reducible apply Keeps.refl
    | fail_if_no_progress (with_reducible refine Keeps.lit ?_ rfl rfl rfl rfl rfl rfl rfl rfl rfl rfl rfl rfl rfl rfl rfl rfl rfl)
    | split

theorem bodyShelfTotalsGet_keeps {z : Chip} (rq : Request) (r : ReqRef) (s : Chip) (hz : Keeps z s) : Keeps z (bodyShelfTotalsGet rq r s).2 := by
  refine hz.trans ?_
  clear hz
  unfold bodyShelfTotalsGet
  repeat' first
    | with_reducible assumption
    | fail_if_no_progress beta_reduce
    | with_reducible apply Keeps.refl

theorem Chip_modBus_keeps {z : Chip} (s : Chip) (k : Nat) (f : DsBus → DsBus) (hf : (f (s.bus k)).queue.length ≤ (s.bus k).queue.length)
    (hz : Keeps z s) : Keeps z (s.modBus k f) :=
  .depths hz rfl rfl rfl rfl rfl rfl rfl rfl rfl rfl rfl fun d => ⟨d.channels, d.rails, d.box, bus_depth d.buses k _ (hf.trans (d.buses k)), d.slow, d.stamps⟩

theorem recovers_keeps {z : Chip} (s : Chip) (k : Nat) (dataHigh : Bool) (hz : Keeps z s) : Keeps z (recovers s k dataHigh) := by
  refine hz.trans ?_
  clear hz
  unfold recovers
  repeat' first
    | with_reducible apply Chip_modBus_keeps
    | with_reducible apply Chip_drawn_keeps
    | with_reducible assumption
    | with_reducible exact Nat.le_refl _
    | fail_if_no_progress beta_reduce
    | with_reducible apply Keeps.ite
    | with_reducible apply Keeps.refl

theorem setStuck_keeps {z : Chip} (s : Chip) (k : Nat) (stuck : Bool) (hz : Keeps z s) : Keeps z (setStuck s k stuck) := by
  refine hz.trans ?_
  clear hz
  unfold setStuck
  repeat' first
    | with_reducible apply Chip_modBus_keeps
    | with_reducible apply evalFault_keeps
    | with_reducible apply post_keeps
    | with_reducible assumption
    | with_reducible exact Nat.le_refl _
    | fail_if_no_progress beta_reduce
    | (extract_lets +onlyGivenNames x; refine Keeps.bind (x := x) (fun hx => ?_) ?_; rotate_left; subst x; rotate_right; clear_value x)
    | (extract_lets +onlyGivenNames x; subst x)
    | with_reducible apply Keeps.ite
    | with_reducible apply Keeps.refl

theorem rangeFail_keeps {z : Chip} (s : Chip) (k : Nat) (hz : Keeps z s) : Keeps z (rangeFail s k) := by
  refine hz.trans ?_
  clear hz
  unfold rangeFail
  repeat' first
    | with_reducible apply Chip_modBus_keeps
    | with_reducible apply setFault_keeps
    | with_reducible assumption
    | with_reducible exact Nat.le_refl _
    | fail_if_no_progress beta_reduce
    | with_reducible apply Keeps.refl

theorem statusRead_keeps {z : Chip} (s : Chip) (n : Nat) (ok : Bool) (w : Nat) (hz : Keeps z s) : Keeps z (statusRead s n ok w) := by
  refine hz.trans ?_
  clear hz
  unfold statusRead
  repeat' first
    | with_reducible apply evalFault_keeps
    | with_reducible apply Chip_modRect_keeps
    | with_reducible assumption
    | fail_if_no_progress beta_reduce
    | (extract_lets +onlyGivenNames x; refine Keeps.bind (x := x) (fun hx => ?_) ?_; rotate_left; subst x; rotate_right; clear_value x)
    | (extract_lets +onlyGivenNames x; subst x)
    | with_reducible apply Keeps.ite
    | with_reducible apply Keeps.refl

theorem writeEnded_keeps {z : Chip} (s : Chip) (n : Nat) (ok : Bool) (hz : Keeps z s) : Keeps z (writeEnded s n ok) := by
  refine hz.trans ?_
  clear hz
  unfold writeEnded
  repeat' first
    | with_reducible apply Chip_modRect_keeps
    | with_reducible assumption
    | fail_if_no_progress beta_reduce
    | with_reducible apply Keeps.refl

theorem modRead_keeps {z : Chip} (s : Chip) (j id : Nat) (f : BmsRead → Option BmsRead) (hz : Keeps z s) : Keeps z (modRead s j id f) := by
  refine hz.trans ?_
  clear hz
  unfold modRead
  repeat' first
    | with_reducible apply Chip_modBat_keeps
    | with_reducible assumption
    | fail_if_no_progress beta_reduce
    | with_reducible apply Keeps.ite
    | with_reducible apply Keeps.refl

theorem ownOutcome_keeps {z : Chip} (s : Chip) (e : DsEntry) (res : Nat) (data : List Byte) (hz : Keeps z s) : Keeps z (ownOutcome s e res data).2 := by
  refine hz.trans ?_
  clear hz
  unfold ownOutcome
  repeat' first
    | with_reducible apply modRead_keeps
    | with_reducible apply writeEnded_keeps
    | with_reducible apply statusRead_keeps
    | with_reducible apply Chip_modRect_keeps
    | with_reducible assumption
    | fail_if_no_progress beta_reduce
    | (extract_lets +onlyGivenNames x; subst x)
    | with_reducible apply Keeps.ite
    | with_reducible apply Keeps.refl
    | fail_if_no_progress (with_reducible refine Keeps.lit ?_ rfl rfl rfl rfl rfl rfl rfl rfl rfl rfl rfl rfl rfl rfl rfl rfl rfl)
    | split

theorem dsBegin_keeps {z : Chip} (s : Chip) (k : Nat) (e : DsEntry) (hz : Keeps z s) : Keeps z (dsBegin s k e) := by
  refine hz.trans ?_
  clear hz
  unfold dsBegin
  repeat' first
    | with_reducible apply Chip_modBus_keeps
    | with_reducible assumption
    | with_reducible exact Nat.le_refl _
    | fail_if_no_progress beta_reduce
    | with_reducible apply Keeps.refl

theorem dsFinish_keeps {z : Chip} (s : Chip) (k res : Nat) (data : List Byte) (hz : Keeps z s) : Keeps z (dsFinish s k res data) := by
  refine hz.trans ?_
  clear hz
  unfold dsFinish
  repeat' first
    | with_reducible apply dsBegin_keeps
    | with_reducible apply ownOutcome_keeps
    | with_reducible apply rangeFail_keeps
    | with_reducible apply Chip_modBus_keeps
    | with_reducible apply setFault_keeps
    | with_reducible apply post_keeps
    | with_reducible assumption
    | with_reducible exact Nat.le_refl _
    | fail_if_no_progress beta_reduce
    | (extract_lets +onlyGivenNames x; refine Keeps.bind (x := x) (fun hx => ?_) ?_; rotate_left; subst x; rotate_right; clear_value x)
    | (extract_lets +onlyGivenNames x; refine Keeps.bind (x := x.2) (fun hx => ?_) ?_; rotate_left; subst x; rotate_right; clear_value x)
    | (extract_lets +onlyGivenNames x; subst x)
    | with_reducible apply Keeps.ite
    | with_reducible apply Keeps.refl
    | fail_if_no_progress (with_reducible refine Keeps.lit ?_ rfl rfl rfl rfl rfl rfl rfl rfl rfl rfl rfl rfl rfl rfl rfl rfl rfl)
    | split

theorem dsTake_keeps {z : Chip} (s : Chip) (k : Nat) (hz : Keeps z s) : Keeps z (dsTake s k) := by
  unfold dsTake
  dsimp only
  split
  · rename_i h
    split
    · exact hz
    · exact dsBegin_keeps _ _ _ (Chip_modBus_keeps _ _ _ (by simp [h]) hz)
  · exact hz

theorem dsPut_keeps {z : Chip} (s : Chip) (k : Nat) (e : DsEntry) (hz : Keeps z s) : Keeps z (dsPut s k e) := by
  unfold dsPut
  split
  · rename_i h
    refine .depths hz rfl rfl rfl rfl rfl rfl rfl rfl rfl rfl rfl fun d => ⟨d.channels, d.rails, d.box, bus_depth d.buses k _ ?_, d.slow, d.stamps⟩
    simpa [dsRoom] using h
  · exact hz

theorem beginRead_keeps {z : Chip} (s : Chip) (j : Nat) (poll : Bool) (want : List BmsValue) (hz : Keeps z s) : Keeps z (beginRead s j poll want) := by
  refine hz.trans ?_
  clear hz
  unfold beginRead
  repeat' first
    | with_reducible apply Chip_modBat_keeps
    | with_reducible assumption
    | fail_if_no_progress beta_reduce
    | with_reducible apply Keeps.refl

theorem batQueue_keeps {z : Chip} (s : Chip) (j : Nat) (hz : Keeps z s) : Keeps z (batQueue s j) := by
  refine hz.trans ?_
  clear hz
  unfold batQueue
  repeat' first
    | with_reducible apply dsPut_keeps
    | with_reducible apply modRead_keeps
    | with_reducible assumption
    | fail_if_no_progress beta_reduce
    | (extract_lets +onlyGivenNames x; subst x)
    | with_reducible apply Keeps.ite
    | with_reducible apply Keeps.refl
    | fail_if_no_progress (with_reducible refine Keeps.lit ?_ rfl rfl rfl rfl rfl rfl rfl rfl rfl rfl rfl rfl rfl rfl rfl rfl rfl)
    | split

theorem rectQueue_keeps {z : Chip} (s : Chip) (n : Nat) (hz : Keeps z s) : Keeps z (rectQueue s n) := by
  refine hz.trans ?_
  clear hz
  unfold rectQueue
  repeat' first
    | with_reducible apply dsPut_keeps
    | with_reducible apply writeEnded_keeps
    | with_reducible apply Chip_modRect_keeps
    | with_reducible assumption
    | fail_if_no_progress beta_reduce
    | (extract_lets +onlyGivenNames x; refine Keeps.bind (x := x) (fun hx => ?_) ?_; rotate_left; subst x; rotate_right; clear_value x)
    | (extract_lets +onlyGivenNames x; subst x)
    | with_reducible apply Keeps.ite
    | with_reducible apply Keeps.refl
    | fail_if_no_progress (with_reducible refine Keeps.lit ?_ rfl rfl rfl rfl rfl rfl rfl rfl rfl rfl rfl rfl rfl rfl rfl rfl rfl)
    | split

theorem clockWatch_keeps {z : Chip} (low : Bool) (k : Nat) (s : Chip) (hz : Keeps z s) : Keeps z (clockWatch low k s) := by
  refine hz.trans ?_
  clear hz
  unfold clockWatch
  repeat' first
    | with_reducible apply setStuck_keeps
    | with_reducible apply Chip_modBus_keeps
    | with_reducible assumption
    | with_reducible exact Nat.le_refl _
    | fail_if_no_progress beta_reduce
    | (extract_lets +onlyGivenNames x; refine Keeps.bind (x := x) (fun hx => ?_) ?_; rotate_left; subst x; rotate_right; clear_value x)
    | with_reducible apply Keeps.ite
    | with_reducible apply Keeps.refl

theorem dsTick_keeps {z : Chip} (l : Latch) (s : Chip) (hz : Keeps z s) : Keeps z (dsTick l s) := by
  refine hz.trans ?_
  clear hz
  unfold dsTick
  repeat' first
    | with_reducible apply clockWatch_keeps
    | with_reducible apply rectQueue_keeps
    | with_reducible apply batQueue_keeps
    | with_reducible apply dsTake_keeps
    | with_reducible apply dsFinish_keeps
    | with_reducible assumption
    | (with_reducible apply Keeps.forEach; intro _ _)
    | (with_reducible apply Keeps.foldl; intro _ _)
    | fail_if_no_progress beta_reduce
    | (extract_lets +onlyGivenNames x; refine Keeps.bind (x := x) (fun hx => ?_) ?_; rotate_left; subst x; rotate_right; clear_value x)
    | with_reducible apply Keeps.ite
    | with_reducible apply Keeps.refl

theorem dsTransaction_keeps {z : Chip} (k : Nat) (o : BusOutcome) (s : Chip) (hz : Keeps z s) : Keeps z (dsTransaction k o s) := by
  refine hz.trans ?_
  clear hz
  unfold dsTransaction
  repeat' first
    | with_reducible apply dsTake_keeps
    | with_reducible apply dsFinish_keeps
    | with_reducible assumption
    | (extract_lets +onlyGivenNames x; refine Keeps.bind (x := x) (fun hx => ?_) ?_; rotate_left; subst x; rotate_right; clear_value x)
    | with_reducible apply Keeps.ite
    | with_reducible apply Keeps.refl

theorem modRun_keeps {z : Chip} (s : Chip) (k : Nat) (f : DsRun → DsRun) (hz : Keeps z s) : Keeps z (modRun s k f) := by
  refine hz.trans ?_
  clear hz
  unfold modRun
  repeat' first
    | with_reducible apply Chip_modBus_keeps
    | with_reducible assumption
    | with_reducible exact Nat.le_refl _
    | fail_if_no_progress beta_reduce
    | with_reducible apply Keeps.refl

theorem dsArbLost_keeps {z : Chip} (k : Nat) (s : Chip) (hz : Keeps z s) : Keeps z (dsArbLost k s) := by
  refine hz.trans ?_
  clear hz
  unfold dsArbLost
  repeat' first
    | with_reducible apply modRun_keeps
    | with_reducible apply dsTake_keeps
    | with_reducible apply dsFinish_keeps
    | with_reducible assumption
    | fail_if_no_progress beta_reduce
    | (extract_lets +onlyGivenNames x; refine Keeps.bind (x := x) (fun hx => ?_) ?_; rotate_left; subst x; rotate_right; clear_value x)
    | with_reducible apply Keeps.ite
    | with_reducible apply Keeps.refl

theorem arbLostRetry_keeps {z : Chip} (k : Nat) (s : Chip) (hz : Keeps z s) : Keeps z (arbLostRetry k s) := by
  refine hz.trans ?_
  clear hz
  unfold arbLostRetry
  repeat' first
    | with_reducible apply modRun_keeps
    | with_reducible assumption
    | fail_if_no_progress beta_reduce
    | with_reducible apply Keeps.ite
    | with_reducible apply Keeps.refl

theorem arbStop_keeps {z : Chip} (k : Nat) (dataHigh clockHigh : Bool) (s : Chip) (hz : Keeps z s) :
    Keeps z (arbStop k dataHigh clockHigh s) := by
  refine hz.trans ?_
  clear hz
  unfold arbStop
  repeat' first
    | with_reducible apply modRun_keeps
    | with_reducible apply dsTake_keeps
    | with_reducible apply dsFinish_keeps
    | with_reducible apply setStuck_keeps
    | with_reducible apply recovers_keeps
    | with_reducible apply Chip_modBus_keeps
    | with_reducible apply setFault_keeps
    | with_reducible apply Chip_drawn_keeps
    | with_reducible assumption
    | with_reducible exact Nat.le_refl _
    | fail_if_no_progress beta_reduce
    | (extract_lets +onlyGivenNames x; refine Keeps.bind (x := x) (fun hx => ?_) ?_; rotate_left; subst x; rotate_right; clear_value x)
    | (extract_lets +onlyGivenNames x; subst x)
    | with_reducible apply Keeps.ite
    | with_reducible apply Keeps.refl

theorem arbBackoffExpiry_keeps {z : Chip} (k : Nat) (s : Chip) (hz : Keeps z s) : Keeps z (arbBackoffExpiry k s) := by
  refine hz.trans ?_
  clear hz
  unfold arbBackoffExpiry
  repeat' first
    | with_reducible apply modRun_keeps
    | with_reducible assumption
    | fail_if_no_progress beta_reduce
    | with_reducible apply Keeps.ite
    | with_reducible apply Keeps.refl

theorem dsTimeout_keeps {z : Chip} (k : Nat) (dataHigh clockHigh : Bool) (s : Chip) (hz : Keeps z s) :
    Keeps z (dsTimeout k dataHigh clockHigh s) := by
  refine hz.trans ?_
  clear hz
  unfold dsTimeout
  repeat' first
    | with_reducible apply dsFinish_keeps
    | with_reducible apply setStuck_keeps
    | with_reducible apply recovers_keeps
    | with_reducible assumption
    | fail_if_no_progress beta_reduce
    | (extract_lets +onlyGivenNames x; refine Keeps.bind (x := x) (fun hx => ?_) ?_; rotate_left; subst x; rotate_right; clear_value x)
    | with_reducible apply Keeps.ite
    | with_reducible apply Keeps.refl

theorem dsRecoveryRetry_keeps {z : Chip} (k : Nat) (dataHigh clockHigh : Bool) (s : Chip) (hz : Keeps z s) : Keeps z (dsRecoveryRetry k dataHigh clockHigh s) := by
  refine hz.trans ?_
  clear hz
  unfold dsRecoveryRetry
  repeat' first
    | with_reducible apply setStuck_keeps
    | with_reducible apply recovers_keeps
    | with_reducible assumption
    | with_reducible apply Keeps.ite
    | with_reducible apply Keeps.refl

theorem rectStatusPoll_keeps {z : Chip} (s : Chip) (hz : Keeps z s) : Keeps z (rectStatusPoll s) := by
  refine hz.trans ?_
  clear hz
  unfold rectStatusPoll
  repeat' first
    | with_reducible apply Chip_modRect_keeps
    | with_reducible assumption
    | (with_reducible apply Keeps.foldl; intro _ _)
    | fail_if_no_progress beta_reduce
    | (extract_lets +onlyGivenNames x; refine Keeps.bind (x := x) (fun hx => ?_) ?_; rotate_left; subst x; rotate_right; clear_value x)
    | (extract_lets +onlyGivenNames x; subst x)
    | with_reducible apply Keeps.ite
    | with_reducible apply Keeps.refl
    | fail_if_no_progress (with_reducible refine Keeps.lit ?_ rfl rfl rfl rfl rfl rfl rfl rfl rfl rfl rfl rfl rfl rfl rfl rfl rfl)

theorem rectModePoll_keeps {z : Chip} (s : Chip) (hz : Keeps z s) : Keeps z (rectModePoll s) := by
  refine hz.trans ?_
  clear hz
  unfold rectModePoll
  repeat' first
    | with_reducible apply Chip_modRect_keeps
    | with_reducible assumption
    | (with_reducible apply Keeps.foldl; intro _ _)
    | fail_if_no_progress beta_reduce
    | (extract_lets +onlyGivenNames x; refine Keeps.bind (x := x) (fun hx => ?_) ?_; rotate_left; subst x; rotate_right; clear_value x)
    | (extract_lets +onlyGivenNames x; subst x)
    | with_reducible apply Keeps.ite
    | with_reducible apply Keeps.refl
    | fail_if_no_progress (with_reducible refine Keeps.lit ?_ rfl rfl rfl rfl rfl rfl rfl rfl rfl rfl rfl rfl rfl rfl rfl rfl rfl)

theorem bodyDsTransact_keeps {z : Chip} (rq : Request) (r : ReqRef) (s : Chip) (hz : Keeps z s) : Keeps z (bodyDsTransact rq r s).2 := by
  refine hz.trans ?_
  clear hz
  unfold bodyDsTransact
  repeat' first
    | with_reducible apply dsPut_keeps
    | with_reducible apply Chip_modBus_keeps
    | with_reducible assumption
    | with_reducible exact Nat.le_refl _
    | fail_if_no_progress beta_reduce
    | (extract_lets +onlyGivenNames x; refine Keeps.bind (x := x) (fun hx => ?_) ?_; rotate_left; subst x; rotate_right; clear_value x)
    | (extract_lets +onlyGivenNames x; subst x)
    | with_reducible apply Keeps.ite
    | with_reducible apply Keeps.refl
    | fail_if_no_progress (with_reducible refine Keeps.lit ?_ rfl rfl rfl rfl rfl rfl rfl rfl rfl rfl rfl rfl rfl rfl rfl rfl rfl)
    | split

theorem bodyDsStatus_keeps {z : Chip} (rq : Request) (r : ReqRef) (s : Chip) (hz : Keeps z s) : Keeps z (bodyDsStatus rq r s).2 := by
  refine hz.trans ?_
  clear hz
  unfold bodyDsStatus
  repeat' first
    | with_reducible assumption
    | fail_if_no_progress beta_reduce
    | (extract_lets +onlyGivenNames x; subst x)
    | with_reducible apply Keeps.ite
    | with_reducible apply Keeps.refl
    | fail_if_no_progress (with_reducible refine Keeps.lit ?_ rfl rfl rfl rfl rfl rfl rfl rfl rfl rfl rfl rfl rfl rfl rfl rfl rfl)
    | split

theorem Chip_setLedger_keeps {z : Chip} (s : Chip) (f : Ledger → Ledger) (hz : Keeps z s) : Keeps z (Chip.setLedger s f) := by
  refine hz.trans ?_
  clear hz
  unfold Chip.setLedger
  repeat' first
    | with_reducible assumption
    | with_reducible apply Keeps.refl
    | fail_if_no_progress (with_reducible refine Keeps.lit ?_ rfl rfl rfl rfl rfl rfl rfl rfl rfl rfl rfl rfl rfl rfl rfl rfl rfl)

theorem numberRecord_keeps {z : Chip} (s : Chip) (d : LedgerDraft) (hz : Keeps z s) : Keeps z (numberRecord s d) := by
  refine hz.trans ?_
  clear hz
  unfold numberRecord
  repeat' first
    | with_reducible apply formReply_keeps
    | with_reducible assumption
    | fail_if_no_progress beta_reduce
    | (extract_lets +onlyGivenNames x; refine Keeps.bind (x := x) (fun hx => ?_) ?_; rotate_left; subst x; rotate_right; clear_value x)
    | (extract_lets +onlyGivenNames x; subst x)
    | with_reducible apply Keeps.refl
    | fail_if_no_progress (with_reducible refine Keeps.lit ?_ rfl rfl rfl rfl rfl rfl rfl rfl rfl rfl rfl rfl rfl rfl rfl rfl rfl)
    | split

theorem closeRecord_keeps {z : Chip} (s : Chip) (typ flags obj aux : Nat) (payload : List Byte) (signed : Bool) (hz : Keeps z s) : Keeps z (closeRecord s typ flags obj aux payload signed) := by
  refine hz.trans ?_
  clear hz
  unfold closeRecord
  repeat' first
    | with_reducible apply numberRecord_keeps
    | with_reducible apply Chip_setLedger_keeps
    | with_reducible assumption
    | fail_if_no_progress beta_reduce
    | (extract_lets +onlyGivenNames x; subst x)
    | with_reducible apply Keeps.refl
    | fail_if_no_progress (with_reducible refine Keeps.lit ?_ rfl rfl rfl rfl rfl rfl rfl rfl rfl rfl rfl rfl rfl rfl rfl rfl rfl)
    | split

theorem openDrafts_keeps {z : Chip} (s : Chip) (hz : Keeps z s) : Keeps z (openDrafts s) := by
  refine hz.trans ?_
  clear hz
  unfold openDrafts
  repeat' first
    | with_reducible apply Chip_setLedger_keeps
    | with_reducible assumption
    | fail_if_no_progress beta_reduce
    | with_reducible apply Keeps.refl

theorem settleDrafts_keeps {z : Chip} (s : Chip) (hz : Keeps z s) : Keeps z (settleDrafts s) := by
  refine hz.trans ?_
  clear hz
  unfold settleDrafts
  repeat' first
    | with_reducible apply numberRecord_keeps
    | with_reducible apply Chip_setLedger_keeps
    | with_reducible assumption
    | (with_reducible apply Keeps.foldl; intro _ _)
    | fail_if_no_progress beta_reduce
    | with_reducible apply Keeps.refl
    | fail_if_no_progress (with_reducible refine Keeps.lit ?_ rfl rfl rfl rfl rfl rfl rfl rfl rfl rfl rfl rfl rfl rfl rfl rfl rfl)
    | split

theorem spendFlags_keeps {z : Chip} (s : Chip) (o : Nat) (unc : Bool) (hz : Keeps z s) : Keeps z (spendFlags s o unc) := by
  refine hz.trans ?_
  clear hz
  unfold spendFlags
  repeat' first
    | with_reducible apply Chip_modMeter_keeps
    | with_reducible assumption
    | (with_reducible apply Keeps.foldl; intro _ _)
    | with_reducible exact rfl
    | fail_if_no_progress beta_reduce
    | (extract_lets +onlyGivenNames x; refine Keeps.bind (x := x) (fun hx => ?_) ?_; rotate_left; subst x; rotate_right; clear_value x)
    | with_reducible apply Keeps.ite
    | with_reducible apply Keeps.refl

theorem spendShelf_keeps {z : Chip} (s : Chip) (first : Bool) (hz : Keeps z s) : Keeps z (spendShelf s first) := by
  refine hz.trans ?_
  clear hz
  unfold spendShelf
  repeat' first
    | with_reducible apply Chip_modMeter_keeps
    | with_reducible assumption
    | (with_reducible apply Keeps.foldl; intro _ _)
    | with_reducible exact rfl
    | fail_if_no_progress beta_reduce
    | (extract_lets +onlyGivenNames x; refine Keeps.bind (x := x) (fun hx => ?_) ?_; rotate_left; subst x; rotate_right; clear_value x)
    | (extract_lets +onlyGivenNames x; subst x)
    | with_reducible apply Keeps.ite
    | with_reducible apply Keeps.refl
    | fail_if_no_progress (with_reducible refine Keeps.lit ?_ rfl rfl rfl rfl rfl rfl rfl rfl rfl rfl rfl rfl rfl rfl rfl rfl rfl)

theorem closeWith_keeps {z : Chip} (s : Chip) (typ obj aux : Nat) (opening gap signed : Bool) (r : Nat × Nat) (hz : Keeps z s) : Keeps z (closeWith s typ obj aux opening gap signed r) := by
  refine hz.trans ?_
  clear hz
  unfold closeWith
  repeat' first
    | with_reducible apply spendFlags_keeps
    | with_reducible apply closeRecord_keeps
    | with_reducible assumption
    | with_reducible apply Keeps.refl

theorem closeRegs_keeps {z : Chip} (s : Chip) (typ obj aux : Nat) (opening gap signed : Bool) (hz : Keeps z s) : Keeps z (closeRegs s typ obj aux opening gap signed) := by
  refine hz.trans ?_
  clear hz
  unfold closeRegs
  repeat' first
    | with_reducible apply closeWith_keeps
    | with_reducible apply spendShelf_keeps
    | with_reducible apply closeRecord_keeps
    | with_reducible assumption
    | (extract_lets +onlyGivenNames x; refine Keeps.bind (x := x) (fun hx => ?_) ?_; rotate_left; subst x; rotate_right; clear_value x)
    | (extract_lets +onlyGivenNames x; subst x)
    | with_reducible apply Keeps.ite
    | with_reducible apply Keeps.refl

theorem closeAll_keeps {z : Chip} (s : Chip) (typ aux : Nat) (gap : Bool) (hz : Keeps z s) : Keeps z (closeAll s typ aux gap) := by
  refine hz.trans ?_
  clear hz
  unfold closeAll
  repeat' first
    | with_reducible apply closeRegs_keeps
    | with_reducible assumption
    | (with_reducible apply Keeps.foldl; intro _ _)
    | fail_if_no_progress beta_reduce
    | with_reducible apply Keeps.refl

theorem dropSession_keeps {z : Chip} (j : Nat) (s : Chip) (hz : Keeps z s) : Keeps z (dropSession j s) := by
  refine hz.trans ?_
  clear hz
  unfold dropSession
  repeat' first
    | with_reducible apply Chip_setLedger_keeps
    | with_reducible assumption
    | fail_if_no_progress beta_reduce
    | with_reducible apply Keeps.refl

theorem closeSession_keeps {z : Chip} (s : Chip) (e : Nat × Nat) (hz : Keeps z s) : Keeps z (closeSession s e) := by
  refine hz.trans ?_
  clear hz
  unfold closeSession
  repeat' first
    | with_reducible apply dropSession_keeps
    | with_reducible apply closeRegs_keeps
    | with_reducible assumption
    | with_reducible apply Keeps.ite
    | with_reducible apply Keeps.refl

theorem closeOrphan_keeps {z : Chip} (s : Chip) (e : Nat × Nat × Nat) (hz : Keeps z s) : Keeps z (closeOrphan s e) := by
  refine hz.trans ?_
  clear hz
  unfold closeOrphan
  repeat' first
    | with_reducible apply dropSession_keeps
    | with_reducible apply closeWith_keeps
    | with_reducible assumption
    | with_reducible apply Keeps.ite
    | with_reducible apply Keeps.refl

theorem openSession_keeps {z : Chip} (s : Chip) (j : Nat) (hz : Keeps z s) : Keeps z (openSession s j) := by
  refine hz.trans ?_
  clear hz
  unfold openSession
  repeat' first
    | with_reducible apply closeRegs_keeps
    | with_reducible apply closeRecord_keeps
    | with_reducible apply Chip_setLedger_keeps
    | with_reducible assumption
    | fail_if_no_progress beta_reduce
    | with_reducible apply Keeps.refl

theorem askClose_keeps {z : Chip} (s : Chip) (j cause : Nat) (hz : Keeps z s) : Keeps z (askClose s j cause) := by
  refine hz.trans ?_
  clear hz
  unfold askClose
  repeat' first
    | with_reducible apply Chip_setLedger_keeps
    | with_reducible assumption
    | fail_if_no_progress beta_reduce
    | with_reducible apply Keeps.refl

theorem hostSnapshot_keeps {z : Chip} (s : Chip) (r : ReqRef) (hz : Keeps z s) : Keeps z (hostSnapshot s r) := by
  refine hz.trans ?_
  clear hz
  unfold hostSnapshot
  repeat' first
    | with_reducible apply closeAll_keeps
    | with_reducible apply Chip_setLedger_keeps
    | with_reducible apply formReply_keeps
    | with_reducible assumption
    | fail_if_no_progress beta_reduce
    | (extract_lets +onlyGivenNames x; subst x)
    | with_reducible apply Keeps.refl
    | fail_if_no_progress (with_reducible refine Keeps.lit ?_ rfl rfl rfl rfl rfl rfl rfl rfl rfl rfl rfl rfl rfl rfl rfl rfl rfl)
    | split

theorem ledgerRecords_keeps {z : Chip} (s : Chip) (period : Bool) (hz : Keeps z s) : Keeps z (ledgerRecords s period) := by
  refine hz.trans ?_
  clear hz
  unfold ledgerRecords
  repeat' first
    | with_reducible apply hostSnapshot_keeps
    | with_reducible apply openSession_keeps
    | with_reducible apply closeOrphan_keeps
    | with_reducible apply closeSession_keeps
    | with_reducible apply closeAll_keeps
    | with_reducible apply Chip_setLedger_keeps
    | with_reducible assumption
    | (with_reducible apply Keeps.foldl; intro _ _)
    | fail_if_no_progress beta_reduce
    | with_reducible apply Keeps.ite
    | with_reducible apply Keeps.refl

theorem ledgerIdle_keeps {z : Chip} (s : Chip) (hz : Keeps z s) : Keeps z (ledgerIdle s) := by
  refine hz.trans ?_
  clear hz
  unfold ledgerIdle
  repeat' first
    | with_reducible apply Chip_setLedger_keeps
    | with_reducible apply formReply_keeps
    | with_reducible assumption
    | (with_reducible apply Keeps.foldl; intro _ _)
    | fail_if_no_progress beta_reduce
    | with_reducible apply Keeps.ite
    | with_reducible apply Keeps.refl

theorem ledgerClose_keeps {z : Chip} (s : Chip) (period : Bool) (hz : Keeps z s) : Keeps z (ledgerClose s period) := by
  refine hz.trans ?_
  clear hz
  unfold ledgerClose
  repeat' first
    | with_reducible apply ledgerIdle_keeps
    | with_reducible apply ledgerRecords_keeps
    | with_reducible apply Chip_setLedger_keeps
    | with_reducible apply formReply_keeps
    | with_reducible assumption
    | (with_reducible apply Keeps.foldl; intro _ _)
    | fail_if_no_progress beta_reduce
    | (extract_lets +onlyGivenNames x; refine Keeps.bind (x := x) (fun hx => ?_) ?_; rotate_left; subst x; rotate_right; clear_value x)
    | (extract_lets +onlyGivenNames x; subst x)
    | with_reducible apply Keeps.ite
    | with_reducible apply Keeps.refl

theorem markAll_keeps {z : Chip} (s : Chip) (f : RecFlags → RecFlags) (hz : Keeps z s) : Keeps z (markAll s f) := by
  refine hz.trans ?_
  clear hz
  unfold markAll
  repeat' first
    | with_reducible assumption
    | fail_if_no_progress beta_reduce
    | (extract_lets +onlyGivenNames x; subst x)
    | with_reducible apply Keeps.refl
    | fail_if_no_progress (with_reducible refine Keeps.lit ?_ rfl rfl rfl rfl rfl rfl rfl rfl rfl rfl rfl rfl rfl rfl rfl rfl rfl)

theorem markGap_keeps {z : Chip} (s : Chip) (hz : Keeps z s) : Keeps z (markGap s) := by
  refine hz.trans ?_
  clear hz
  unfold markGap
  repeat' first
    | with_reducible apply markAll_keeps
    | with_reducible assumption
    | fail_if_no_progress beta_reduce
    | with_reducible apply Keeps.refl

theorem markUnc_keeps {z : Chip} (s : Chip) (hz : Keeps z s) : Keeps z (markUnc s) := by
  refine hz.trans ?_
  clear hz
  unfold markUnc
  repeat' first
    | with_reducible apply markAll_keeps
    | with_reducible assumption
    | fail_if_no_progress beta_reduce
    | with_reducible apply Keeps.refl

theorem ledgerTick_keeps {z : Chip} (s : Chip) (hz : Keeps z s) : Keeps z (ledgerTick s) := by
  refine hz.trans ?_
  clear hz
  unfold ledgerTick
  repeat' first
    | with_reducible apply markUnc_keeps
    | with_reducible apply markGap_keeps
    | with_reducible apply ledgerClose_keeps
    | with_reducible apply Chip_setLedger_keeps
    | with_reducible apply evalFault_keeps
    | with_reducible assumption
    | fail_if_no_progress beta_reduce
    | (extract_lets +onlyGivenNames x; refine Keeps.bind (x := x) (fun hx => ?_) ?_; rotate_left; subst x; rotate_right; clear_value x)
    | (extract_lets +onlyGivenNames x; subst x)
    | with_reducible apply Keeps.ite
    | with_reducible apply Keeps.refl

theorem ledgerBoundary_keeps {z : Chip} (s : Chip) (hz : Keeps z s) : Keeps z (ledgerBoundary s) := by
  refine hz.trans ?_
  clear hz
  unfold ledgerBoundary
  repeat' first
    | with_reducible apply ledgerClose_keeps
    | with_reducible apply Chip_setLedger_keeps
    | with_reducible assumption
    | fail_if_no_progress beta_reduce
    | (extract_lets +onlyGivenNames x; refine Keeps.bind (x := x) (fun hx => ?_) ?_; rotate_left; subst x; rotate_right; clear_value x)
    | with_reducible apply Keeps.ite
    | with_reducible apply Keeps.refl

theorem nearFullStep_keeps {z : Chip} (s : Chip) (hz : Keeps z s) : Keeps z (nearFullStep s) := by
  refine hz.trans ?_
  clear hz
  unfold nearFullStep
  repeat' first
    | with_reducible apply Chip_setLedger_keeps
    | with_reducible apply evalFault_keeps
    | with_reducible assumption
    | fail_if_no_progress beta_reduce
    | with_reducible apply Keeps.ite
    | with_reducible apply Keeps.refl

theorem writePos_keeps {z : Chip} (s : Chip) (p : LedgerPos) (hz : Keeps z s) : Keeps z (writePos s p) := by
  refine hz.trans ?_
  clear hz
  unfold writePos
  repeat' first
    | with_reducible apply Chip_setLedger_keeps
    | with_reducible apply retainedWritten_keeps
    | with_reducible assumption
    | fail_if_no_progress beta_reduce
    | with_reducible apply Keeps.ite
    | with_reducible apply Keeps.refl

theorem commitOne_keeps {z : Chip} (s : Chip) (signGood : Bool) (hz : Keeps z s) : Keeps z (commitOne s signGood) := by
  refine hz.trans ?_
  clear hz
  unfold commitOne
  repeat' first
    | with_reducible apply writePos_keeps
    | with_reducible apply nearFullStep_keeps
    | with_reducible apply Chip_setLedger_keeps
    | with_reducible apply setFault_keeps
    | with_reducible assumption
    | fail_if_no_progress beta_reduce
    | with_reducible apply Keeps.ite
    | with_reducible apply Keeps.refl
    | fail_if_no_progress (with_reducible refine Keeps.lit ?_ rfl rfl rfl rfl rfl rfl rfl rfl rfl rfl rfl rfl rfl rfl rfl rfl rfl)
    | split

theorem ledgerCommit_keeps {z : Chip} (signGood : Bool) (s : Chip) (hz : Keeps z s) : Keeps z (ledgerCommit signGood s) := by
  refine hz.trans ?_
  clear hz
  unfold ledgerCommit
  repeat' first
    | with_reducible apply commitOne_keeps
    | with_reducible assumption
    | with_reducible apply Keeps.ite
    | with_reducible apply Keeps.refl

theorem bodyLedgerInfo_keeps {z : Chip} (rq : Request) (r : ReqRef) (s : Chip) (hz : Keeps z s) : Keeps z (bodyLedgerInfo rq r s).2 := by
  refine hz.trans ?_
  clear hz
  unfold bodyLedgerInfo
  repeat' first
    | with_reducible assumption
    | fail_if_no_progress beta_reduce
    | with_reducible apply Keeps.refl

theorem bodyLedgerRead_keeps {z : Chip} (rq : Request) (r : ReqRef) (s : Chip) (hz : Keeps z s) : Keeps z (bodyLedgerRead rq r s).2 := by
  refine hz.trans ?_
  clear hz
  unfold bodyLedgerRead
  repeat' first
    | with_reducible assumption
    | fail_if_no_progress beta_reduce
    | (extract_lets +onlyGivenNames x; subst x)
    | with_reducible apply Keeps.ite
    | with_reducible apply Keeps.refl
    | fail_if_no_progress (with_reducible refine Keeps.lit ?_ rfl rfl rfl rfl rfl rfl rfl rfl rfl rfl rfl rfl rfl rfl rfl rfl rfl)
    | split

theorem bodyLedgerAck_keeps {z : Chip} (rq : Request) (r : ReqRef) (s : Chip) (hz : Keeps z s) : Keeps z (bodyLedgerAck rq r s).2 := by
  refine hz.trans ?_
  clear hz
  unfold bodyLedgerAck
  repeat' first
    | with_reducible apply writePos_keeps
    | with_reducible apply nearFullStep_keeps
    | with_reducible assumption
    | fail_if_no_progress beta_reduce
    | (extract_lets +onlyGivenNames x; refine Keeps.bind (x := x) (fun hx => ?_) ?_; rotate_left; subst x; rotate_right; clear_value x)
    | (extract_lets +onlyGivenNames x; subst x)
    | with_reducible apply Keeps.ite
    | with_reducible apply Keeps.refl
    | fail_if_no_progress (with_reducible refine Keeps.lit ?_ rfl rfl rfl rfl rfl rfl rfl rfl rfl rfl rfl rfl rfl rfl rfl rfl rfl)
    | split

theorem bodyLedgerAttest_keeps {z : Chip} (rq : Request) (r : ReqRef) (s : Chip) (hz : Keeps z s) : Keeps z (bodyLedgerAttest rq r s).2 := by
  refine hz.trans ?_
  clear hz
  unfold bodyLedgerAttest
  repeat' first
    | with_reducible apply Chip_setLedger_keeps
    | with_reducible assumption
    | fail_if_no_progress beta_reduce
    | with_reducible apply Keeps.refl

theorem attestTick_keeps {z : Chip} (s : Chip) (hz : Keeps z s) : Keeps z (attestTick s) := by
  refine hz.trans ?_
  clear hz
  unfold attestTick
  repeat' first
    | with_reducible apply Chip_setLedger_keeps
    | with_reducible apply formReply_keeps
    | with_reducible apply Chip_drawn_keeps
    | with_reducible assumption
    | fail_if_no_progress beta_reduce
    | (extract_lets +onlyGivenNames x; refine Keeps.bind (x := x) (fun hx => ?_) ?_; rotate_left; subst x; rotate_right; clear_value x)
    | (extract_lets +onlyGivenNames x; subst x)
    | with_reducible apply Keeps.ite
    | with_reducible apply Keeps.refl
    | fail_if_no_progress (with_reducible refine Keeps.lit ?_ rfl rfl rfl rfl rfl rfl rfl rfl rfl rfl rfl rfl rfl rfl rfl rfl rfl)
    | split

theorem bodyLedgerSnapshot_keeps {z : Chip} (rq : Request) (r : ReqRef) (s : Chip) (hz : Keeps z s) : Keeps z (bodyLedgerSnapshot rq r s).2 := by
  refine hz.trans ?_
  clear hz
  unfold bodyLedgerSnapshot
  repeat' first
    | with_reducible apply Chip_setLedger_keeps
    | with_reducible assumption
    | fail_if_no_progress beta_reduce
    | with_reducible apply Keeps.ite
    | with_reducible apply Keeps.refl
    | fail_if_no_progress (with_reducible refine Keeps.lit ?_ rfl rfl rfl rfl rfl rfl rfl rfl rfl rfl rfl rfl rfl rfl rfl rfl rfl)
    | split

theorem breakerStep_keeps {z : Chip} (s : Chip) (n : Nat) (drivers : Bool) (hz : Keeps z s) : Keeps z (breakerStep s n drivers).1 := by
  refine hz.trans ?_
  clear hz
  unfold breakerStep
  repeat' first
    | with_reducible apply evalFault_keeps
    | with_reducible apply Chip_modCh_keeps
    | with_reducible assumption
    | fail_if_no_progress beta_reduce
    | (extract_lets +onlyGivenNames x; refine Keeps.bind (x := x) (fun hx => ?_) ?_; rotate_left; subst x; rotate_right; clear_value x)
    | (extract_lets +onlyGivenNames x; subst x)
    | with_reducible apply Keeps.ite
    | with_reducible apply Keeps.refl

theorem soaMember_keeps {z : Chip} (s : Chip) (n m : Nat) (hz : Keeps z s) : Keeps z (soaMember s n m).1 := by
  refine hz.trans ?_
  clear hz
  unfold soaMember
  repeat' first
    | with_reducible apply Chip_setCh_keeps
    | with_reducible assumption
    | fail_if_no_progress beta_reduce
    | with_reducible apply Keeps.refl

theorem soaStep_keeps {z : Chip} (s : Chip) (n : Nat) (drivers : Bool) (hz : Keeps z s) : Keeps z (soaStep s n drivers).1 := by
  unfold soaStep
  dsimp only
  split
  · apply evalFault_keeps
    refine Keeps.foldProj Prod.fst (fun b a => ?_) hz
    exact soaMember_keeps _ _ _ (.refl _)
  · exact hz

theorem heatStep_keeps {z : Chip} (s : Chip) (n : Nat) (hz : Keeps z s) : Keeps z (heatStep s n) := by
  refine hz.trans ?_
  clear hz
  unfold heatStep
  repeat' first
    | with_reducible apply Chip_modCh_keeps
    | with_reducible assumption
    | fail_if_no_progress beta_reduce
    | with_reducible apply Keeps.ite
    | with_reducible apply Keeps.refl

theorem readLatches_keeps {z : Chip} (s : Chip) (n : Nat) (hz : Keeps z s) : Keeps z (readLatches s n).1 := by
  refine hz.trans ?_
  clear hz
  unfold readLatches
  repeat' first
    | with_reducible apply Chip_modCh_keeps
    | with_reducible assumption
    | (with_reducible apply Keeps.foldl; intro _ _)
    | fail_if_no_progress beta_reduce
    | with_reducible apply Keeps.refl

theorem countBelow_keeps {z : Chip} (s : Chip) (n dv : Nat) (hz : Keeps z s) : Keeps z (countBelow s n dv) := by
  refine hz.trans ?_
  clear hz
  unfold countBelow
  repeat' first
    | with_reducible apply Chip_modCh_keeps
    | with_reducible assumption
    | fail_if_no_progress beta_reduce
    | with_reducible apply Keeps.ite
    | with_reducible apply Keeps.refl

theorem chOn_keeps {z : Chip} (s : Chip) (n : Nat) (hz : Keeps z s) : Keeps z (chOn s n) := by
  refine hz.trans ?_
  clear hz
  unfold chOn
  repeat' first
    | with_reducible apply setChState_keeps
    | with_reducible apply Chip_modRect_keeps
    | with_reducible apply Chip_modCh_keeps
    | with_reducible assumption
    | fail_if_no_progress beta_reduce
    | (extract_lets +onlyGivenNames x; refine Keeps.bind (x := x) (fun hx => ?_) ?_; rotate_left; subst x; rotate_right; clear_value x)
    | (extract_lets +onlyGivenNames x; subst x)
    | with_reducible apply Keeps.ite
    | with_reducible apply Keeps.refl
    | fail_if_no_progress (with_reducible refine Keeps.lit ?_ rfl rfl rfl rfl rfl rfl rfl rfl rfl rfl rfl rfl rfl rfl rfl rfl rfl)

theorem ksStep_keeps {z : Chip} (s : Chip) (n : Nat) (hz : Keeps z s) : Keeps z (ksStep s n) := by
  refine hz.trans ?_
  clear hz
  unfold ksStep
  repeat' first
    | with_reducible apply Chip_modCh_keeps
    | with_reducible assumption
    | fail_if_no_progress beta_reduce
    | with_reducible apply Keeps.ite
    | with_reducible apply Keeps.refl

theorem inrushStep_keeps {z : Chip} (s : Chip) (n : Nat) (hz : Keeps z s) : Keeps z (inrushStep s n) := by
  refine hz.trans ?_
  clear hz
  unfold inrushStep
  repeat' first
    | with_reducible apply chOn_keeps
    | with_reducible apply countBelow_keeps
    | with_reducible apply chClose_keeps
    | with_reducible assumption
    | fail_if_no_progress beta_reduce
    | (extract_lets +onlyGivenNames x; refine Keeps.bind (x := x) (fun hx => ?_) ?_; rotate_left; subst x; rotate_right; clear_value x)
    | (extract_lets +onlyGivenNames x; subst x)
    | with_reducible apply Keeps.ite
    | with_reducible apply Keeps.refl
    | fail_if_no_progress (with_reducible refine Keeps.lit ?_ rfl rfl rfl rfl rfl rfl rfl rfl rfl rfl rfl rfl rfl rfl rfl rfl rfl)
    | split

theorem recordTrip_keeps {z : Chip} (s : Chip) (n : Nat) (causes : List ChStop) (member : Nat) (hz : Keeps z s) : Keeps z (recordTrip s n causes member) := by
  refine hz.trans ?_
  clear hz
  unfold recordTrip
  repeat' first
    | with_reducible apply setFault_keeps
    | with_reducible apply Chip_modCh_keeps
    | with_reducible assumption
    | (with_reducible apply Keeps.foldl; intro _ _)
    | fail_if_no_progress beta_reduce
    | with_reducible apply Keeps.ite
    | with_reducible apply Keeps.refl
    | (with_reducible apply Keeps.optMap; intro _)

theorem chTick_keeps {z : Chip} (s : Chip) (n : Nat) (hz : Keeps z s) : Keeps z (chTick s n) := by
  refine hz.trans ?_
  clear hz
  unfold chTick
  repeat' first
    | with_reducible apply recordTrip_keeps
    | with_reducible apply inrushStep_keeps
    | with_reducible apply ksStep_keeps
    | with_reducible apply readLatches_keeps
    | with_reducible apply heatStep_keeps
    | with_reducible apply soaStep_keeps
    | with_reducible apply breakerStep_keeps
    | with_reducible apply heldTrip_keeps
    | with_reducible apply tripOrHold_keeps
    | with_reducible apply Chip_modCh_keeps
    | with_reducible assumption
    | fail_if_no_progress beta_reduce
    | (extract_lets +onlyGivenNames x; refine Keeps.bind (x := x) (fun hx => ?_) ?_; rotate_left; subst x; rotate_right; clear_value x)
    | (extract_lets +onlyGivenNames x; refine Keeps.bind (x := x.1) (fun hx => ?_) ?_; rotate_left; subst x; rotate_right; clear_value x)
    | (extract_lets +onlyGivenNames x; subst x)
    | with_reducible apply Keeps.ite
    | with_reducible apply Keeps.refl
    | fail_if_no_progress (with_reducible refine Keeps.lit ?_ rfl rfl rfl rfl rfl rfl rfl rfl rfl rfl rfl rfl rfl rfl rfl rfl rfl)
    | split

theorem chAnswer_keeps {z : Chip} (s : Chip) (e : ChSet) (st : Status) (data : List Byte) (hz : Keeps z s) : Keeps z (chAnswer s e st data) := by
  refine hz.trans ?_
  clear hz
  unfold chAnswer
  repeat' first
    | with_reducible apply formReply_keeps
    | with_reducible apply post_keeps
    | with_reducible assumption
    | with_reducible apply Keeps.ite
    | with_reducible apply Keeps.refl

theorem chAccept_keeps {z : Chip} (s : Chip) (e : ChSet) (exercise : Bool) (hz : Keeps z s) : Keeps z (chAccept s e exercise) := by
  refine hz.trans ?_
  clear hz
  unfold chAccept
  repeat' first
    | with_reducible apply chBegin_keeps
    | with_reducible apply formReply_keeps
    | with_reducible apply Chip_modCh_keeps
    | with_reducible assumption
    | fail_if_no_progress beta_reduce
    | (extract_lets +onlyGivenNames x; refine Keeps.bind (x := x) (fun hx => ?_) ?_; rotate_left; subst x; rotate_right; clear_value x)
    | with_reducible apply Keeps.ite
    | with_reducible apply Keeps.refl

theorem chApplyOn_keeps {z : Chip} (s : Chip) (e : ChSet) (hz : Keeps z s) : Keeps z (chApplyOn s e) := by
  refine hz.trans ?_
  clear hz
  unfold chApplyOn
  repeat' first
    | with_reducible apply chAccept_keeps
    | with_reducible apply chAnswer_keeps
    | with_reducible apply formReply_keeps
    | with_reducible apply Chip_modCh_keeps
    | with_reducible assumption
    | fail_if_no_progress beta_reduce
    | (extract_lets +onlyGivenNames x; subst x)
    | with_reducible apply Keeps.ite
    | with_reducible apply Keeps.refl
    | fail_if_no_progress (with_reducible refine Keeps.lit ?_ rfl rfl rfl rfl rfl rfl rfl rfl rfl rfl rfl rfl rfl rfl rfl rfl rfl)
    | split

theorem chActOff_keeps {z : Chip} (s : Chip) (n : Nat) (hz : Keeps z s) : Keeps z (chActOff s n) := by
  refine hz.trans ?_
  clear hz
  unfold chActOff
  repeat' first
    | with_reducible apply chIdle_keeps
    | with_reducible apply chStop_keeps
    | with_reducible apply Chip_modCh_keeps
    | with_reducible assumption
    | fail_if_no_progress beta_reduce
    | (extract_lets +onlyGivenNames x; refine Keeps.bind (x := x) (fun hx => ?_) ?_; rotate_left; subst x; rotate_right; clear_value x)
    | with_reducible apply Keeps.refl
    | fail_if_no_progress (with_reducible refine Keeps.lit ?_ rfl rfl rfl rfl rfl rfl rfl rfl rfl rfl rfl rfl rfl rfl rfl rfl rfl)
    | split

theorem chActDisable_keeps {z : Chip} (s : Chip) (n : Nat) (hz : Keeps z s) : Keeps z (chActDisable s n) := by
  refine hz.trans ?_
  clear hz
  unfold chActDisable
  repeat' first
    | with_reducible apply chIdle_keeps
    | with_reducible apply chStop_keeps
    | with_reducible apply Chip_modCh_keeps
    | with_reducible assumption
    | fail_if_no_progress beta_reduce
    | (extract_lets +onlyGivenNames x; refine Keeps.bind (x := x) (fun hx => ?_) ?_; rotate_left; subst x; rotate_right; clear_value x)
    | with_reducible apply Keeps.refl
    | fail_if_no_progress (with_reducible refine Keeps.lit ?_ rfl rfl rfl rfl rfl rfl rfl rfl rfl rfl rfl rfl rfl rfl rfl rfl rfl)
    | split

theorem chActMode_keeps {z : Chip} (s : Chip) (n : Nat) (p : Pull) (hz : Keeps z s) : Keeps z (chActMode s n p) := by
  refine hz.trans ?_
  clear hz
  unfold chActMode
  repeat' first
    | with_reducible apply chIdle_keeps
    | with_reducible apply chStop_keeps
    | with_reducible apply Chip_modCh_keeps
    | with_reducible assumption
    | fail_if_no_progress beta_reduce
    | (extract_lets +onlyGivenNames x; refine Keeps.bind (x := x) (fun hx => ?_) ?_; rotate_left; subst x; rotate_right; clear_value x)
    | with_reducible apply Keeps.refl
    | fail_if_no_progress (with_reducible refine Keeps.lit ?_ rfl rfl rfl rfl rfl rfl rfl rfl rfl rfl rfl rfl rfl rfl rfl rfl rfl)
    | split

theorem chApplyExercise_keeps {z : Chip} (s : Chip) (e : ChSet) (hold : Nat) (hz : Keeps z s) : Keeps z (chApplyExercise s e hold) := by
  refine hz.trans ?_
  clear hz
  unfold chApplyExercise
  repeat' first
    | with_reducible apply chAccept_keeps
    | with_reducible apply chAnswer_keeps
    | with_reducible assumption
    | (extract_lets +onlyGivenNames x; refine Keeps.bind (x := x) (fun hx => ?_) ?_; rotate_left; subst x; rotate_right; clear_value x)
    | (extract_lets +onlyGivenNames x; subst x)
    | with_reducible apply Keeps.ite
    | with_reducible apply Keeps.refl
    | fail_if_no_progress (with_reducible refine Keeps.lit ?_ rfl rfl rfl rfl rfl rfl rfl rfl rfl rfl rfl rfl rfl rfl rfl rfl rfl)

theorem timerStops_keeps {z : Chip} (s : Chip) (n : Nat) (hz : Keeps z s) : Keeps z (timerStops s n) := by
  refine hz.trans ?_
  clear hz
  unfold timerStops
  repeat' first
    | with_reducible apply tripOrHold_keeps
    | with_reducible assumption
    | with_reducible apply Keeps.refl

theorem applyCh_keeps {z : Chip} (s : Chip) (e : ChSet) (hz : Keeps z s) : Keeps z (applyCh s e) := by
  refine hz.trans ?_
  clear hz
  unfold applyCh
  repeat' first
    | with_reducible apply timerStops_keeps
    | with_reducible apply chApplyExercise_keeps
    | with_reducible apply chActDisable_keeps
    | with_reducible apply chActOff_keeps
    | with_reducible apply chApplyOn_keeps
    | with_reducible apply chAnswer_keeps
    | with_reducible apply Chip_modCh_keeps
    | with_reducible assumption
    | fail_if_no_progress beta_reduce
    | (extract_lets +onlyGivenNames x; refine Keeps.bind (x := x) (fun hx => ?_) ?_; rotate_left; subst x; rotate_right; clear_value x)
    | with_reducible apply Keeps.ite
    | with_reducible apply Keeps.refl
    | fail_if_no_progress (with_reducible refine Keeps.lit ?_ rfl rfl rfl rfl rfl rfl rfl rfl rfl rfl rfl rfl rfl rfl rfl rfl rfl)
    | split

theorem applyChQueue_keeps {z : Chip} (s : Chip) (hz : Keeps z s) : Keeps z (applyChQueue s) := by
  unfold applyChQueue
  exact .foldl (fun _ _ => applyCh_keeps _ _ (.refl _))
    (.depths hz rfl rfl rfl rfl rfl rfl rfl rfl rfl rfl rfl fun d => ⟨Nat.zero_le _, d.rails, d.box, d.buses, d.slow, d.stamps⟩)

theorem queueCh_keeps {z : Chip} (s : Chip) (n : Nat) (cmd : ChCmd) (r : ReqRef) (replied : Bool) (hz : Keeps z s) : Keeps z (queueCh s n cmd r replied) := by
  unfold queueCh
  split
  · rename_i h
    refine .depths hz rfl rfl rfl rfl rfl rfl rfl rfl rfl rfl rfl fun d => ⟨?_, d.rails, d.box, d.buses, d.slow, d.stamps⟩
    simpa [queueRoom] using h
  · exact hz

theorem bodyChGet_keeps {z : Chip} (rq : Request) (r : ReqRef) (s : Chip) (hz : Keeps z s) : Keeps z (bodyChGet rq r s).2 := by
  refine hz.trans ?_
  clear hz
  unfold bodyChGet
  repeat' first
    | with_reducible assumption
    | fail_if_no_progress beta_reduce
    | with_reducible apply Keeps.refl
    | fail_if_no_progress (with_reducible refine Keeps.lit ?_ rfl rfl rfl rfl rfl rfl rfl rfl rfl rfl rfl rfl rfl rfl rfl rfl rfl)
    | split

theorem bodyChOn_keeps {z : Chip} (rq : Request) (r : ReqRef) (s : Chip) (hz : Keeps z s) : Keeps z (bodyChOn rq r s).2 := by
  refine hz.trans ?_
  clear hz
  unfold bodyChOn
  repeat' first
    | with_reducible apply queueCh_keeps
    | with_reducible assumption
    | fail_if_no_progress beta_reduce
    | (extract_lets +onlyGivenNames x; subst x)
    | with_reducible apply Keeps.ite
    | with_reducible apply Keeps.refl
    | fail_if_no_progress (with_reducible refine Keeps.lit ?_ rfl rfl rfl rfl rfl rfl rfl rfl rfl rfl rfl rfl rfl rfl rfl rfl rfl)
    | split

theorem bodyChSet_keeps {z : Chip} (cmd : ChCmd) (rq : Request) (r : ReqRef) (s : Chip) (hz : Keeps z s) : Keeps z (bodyChSet cmd rq r s).2 := by
  refine hz.trans ?_
  clear hz
  unfold bodyChSet
  repeat' first
    | with_reducible apply queueCh_keeps
    | with_reducible assumption
    | fail_if_no_progress beta_reduce
    | with_reducible apply Keeps.refl
    | fail_if_no_progress (with_reducible refine Keeps.lit ?_ rfl rfl rfl rfl rfl rfl rfl rfl rfl rfl rfl rfl rfl rfl rfl rfl rfl)
    | split

theorem bodyChStateAll_keeps {z : Chip} (rq : Request) (r : ReqRef) (s : Chip) (hz : Keeps z s) : Keeps z (bodyChStateAll rq r s).2 := by
  refine hz.trans ?_
  clear hz
  unfold bodyChStateAll
  repeat' first
    | with_reducible assumption
    | fail_if_no_progress beta_reduce
    | with_reducible apply Keeps.refl

theorem chargePumpUv_keeps {z : Chip} (n : Nat) (s : Chip) (hz : Keeps z s) : Keeps z (chargePumpUv n s) := by
  refine hz.trans ?_
  clear hz
  unfold chargePumpUv
  repeat' first
    | with_reducible apply tripOrHold_keeps
    | with_reducible assumption
    | (extract_lets +onlyGivenNames x; subst x)
    | with_reducible apply Keeps.ite
    | with_reducible apply Keeps.refl

theorem insertDelayExpiry_keeps {z : Chip} (n : Nat) (s : Chip) (hz : Keeps z s) : Keeps z (insertDelayExpiry n s) := by
  refine hz.trans ?_
  clear hz
  unfold insertDelayExpiry
  repeat' first
    | with_reducible apply startRetry_keeps
    | with_reducible apply startInrush_keeps
    | with_reducible assumption
    | fail_if_no_progress beta_reduce
    | (extract_lets +onlyGivenNames x; subst x)
    | with_reducible apply Keeps.ite
    | with_reducible apply Keeps.refl

theorem primerRearm_keeps {z : Chip} (n : Nat) (s : Chip) (hz : Keeps z s) : Keeps z (primerRearm n s) := by
  refine hz.trans ?_
  clear hz
  unfold primerRearm
  repeat' first
    | with_reducible apply primerGo_keeps
    | with_reducible assumption
    | with_reducible apply Keeps.ite
    | with_reducible apply Keeps.refl

theorem primerTimeout_keeps {z : Chip} (n : Nat) (s : Chip) (hz : Keeps z s) : Keeps z (primerTimeout n s) := by
  refine hz.trans ?_
  clear hz
  unfold primerTimeout
  repeat' first
    | with_reducible apply tripOrHold_keeps
    | with_reducible assumption
    | with_reducible apply Keeps.ite
    | with_reducible apply Keeps.refl

theorem closeTimeout_keeps {z : Chip} (n : Nat) (s : Chip) (hz : Keeps z s) : Keeps z (closeTimeout n s) := by
  refine hz.trans ?_
  clear hz
  unfold closeTimeout
  repeat' first
    | with_reducible apply tripOrHold_keeps
    | with_reducible assumption
    | with_reducible apply Keeps.ite
    | with_reducible apply Keeps.refl

theorem primerOverlapEnd_keeps {z : Chip} (n : Nat) (s : Chip) (hz : Keeps z s) : Keeps z (primerOverlapEnd n s) := by
  refine hz.trans ?_
  clear hz
  unfold primerOverlapEnd
  repeat' first
    | with_reducible apply Chip_modCh_keeps
    | with_reducible assumption
    | fail_if_no_progress beta_reduce
    | with_reducible apply Keeps.ite
    | with_reducible apply Keeps.refl

theorem ksFaultTimer_keeps {z : Chip} (n : Nat) (s : Chip) (hz : Keeps z s) : Keeps z (ksFaultTimer n s) := by
  refine hz.trans ?_
  clear hz
  unfold ksFaultTimer
  repeat' first
    | with_reducible apply tripOrHold_keeps
    | with_reducible assumption
    | with_reducible apply Keeps.ite
    | with_reducible apply Keeps.refl

theorem postBat_keeps {z : Chip} (s : Chip) (j kind : Nat) (done : List (ReqRef × Status)) (hz : Keeps z s) : Keeps z (postBat s j kind done) := by
  refine hz.trans ?_
  clear hz
  unfold postBat
  repeat' first
    | with_reducible apply post_keeps
    | with_reducible assumption
    | with_reducible apply Keeps.refl

theorem postCleared_keeps {z : Chip} (s : Chip) (j : Nat) (was : Bat) (hz : Keeps z s) : Keeps z (postCleared s j was) := by
  refine hz.trans ?_
  clear hz
  unfold postCleared
  repeat' first
    | with_reducible apply postBat_keeps
    | with_reducible assumption
    | (extract_lets +onlyGivenNames x; refine Keeps.bind (x := x) (fun hx => ?_) ?_; rotate_left; subst x; rotate_right; clear_value x)
    | with_reducible apply Keeps.ite
    | with_reducible apply Keeps.refl

theorem setAdmit_keeps {z : Chip} (s : Chip) (j : Nat) (a : Admit) (why : BatRefuse) (done : List (ReqRef × Status)) (hz : Keeps z s) : Keeps z (setAdmit s j a why done) := by
  refine hz.trans ?_
  clear hz
  unfold setAdmit
  repeat' first
    | with_reducible apply postCleared_keeps
    | with_reducible apply postBat_keeps
    | with_reducible apply setLive_keeps
    | with_reducible apply Chip_modBat_keeps
    | with_reducible assumption
    | fail_if_no_progress beta_reduce
    | (extract_lets +onlyGivenNames x; refine Keeps.bind (x := x) (fun hx => ?_) ?_; rotate_left; subst x; rotate_right; clear_value x)
    | (extract_lets +onlyGivenNames x; subst x)
    | with_reducible apply Keeps.ite
    | with_reducible apply Keeps.refl

theorem admitEnds_keeps {z : Chip} (s : Chip) (j : Nat) (a : Admit) (why : BatRefuse) (hz : Keeps z s) : Keeps z (admitEnds s j a why) := by
  refine hz.trans ?_
  clear hz
  unfold admitEnds
  repeat' first
    | with_reducible apply setAdmit_keeps
    | with_reducible apply Chip_modBat_keeps
    | with_reducible assumption
    | fail_if_no_progress beta_reduce
    | with_reducible apply Keeps.ite
    | with_reducible apply Keeps.refl

theorem startAdmission_keeps {z : Chip} (s : Chip) (j : Nat) (hz : Keeps z s) : Keeps z (startAdmission s j) := by
  refine hz.trans ?_
  clear hz
  unfold startAdmission
  repeat' first
    | with_reducible apply setAdmit_keeps
    | with_reducible apply Chip_modBat_keeps
    | with_reducible assumption
    | fail_if_no_progress beta_reduce
    | (extract_lets +onlyGivenNames x; refine Keeps.bind (x := x) (fun hx => ?_) ?_; rotate_left; subst x; rotate_right; clear_value x)
    | with_reducible apply Keeps.ite
    | with_reducible apply Keeps.refl

theorem refuseBat_keeps {z : Chip} (s : Chip) (j : Nat) (why : BatRefuse) (hz : Keeps z s) : Keeps z (refuseBat s j why) := by
  refine hz.trans ?_
  clear hz
  unfold refuseBat
  repeat' first
    | with_reducible apply admitEnds_keeps
    | with_reducible apply setFault_keeps
    | with_reducible apply Chip_modBat_keeps
    | with_reducible assumption
    | fail_if_no_progress beta_reduce
    | with_reducible apply Keeps.ite
    | with_reducible apply Keeps.refl

theorem admitJudge_keeps {z : Chip} (s : Chip) (j : Nat) (r : BmsRead) (hz : Keeps z s) : Keeps z (admitJudge s j r) := by
  refine hz.trans ?_
  clear hz
  unfold admitJudge
  repeat' first
    | with_reducible apply refuseBat_keeps
    | with_reducible apply Chip_modBat_keeps
    | with_reducible assumption
    | fail_if_no_progress beta_reduce
    | (extract_lets +onlyGivenNames x; refine Keeps.bind (x := x) (fun hx => ?_) ?_; rotate_left; subst x; rotate_right; clear_value x)
    | (extract_lets +onlyGivenNames x; subst x)
    | with_reducible apply Keeps.ite
    | with_reducible apply Keeps.refl
    | fail_if_no_progress (with_reducible refine Keeps.lit ?_ rfl rfl rfl rfl rfl rfl rfl rfl rfl rfl rfl rfl rfl rfl rfl rfl rfl)
    | split

theorem admitAttempt_keeps {z : Chip} (j : Nat) (serial : Option (List Byte)) (profile : Option Nat) (temp : Option Int) (s : Chip) (hz : Keeps z s) : Keeps z (admitAttempt j serial profile temp s) := by
  refine hz.trans ?_
  clear hz
  unfold admitAttempt
  repeat' first
    | with_reducible apply admitJudge_keeps
    | with_reducible apply beginRead_keeps
    | with_reducible assumption
    | fail_if_no_progress beta_reduce
    | with_reducible apply Keeps.ite
    | with_reducible apply Keeps.refl
    | fail_if_no_progress (with_reducible refine Keeps.lit ?_ rfl rfl rfl rfl rfl rfl rfl rfl rfl rfl rfl rfl rfl rfl rfl rfl rfl)
    | split

theorem admitTempRetry_keeps {z : Chip} (j : Nat) (s : Chip) (hz : Keeps z s) : Keeps z (admitTempRetry j s) := by
  refine hz.trans ?_
  clear hz
  unfold admitTempRetry
  repeat' first
    | with_reducible apply startAdmission_keeps
    | with_reducible assumption
    | fail_if_no_progress beta_reduce
    | (extract_lets +onlyGivenNames x; subst x)
    | with_reducible apply Keeps.ite
    | with_reducible apply Keeps.refl

theorem socMarks_keeps {z : Chip} (s : Chip) (j : Nat) (hz : Keeps z s) : Keeps z (socMarks s j) := by
  refine hz.trans ?_
  clear hz
  unfold socMarks
  repeat' first
    | with_reducible apply postBat_keeps
    | with_reducible apply setLive_keeps
    | with_reducible apply Chip_modBat_keeps
    | with_reducible assumption
    | fail_if_no_progress beta_reduce
    | (extract_lets +onlyGivenNames x; refine Keeps.bind (x := x) (fun hx => ?_) ?_; rotate_left; subst x; rotate_right; clear_value x)
    | (extract_lets +onlyGivenNames x; subst x)
    | with_reducible apply Keeps.ite
    | with_reducible apply Keeps.refl
    | fail_if_no_progress (with_reducible refine Keeps.lit ?_ rfl rfl rfl rfl rfl rfl rfl rfl rfl rfl rfl rfl rfl rfl rfl rfl rfl)
    | split

theorem estStep_keeps {z : Chip} (s : Chip) (j : Nat) (p : Int) (hz : Keeps z s) : Keeps z (estStep s j p) := by
  refine hz.trans ?_
  clear hz
  unfold estStep
  repeat' first
    | with_reducible apply socMarks_keeps
    | with_reducible apply Chip_modBat_keeps
    | with_reducible assumption
    | fail_if_no_progress beta_reduce
    | (extract_lets +onlyGivenNames x; subst x)
    | with_reducible apply Keeps.ite
    | with_reducible apply Keeps.refl
    | fail_if_no_progress (with_reducible refine Keeps.lit ?_ rfl rfl rfl rfl rfl rfl rfl rfl rfl rfl rfl rfl rfl rfl rfl rfl rfl)
    | split

theorem estimatorStep_keeps {z : Chip} (j : Nat) (s : Chip) (hz : Keeps z s) : Keeps z (estimatorStep j s) := by
  refine hz.trans ?_
  clear hz
  unfold estimatorStep
  repeat' first
    | with_reducible apply estStep_keeps
    | with_reducible assumption
    | with_reducible apply Keeps.ite
    | with_reducible apply Keeps.refl

theorem writeBatRec_keeps {z : Chip} (s : Chip) (j : Nat) (hz : Keeps z s) : Keeps z (writeBatRec s j) := by
  refine hz.trans ?_
  clear hz
  unfold writeBatRec
  repeat' first
    | with_reducible assumption
    | (extract_lets +onlyGivenNames x; subst x)
    | with_reducible apply Keeps.refl
    | fail_if_no_progress (with_reducible refine Keeps.lit ?_ rfl rfl rfl rfl rfl rfl rfl rfl rfl rfl rfl rfl rfl rfl rfl rfl rfl)

theorem driftCount_keeps {z : Chip} (s : Chip) (j : Nat) (c : BatCfg) (bad : Bool) (d : Int) (hz : Keeps z s) : Keeps z (driftCount s j c bad d) := by
  refine hz.trans ?_
  clear hz
  unfold driftCount
  repeat' first
    | with_reducible apply postBat_keeps
    | with_reducible apply evalFault_keeps
    | with_reducible apply Chip_modBat_keeps
    | with_reducible assumption
    | fail_if_no_progress beta_reduce
    | (extract_lets +onlyGivenNames x; refine Keeps.bind (x := x) (fun hx => ?_) ?_; rotate_left; subst x; rotate_right; clear_value x)
    | (extract_lets +onlyGivenNames x; subst x)
    | with_reducible apply Keeps.ite
    | with_reducible apply Keeps.refl

theorem restPair_keeps {z : Chip} (s : Chip) (j : Nat) (c : BatCfg) (soc : Nat) (hz : Keeps z s) : Keeps z (restPair s j c soc) := by
  refine hz.trans ?_
  clear hz
  unfold restPair
  repeat' first
    | with_reducible apply driftCount_keeps
    | with_reducible apply Chip_modBat_keeps
    | with_reducible assumption
    | fail_if_no_progress beta_reduce
    | (extract_lets +onlyGivenNames x; refine Keeps.bind (x := x) (fun hx => ?_) ?_; rotate_left; subst x; rotate_right; clear_value x)
    | (extract_lets +onlyGivenNames x; subst x)
    | with_reducible apply Keeps.ite
    | with_reducible apply Keeps.refl
    | fail_if_no_progress (with_reducible refine Keeps.lit ?_ rfl rfl rfl rfl rfl rfl rfl rfl rfl rfl rfl rfl rfl rfl rfl rfl rfl)
    | split

theorem restFitStep_keeps {z : Chip} (s : Chip) (j : Nat) (c : BatCfg) (hz : Keeps z s) : Keeps z (restFitStep s j c) := by
  refine hz.trans ?_
  clear hz
  unfold restFitStep
  repeat' first
    | with_reducible apply restPair_keeps
    | with_reducible apply writeBatRec_keeps
    | with_reducible apply socMarks_keeps
    | with_reducible apply postBat_keeps
    | with_reducible apply setFault_keeps
    | with_reducible apply Chip_modBat_keeps
    | with_reducible assumption
    | fail_if_no_progress beta_reduce
    | (extract_lets +onlyGivenNames x; refine Keeps.bind (x := x) (fun hx => ?_) ?_; rotate_left; subst x; rotate_right; clear_value x)
    | (extract_lets +onlyGivenNames x; subst x)
    | with_reducible apply Keeps.ite
    | with_reducible apply Keeps.refl

theorem restSample_keeps {z : Chip} (j : Nat) (vMean : Int) (s : Chip) (hz : Keeps z s) : Keeps z (restSample j vMean s) := by
  refine hz.trans ?_
  clear hz
  unfold restSample
  repeat' first
    | with_reducible apply restFitStep_keeps
    | with_reducible apply Chip_modBat_keeps
    | with_reducible assumption
    | fail_if_no_progress beta_reduce
    | (extract_lets +onlyGivenNames x; refine Keeps.bind (x := x) (fun hx => ?_) ?_; rotate_left; subst x; rotate_right; clear_value x)
    | (extract_lets +onlyGivenNames x; subst x)
    | with_reducible apply Keeps.ite
    | with_reducible apply Keeps.refl
    | fail_if_no_progress (with_reducible refine Keeps.lit ?_ rfl rfl rfl rfl rfl rfl rfl rfl rfl rfl rfl rfl rfl rfl rfl rfl rfl)
    | split

theorem ceilingSet_keeps {z : Chip} (j : Nat) (s : Chip) (hz : Keeps z s) : Keeps z (ceilingSet j s) := by
  refine hz.trans ?_
  clear hz
  unfold ceilingSet
  repeat' first
    | with_reducible apply postBat_keeps
    | with_reducible apply Chip_modBat_keeps
    | with_reducible assumption
    | fail_if_no_progress beta_reduce
    | with_reducible apply Keeps.ite
    | with_reducible apply Keeps.refl

theorem floorSet_keeps {z : Chip} (j : Nat) (s : Chip) (hz : Keeps z s) : Keeps z (floorSet j s) := by
  refine hz.trans ?_
  clear hz
  unfold floorSet
  repeat' first
    | with_reducible apply postBat_keeps
    | with_reducible apply lanesMid_keeps
    | with_reducible apply setRailState_keeps
    | with_reducible apply evalFault_keeps
    | with_reducible apply Chip_modBat_keeps
    | with_reducible apply Chip_modRail_keeps
    | with_reducible assumption
    | fail_if_no_progress beta_reduce
    | (extract_lets +onlyGivenNames x; refine Keeps.bind (x := x) (fun hx => ?_) ?_; rotate_left; subst x; rotate_right; clear_value x)
    | with_reducible apply Keeps.ite
    | with_reducible apply Keeps.refl
    | fail_if_no_progress (with_reducible refine Keeps.lit ?_ rfl rfl rfl rfl rfl rfl rfl rfl rfl rfl rfl rfl rfl rfl rfl rfl rfl)
    | split

theorem closeSlot_keeps {z : Chip} (s : Chip) (j : Nat) (why : BatRefuse) (hz : Keeps z s) : Keeps z (closeSlot s j why) := by
  refine hz.trans ?_
  clear hz
  unfold closeSlot
  repeat' first
    | with_reducible apply setAdmit_keeps
    | with_reducible apply askClose_keeps
    | with_reducible apply chStop_keeps
    | with_reducible apply driversOff_keeps
    | with_reducible apply lanesMid_keeps
    | with_reducible apply Chip_modBat_keeps
    | with_reducible apply Chip_modCh_keeps
    | with_reducible assumption
    | (with_reducible apply Keeps.foldl; intro _ _)
    | fail_if_no_progress beta_reduce
    | (extract_lets +onlyGivenNames x; refine Keeps.bind (x := x) (fun hx => ?_) ?_; rotate_left; subst x; rotate_right; clear_value x)
    | (extract_lets +onlyGivenNames x; subst x)
    | with_reducible apply Keeps.ite
    | with_reducible apply Keeps.refl
    | fail_if_no_progress (with_reducible refine Keeps.lit ?_ rfl rfl rfl rfl rfl rfl rfl rfl rfl rfl rfl rfl rfl rfl rfl rfl rfl)
    | split

theorem termLossSet_keeps {z : Chip} (j : Nat) (s : Chip) (hz : Keeps z s) : Keeps z (termLossSet j s) := by
  refine hz.trans ?_
  clear hz
  unfold termLossSet
  repeat' first
    | with_reducible apply closeSlot_keeps
    | with_reducible apply setFault_keeps
    | with_reducible assumption
    | with_reducible apply Keeps.ite
    | with_reducible apply Keeps.refl

theorem tempLimitStep_keeps {z : Chip} (s : Chip) (j : Nat) (hz : Keeps z s) : Keeps z (tempLimitStep s j) := by
  refine hz.trans ?_
  clear hz
  unfold tempLimitStep
  repeat' first
    | with_reducible apply evalFault_keeps
    | with_reducible apply Chip_modBat_keeps
    | with_reducible assumption
    | fail_if_no_progress beta_reduce
    | with_reducible apply Keeps.refl

theorem pollJudge_keeps {z : Chip} (s : Chip) (j : Nat) (r : BmsRead) (hz : Keeps z s) : Keeps z (pollJudge s j r) := by
  refine hz.trans ?_
  clear hz
  unfold pollJudge
  repeat' first
    | with_reducible apply tempLimitStep_keeps
    | with_reducible apply closeSlot_keeps
    | with_reducible apply postBat_keeps
    | with_reducible apply setFault_keeps
    | with_reducible apply setLive_keeps
    | with_reducible apply Chip_modBat_keeps
    | with_reducible assumption
    | fail_if_no_progress beta_reduce
    | (extract_lets +onlyGivenNames x; refine Keeps.bind (x := x) (fun hx => ?_) ?_; rotate_left; subst x; rotate_right; clear_value x)
    | (extract_lets +onlyGivenNames x; subst x)
    | with_reducible apply Keeps.ite
    | with_reducible apply Keeps.refl
    | fail_if_no_progress (with_reducible refine Keeps.lit ?_ rfl rfl rfl rfl rfl rfl rfl rfl rfl rfl rfl rfl rfl rfl rfl rfl rfl)
    | split

theorem bmsPoll_keeps {z : Chip} (j : Nat) (serial : Option (List Byte)) (temp : Option Int) (s : Chip) (hz : Keeps z s) : Keeps z (bmsPoll j serial temp s) := by
  refine hz.trans ?_
  clear hz
  unfold bmsPoll
  repeat' first
    | with_reducible apply pollJudge_keeps
    | with_reducible apply beginRead_keeps
    | with_reducible apply Chip_modBat_keeps
    | with_reducible assumption
    | fail_if_no_progress beta_reduce
    | (extract_lets +onlyGivenNames x; subst x)
    | with_reducible apply Keeps.ite
    | with_reducible apply Keeps.refl
    | fail_if_no_progress (with_reducible refine Keeps.lit ?_ rfl rfl rfl rfl rfl rfl rfl rfl rfl rfl rfl rfl rfl rfl rfl rfl rfl)
    | split

theorem bmsLostSet_keeps {z : Chip} (j : Nat) (s : Chip) (hz : Keeps z s) : Keeps z (bmsLostSet j s) := by
  refine hz.trans ?_
  clear hz
  unfold bmsLostSet
  repeat' first
    | with_reducible apply postBat_keeps
    | with_reducible apply evalFault_keeps
    | with_reducible apply Chip_modBat_keeps
    | with_reducible assumption
    | fail_if_no_progress beta_reduce
    | (extract_lets +onlyGivenNames x; refine Keeps.bind (x := x) (fun hx => ?_) ?_; rotate_left; subst x; rotate_right; clear_value x)
    | with_reducible apply Keeps.ite
    | with_reducible apply Keeps.refl
    | fail_if_no_progress (with_reducible refine Keeps.lit ?_ rfl rfl rfl rfl rfl rfl rfl rfl rfl rfl rfl rfl rfl rfl rfl rfl rfl)
    | split

theorem initSoc_keeps {z : Chip} (s : Chip) (j : Nat) (hz : Keeps z s) : Keeps z (initSoc s j) := by
  refine hz.trans ?_
  clear hz
  unfold initSoc
  repeat' first
    | with_reducible apply bmsPoll_keeps
    | with_reducible apply Chip_modBat_keeps
    | with_reducible assumption
    | fail_if_no_progress beta_reduce
    | with_reducible apply Keeps.ite
    | with_reducible apply Keeps.refl

theorem initRun_keeps {z : Chip} (s : Chip) (j : Nat) (hz : Keeps z s) : Keeps z (initRun s j) := by
  refine hz.trans ?_
  clear hz
  unfold initRun
  repeat' first
    | with_reducible apply tempLimitStep_keeps
    | with_reducible apply Chip_modBat_keeps
    | with_reducible assumption
    | fail_if_no_progress beta_reduce
    | with_reducible apply Keeps.refl

theorem admitNow_keeps {z : Chip} (s : Chip) (j : Nat) (hz : Keeps z s) : Keeps z (admitNow s j) := by
  refine hz.trans ?_
  clear hz
  unfold admitNow
  repeat' first
    | with_reducible apply initRun_keeps
    | with_reducible apply initSoc_keeps
    | with_reducible apply admitEnds_keeps
    | with_reducible apply Chip_setLedger_keeps
    | with_reducible assumption
    | fail_if_no_progress beta_reduce
    | with_reducible apply Keeps.refl

theorem restTrack_keeps {z : Chip} (s : Chip) (j : Nat) (sw : Bool) (hz : Keeps z s) : Keeps z (restTrack s j sw) := by
  refine hz.trans ?_
  clear hz
  unfold restTrack
  repeat' first
    | with_reducible apply Chip_modBat_keeps
    | with_reducible assumption
    | fail_if_no_progress beta_reduce
    | with_reducible apply Keeps.ite
    | with_reducible apply Keeps.refl

theorem batWatch_keeps {z : Chip} (s : Chip) (j : Nat) (c : BatCfg) (hz : Keeps z s) : Keeps z (batWatch s j c) := by
  refine hz.trans ?_
  clear hz
  unfold batWatch
  repeat' first
    | with_reducible apply Chip_modBat_keeps
    | with_reducible assumption
    | fail_if_no_progress beta_reduce
    | with_reducible apply Keeps.ite
    | with_reducible apply Keeps.refl

theorem batRun_keeps {z : Chip} (s : Chip) (j : Nat) (c : BatCfg) (hz : Keeps z s) : Keeps z (batRun s j c) := by
  refine hz.trans ?_
  clear hz
  unfold batRun
  repeat' first
    | with_reducible apply batWatch_keeps
    | with_reducible apply restTrack_keeps
    | with_reducible apply estStep_keeps
    | with_reducible apply Chip_modBat_keeps
    | with_reducible assumption
    | fail_if_no_progress beta_reduce
    | with_reducible apply Keeps.ite
    | with_reducible apply Keeps.refl

theorem releaseStep_keeps {z : Chip} (s : Chip) (j : Nat) (c : BatCfg) (hz : Keeps z s) : Keeps z (releaseStep s j c) := by
  refine hz.trans ?_
  clear hz
  unfold releaseStep
  repeat' first
    | with_reducible apply setAdmit_keeps
    | with_reducible apply askClose_keeps
    | with_reducible apply Chip_modBat_keeps
    | with_reducible assumption
    | fail_if_no_progress beta_reduce
    | (extract_lets +onlyGivenNames x; refine Keeps.bind (x := x) (fun hx => ?_) ?_; rotate_left; subst x; rotate_right; clear_value x)
    | (extract_lets +onlyGivenNames x; subst x)
    | with_reducible apply Keeps.ite
    | with_reducible apply Keeps.refl

theorem removedStep_keeps {z : Chip} (s : Chip) (j : Nat) (hz : Keeps z s) : Keeps z (removedStep s j) := by
  refine hz.trans ?_
  clear hz
  unfold removedStep
  repeat' first
    | with_reducible apply setAdmit_keeps
    | with_reducible apply storeMarks_keeps
    | with_reducible apply formPools_keeps
    | with_reducible apply Chip_modBat_keeps
    | with_reducible assumption
    | fail_if_no_progress beta_reduce
    | with_reducible apply Keeps.refl

theorem batTick_keeps {z : Chip} (s : Chip) (j : Nat) (hz : Keeps z s) : Keeps z (batTick s j) := by
  refine hz.trans ?_
  clear hz
  unfold batTick
  repeat' first
    | with_reducible apply removedStep_keeps
    | with_reducible apply releaseStep_keeps
    | with_reducible apply batRun_keeps
    | with_reducible apply admitNow_keeps
    | with_reducible apply initRun_keeps
    | with_reducible apply initSoc_keeps
    | with_reducible assumption
    | fail_if_no_progress beta_reduce
    | with_reducible apply Keeps.ite
    | with_reducible apply Keeps.refl
    | fail_if_no_progress (with_reducible refine Keeps.lit ?_ rfl rfl rfl rfl rfl rfl rfl rfl rfl rfl rfl rfl rfl rfl rfl rfl rfl)
    | split

theorem insertStart_keeps {z : Chip} (s : Chip) (n : Nat) (hz : Keeps z s) : Keeps z (insertStart s n) := by
  refine hz.trans ?_
  clear hz
  unfold insertStart
  repeat' first
    | with_reducible apply Chip_modCh_keeps
    | with_reducible assumption
    | fail_if_no_progress beta_reduce
    | (extract_lets +onlyGivenNames x; subst x)
    | with_reducible apply Keeps.ite
    | with_reducible apply Keeps.refl

theorem insertion_keeps {z : Chip} (n : Nat) (s : Chip) (hz : Keeps z s) : Keeps z (insertion n s) := by
  refine hz.trans ?_
  clear hz
  unfold insertion
  repeat' first
    | with_reducible apply insertStart_keeps
    | with_reducible apply startAdmission_keeps
    | with_reducible apply post_keeps
    | with_reducible apply Chip_modBat_keeps
    | with_reducible apply Chip_modCh_keeps
    | with_reducible assumption
    | fail_if_no_progress beta_reduce
    | (extract_lets +onlyGivenNames x; refine Keeps.bind (x := x) (fun hx => ?_) ?_; rotate_left; subst x; rotate_right; clear_value x)
    | with_reducible apply Keeps.ite
    | with_reducible apply Keeps.refl
    | (with_reducible apply Keeps.optMap; intro _)
    | fail_if_no_progress (with_reducible refine Keeps.lit ?_ rfl rfl rfl rfl rfl rfl rfl rfl rfl rfl rfl rfl rfl rfl rfl rfl rfl)
    | split

theorem removeChannel_keeps {z : Chip} (s : Chip) (n : Nat) (hz : Keeps z s) : Keeps z (removeChannel s n) := by
  refine hz.trans ?_
  clear hz
  unfold removeChannel
  repeat' first
    | with_reducible apply chStop_keeps
    | with_reducible apply setChState_keeps
    | with_reducible apply setFault_keeps
    | with_reducible apply Chip_modCh_keeps
    | with_reducible assumption
    | fail_if_no_progress beta_reduce
    | (extract_lets +onlyGivenNames x; refine Keeps.bind (x := x) (fun hx => ?_) ?_; rotate_left; subst x; rotate_right; clear_value x)
    | (extract_lets +onlyGivenNames x; subst x)
    | with_reducible apply Keeps.ite
    | with_reducible apply Keeps.refl
    | fail_if_no_progress (with_reducible refine Keeps.lit ?_ rfl rfl rfl rfl rfl rfl rfl rfl rfl rfl rfl rfl rfl rfl rfl rfl rfl)
    | split

theorem removal_keeps {z : Chip} (n : Nat) (s : Chip) (hz : Keeps z s) : Keeps z (removal n s) := by
  refine hz.trans ?_
  clear hz
  unfold removal
  repeat' first
    | with_reducible apply removeChannel_keeps
    | with_reducible apply askClose_keeps
    | with_reducible apply post_keeps
    | with_reducible apply Chip_modBat_keeps
    | with_reducible apply Chip_modCh_keeps
    | with_reducible assumption
    | (with_reducible apply Keeps.foldl; intro _ _)
    | fail_if_no_progress beta_reduce
    | (extract_lets +onlyGivenNames x; refine Keeps.bind (x := x) (fun hx => ?_) ?_; rotate_left; subst x; rotate_right; clear_value x)
    | with_reducible apply Keeps.ite
    | with_reducible apply Keeps.refl
    | fail_if_no_progress (with_reducible refine Keeps.lit ?_ rfl rfl rfl rfl rfl rfl rfl rfl rfl rfl rfl rfl rfl rfl rfl rfl rfl)
    | split

theorem applyEUse_keeps {z : Chip} (s : Chip) (j : Nat) (hz : Keeps z s) : Keeps z (applyEUse s j) := by
  refine hz.trans ?_
  clear hz
  unfold applyEUse
  repeat' first
    | with_reducible apply writeBatRec_keeps
    | with_reducible apply Chip_modBat_keeps
    | with_reducible assumption
    | fail_if_no_progress beta_reduce
    | (extract_lets +onlyGivenNames x; refine Keeps.bind (x := x) (fun hx => ?_) ?_; rotate_left; subst x; rotate_right; clear_value x)
    | with_reducible apply Keeps.ite
    | with_reducible apply Keeps.refl
    | fail_if_no_progress (with_reducible refine Keeps.lit ?_ rfl rfl rfl rfl rfl rfl rfl rfl rfl rfl rfl rfl rfl rfl rfl rfl rfl)
    | split

theorem weightUpdate_keeps {z : Chip} (s : Chip) (hz : Keeps z s) : Keeps z (weightUpdate s) := by
  refine hz.trans ?_
  clear hz
  unfold weightUpdate
  repeat' first
    | with_reducible apply applyEUse_keeps
    | with_reducible apply queueEnergy_keeps
    | with_reducible apply formPools_keeps
    | with_reducible assumption
    | (with_reducible apply Keeps.forEach; intro _ _)
    | fail_if_no_progress beta_reduce
    | (extract_lets +onlyGivenNames x; refine Keeps.bind (x := x) (fun hx => ?_) ?_; rotate_left; subst x; rotate_right; clear_value x)
    | (extract_lets +onlyGivenNames x; subst x)
    | with_reducible apply Keeps.ite
    | with_reducible apply Keeps.refl
    | fail_if_no_progress (with_reducible refine Keeps.lit ?_ rfl rfl rfl rfl rfl rfl rfl rfl rfl rfl rfl rfl rfl rfl rfl rfl rfl)

theorem bodyBatGet_keeps {z : Chip} (rq : Request) (r : ReqRef) (s : Chip) (hz : Keeps z s) : Keeps z (bodyBatGet rq r s).2 := by
  refine hz.trans ?_
  clear hz
  unfold bodyBatGet
  repeat' first
    | with_reducible assumption
    | fail_if_no_progress beta_reduce
    | with_reducible apply Keeps.refl
    | fail_if_no_progress (with_reducible refine Keeps.lit ?_ rfl rfl rfl rfl rfl rfl rfl rfl rfl rfl rfl rfl rfl rfl rfl rfl rfl)
    | split

theorem bodyBatStateAll_keeps {z : Chip} (rq : Request) (r : ReqRef) (s : Chip) (hz : Keeps z s) : Keeps z (bodyBatStateAll rq r s).2 := by
  refine hz.trans ?_
  clear hz
  unfold bodyBatStateAll
  repeat' first
    | with_reducible assumption
    | fail_if_no_progress beta_reduce
    | with_reducible apply Keeps.refl

theorem reseat_keeps {z : Chip} (s : Chip) (j : Nat) (hz : Keeps z s) : Keeps z (reseat s j) := by
  refine hz.trans ?_
  clear hz
  unfold reseat
  repeat' first
    | with_reducible apply insertStart_keeps
    | with_reducible apply Chip_modBat_keeps
    | with_reducible apply Chip_modCh_keeps
    | with_reducible assumption
    | (with_reducible apply Keeps.foldl; intro _ _)
    | fail_if_no_progress beta_reduce
    | with_reducible apply Keeps.ite
    | with_reducible apply Keeps.refl
    | fail_if_no_progress (with_reducible refine Keeps.lit ?_ rfl rfl rfl rfl rfl rfl rfl rfl rfl rfl rfl rfl rfl rfl rfl rfl rfl)
    | split

theorem bodyBatAdmit_keeps {z : Chip} (rq : Request) (r : ReqRef) (s : Chip) (hz : Keeps z s) : Keeps z (bodyBatAdmit rq r s).2 := by
  refine hz.trans ?_
  clear hz
  unfold bodyBatAdmit
  repeat' first
    | with_reducible apply reseat_keeps
    | with_reducible apply startAdmission_keeps
    | with_reducible apply Chip_modBat_keeps
    | with_reducible assumption
    | fail_if_no_progress beta_reduce
    | (extract_lets +onlyGivenNames x; refine Keeps.bind (x := x) (fun hx => ?_) ?_; rotate_left; subst x; rotate_right; clear_value x)
    | (extract_lets +onlyGivenNames x; subst x)
    | with_reducible apply Keeps.ite
    | with_reducible apply Keeps.refl
    | fail_if_no_progress (with_reducible refine Keeps.lit ?_ rfl rfl rfl rfl rfl rfl rfl rfl rfl rfl rfl rfl rfl rfl rfl rfl rfl)
    | split

theorem releaseRail_keeps {z : Chip} (s : Chip) (k : Nat) (hz : Keeps z s) : Keeps z (releaseRail s k) := by
  refine hz.trans ?_
  clear hz
  unfold releaseRail
  repeat' first
    | with_reducible apply beginSwitching_keeps
    | with_reducible apply setRailState_keeps
    | with_reducible apply Chip_modRail_keeps
    | with_reducible assumption
    | fail_if_no_progress beta_reduce
    | (extract_lets +onlyGivenNames x; refine Keeps.bind (x := x) (fun hx => ?_) ?_; rotate_left; subst x; rotate_right; clear_value x)
    | (extract_lets +onlyGivenNames x; subst x)
    | with_reducible apply Keeps.refl
    | fail_if_no_progress (with_reducible refine Keeps.lit ?_ rfl rfl rfl rfl rfl rfl rfl rfl rfl rfl rfl rfl rfl rfl rfl rfl rfl)
    | split

theorem bodyBatRelease_keeps {z : Chip} (rq : Request) (r : ReqRef) (s : Chip) (hz : Keeps z s) : Keeps z (bodyBatRelease rq r s).2 := by
  refine hz.trans ?_
  clear hz
  unfold bodyBatRelease
  repeat' first
    | with_reducible apply releaseRail_keeps
    | with_reducible apply Chip_modBat_keeps
    | with_reducible assumption
    | fail_if_no_progress beta_reduce
    | (extract_lets +onlyGivenNames x; refine Keeps.bind (x := x) (fun hx => ?_) ?_; rotate_left; subst x; rotate_right; clear_value x)
    | (extract_lets +onlyGivenNames x; subst x)
    | with_reducible apply Keeps.ite
    | with_reducible apply Keeps.refl
    | fail_if_no_progress (with_reducible refine Keeps.lit ?_ rfl rfl rfl rfl rfl rfl rfl rfl rfl rfl rfl rfl rfl rfl rfl rfl rfl)
    | split

theorem bodyBatRestGet_keeps {z : Chip} (rq : Request) (r : ReqRef) (s : Chip) (hz : Keeps z s) : Keeps z (bodyBatRestGet rq r s).2 := by
  refine hz.trans ?_
  clear hz
  unfold bodyBatRestGet
  repeat' first
    | with_reducible assumption
    | fail_if_no_progress beta_reduce
    | with_reducible apply Keeps.refl
    | fail_if_no_progress (with_reducible refine Keeps.lit ?_ rfl rfl rfl rfl rfl rfl rfl rfl rfl rfl rfl rfl rfl rfl rfl rfl rfl)
    | split

theorem bodyBatProfileGet_keeps {z : Chip} (rq : Request) (r : ReqRef) (s : Chip) (hz : Keeps z s) : Keeps z (bodyBatProfileGet rq r s).2 := by
  refine hz.trans ?_
  clear hz
  unfold bodyBatProfileGet
  repeat' first
    | with_reducible assumption
    | fail_if_no_progress beta_reduce
    | (extract_lets +onlyGivenNames x; subst x)
    | with_reducible apply Keeps.ite
    | with_reducible apply Keeps.refl
    | fail_if_no_progress (with_reducible refine Keeps.lit ?_ rfl rfl rfl rfl rfl rfl rfl rfl rfl rfl rfl rfl rfl rfl rfl rfl rfl)
    | split

end Sys2Proof.Machine
end

