-- ==== Sys2Proof/Laws/Keeps3.lean ====
section
/-! SUPPORT. What the operations of Mirror, Stages, Pair, Sequence, Modes, Roles, Restart keep. -/

namespace Sys2Proof.Machine

theorem Chip_modMe_keeps {z : Chip} (s : Chip) (f : Pair → Pair) (hf : (f s.pair.me).retEpoch = s.pair.me.retEpoch)
    (hz : Keeps z s) : Keeps z (s.modMe f) :=
  .lit hz rfl rfl rfl rfl rfl rfl rfl rfl rfl rfl rfl rfl rfl rfl rfl rfl hf

theorem Chip_modPartner_keeps {z : Chip} (s : Chip) (f : Partner → Partner) (hz : Keeps z s) : Keeps z (Chip.modPartner s f) := by
  refine hz.trans ?_
  clear hz
  unfold Chip.modPartner
  repeat' first
    | with_reducible assumption
    | (extract_lets +onlyGivenNames x; subst x)
    | with_reducible apply Keeps.refl
    | fail_if_no_progress (with_reducible refine Keeps.lit ?_ rfl rfl rfl rfl rfl rfl rfl rfl rfl rfl rfl rfl rfl rfl rfl rfl rfl)

theorem Chip_modShadow_keeps {z : Chip} (s : Chip) (f : Shadow → Shadow) (hz : Keeps z s) : Keeps z (Chip.modShadow s f) := by
  refine hz.trans ?_
  clear hz
  unfold Chip.modShadow
  repeat' first
    | with_reducible assumption
    | (extract_lets +onlyGivenNames x; subst x)
    | with_reducible apply Keeps.refl
    | fail_if_no_progress (with_reducible refine Keeps.lit ?_ rfl rfl rfl rfl rfl rfl rfl rfl rfl rfl rfl rfl rfl rfl rfl rfl rfl)

theorem Chip_modOut_keeps {z : Chip} (s : Chip) (f : MirrorOut → MirrorOut) (hz : Keeps z s) : Keeps z (Chip.modOut s f) := by
  refine hz.trans ?_
  clear hz
  unfold Chip.modOut
  repeat' first
    | with_reducible assumption
    | (extract_lets +onlyGivenNames x; subst x)
    | with_reducible apply Keeps.refl
    | fail_if_no_progress (with_reducible refine Keeps.lit ?_ rfl rfl rfl rfl rfl rfl rfl rfl rfl rfl rfl rfl rfl rfl rfl rfl rfl)

theorem postPair_keeps {z : Chip} (s : Chip) (kind sw : Nat) (done : List (ReqRef × Status)) (hz : Keeps z s) : Keeps z (postPair s kind sw done) := by
  refine hz.trans ?_
  clear hz
  unfold postPair
  repeat' first
    | with_reducible apply post_keeps
    | with_reducible assumption
    | with_reducible apply Keeps.refl

theorem judgeReady_keeps {z : Chip} (s : Chip) (hz : Keeps z s) : Keeps z (judgeReady s) := by
  refine hz.trans ?_
  clear hz
  unfold judgeReady
  repeat' first
    | with_reducible apply postPair_keeps
    | with_reducible apply Chip_modShadow_keeps
    | with_reducible apply Chip_modPartner_keeps
    | with_reducible assumption
    | fail_if_no_progress beta_reduce
    | (extract_lets +onlyGivenNames x; refine Keeps.bind (x := x) (fun hx => ?_) ?_; rotate_left; subst x; rotate_right; clear_value x)
    | (extract_lets +onlyGivenNames x; subst x)
    | with_reducible apply Keeps.ite
    | with_reducible apply Keeps.refl

theorem mirrorSend_keeps {z : Chip} (s : Chip) (hz : Keeps z s) : Keeps z (mirrorSend s) := by
  refine hz.trans ?_
  clear hz
  unfold mirrorSend
  repeat' first
    | with_reducible apply Chip_modOut_keeps
    | with_reducible assumption
    | fail_if_no_progress beta_reduce
    | (extract_lets +onlyGivenNames x; refine Keeps.bind (x := x) (fun hx => ?_) ?_; rotate_left; subst x; rotate_right; clear_value x)
    | (extract_lets +onlyGivenNames x; subst x)
    | with_reducible apply Keeps.ite
    | with_reducible apply Keeps.refl

theorem intentGoneCh_keeps {z : Chip} (s : Chip) (n : Nat) (hz : Keeps z s) : Keeps z (intentGoneCh s n) := by
  refine hz.trans ?_
  clear hz
  unfold intentGoneCh
  repeat' first
    | with_reducible apply chActMode_keeps
    | with_reducible apply chActOff_keeps
    | with_reducible assumption
    | with_reducible apply Keeps.ite
    | with_reducible apply Keeps.refl

theorem intentGoneRail_keeps {z : Chip} (s : Chip) (k : Nat) (hz : Keeps z s) : Keeps z (intentGoneRail s k) := by
  refine hz.trans ?_
  clear hz
  unfold intentGoneRail
  repeat' first
    | with_reducible apply railActOff_keeps
    | with_reducible apply railKill_keeps
    | with_reducible apply Chip_modRail_keeps
    | with_reducible assumption
    | fail_if_no_progress beta_reduce
    | with_reducible apply Keeps.ite
    | with_reducible apply Keeps.refl

theorem takeCh_keeps {z : Chip} (n : Nat) (r : List Byte) (s : Chip) (hz : Keeps z s) : Keeps z (takeCh n r s) := by
  refine hz.trans ?_
  clear hz
  unfold takeCh
  repeat' first
    | with_reducible apply intentGoneCh_keeps
    | with_reducible apply chActDisable_keeps
    | with_reducible apply chBegin_keeps
    | with_reducible apply chStop_keeps
    | with_reducible apply setChState_keeps
    | with_reducible apply Chip_modCh_keeps
    | with_reducible assumption
    | fail_if_no_progress beta_reduce
    | (extract_lets +onlyGivenNames x; refine Keeps.bind (x := x) (fun hx => ?_) ?_; rotate_left; subst x; rotate_right; clear_value x)
    | with_reducible apply Keeps.ite
    | with_reducible apply Keeps.refl

theorem takeGoal_keeps {z : Chip} (s : Chip) (k : Nat) (goal : Int) (hz : Keeps z s) : Keeps z (takeGoal s k goal) := by
  refine hz.trans ?_
  clear hz
  unfold takeGoal
  repeat' first
    | with_reducible apply releaseRail_keeps
    | with_reducible apply setRailState_keeps
    | with_reducible apply Chip_modRail_keeps
    | with_reducible assumption
    | fail_if_no_progress beta_reduce
    | (extract_lets +onlyGivenNames x; subst x)
    | with_reducible apply Keeps.ite
    | with_reducible apply Keeps.refl

theorem mirrorAttn_keeps {z : Chip} (s : Chip) (k v : Nat) (hz : Keeps z s) : Keeps z (mirrorAttn s k v) := by
  refine hz.trans ?_
  clear hz
  unfold mirrorAttn
  repeat' first
    | with_reducible apply Chip_modLink_keeps
    | with_reducible assumption
    | (with_reducible apply Keeps.forEach; intro _ _)
    | fail_if_no_progress beta_reduce
    | (extract_lets +onlyGivenNames x; subst x)
    | with_reducible apply Keeps.ite
    | with_reducible apply Keeps.refl

theorem takeRail_keeps {z : Chip} (k : Nat) (r : List Byte) (s : Chip) (hz : Keeps z s) : Keeps z (takeRail k r s) := by
  refine hz.trans ?_
  clear hz
  unfold takeRail
  repeat' first
    | with_reducible apply mirrorAttn_keeps
    | with_reducible apply takeGoal_keeps
    | with_reducible apply intentGoneRail_keeps
    | with_reducible apply railActDisable_keeps
    | with_reducible apply railStop_keeps
    | with_reducible apply setRailState_keeps
    | with_reducible apply Chip_modRail_keeps
    | with_reducible assumption
    | fail_if_no_progress beta_reduce
    | (extract_lets +onlyGivenNames x; refine Keeps.bind (x := x) (fun hx => ?_) ?_; rotate_left; subst x; rotate_right; clear_value x)
    | (extract_lets +onlyGivenNames x; subst x)
    | with_reducible apply Keeps.ite
    | with_reducible apply Keeps.refl
    | fail_if_no_progress (with_reducible refine Keeps.lit ?_ rfl rfl rfl rfl rfl rfl rfl rfl rfl rfl rfl rfl rfl rfl rfl rfl rfl)
    | split

theorem takeRect_keeps {z : Chip} (n : Nat) (r : List Byte) (s : Chip) (hz : Keeps z s) : Keeps z (takeRect n r s) := by
  refine hz.trans ?_
  clear hz
  unfold takeRect
  repeat' first
    | with_reducible apply Chip_modRect_keeps
    | with_reducible assumption
    | fail_if_no_progress beta_reduce
    | with_reducible apply Keeps.refl

theorem takeGrant_keeps {z : Chip} (n : Nat) (r : List Byte) (s : Chip) (hz : Keeps z s) : Keeps z (takeGrant n r s) := by
  refine hz.trans ?_
  clear hz
  unfold takeGrant
  repeat' first
    | with_reducible apply Chip_modBurst_keeps
    | with_reducible apply Chip_modLink_keeps
    | with_reducible assumption
    | fail_if_no_progress beta_reduce
    | with_reducible apply Keeps.ite
    | with_reducible apply Keeps.refl

theorem takeBat_keeps {z : Chip} (j : Nat) (r : List Byte) (s : Chip) (hz : Keeps z s) : Keeps z (takeBat j r s) := by
  refine hz.trans ?_
  clear hz
  unfold takeBat
  repeat' first
    | with_reducible apply setAdmit_keeps
    | with_reducible apply Chip_setLedger_keeps
    | with_reducible apply Chip_modBat_keeps
    | with_reducible assumption
    | fail_if_no_progress beta_reduce
    | with_reducible apply Keeps.ite
    | with_reducible apply Keeps.refl

theorem takeShelf_keeps {z : Chip} (r : List Byte) (s : Chip) (hz : Keeps z s) : Keeps z (takeShelf r s) := by
  refine hz.trans ?_
  clear hz
  unfold takeShelf
  repeat' first
    | with_reducible apply throttleLinks_keeps
    | with_reducible assumption
    | (extract_lets +onlyGivenNames x; subst x)
    | with_reducible apply Keeps.ite
    | with_reducible apply Keeps.refl
    | fail_if_no_progress (with_reducible refine Keeps.lit ?_ rfl rfl rfl rfl rfl rfl rfl rfl rfl rfl rfl rfl rfl rfl rfl rfl rfl)
    | split

theorem mirrorRecords_keeps (e) (h : e ∈ mirrorRecords) (b x) : Keeps x (e.2.2 b x) := by
  simp only [mirrorRecords, List.mem_append, List.mem_cons, List.not_mem_nil, or_false, List.mem_map, List.mem_range] at h
  rcases h with ((((rfl | ⟨n, -, rfl⟩) | ⟨n, -, rfl⟩) | ⟨n, -, rfl⟩) | ⟨n, -, rfl⟩) | ⟨n, -, rfl⟩
  · exact takeShelf_keeps _ _ (.refl _)
  · exact takeCh_keeps _ _ _ (.refl _)
  · exact takeRail_keeps _ _ _ (.refl _)
  · exact takeRect_keeps _ _ _ (.refl _)
  · exact takeGrant_keeps _ _ _ (.refl _)
  · exact takeBat_keeps _ _ _ (.refl _)

theorem applyRecords_keeps {z : Chip} (hit : Nat → Bool) (s : Chip) (hz : Keeps z s) : Keeps z (applyRecords hit s) := by
  refine .foldMem (fun e he y => ?_) hz
  split
  · exact mirrorRecords_keeps e he _ _
  · exact .refl _

theorem holdPosition_keeps {z : Chip} (seq : Nat) (hash : List Byte) (s : Chip) (hz : Keeps z s) : Keeps z (holdPosition seq hash s) := by
  refine hz.trans ?_
  clear hz
  unfold holdPosition
  repeat' first
    | with_reducible apply Chip_setLedger_keeps
    | with_reducible assumption
    | fail_if_no_progress beta_reduce
    | with_reducible apply Keeps.refl

theorem takePosition_keeps {z : Chip} (seq : Nat) (before now : List Byte) (whole : Bool) (s : Chip) (hz : Keeps z s) : Keeps z (takePosition seq before now whole s) := by
  refine hz.trans ?_
  clear hz
  unfold takePosition
  repeat' first
    | with_reducible apply holdPosition_keeps
    | with_reducible apply Chip_modPartner_keeps
    | with_reducible assumption
    | fail_if_no_progress beta_reduce
    | (extract_lets +onlyGivenNames x; subst x)
    | with_reducible apply Keeps.ite
    | with_reducible apply Keeps.refl
    | fail_if_no_progress (with_reducible refine Keeps.lit ?_ rfl rfl rfl rfl rfl rfl rfl rfl rfl rfl rfl rfl rfl rfl rfl rfl rfl)
    | split

theorem refreshStep_keeps {z : Chip} (n : Nat) (s : Chip) (hz : Keeps z s) : Keeps z (refreshStep n s) := by
  refine hz.trans ?_
  clear hz
  unfold refreshStep
  repeat' first
    | with_reducible apply Chip_modShadow_keeps
    | with_reducible assumption
    | fail_if_no_progress beta_reduce
    | with_reducible apply Keeps.ite
    | with_reducible apply Keeps.refl

theorem takeFrame_keeps {z : Chip} (p : List Byte) (s : Chip) (hz : Keeps z s) : Keeps z (takeFrame p s) := by
  refine hz.trans ?_
  clear hz
  unfold takeFrame
  repeat' first
    | with_reducible apply refreshStep_keeps
    | with_reducible apply takePosition_keeps
    | with_reducible apply applyRecords_keeps
    | with_reducible apply Chip_modPartner_keeps
    | with_reducible assumption
    | fail_if_no_progress beta_reduce
    | with_reducible apply Keeps.ite
    | with_reducible apply Keeps.refl

theorem chAuto_keeps {z : Chip} (s : Chip) (n : Nat) (hz : Keeps z s) : Keeps z (chAuto s n) := by
  refine hz.trans ?_
  clear hz
  unfold chAuto
  repeat' first
    | with_reducible apply chBegin_keeps
    | with_reducible apply Chip_modCh_keeps
    | with_reducible assumption
    | fail_if_no_progress beta_reduce
    | (extract_lets +onlyGivenNames x; refine Keeps.bind (x := x) (fun hx => ?_) ?_; rotate_left; subst x; rotate_right; clear_value x)
    | (extract_lets +onlyGivenNames x; subst x)
    | with_reducible apply Keeps.ite
    | with_reducible apply Keeps.refl

theorem railAuto_keeps {z : Chip} (s : Chip) (k : Nat) (hz : Keeps z s) : Keeps z (railAuto s k) := by
  refine hz.trans ?_
  clear hz
  unfold railAuto
  repeat' first
    | with_reducible apply setRailState_keeps
    | with_reducible apply Chip_modRail_keeps
    | with_reducible assumption
    | fail_if_no_progress beta_reduce
    | (extract_lets +onlyGivenNames x; refine Keeps.bind (x := x) (fun hx => ?_) ?_; rotate_left; subst x; rotate_right; clear_value x)
    | (extract_lets +onlyGivenNames x; subst x)
    | with_reducible apply Keeps.ite
    | with_reducible apply Keeps.refl
    | fail_if_no_progress (with_reducible refine Keeps.lit ?_ rfl rfl rfl rfl rfl rfl rfl rfl rfl rfl rfl rfl rfl rfl rfl rfl rfl)
    | split

theorem startNextSource_keeps {z : Chip} (s : Chip) (hz : Keeps z s) : Keeps z (startNextSource s) := by
  refine hz.trans ?_
  clear hz
  unfold startNextSource
  repeat' first
    | with_reducible apply chAuto_keeps
    | with_reducible assumption
    | fail_if_no_progress beta_reduce
    | (extract_lets +onlyGivenNames x; subst x)
    | with_reducible apply Keeps.refl
    | fail_if_no_progress (with_reducible refine Keeps.lit ?_ rfl rfl rfl rfl rfl rfl rfl rfl rfl rfl rfl rfl rfl rfl rfl rfl rfl)
    | split

theorem stageRailsGo_keeps {z : Chip} (s : Chip) (hz : Keeps z s) : Keeps z (stageRailsGo s) := by
  refine hz.trans ?_
  clear hz
  unfold stageRailsGo
  repeat' first
    | with_reducible apply railAuto_keeps
    | with_reducible apply railActOff_keeps
    | with_reducible assumption
    | (with_reducible apply Keeps.foldl; intro _ _)
    | fail_if_no_progress beta_reduce
    | (extract_lets +onlyGivenNames x; refine Keeps.bind (x := x) (fun hx => ?_) ?_; rotate_left; subst x; rotate_right; clear_value x)
    | (extract_lets +onlyGivenNames x; subst x)
    | with_reducible apply Keeps.ite
    | with_reducible apply Keeps.refl
    | fail_if_no_progress (with_reducible refine Keeps.lit ?_ rfl rfl rfl rfl rfl rfl rfl rfl rfl rfl rfl rfl rfl rfl rfl rfl rfl)

theorem stageChannelsGo_keeps {z : Chip} (s : Chip) (hz : Keeps z s) : Keeps z (stageChannelsGo s) := by
  refine hz.trans ?_
  clear hz
  unfold stageChannelsGo
  repeat' first
    | with_reducible apply chAuto_keeps
    | with_reducible apply chActMode_keeps
    | with_reducible assumption
    | (with_reducible apply Keeps.foldl; intro _ _)
    | fail_if_no_progress beta_reduce
    | (extract_lets +onlyGivenNames x; subst x)
    | with_reducible apply Keeps.ite
    | with_reducible apply Keeps.refl
    | fail_if_no_progress (with_reducible refine Keeps.lit ?_ rfl rfl rfl rfl rfl rfl rfl rfl rfl rfl rfl rfl rfl rfl rfl rfl rfl)

theorem commandStage_keeps {z : Chip} (s : Chip) (hz : Keeps z s) : Keeps z (commandStage s) := by
  refine hz.trans ?_
  clear hz
  unfold commandStage
  repeat' first
    | with_reducible apply stageChannelsGo_keeps
    | with_reducible apply stageRailsGo_keeps
    | with_reducible apply startNextSource_keeps
    | with_reducible apply railActOff_keeps
    | with_reducible assumption
    | (with_reducible apply Keeps.foldl; intro _ _)
    | fail_if_no_progress beta_reduce
    | with_reducible apply Keeps.refl
    | fail_if_no_progress (with_reducible refine Keeps.lit ?_ rfl rfl rfl rfl rfl rfl rfl rfl rfl rfl rfl rfl rfl rfl rfl rfl rfl)
    | split

theorem enterStage_keeps {z : Chip} (s : Chip) (st : Stage) (hz : Keeps z s) : Keeps z (enterStage s st) := by
  refine hz.trans ?_
  clear hz
  unfold enterStage
  repeat' first
    | with_reducible apply commandStage_keeps
    | with_reducible apply releaseStage_keeps
    | with_reducible assumption
    | (extract_lets +onlyGivenNames x; subst x)
    | with_reducible apply Keeps.ite
    | with_reducible apply Keeps.refl
    | fail_if_no_progress (with_reducible refine Keeps.lit ?_ rfl rfl rfl rfl rfl rfl rfl rfl rfl rfl rfl rfl rfl rfl rfl rfl rfl)

theorem stageProgress_keeps {z : Chip} (s : Chip) (hz : Keeps z s) : Keeps z (stageProgress s) := by
  refine hz.trans ?_
  clear hz
  unfold stageProgress
  repeat' first
    | with_reducible apply stageChannelsGo_keeps
    | with_reducible apply stageRailsGo_keeps
    | with_reducible assumption
    | fail_if_no_progress beta_reduce
    | with_reducible apply Keeps.ite
    | with_reducible apply Keeps.refl
    | fail_if_no_progress (with_reducible refine Keeps.lit ?_ rfl rfl rfl rfl rfl rfl rfl rfl rfl rfl rfl rfl rfl rfl rfl rfl rfl)
    | split

theorem postMode_keeps {z : Chip} (s : Chip) (done : List (ReqRef × Status)) (hz : Keeps z s) : Keeps z (postMode s done) := by
  refine hz.trans ?_
  clear hz
  unfold postMode
  repeat' first
    | with_reducible apply post_keeps
    | with_reducible assumption
    | with_reducible apply Keeps.refl

theorem recordMode_keeps {z : Chip} (s : Chip) (hz : Keeps z s) : Keeps z (recordMode s) := by
  refine hz.trans ?_
  clear hz
  unfold recordMode
  repeat' first
    | with_reducible apply recPost_keeps
    | with_reducible apply Chip_modPort_keeps
    | with_reducible assumption
    | with_reducible apply Keeps.modPort
    | exact fun q h => ⟨h.queue, h.replies⟩
    | fail_if_no_progress beta_reduce
    | (extract_lets +onlyGivenNames x; subst x)
    | with_reducible apply Keeps.refl
    | fail_if_no_progress (with_reducible refine Keeps.lit ?_ rfl rfl rfl rfl rfl rfl rfl rfl rfl rfl rfl rfl rfl rfl rfl rfl rfl)

theorem followEpoch_keeps {z : Chip} (s : Chip) (e : Nat) (hz : Keeps z s) : Keeps z (followEpoch s e) := by
  unfold followEpoch
  split
  · exact hz
  · rename_i h
    refine .modPort _ _ (.modPort _ _ (hz.trans ?_) fun q h => ⟨h.queue, h.replies⟩) fun q h => ⟨h.queue, h.replies⟩
    refine ⟨fun b => ⟨b.events, b.recorder, b.energy, b.ports, b.sticky, b.sources, b.rollback, b.sram, b.depths⟩,
      fun _ => .refl _, rfl, fun k => ⟨?_, k.kept⟩⟩
    simp at h
    exact h.2

theorem epochAfter_ne (e : Nat) : epochAfter e ≠ 0xFFFF := by
  unfold epochAfter
  split <;> omega

theorem setEpoch_keeps {z : Chip} (s : Chip) (last : Nat) (hz : Keeps z s) : Keeps z (setEpoch s last) := by
  unfold setEpoch
  refine .modPort _ _ (.modPort _ _ (hz.trans ?_) fun q h => ⟨h.queue, h.replies⟩) fun q h => ⟨h.queue, h.replies⟩
  exact ⟨fun b => ⟨b.events, b.recorder, b.energy, b.ports, b.sticky, b.sources, b.rollback, b.sram, b.depths⟩,
    fun _ => .refl _, rfl, fun _ => ⟨epochAfter_ne _, epochAfter_ne _⟩⟩

theorem abortModeRefs_keeps {z : Chip} (s : Chip) (hz : Keeps z s) : Keeps z (abortModeRefs s) := by
  refine hz.trans ?_
  clear hz
  unfold abortModeRefs
  repeat' first
    | with_reducible apply postMode_keeps
    | with_reducible assumption
    | (extract_lets +onlyGivenNames x; refine Keeps.bind (x := x) (fun hx => ?_) ?_; rotate_left; subst x; rotate_right; clear_value x)
    | (extract_lets +onlyGivenNames x; subst x)
    | with_reducible apply Keeps.ite
    | with_reducible apply Keeps.refl
    | fail_if_no_progress (with_reducible refine Keeps.lit ?_ rfl rfl rfl rfl rfl rfl rfl rfl rfl rfl rfl rfl rfl rfl rfl rfl rfl)

theorem startPowerDown_keeps {z : Chip} (s : Chip) (hz : Keeps z s) : Keeps z (startPowerDown s) := by
  refine hz.trans ?_
  clear hz
  unfold startPowerDown
  repeat' first
    | with_reducible apply abortModeRefs_keeps
    | with_reducible apply askClose_keeps
    | with_reducible apply clearIntents_keeps
    | with_reducible assumption
    | (with_reducible apply Keeps.foldl; intro _ _)
    | fail_if_no_progress beta_reduce
    | (extract_lets +onlyGivenNames x; refine Keeps.bind (x := x) (fun hx => ?_) ?_; rotate_left; subst x; rotate_right; clear_value x)
    | (extract_lets +onlyGivenNames x; subst x)
    | with_reducible apply Keeps.ite
    | with_reducible apply Keeps.refl
    | fail_if_no_progress (with_reducible refine Keeps.lit ?_ rfl rfl rfl rfl rfl rfl rfl rfl rfl rfl rfl rfl rfl rfl rfl rfl rfl)

theorem switched_keeps {z : Chip} (s : Chip) (kind : SwitchKind) (before : Nat) (hz : Keeps z s) : Keeps z (switched s kind before) := by
  refine hz.trans ?_
  clear hz
  unfold switched
  repeat' first
    | with_reducible apply Chip_modMe_keeps
    | with_reducible assumption
    | with_reducible exact rfl
    | fail_if_no_progress beta_reduce
    | with_reducible apply Keeps.refl

theorem roleRecord_keeps {z : Chip} (s : Chip) (hz : Keeps z s) : Keeps z (roleRecord s) := by
  refine hz.trans ?_
  clear hz
  unfold roleRecord
  repeat' first
    | with_reducible apply recPost_keeps
    | with_reducible assumption
    | with_reducible apply Keeps.refl

theorem relinquishRecords_keeps {z : Chip} (s : Chip) (hz : Keeps z s) : Keeps z (relinquishRecords s) := by
  refine hz.trans ?_
  clear hz
  unfold relinquishRecords
  repeat' first
    | with_reducible apply ledgerBoundary_keeps
    | with_reducible apply closeAll_keeps
    | with_reducible apply settleDrafts_keeps
    | with_reducible assumption
    | with_reducible apply Keeps.ite
    | with_reducible apply Keeps.refl

theorem dropWrites_keeps {z : Chip} (s : Chip) (hz : Keeps z s) : Keeps z (dropWrites s) := by
  unfold dropWrites
  refine .forEach (fun _ _ => Chip_modBus_keeps _ _ _ (List.length_filter_le _ _) (.refl _)) ?_
  refine .forEach (fun _ _ => Chip_modRect_keeps _ _ _ (.refl _)) (hz.trans ?_)
  exact ⟨fun b => ⟨b.events, b.recorder, Nat.zero_le _, b.ports, b.sticky, b.sources, b.rollback, b.sram, b.depths⟩, fun _ => .refl _, rfl, id⟩

theorem dropAdmissions_keeps {z : Chip} (s : Chip) (hz : Keeps z s) : Keeps z (dropAdmissions s) := by
  refine hz.trans ?_
  clear hz
  unfold dropAdmissions
  repeat' first
    | with_reducible apply postBat_keeps
    | with_reducible apply Chip_modBat_keeps
    | with_reducible assumption
    | (with_reducible apply Keeps.forEach; intro _ _)
    | fail_if_no_progress beta_reduce
    | (extract_lets +onlyGivenNames x; refine Keeps.bind (x := x) (fun hx => ?_) ?_; rotate_left; subst x; rotate_right; clear_value x)
    | (extract_lets +onlyGivenNames x; subst x)
    | with_reducible apply Keeps.ite
    | with_reducible apply Keeps.refl

theorem giveRole_keeps {z : Chip} (s : Chip) (kind : SwitchKind) (done : List (ReqRef × Status)) (hz : Keeps z s) : Keeps z (giveRole s kind done) := by
  refine hz.trans ?_
  clear hz
  unfold giveRole
  repeat' first
    | with_reducible apply dropAdmissions_keeps
    | with_reducible apply dropWrites_keeps
    | with_reducible apply relinquishRecords_keeps
    | with_reducible apply roleRecord_keeps
    | with_reducible apply switched_keeps
    | with_reducible apply abortModeRefs_keeps
    | with_reducible apply postPair_keeps
    | with_reducible apply Chip_modShadow_keeps
    | with_reducible apply Chip_modPartner_keeps
    | with_reducible apply Chip_modMe_keeps
    | with_reducible assumption
    | with_reducible exact rfl
    | fail_if_no_progress beta_reduce
    | (extract_lets +onlyGivenNames x; subst x)
    | with_reducible apply Keeps.refl
    | fail_if_no_progress (with_reducible refine Keeps.lit ?_ rfl rfl rfl rfl rfl rfl rfl rfl rfl rfl rfl rfl rfl rfl rfl rfl rfl)

theorem takeoverRecords_keeps {z : Chip} (s : Chip) (kind : SwitchKind) (wait : Bool) (hz : Keeps z s) : Keeps z (takeoverRecords s kind wait) := by
  refine hz.trans ?_
  clear hz
  unfold takeoverRecords
  repeat' first
    | with_reducible apply closeAll_keeps
    | with_reducible apply openDrafts_keeps
    | with_reducible assumption
    | (extract_lets +onlyGivenNames x; refine Keeps.bind (x := x) (fun hx => ?_) ?_; rotate_left; subst x; rotate_right; clear_value x)
    | with_reducible apply Keeps.ite
    | with_reducible apply Keeps.refl

theorem afterTakeover_keeps {z : Chip} (s : Chip) (hz : Keeps z s) : Keeps z (afterTakeover s) := by
  refine hz.trans ?_
  clear hz
  unfold afterTakeover
  repeat' first
    | with_reducible apply ledgerClose_keeps
    | with_reducible assumption
    | with_reducible apply Keeps.ite
    | with_reducible apply Keeps.refl

theorem latchedRecords_keeps {z : Chip} (s : Chip) (l : RegLatch) (aux : Nat) (gap : Bool) (hz : Keeps z s) : Keeps z (latchedRecords s l aux gap) := by
  refine hz.trans ?_
  clear hz
  unfold latchedRecords
  repeat' first
    | with_reducible apply closeAll_keeps
    | with_reducible assumption
    | (extract_lets +onlyGivenNames x; refine Keeps.bind (x := x) (fun hx => ?_) ?_; rotate_left; subst x; rotate_right; clear_value x)
    | (extract_lets +onlyGivenNames x; subst x)
    | with_reducible apply Keeps.refl
    | fail_if_no_progress (with_reducible refine Keeps.lit ?_ rfl rfl rfl rfl rfl rfl rfl rfl rfl rfl rfl rfl rfl rfl rfl rfl rfl)

theorem becomesMaster_keeps {z : Chip} (s : Chip) (hz : Keeps z s) : Keeps z (becomesMaster s) := by
  refine hz.trans ?_
  clear hz
  unfold becomesMaster
  repeat' first
    | with_reducible assumption
    | (extract_lets +onlyGivenNames x; subst x)
    | with_reducible apply Keeps.ite
    | with_reducible apply Keeps.refl
    | fail_if_no_progress (with_reducible refine Keeps.lit ?_ rfl rfl rfl rfl rfl rfl rfl rfl rfl rfl rfl rfl rfl rfl rfl rfl rfl)

theorem orphanStill_keeps {z : Chip} (s : Chip) (hz : Keeps z s) : Keeps z (orphanStill s) := by
  refine hz.trans ?_
  clear hz
  unfold orphanStill
  repeat' first
    | with_reducible apply latchedRecords_keeps
    | with_reducible assumption
    | fail_if_no_progress beta_reduce
    | (extract_lets +onlyGivenNames x; subst x)
    | with_reducible apply Keeps.refl
    | fail_if_no_progress (with_reducible refine Keeps.lit ?_ rfl rfl rfl rfl rfl rfl rfl rfl rfl rfl rfl rfl rfl rfl rfl rfl rfl)
    | split

theorem continueService_keeps {z : Chip} (s : Chip) (hz : Keeps z s) : Keeps z (continueService s) := by
  refine hz.trans ?_
  clear hz
  unfold continueService
  repeat' first
    | with_reducible assumption
    | (extract_lets +onlyGivenNames x; subst x)
    | with_reducible apply Keeps.ite
    | with_reducible apply Keeps.refl
    | fail_if_no_progress (with_reducible refine Keeps.lit ?_ rfl rfl rfl rfl rfl rfl rfl rfl rfl rfl rfl rfl rfl rfl rfl rfl rfl)

theorem continueStage_keeps {z : Chip} (s : Chip) (hz : Keeps z s) : Keeps z (continueStage s) := by
  refine hz.trans ?_
  clear hz
  unfold continueStage
  repeat' first
    | with_reducible apply continueService_keeps
    | with_reducible apply commandStage_keeps
    | with_reducible apply beginHands_keeps
    | with_reducible assumption
    | fail_if_no_progress beta_reduce
    | (extract_lets +onlyGivenNames x; refine Keeps.bind (x := x) (fun hx => ?_) ?_; rotate_left; subst x; rotate_right; clear_value x)
    | (extract_lets +onlyGivenNames x; subst x)
    | with_reducible apply Keeps.refl
    | fail_if_no_progress (with_reducible refine Keeps.lit ?_ rfl rfl rfl rfl rfl rfl rfl rfl rfl rfl rfl rfl rfl rfl rfl rfl rfl)
    | split

theorem continueReleases_keeps {z : Chip} (s : Chip) (hz : Keeps z s) : Keeps z (continueReleases s) := by
  refine hz.trans ?_
  clear hz
  unfold continueReleases
  repeat' first
    | with_reducible apply Chip_modBat_keeps
    | with_reducible assumption
    | (with_reducible apply Keeps.forEach; intro _ _)
    | fail_if_no_progress beta_reduce
    | with_reducible apply Keeps.ite
    | with_reducible apply Keeps.refl

theorem takeRole_keeps {z : Chip} (s : Chip) (last : Nat) (kind : SwitchKind) (wait : Bool) (hz : Keeps z s) : Keeps z (takeRole s last kind wait) := by
  refine hz.trans ?_
  clear hz
  unfold takeRole
  repeat' first
    | with_reducible apply continueReleases_keeps
    | with_reducible apply continueStage_keeps
    | with_reducible apply orphanStill_keeps
    | with_reducible apply becomesMaster_keeps
    | with_reducible apply afterTakeover_keeps
    | with_reducible apply takeoverRecords_keeps
    | with_reducible apply roleRecord_keeps
    | with_reducible apply switched_keeps
    | with_reducible apply setEpoch_keeps
    | with_reducible apply postPair_keeps
    | with_reducible apply Chip_modOut_keeps
    | with_reducible apply Chip_modShadow_keeps
    | with_reducible apply Chip_modMe_keeps
    | with_reducible apply setFault_keeps
    | with_reducible assumption
    | with_reducible exact rfl
    | fail_if_no_progress beta_reduce
    | (extract_lets +onlyGivenNames x; subst x)
    | with_reducible apply Keeps.ite
    | with_reducible apply Keeps.refl
    | fail_if_no_progress (with_reducible refine Keeps.lit ?_ rfl rfl rfl rfl rfl rfl rfl rfl rfl rfl rfl rfl rfl rfl rfl rfl rfl)

theorem beginHandover_keeps {z : Chip} (s : Chip) (r : Option ReqRef) (off hot : Bool) (hz : Keeps z s) : Keeps z (beginHandover s r off hot) := by
  refine hz.trans ?_
  clear hz
  unfold beginHandover
  repeat' first
    | with_reducible apply Chip_modMe_keeps
    | with_reducible assumption
    | with_reducible exact rfl
    | fail_if_no_progress beta_reduce
    | with_reducible apply Keeps.refl

theorem handoverDrained_keeps {z : Chip} (s : Chip) (hz : Keeps z s) : Keeps z (handoverDrained s) := by
  refine hz.trans ?_
  clear hz
  unfold handoverDrained
  repeat' first
    | with_reducible apply Chip_modMe_keeps
    | with_reducible assumption
    | with_reducible exact rfl
    | fail_if_no_progress beta_reduce
    | with_reducible apply Keeps.ite
    | with_reducible apply Keeps.refl

theorem handoverRelinquish_keeps {z : Chip} (s : Chip) (hz : Keeps z s) : Keeps z (handoverRelinquish s) := by
  refine hz.trans ?_
  clear hz
  unfold handoverRelinquish
  repeat' first
    | with_reducible apply giveRole_keeps
    | with_reducible apply Chip_modMe_keeps
    | with_reducible apply setFault_keeps
    | with_reducible assumption
    | with_reducible exact rfl
    | fail_if_no_progress beta_reduce
    | (extract_lets +onlyGivenNames x; refine Keeps.bind (x := x) (fun hx => ?_) ?_; rotate_left; subst x; rotate_right; clear_value x)
    | (extract_lets +onlyGivenNames x; subst x)
    | with_reducible apply Keeps.ite
    | with_reducible apply Keeps.refl
    | fail_if_no_progress (with_reducible refine Keeps.lit ?_ rfl rfl rfl rfl rfl rfl rfl rfl rfl rfl rfl rfl rfl rfl rfl rfl rfl)
    | split

theorem handoverAbort_keeps {z : Chip} (s : Chip) (hz : Keeps z s) : Keeps z (handoverAbort s) := by
  refine hz.trans ?_
  clear hz
  unfold handoverAbort
  repeat' first
    | with_reducible apply takeRole_keeps
    | with_reducible apply setFault_keeps
    | with_reducible assumption
    | fail_if_no_progress beta_reduce
    | (extract_lets +onlyGivenNames x; refine Keeps.bind (x := x) (fun hx => ?_) ?_; rotate_left; subst x; rotate_right; clear_value x)
    | (extract_lets +onlyGivenNames x; subst x)
    | with_reducible apply Keeps.ite
    | with_reducible apply Keeps.refl
    | fail_if_no_progress (with_reducible refine Keeps.lit ?_ rfl rfl rfl rfl rfl rfl rfl rfl rfl rfl rfl rfl rfl rfl rfl rfl rfl)
    | split

theorem handoverSeen_keeps {z : Chip} (s : Chip) (h : MirrorHead) (hz : Keeps z s) : Keeps z (handoverSeen s h) := by
  refine hz.trans ?_
  clear hz
  unfold handoverSeen
  repeat' first
    | with_reducible apply startPowerDown_keeps
    | with_reducible apply postPair_keeps
    | with_reducible apply Chip_modMe_keeps
    | with_reducible assumption
    | (with_reducible apply Keeps.foldl; intro _ _)
    | with_reducible exact rfl
    | fail_if_no_progress beta_reduce
    | (extract_lets +onlyGivenNames x; refine Keeps.bind (x := x) (fun hx => ?_) ?_; rotate_left; subst x; rotate_right; clear_value x)
    | (extract_lets +onlyGivenNames x; subst x)
    | with_reducible apply Keeps.ite
    | with_reducible apply Keeps.refl
    | fail_if_no_progress (with_reducible refine Keeps.lit ?_ rfl rfl rfl rfl rfl rfl rfl rfl rfl rfl rfl rfl rfl rfl rfl rfl rfl)
    | split

theorem followStage_keeps {z : Chip} (s : Chip) (was : Mode) (st : Stage) (hz : Keeps z s) : Keeps z (followStage s was st) := by
  refine hz.trans ?_
  clear hz
  unfold followStage
  repeat' first
    | with_reducible apply beginHands_keeps
    | with_reducible apply releaseStage_keeps
    | with_reducible assumption
    | (extract_lets +onlyGivenNames x; refine Keeps.bind (x := x) (fun hx => ?_) ?_; rotate_left; subst x; rotate_right; clear_value x)
    | (extract_lets +onlyGivenNames x; subst x)
    | with_reducible apply Keeps.ite
    | with_reducible apply Keeps.refl
    | fail_if_no_progress (with_reducible refine Keeps.lit ?_ rfl rfl rfl rfl rfl rfl rfl rfl rfl rfl rfl rfl rfl rfl rfl rfl rfl)

theorem followMode_keeps {z : Chip} (s : Chip) (w : Nat) (hz : Keeps z s) : Keeps z (followMode s w) := by
  refine hz.trans ?_
  clear hz
  unfold followMode
  repeat' first
    | with_reducible apply followStage_keeps
    | with_reducible apply recordMode_keeps
    | with_reducible apply postMode_keeps
    | with_reducible apply beginHands_keeps
    | with_reducible assumption
    | (extract_lets +onlyGivenNames x; refine Keeps.bind (x := x) (fun hx => ?_) ?_; rotate_left; subst x; rotate_right; clear_value x)
    | (extract_lets +onlyGivenNames x; subst x)
    | with_reducible apply Keeps.ite
    | with_reducible apply Keeps.refl
    | fail_if_no_progress (with_reducible refine Keeps.lit ?_ rfl rfl rfl rfl rfl rfl rfl rfl rfl rfl rfl rfl rfl rfl rfl rfl rfl)

theorem crossCheck_keeps {z : Chip} (s : Chip) (h : MirrorHead) (hz : Keeps z s) : Keeps z (crossCheck s h) := by
  refine hz.trans ?_
  clear hz
  unfold crossCheck
  repeat' first
    | with_reducible apply Chip_modShadow_keeps
    | with_reducible apply Chip_modPartner_keeps
    | with_reducible apply evalFault_keeps
    | with_reducible assumption
    | fail_if_no_progress beta_reduce
    | with_reducible apply Keeps.ite
    | with_reducible apply Keeps.refl

theorem settleTakeover_keeps {z : Chip} (s : Chip) (h : MirrorHead) (hz : Keeps z s) : Keeps z (settleTakeover s h) := by
  refine hz.trans ?_
  clear hz
  unfold settleTakeover
  repeat' first
    | with_reducible apply settleDrafts_keeps
    | with_reducible apply Chip_setLedger_keeps
    | with_reducible apply Chip_drawn_keeps
    | with_reducible assumption
    | fail_if_no_progress beta_reduce
    | (extract_lets +onlyGivenNames x; subst x)
    | with_reducible apply Keeps.ite
    | with_reducible apply Keeps.refl

theorem Chip_modNet_keeps {z : Chip} (s : Chip) (f : Hall → Hall) (hz : Keeps z s) : Keeps z (Chip.modNet s f) := by
  refine hz.trans ?_
  clear hz
  unfold Chip.modNet
  repeat' first
    | with_reducible assumption
    | with_reducible apply Keeps.refl
    | fail_if_no_progress (with_reducible refine Keeps.lit ?_ rfl rfl rfl rfl rfl rfl rfl rfl rfl rfl rfl rfl rfl rfl rfl rfl rfl)

theorem Chip_modNp_keeps {z : Chip} (s : Chip) (p : Nat) (f : NpPort → NpPort) (hz : Keeps z s) : Keeps z (Chip.modNp s p f) := by
  refine hz.trans ?_
  clear hz
  unfold Chip.modNp
  repeat' first
    | with_reducible apply Chip_modNet_keeps
    | with_reducible assumption
    | fail_if_no_progress beta_reduce
    | with_reducible apply Keeps.refl

theorem crcError_keeps {z : Chip} (p : Nat) (s : Chip) (hz : Keeps z s) : Keeps z (crcError p s) := by
  refine hz.trans ?_
  clear hz
  unfold crcError
  repeat' first
    | with_reducible apply Chip_modNp_keeps
    | with_reducible apply setFault_keeps
    | with_reducible assumption
    | fail_if_no_progress beta_reduce
    | (extract_lets +onlyGivenNames x; refine Keeps.bind (x := x) (fun hx => ?_) ?_; rotate_left; subst x; rotate_right; clear_value x)
    | with_reducible apply Keeps.ite
    | with_reducible apply Keeps.refl

theorem touchNp0_keeps {z : Chip} (s : Chip) (hz : Keeps z s) : Keeps z (touchNp0 s) := by
  refine hz.trans ?_
  clear hz
  unfold touchNp0
  repeat' first
    | with_reducible apply Chip_modNp_keeps
    | with_reducible assumption
    | fail_if_no_progress beta_reduce
    | with_reducible apply Keeps.refl

theorem stillRecorded_keeps {z : Chip} (s : Chip) (n : Nat) (hz : Keeps z s) : Keeps z (stillRecorded s n) := by
  refine hz.trans ?_
  clear hz
  unfold stillRecorded
  repeat' first
    | with_reducible apply Chip_modNet_keeps
    | with_reducible assumption
    | fail_if_no_progress beta_reduce
    | with_reducible apply Keeps.refl

theorem mirrorFrame_keeps {z : Chip} (p : List Byte) (s : Chip) (hz : Keeps z s) : Keeps z (mirrorFrame p s) := by
  refine hz.trans ?_
  clear hz
  unfold mirrorFrame
  repeat' first
    | with_reducible apply stillRecorded_keeps
    | with_reducible apply touchNp0_keeps
    | with_reducible apply crcError_keeps
    | with_reducible apply settleTakeover_keeps
    | with_reducible apply crossCheck_keeps
    | with_reducible apply followMode_keeps
    | with_reducible apply handoverSeen_keeps
    | with_reducible apply followEpoch_keeps
    | with_reducible apply takeFrame_keeps
    | with_reducible apply judgeReady_keeps
    | with_reducible apply Chip_modPartner_keeps
    | with_reducible apply Chip_modMe_keeps
    | with_reducible apply evalFault_keeps
    | with_reducible assumption
    | with_reducible exact rfl
    | fail_if_no_progress beta_reduce
    | (extract_lets +onlyGivenNames x; refine Keeps.bind (x := x) (fun hx => ?_) ?_; rotate_left; subst x; rotate_right; clear_value x)
    | (extract_lets +onlyGivenNames x; subst x)
    | with_reducible apply Keeps.ite
    | with_reducible apply Keeps.refl

theorem heartbeatLoss_keeps {z : Chip} (s : Chip) (hz : Keeps z s) : Keeps z (heartbeatLoss s) := by
  refine hz.trans ?_
  clear hz
  unfold heartbeatLoss
  repeat' first
    | with_reducible apply judgeReady_keeps
    | with_reducible apply Chip_modPartner_keeps
    | with_reducible apply settleDrafts_keeps
    | with_reducible apply setFault_keeps
    | with_reducible assumption
    | fail_if_no_progress beta_reduce
    | (extract_lets +onlyGivenNames x; refine Keeps.bind (x := x) (fun hx => ?_) ?_; rotate_left; subst x; rotate_right; clear_value x)
    | with_reducible apply Keeps.ite
    | with_reducible apply Keeps.refl

theorem forceInRise_keeps {z : Chip} (s : Chip) (hz : Keeps z s) : Keeps z (forceInRise s) := by
  refine hz.trans ?_
  clear hz
  unfold forceInRise
  repeat' first
    | with_reducible apply Chip_modMe_keeps
    | with_reducible assumption
    | with_reducible exact rfl
    | fail_if_no_progress beta_reduce
    | with_reducible apply Keeps.refl

theorem forceInFall_keeps {z : Chip} (s : Chip) (hz : Keeps z s) : Keeps z (forceInFall s) := by
  refine hz.trans ?_
  clear hz
  unfold forceInFall
  repeat' first
    | with_reducible apply Chip_modMe_keeps
    | with_reducible assumption
    | with_reducible exact rfl
    | fail_if_no_progress beta_reduce
    | with_reducible apply Keeps.refl

theorem gapHold_keeps {z : Chip} (s : Chip) (hz : Keeps z s) : Keeps z (gapHold s) := by
  refine hz.trans ?_
  clear hz
  unfold gapHold
  repeat' first
    | with_reducible apply Chip_modMe_keeps
    | with_reducible assumption
    | with_reducible exact rfl
    | fail_if_no_progress beta_reduce
    | with_reducible apply Keeps.ite
    | with_reducible apply Keeps.refl

theorem watchLane_keeps {z : Chip} (s : Chip) (m : LaneMeas) (hz : Keeps z s) : Keeps z (watchLane s m) := by
  refine hz.trans ?_
  clear hz
  unfold watchLane
  repeat' first
    | with_reducible apply Chip_modShadow_keeps
    | with_reducible assumption
    | fail_if_no_progress beta_reduce
    | with_reducible apply Keeps.ite
    | with_reducible apply Keeps.refl

theorem shadowChecks_keeps {z : Chip} (s : Chip) (lanes : List LaneMeas) (hz : Keeps z s) : Keeps z (shadowChecks s lanes) := by
  refine hz.trans ?_
  clear hz
  unfold shadowChecks
  repeat' first
    | with_reducible apply watchLane_keeps
    | with_reducible apply Chip_modShadow_keeps
    | with_reducible apply evalFault_keeps
    | with_reducible assumption
    | (with_reducible apply Keeps.foldl; intro _ _)
    | fail_if_no_progress beta_reduce
    | with_reducible apply Keeps.ite
    | with_reducible apply Keeps.refl

theorem selftestPass_keeps {z : Chip} (passed : Bool) (s : Chip) (hz : Keeps z s) : Keeps z (selftestPass passed s) := by
  refine hz.trans ?_
  clear hz
  unfold selftestPass
  repeat' first
    | with_reducible apply judgeReady_keeps
    | with_reducible apply Chip_modShadow_keeps
    | with_reducible apply setFault_keeps
    | with_reducible assumption
    | fail_if_no_progress beta_reduce
    | (extract_lets +onlyGivenNames x; refine Keeps.bind (x := x) (fun hx => ?_) ?_; rotate_left; subst x; rotate_right; clear_value x)
    | with_reducible apply Keeps.ite
    | with_reducible apply Keeps.refl

theorem resyncDwell_keeps {z : Chip} (s : Chip) (hz : Keeps z s) : Keeps z (resyncDwell s) := by
  refine hz.trans ?_
  clear hz
  unfold resyncDwell
  repeat' first
    | with_reducible apply judgeReady_keeps
    | with_reducible apply Chip_modShadow_keeps
    | with_reducible assumption
    | fail_if_no_progress beta_reduce
    | with_reducible apply Keeps.ite
    | with_reducible apply Keeps.refl

theorem refreshLost_keeps {z : Chip} (s : Chip) (hz : Keeps z s) : Keeps z (refreshLost s) := by
  refine hz.trans ?_
  clear hz
  unfold refreshLost
  repeat' first
    | with_reducible apply refreshStep_keeps
    | with_reducible apply Chip_modPartner_keeps
    | with_reducible assumption
    | fail_if_no_progress beta_reduce
    | with_reducible apply Keeps.ite
    | with_reducible apply Keeps.refl

theorem judgeHeartbeat_keeps {z : Chip} (s : Chip) (hz : Keeps z s) : Keeps z (judgeHeartbeat s) := by
  refine hz.trans ?_
  clear hz
  unfold judgeHeartbeat
  repeat' first
    | with_reducible apply postPair_keeps
    | with_reducible apply Chip_modPartner_keeps
    | with_reducible assumption
    | fail_if_no_progress beta_reduce
    | (extract_lets +onlyGivenNames x; refine Keeps.bind (x := x) (fun hx => ?_) ?_; rotate_left; subst x; rotate_right; clear_value x)
    | (extract_lets +onlyGivenNames x; subst x)
    | with_reducible apply Keeps.ite
    | with_reducible apply Keeps.refl

theorem forcedOff_keeps {z : Chip} (s : Chip) (hz : Keeps z s) : Keeps z (forcedOff s) := by
  refine hz.trans ?_
  clear hz
  unfold forcedOff
  repeat' first
    | with_reducible apply giveRole_keeps
    | with_reducible apply Chip_modMe_keeps
    | with_reducible apply setFault_keeps
    | with_reducible assumption
    | with_reducible exact rfl
    | fail_if_no_progress beta_reduce
    | (extract_lets +onlyGivenNames x; refine Keeps.bind (x := x) (fun hx => ?_) ?_; rotate_left; subst x; rotate_right; clear_value x)
    | with_reducible apply Keeps.ite
    | with_reducible apply Keeps.refl

theorem blockedStep_keeps {z : Chip} (s : Chip) (hz : Keeps z s) : Keeps z (blockedStep s) := by
  refine hz.trans ?_
  clear hz
  unfold blockedStep
  repeat' first
    | with_reducible apply Chip_modMe_keeps
    | with_reducible apply setFault_keeps
    | with_reducible assumption
    | with_reducible exact rfl
    | fail_if_no_progress beta_reduce
    | with_reducible apply Keeps.ite
    | with_reducible apply Keeps.refl

theorem pairTick_keeps {z : Chip} (l : Latch) (s : Chip) (hz : Keeps z s) : Keeps z (pairTick l s) := by
  refine hz.trans ?_
  clear hz
  unfold pairTick
  repeat' first
    | with_reducible apply blockedStep_keeps
    | with_reducible apply forcedOff_keeps
    | with_reducible apply judgeHeartbeat_keeps
    | with_reducible apply refreshLost_keeps
    | with_reducible apply shadowChecks_keeps
    | with_reducible apply gapHold_keeps
    | with_reducible apply judgeReady_keeps
    | with_reducible apply Chip_modMe_keeps
    | with_reducible assumption
    | with_reducible exact rfl
    | fail_if_no_progress beta_reduce
    | (extract_lets +onlyGivenNames x; refine Keeps.bind (x := x) (fun hx => ?_) ?_; rotate_left; subst x; rotate_right; clear_value x)
    | with_reducible apply Keeps.ite
    | with_reducible apply Keeps.refl

theorem bodyPairHealth_keeps {z : Chip} (rq : Request) (r : ReqRef) (s : Chip) (hz : Keeps z s) : Keeps z (bodyPairHealth rq r s).2 := by
  refine hz.trans ?_
  clear hz
  unfold bodyPairHealth
  repeat' first
    | with_reducible assumption
    | fail_if_no_progress beta_reduce
    | with_reducible apply Keeps.refl

theorem bodyPairGet_keeps {z : Chip} (rq : Request) (r : ReqRef) (s : Chip) (hz : Keeps z s) : Keeps z (bodyPairGet rq r s).2 := by
  refine hz.trans ?_
  clear hz
  unfold bodyPairGet
  repeat' first
    | with_reducible assumption
    | fail_if_no_progress beta_reduce
    | (extract_lets +onlyGivenNames x; subst x)
    | with_reducible apply Keeps.refl

theorem bodyPairHandover_keeps {z : Chip} (rq : Request) (r : ReqRef) (s : Chip) (hz : Keeps z s) : Keeps z (bodyPairHandover rq r s).2 := by
  refine hz.trans ?_
  clear hz
  unfold bodyPairHandover
  repeat' first
    | with_reducible apply beginHandover_keeps
    | with_reducible assumption
    | fail_if_no_progress beta_reduce
    | (extract_lets +onlyGivenNames x; refine Keeps.bind (x := x) (fun hx => ?_) ?_; rotate_left; subst x; rotate_right; clear_value x)
    | with_reducible apply Keeps.ite
    | with_reducible apply Keeps.refl
    | fail_if_no_progress (with_reducible refine Keeps.lit ?_ rfl rfl rfl rfl rfl rfl rfl rfl rfl rfl rfl rfl rfl rfl rfl rfl rfl)
    | split

theorem commitMode_keeps {z : Chip} (s : Chip) (m : Mode) (c : Cause) (done : List (ReqRef × Status)) (hz : Keeps z s) : Keeps z (commitMode s m c done) := by
  refine hz.trans ?_
  clear hz
  unfold commitMode
  repeat' first
    | with_reducible apply recordMode_keeps
    | with_reducible apply postMode_keeps
    | with_reducible assumption
    | (extract_lets +onlyGivenNames x; subst x)
    | with_reducible apply Keeps.ite
    | with_reducible apply Keeps.refl
    | fail_if_no_progress (with_reducible refine Keeps.lit ?_ rfl rfl rfl rfl rfl rfl rfl rfl rfl rfl rfl rfl rfl rfl rfl rfl rfl)

theorem beginStart_keeps {z : Chip} (s : Chip) (c : Cause) (old : List ReqRef) (hz : Keeps z s) : Keeps z (beginStart s c old) := by
  refine hz.trans ?_
  clear hz
  unfold beginStart
  repeat' first
    | with_reducible apply commitMode_keeps
    | with_reducible apply enterStage_keeps
    | with_reducible assumption
    | (extract_lets +onlyGivenNames x; subst x)
    | with_reducible apply Keeps.refl
    | fail_if_no_progress (with_reducible refine Keeps.lit ?_ rfl rfl rfl rfl rfl rfl rfl rfl rfl rfl rfl rfl rfl rfl rfl rfl rfl)

theorem beginStop_keeps {z : Chip} (s : Chip) (c : Cause) (old : List ReqRef) (hz : Keeps z s) : Keeps z (beginStop s c old) := by
  refine hz.trans ?_
  clear hz
  unfold beginStop
  repeat' first
    | with_reducible apply commitMode_keeps
    | with_reducible apply enterStage_keeps
    | with_reducible assumption
    | (extract_lets +onlyGivenNames x; subst x)
    | with_reducible apply Keeps.refl
    | fail_if_no_progress (with_reducible refine Keeps.lit ?_ rfl rfl rfl rfl rfl rfl rfl rfl rfl rfl rfl rfl rfl rfl rfl rfl rfl)

theorem endStart_keeps {z : Chip} (s : Chip) (hz : Keeps z s) : Keeps z (endStart s) := by
  refine hz.trans ?_
  clear hz
  unfold endStart
  repeat' first
    | with_reducible apply postMode_keeps
    | with_reducible assumption
    | (extract_lets +onlyGivenNames x; subst x)
    | with_reducible apply Keeps.ite
    | with_reducible apply Keeps.refl
    | fail_if_no_progress (with_reducible refine Keeps.lit ?_ rfl rfl rfl rfl rfl rfl rfl rfl rfl rfl rfl rfl rfl rfl rfl rfl rfl)

theorem endStop_keeps {z : Chip} (s : Chip) (hz : Keeps z s) : Keeps z (endStop s) := by
  refine hz.trans ?_
  clear hz
  unfold endStop
  repeat' first
    | with_reducible apply commitMode_keeps
    | with_reducible apply clearIntents_keeps
    | with_reducible assumption
    | (extract_lets +onlyGivenNames x; subst x)
    | with_reducible apply Keeps.ite
    | with_reducible apply Keeps.refl
    | fail_if_no_progress (with_reducible refine Keeps.lit ?_ rfl rfl rfl rfl rfl rfl rfl rfl rfl rfl rfl rfl rfl rfl rfl rfl rfl)

theorem nextStage_keeps {z : Chip} (s : Chip) (hz : Keeps z s) : Keeps z (nextStage s) := by
  refine hz.trans ?_
  clear hz
  unfold nextStage
  repeat' first
    | with_reducible apply endStop_keeps
    | with_reducible apply endStart_keeps
    | with_reducible apply enterStage_keeps
    | with_reducible assumption
    | fail_if_no_progress beta_reduce
    | with_reducible apply Keeps.refl
    | fail_if_no_progress (with_reducible refine Keeps.lit ?_ rfl rfl rfl rfl rfl rfl rfl rfl rfl rfl rfl rfl rfl rfl rfl rfl rfl)
    | split

theorem stageEnd_keeps {z : Chip} (s : Chip) (hz : Keeps z s) : Keeps z (stageEnd s) := by
  refine hz.trans ?_
  clear hz
  unfold stageEnd
  repeat' first
    | with_reducible apply nextStage_keeps
    | with_reducible assumption
    | with_reducible apply Keeps.ite
    | with_reducible apply Keeps.refl

theorem sourcesSpacing_keeps {z : Chip} (s : Chip) (hz : Keeps z s) : Keeps z (sourcesSpacing s) := by
  refine hz.trans ?_
  clear hz
  unfold sourcesSpacing
  repeat' first
    | with_reducible apply startNextSource_keeps
    | with_reducible assumption
    | with_reducible apply Keeps.ite
    | with_reducible apply Keeps.refl

theorem stageDisableCh_keeps {z : Chip} (s : Chip) (n : Nat) (hz : Keeps z s) : Keeps z (stageDisableCh s n) := by
  refine hz.trans ?_
  clear hz
  unfold stageDisableCh
  repeat' first
    | with_reducible apply chActMode_keeps
    | with_reducible assumption
    | with_reducible apply Keeps.ite
    | with_reducible apply Keeps.refl

theorem stageDisableRail_keeps {z : Chip} (s : Chip) (k : Nat) (hz : Keeps z s) : Keeps z (stageDisableRail s k) := by
  refine hz.trans ?_
  clear hz
  unfold stageDisableRail
  repeat' first
    | with_reducible apply railStops_keeps
    | with_reducible apply railKill_keeps
    | with_reducible apply Chip_modRail_keeps
    | with_reducible assumption
    | fail_if_no_progress beta_reduce
    | with_reducible apply Keeps.refl

theorem disableUnfinished_keeps {z : Chip} (s : Chip) (hz : Keeps z s) : Keeps z (disableUnfinished s) := by
  refine hz.trans ?_
  clear hz
  unfold disableUnfinished
  repeat' first
    | with_reducible apply stageDisableRail_keeps
    | with_reducible apply stageDisableCh_keeps
    | with_reducible assumption
    | (with_reducible apply Keeps.foldl; intro _ _)
    | with_reducible apply Keeps.refl

theorem blackStart_keeps {z : Chip} (s : Chip) (hz : Keeps z s) : Keeps z (blackStart s) := by
  refine hz.trans ?_
  clear hz
  unfold blackStart
  repeat' first
    | with_reducible apply commitMode_keeps
    | with_reducible apply enterStage_keeps
    | with_reducible assumption
    | (extract_lets +onlyGivenNames x; subst x)
    | with_reducible apply Keeps.refl
    | fail_if_no_progress (with_reducible refine Keeps.lit ?_ rfl rfl rfl rfl rfl rfl rfl rfl rfl rfl rfl rfl rfl rfl rfl rfl rfl)

theorem stageTimeout_keeps {z : Chip} (s : Chip) (hz : Keeps z s) : Keeps z (stageTimeout s) := by
  refine hz.trans ?_
  clear hz
  unfold stageTimeout
  repeat' first
    | with_reducible apply blackStart_keeps
    | with_reducible apply disableUnfinished_keeps
    | with_reducible apply nextStage_keeps
    | with_reducible apply beginStop_keeps
    | with_reducible assumption
    | fail_if_no_progress beta_reduce
    | (extract_lets +onlyGivenNames x; refine Keeps.bind (x := x) (fun hx => ?_) ?_; rotate_left; subst x; rotate_right; clear_value x)
    | (extract_lets +onlyGivenNames x; subst x)
    | with_reducible apply Keeps.ite
    | with_reducible apply Keeps.refl
    | fail_if_no_progress (with_reducible refine Keeps.lit ?_ rfl rfl rfl rfl rfl rfl rfl rfl rfl rfl rfl rfl rfl rfl rfl rfl rfl)
    | split

theorem svcTurnOff_keeps {z : Chip} (s : Chip) (hz : Keeps z s) : Keeps z (svcTurnOff s) := by
  refine hz.trans ?_
  clear hz
  unfold svcTurnOff
  repeat' first
    | with_reducible apply chActMode_keeps
    | with_reducible apply railActOff_keeps
    | with_reducible assumption
    | fail_if_no_progress beta_reduce
    | (extract_lets +onlyGivenNames x; refine Keeps.bind (x := x) (fun hx => ?_) ?_; rotate_left; subst x; rotate_right; clear_value x)
    | with_reducible apply Keeps.ite
    | with_reducible apply Keeps.refl
    | fail_if_no_progress (with_reducible refine Keeps.lit ?_ rfl rfl rfl rfl rfl rfl rfl rfl rfl rfl rfl rfl rfl rfl rfl rfl rfl)
    | split

theorem svcStep_keeps {z : Chip} (s : Chip) (hz : Keeps z s) : Keeps z (svcStep s) := by
  refine hz.trans ?_
  clear hz
  unfold svcStep
  repeat' first
    | with_reducible apply svcTurnOff_keeps
    | with_reducible assumption
    | fail_if_no_progress beta_reduce
    | (extract_lets +onlyGivenNames x; refine Keeps.bind (x := x) (fun hx => ?_) ?_; rotate_left; subst x; rotate_right; clear_value x)
    | (extract_lets +onlyGivenNames x; subst x)
    | with_reducible apply Keeps.ite
    | with_reducible apply Keeps.refl
    | fail_if_no_progress (with_reducible refine Keeps.lit ?_ rfl rfl rfl rfl rfl rfl rfl rfl rfl rfl rfl rfl rfl rfl rfl rfl rfl)
    | split

theorem serviceStopTimeout_keeps {z : Chip} (s : Chip) (hz : Keeps z s) : Keeps z (serviceStopTimeout s) := by
  refine hz.trans ?_
  clear hz
  unfold serviceStopTimeout
  repeat' first
    | with_reducible apply svcStep_keeps
    | with_reducible apply stageDisableRail_keeps
    | with_reducible apply stageDisableCh_keeps
    | with_reducible assumption
    | fail_if_no_progress beta_reduce
    | (extract_lets +onlyGivenNames x; refine Keeps.bind (x := x) (fun hx => ?_) ?_; rotate_left; subst x; rotate_right; clear_value x)
    | (extract_lets +onlyGivenNames x; subst x)
    | with_reducible apply Keeps.ite
    | with_reducible apply Keeps.refl
    | (with_reducible apply Keeps.optMap; intro _)
    | fail_if_no_progress (with_reducible refine Keeps.lit ?_ rfl rfl rfl rfl rfl rfl rfl rfl rfl rfl rfl rfl rfl rfl rfl rfl rfl)
    | split

theorem commitPend_keeps {z : Chip} (s : Chip) (p : PendMode) (hz : Keeps z s) : Keeps z (commitPend s p) := by
  refine hz.trans ?_
  clear hz
  unfold commitPend
  repeat' first
    | with_reducible apply svcTurnOff_keeps
    | with_reducible apply beginStop_keeps
    | with_reducible apply beginStart_keeps
    | with_reducible apply commitMode_keeps
    | with_reducible apply clearIntents_keeps
    | with_reducible assumption
    | fail_if_no_progress beta_reduce
    | (extract_lets +onlyGivenNames x; refine Keeps.bind (x := x) (fun hx => ?_) ?_; rotate_left; subst x; rotate_right; clear_value x)
    | (extract_lets +onlyGivenNames x; subst x)
    | with_reducible apply Keeps.ite
    | with_reducible apply Keeps.refl
    | fail_if_no_progress (with_reducible refine Keeps.lit ?_ rfl rfl rfl rfl rfl rfl rfl rfl rfl rfl rfl rfl rfl rfl rfl rfl rfl)
    | split

theorem modeCommit_keeps {z : Chip} (s : Chip) (hz : Keeps z s) : Keeps z (modeCommit s) := by
  refine hz.trans ?_
  clear hz
  unfold modeCommit
  repeat' first
    | with_reducible apply commitPend_keeps
    | with_reducible assumption
    | fail_if_no_progress beta_reduce
    | with_reducible apply Keeps.ite
    | with_reducible apply Keeps.refl
    | fail_if_no_progress (with_reducible refine Keeps.lit ?_ rfl rfl rfl rfl rfl rfl rfl rfl rfl rfl rfl rfl rfl rfl rfl rfl rfl)
    | split

theorem dropShelf_keeps {z : Chip} (why : Refuse) (s : Chip) (hz : Keeps z s) : Keeps z (dropShelf why s) := by
  refine hz.trans ?_
  clear hz
  unfold dropShelf
  repeat' first
    | with_reducible apply chActMode_keeps
    | with_reducible apply railStops_keeps
    | with_reducible apply refuseBurst_keeps
    | with_reducible apply endGrant_keeps
    | with_reducible apply railKill_keeps
    | with_reducible assumption
    | (with_reducible apply Keeps.forEach; intro _ _)
    | fail_if_no_progress beta_reduce
    | with_reducible apply Keeps.ite
    | with_reducible apply Keeps.refl

theorem commitLockout_keeps {z : Chip} (s : Chip) (c : Cause) (hz : Keeps z s) : Keeps z (commitLockout s c) := by
  refine hz.trans ?_
  clear hz
  unfold commitLockout
  repeat' first
    | with_reducible apply dropShelf_keeps
    | with_reducible apply commitMode_keeps
    | with_reducible apply clearIntents_keeps
    | with_reducible assumption
    | (extract_lets +onlyGivenNames x; subst x)
    | with_reducible apply Keeps.refl
    | fail_if_no_progress (with_reducible refine Keeps.lit ?_ rfl rfl rfl rfl rfl rfl rfl rfl rfl rfl rfl rfl rfl rfl rfl rfl rfl)

theorem lockoutCommit_keeps {z : Chip} (s : Chip) (hz : Keeps z s) : Keeps z (lockoutCommit s) := by
  refine hz.trans ?_
  clear hz
  unfold lockoutCommit
  repeat' first
    | with_reducible apply commitLockout_keeps
    | with_reducible assumption
    | fail_if_no_progress beta_reduce
    | with_reducible apply Keeps.ite
    | with_reducible apply Keeps.refl
    | fail_if_no_progress (with_reducible refine Keeps.lit ?_ rfl rfl rfl rfl rfl rfl rfl rfl rfl rfl rfl rfl rfl rfl rfl rfl rfl)
    | split

theorem holdAutoReady_keeps {z : Chip} (s : Chip) (hz : Keeps z s) : Keeps z (holdAutoReady s) := by
  refine hz.trans ?_
  clear hz
  unfold holdAutoReady
  repeat' first
    | with_reducible apply commitMode_keeps
    | with_reducible apply clearIntents_keeps
    | with_reducible assumption
    | with_reducible apply Keeps.ite
    | with_reducible apply Keeps.refl

theorem bridgeAllNow_keeps {z : Chip} (s : Chip) (hz : Keeps z s) : Keeps z (bridgeAllNow s) := by
  refine hz.trans ?_
  clear hz
  unfold bridgeAllNow
  repeat' first
    | with_reducible apply enterBridging_keeps
    | with_reducible apply Chip_modRail_keeps
    | with_reducible assumption
    | (with_reducible apply Keeps.forEach; intro _ _)
    | fail_if_no_progress beta_reduce
    | (extract_lets +onlyGivenNames x; subst x)
    | with_reducible apply Keeps.ite
    | with_reducible apply Keeps.refl

theorem filterQueue_keeps {z : Chip} (s : Chip) (f : EnergySet → Bool) (hz : Keeps z s) :
    Keeps z { s with book := { s.book with queue := s.book.queue.filter f } } :=
  hz.trans ⟨fun b => ⟨b.events, b.recorder, (List.length_filter_le _ _).trans b.energy, b.ports, b.sticky, b.sources, b.rollback,
    b.sram, b.depths⟩, fun _ => .refl _, rfl, id⟩

theorem bridgeEvent_keeps {z : Chip} (k : Nat) (convs : List Int) (s : Chip) (hz : Keeps z s) : Keeps z (bridgeEvent k convs s) := by
  unfold bridgeEvent
  split
  · generalize hx : bridgeAllNow { s with energy := { s.energy with vBref := s.img.energy.vBridgeReg, raise := false } } = x
    replace hx : Keeps z x := hx ▸ bridgeAllNow_keeps _ (.lit hz rfl rfl rfl rfl rfl rfl rfl rfl rfl rfl rfl rfl rfl rfl rfl rfl rfl)
    dsimp only
    split
    · split
      · exact postMode_keeps _ _ (.lit (filterQueue_keeps x (fun e => e != EnergySet.handover) hx) rfl rfl rfl rfl rfl rfl rfl rfl rfl rfl rfl rfl rfl rfl rfl rfl rfl)
      · exact .lit hx rfl rfl rfl rfl rfl rfl rfl rfl rfl rfl rfl rfl rfl rfl rfl rfl rfl
    split <;> exact .lit hx rfl rfl rfl rfl rfl rfl rfl rfl rfl rfl rfl rfl rfl rfl rfl rfl rfl
  · exact hz

theorem shortfall_keeps {z : Chip} (s : Chip) (hz : Keeps z s) : Keeps z (shortfall s) := by
  refine hz.trans ?_
  clear hz
  unfold shortfall
  repeat' first
    | with_reducible apply queueEnergy_keeps
    | with_reducible assumption
    | fail_if_no_progress beta_reduce
    | (extract_lets +onlyGivenNames x; refine Keeps.bind (x := x) (fun hx => ?_) ?_; rotate_left; subst x; rotate_right; clear_value x)
    | (extract_lets +onlyGivenNames x; subst x)
    | with_reducible apply Keeps.ite
    | with_reducible apply Keeps.refl
    | fail_if_no_progress (with_reducible refine Keeps.lit ?_ rfl rfl rfl rfl rfl rfl rfl rfl rfl rfl rfl rfl rfl rfl rfl rfl rfl)

theorem bridgeDwellMet_keeps {z : Chip} (s : Chip) (hz : Keeps z s) : Keeps z (bridgeDwellMet s) := by
  refine hz.trans ?_
  clear hz
  unfold bridgeDwellMet
  repeat' first
    | with_reducible apply queueEnergy_keeps
    | with_reducible apply standoffRectifiers_keeps
    | with_reducible assumption
    | fail_if_no_progress beta_reduce
    | (extract_lets +onlyGivenNames x; refine Keeps.bind (x := x) (fun hx => ?_) ?_; rotate_left; subst x; rotate_right; clear_value x)
    | (extract_lets +onlyGivenNames x; subst x)
    | with_reducible apply Keeps.ite
    | with_reducible apply Keeps.refl
    | fail_if_no_progress (with_reducible refine Keeps.lit ?_ rfl rfl rfl rfl rfl rfl rfl rfl rfl rfl rfl rfl rfl rfl rfl rfl rfl)

theorem handoverComplete_keeps {z : Chip} (s : Chip) (hz : Keeps z s) : Keeps z (handoverComplete s) := by
  refine hz.trans ?_
  clear hz
  unfold handoverComplete
  repeat' first
    | with_reducible apply commitMode_keeps
    | with_reducible assumption
    | (extract_lets +onlyGivenNames x; refine Keeps.bind (x := x) (fun hx => ?_) ?_; rotate_left; subst x; rotate_right; clear_value x)
    | (extract_lets +onlyGivenNames x; subst x)
    | with_reducible apply Keeps.ite
    | with_reducible apply Keeps.refl
    | fail_if_no_progress (with_reducible refine Keeps.lit ?_ rfl rfl rfl rfl rfl rfl rfl rfl rfl rfl rfl rfl rfl rfl rfl rfl rfl)

theorem exhaustStep_keeps {z : Chip} (s : Chip) (hz : Keeps z s) : Keeps z (exhaustStep s) := by
  refine hz.trans ?_
  clear hz
  unfold exhaustStep
  repeat' first
    | with_reducible assumption
    | (extract_lets +onlyGivenNames x; subst x)
    | with_reducible apply Keeps.ite
    | with_reducible apply Keeps.refl
    | fail_if_no_progress (with_reducible refine Keeps.lit ?_ rfl rfl rfl rfl rfl rfl rfl rfl rfl rfl rfl rfl rfl rfl rfl rfl rfl)

theorem bodyModeGet_keeps {z : Chip} (rq : Request) (r : ReqRef) (s : Chip) (hz : Keeps z s) : Keeps z (bodyModeGet rq r s).2 := by
  refine hz.trans ?_
  clear hz
  unfold bodyModeGet
  repeat' first
    | with_reducible assumption
    | fail_if_no_progress beta_reduce
    | with_reducible apply Keeps.refl

theorem pendTo_keeps {z : Chip} (s : Chip) (m : Mode) (c : Cause) (asked refs : List ReqRef) (hz : Keeps z s) : Keeps z (pendTo s m c asked refs) := by
  refine hz.trans ?_
  clear hz
  unfold pendTo
  repeat' first
    | with_reducible assumption
    | fail_if_no_progress beta_reduce
    | (extract_lets +onlyGivenNames x; subst x)
    | with_reducible apply Keeps.ite
    | with_reducible apply Keeps.refl
    | fail_if_no_progress (with_reducible refine Keeps.lit ?_ rfl rfl rfl rfl rfl rfl rfl rfl rfl rfl rfl rfl rfl rfl rfl rfl rfl)

theorem requestOff_keeps {z : Chip} (s : Chip) (hz : Keeps z s) : Keeps z (requestOff s).2 := by
  refine hz.trans ?_
  clear hz
  unfold requestOff
  repeat' first
    | with_reducible apply beginHandover_keeps
    | with_reducible apply startPowerDown_keeps
    | with_reducible assumption
    | fail_if_no_progress beta_reduce
    | (extract_lets +onlyGivenNames x; refine Keeps.bind (x := x) (fun hx => ?_) ?_; rotate_left; subst x; rotate_right; clear_value x)
    | with_reducible apply Keeps.ite
    | with_reducible apply Keeps.refl
    | fail_if_no_progress (with_reducible refine Keeps.lit ?_ rfl rfl rfl rfl rfl rfl rfl rfl rfl rfl rfl rfl rfl rfl rfl rfl rfl)
    | split

theorem requestDuring_keeps {z : Chip} (r : ReqRef) (m : Mode) (s : Chip) (hz : Keeps z s) : Keeps z (requestDuring r m s).2 := by
  refine hz.trans ?_
  clear hz
  unfold requestDuring
  repeat' first
    | with_reducible apply pendTo_keeps
    | with_reducible assumption
    | with_reducible apply Keeps.ite
    | with_reducible apply Keeps.refl
    | fail_if_no_progress (with_reducible refine Keeps.lit ?_ rfl rfl rfl rfl rfl rfl rfl rfl rfl rfl rfl rfl rfl rfl rfl rfl rfl)
    | split

theorem requestReady_keeps {z : Chip} (r : ReqRef) (s : Chip) (hz : Keeps z s) : Keeps z (requestReady r s).2 := by
  refine hz.trans ?_
  clear hz
  unfold requestReady
  repeat' first
    | with_reducible apply pendTo_keeps
    | with_reducible assumption
    | fail_if_no_progress beta_reduce
    | (extract_lets +onlyGivenNames x; refine Keeps.bind (x := x) (fun hx => ?_) ?_; rotate_left; subst x; rotate_right; clear_value x)
    | (extract_lets +onlyGivenNames x; subst x)
    | with_reducible apply Keeps.ite
    | with_reducible apply Keeps.refl
    | fail_if_no_progress (with_reducible refine Keeps.lit ?_ rfl rfl rfl rfl rfl rfl rfl rfl rfl rfl rfl rfl rfl rfl rfl rfl rfl)
    | split

theorem bodyModeRequest_keeps {z : Chip} (rq : Request) (r : ReqRef) (s : Chip) (hz : Keeps z s) : Keeps z (bodyModeRequest rq r s).2 := by
  refine hz.trans ?_
  clear hz
  unfold bodyModeRequest
  repeat' first
    | with_reducible apply requestReady_keeps
    | with_reducible apply requestDuring_keeps
    | with_reducible apply requestOff_keeps
    | with_reducible apply pendTo_keeps
    | with_reducible assumption
    | fail_if_no_progress beta_reduce
    | (extract_lets +onlyGivenNames x; refine Keeps.bind (x := x) (fun hx => ?_) ?_; rotate_left; subst x; rotate_right; clear_value x)
    | (extract_lets +onlyGivenNames x; subst x)
    | with_reducible apply Keeps.ite
    | with_reducible apply Keeps.refl
    | fail_if_no_progress (with_reducible refine Keeps.lit ?_ rfl rfl rfl rfl rfl rfl rfl rfl rfl rfl rfl rfl rfl rfl rfl rfl rfl)
    | split

theorem bodyServiceSelect_keeps {z : Chip} (rq : Request) (r : ReqRef) (s : Chip) (hz : Keeps z s) : Keeps z (bodyServiceSelect rq r s).2 := by
  refine hz.trans ?_
  clear hz
  unfold bodyServiceSelect
  repeat' first
    | with_reducible assumption
    | fail_if_no_progress beta_reduce
    | (extract_lets +onlyGivenNames x; refine Keeps.bind (x := x) (fun hx => ?_) ?_; rotate_left; subst x; rotate_right; clear_value x)
    | (extract_lets +onlyGivenNames x; subst x)
    | with_reducible apply Keeps.ite
    | with_reducible apply Keeps.refl
    | fail_if_no_progress (with_reducible refine Keeps.lit ?_ rfl rfl rfl rfl rfl rfl rfl rfl rfl rfl rfl rfl rfl rfl rfl rfl rfl)
    | split

theorem startAfterWake_keeps {z : Chip} (s : Chip) (hz : Keeps z s) : Keeps z (startAfterWake s) := by
  refine hz.trans ?_
  clear hz
  unfold startAfterWake
  repeat' first
    | with_reducible apply pendTo_keeps
    | with_reducible assumption
    | (extract_lets +onlyGivenNames x; subst x)
    | with_reducible apply Keeps.ite
    | with_reducible apply Keeps.refl
    | fail_if_no_progress (with_reducible refine Keeps.lit ?_ rfl rfl rfl rfl rfl rfl rfl rfl rfl rfl rfl rfl rfl rfl rfl rfl rfl)

theorem wakeAdmissions_keeps {z : Chip} (s : Chip) (hz : Keeps z s) : Keeps z (wakeAdmissions s) := by
  refine hz.trans ?_
  clear hz
  unfold wakeAdmissions
  repeat' first
    | with_reducible apply startAdmission_keeps
    | with_reducible assumption
    | (with_reducible apply Keeps.forEach; intro _ _)
    | fail_if_no_progress beta_reduce
    | with_reducible apply Keeps.ite
    | with_reducible apply Keeps.refl

theorem wakeCommit_keeps {z : Chip} (s : Chip) (hz : Keeps z s) : Keeps z (wakeCommit s) := by
  refine hz.trans ?_
  clear hz
  unfold wakeCommit
  repeat' first
    | with_reducible apply wakeAdmissions_keeps
    | with_reducible apply startAfterWake_keeps
    | with_reducible apply commitMode_keeps
    | with_reducible assumption
    | fail_if_no_progress beta_reduce
    | (extract_lets +onlyGivenNames x; subst x)
    | with_reducible apply Keeps.ite
    | with_reducible apply Keeps.refl
    | fail_if_no_progress (with_reducible refine Keeps.lit ?_ rfl rfl rfl rfl rfl rfl rfl rfl rfl rfl rfl rfl rfl rfl rfl rfl rfl)

theorem startRole_keeps {z : Chip} (s : Chip) (hz : Keeps z s) : Keeps z (startRole s) := by
  refine hz.trans ?_
  clear hz
  unfold startRole
  repeat' first
    | with_reducible apply startAfterWake_keeps
    | with_reducible apply gapHold_keeps
    | with_reducible apply orphanStill_keeps
    | with_reducible apply becomesMaster_keeps
    | with_reducible apply roleRecord_keeps
    | with_reducible apply switched_keeps
    | with_reducible apply setEpoch_keeps
    | with_reducible apply postPair_keeps
    | with_reducible apply Chip_modOut_keeps
    | with_reducible apply Chip_modMe_keeps
    | with_reducible assumption
    | with_reducible exact rfl
    | fail_if_no_progress beta_reduce
    | (extract_lets +onlyGivenNames x; subst x)
    | with_reducible apply Keeps.ite
    | with_reducible apply Keeps.refl
    | fail_if_no_progress (with_reducible refine Keeps.lit ?_ rfl rfl rfl rfl rfl rfl rfl rfl rfl rfl rfl rfl rfl rfl rfl rfl rfl)

theorem startStandby_keeps {z : Chip} (s : Chip) (hz : Keeps z s) : Keeps z (startStandby s) := by
  refine hz.trans ?_
  clear hz
  unfold startStandby
  repeat' first
    | with_reducible apply followEpoch_keeps
    | with_reducible apply Chip_modShadow_keeps
    | with_reducible apply Chip_modMe_keeps
    | with_reducible assumption
    | with_reducible exact rfl
    | fail_if_no_progress beta_reduce
    | (extract_lets +onlyGivenNames x; subst x)
    | with_reducible apply Keeps.refl
    | fail_if_no_progress (with_reducible refine Keeps.lit ?_ rfl rfl rfl rfl rfl rfl rfl rfl rfl rfl rfl rfl rfl rfl rfl rfl rfl)

theorem roleTakeAtStart_keeps {z : Chip} (s : Chip) (hz : Keeps z s) : Keeps z (roleTakeAtStart s) := by
  refine hz.trans ?_
  clear hz
  unfold roleTakeAtStart
  repeat' first
    | with_reducible apply startStandby_keeps
    | with_reducible apply startRole_keeps
    | with_reducible apply wakeAdmissions_keeps
    | with_reducible assumption
    | fail_if_no_progress beta_reduce
    | with_reducible apply Keeps.ite
    | with_reducible apply Keeps.refl
    | fail_if_no_progress (with_reducible refine Keeps.lit ?_ rfl rfl rfl rfl rfl rfl rfl rfl rfl rfl rfl rfl rfl rfl rfl rfl rfl)
    | split

theorem takeover_keeps {z : Chip} (s : Chip) (hz : Keeps z s) : Keeps z (takeover s) := by
  refine hz.trans ?_
  clear hz
  unfold takeover
  repeat' first
    | with_reducible apply takeRole_keeps
    | with_reducible assumption
    | (extract_lets +onlyGivenNames x; subst x)
    | with_reducible apply Keeps.ite
    | with_reducible apply Keeps.refl

theorem ledgerPeriodClose_keeps {z : Chip} (s : Chip) (hz : Keeps z s) : Keeps z (ledgerPeriodClose s) := by
  refine hz.trans ?_
  clear hz
  unfold ledgerPeriodClose
  repeat' first
    | with_reducible apply ledgerBoundary_keeps
    | with_reducible assumption
    | with_reducible apply Keeps.ite
    | with_reducible apply Keeps.refl

theorem heldTrips_keeps {z : Chip} (s : Chip) (hz : Keeps z s) : Keeps z (heldTrips s) := by
  refine hz.trans ?_
  clear hz
  unfold heldTrips
  repeat' first
    | with_reducible apply heldTrip_keeps
    | with_reducible assumption
    | (with_reducible apply Keeps.forEach; intro _ _)
    | fail_if_no_progress beta_reduce
    | with_reducible apply Keeps.refl

theorem resumeRails_keeps {z : Chip} (s : Chip) (hz : Keeps z s) : Keeps z (resumeRails s) := by
  refine hz.trans ?_
  clear hz
  unfold resumeRails
  repeat' first
    | with_reducible apply Chip_modRail_keeps
    | with_reducible assumption
    | (with_reducible apply Keeps.forEach; intro _ _)
    | fail_if_no_progress beta_reduce
    | (extract_lets +onlyGivenNames x; subst x)
    | with_reducible apply Keeps.ite
    | with_reducible apply Keeps.refl

theorem resumeLinks_keeps {z : Chip} (s : Chip) (hz : Keeps z s) : Keeps z (resumeLinks s) := by
  refine hz.trans ?_
  clear hz
  unfold resumeLinks
  repeat' first
    | with_reducible apply Chip_modLink_keeps
    | with_reducible assumption
    | (with_reducible apply Keeps.forEach; intro _ _)
    | fail_if_no_progress beta_reduce
    | with_reducible apply Keeps.ite
    | with_reducible apply Keeps.refl

theorem driverResume_keeps {z : Chip} (s : Chip) (hz : Keeps z s) : Keeps z (driverResume s) := by
  refine hz.trans ?_
  clear hz
  unfold driverResume
  repeat' first
    | with_reducible apply resumeLinks_keeps
    | with_reducible apply resumeRails_keeps
    | with_reducible apply heldTrips_keeps
    | with_reducible apply commitLockout_keeps
    | with_reducible apply gapHold_keeps
    | with_reducible apply Chip_modMe_keeps
    | with_reducible assumption
    | with_reducible exact rfl
    | fail_if_no_progress beta_reduce
    | (extract_lets +onlyGivenNames x; refine Keeps.bind (x := x) (fun hx => ?_) ?_; rotate_left; subst x; rotate_right; clear_value x)
    | with_reducible apply Keeps.ite
    | with_reducible apply Keeps.refl
    | fail_if_no_progress (with_reducible refine Keeps.lit ?_ rfl rfl rfl rfl rfl rfl rfl rfl rfl rfl rfl rfl rfl rfl rfl rfl rfl)
    | split

theorem failoverBlocked_keeps {z : Chip} (s : Chip) (hz : Keeps z s) : Keeps z (failoverBlocked s) := by
  refine hz.trans ?_
  clear hz
  unfold failoverBlocked
  repeat' first
    | with_reducible apply dropShelf_keeps
    | with_reducible apply commitMode_keeps
    | with_reducible apply takeRole_keeps
    | with_reducible apply clearIntents_keeps
    | with_reducible assumption
    | fail_if_no_progress beta_reduce
    | (extract_lets +onlyGivenNames x; refine Keeps.bind (x := x) (fun hx => ?_) ?_; rotate_left; subst x; rotate_right; clear_value x)
    | (extract_lets +onlyGivenNames x; subst x)
    | with_reducible apply Keeps.ite
    | with_reducible apply Keeps.refl
    | fail_if_no_progress (with_reducible refine Keeps.lit ?_ rfl rfl rfl rfl rfl rfl rfl rfl rfl rfl rfl rfl rfl rfl rfl rfl rfl)

theorem postFw_keeps {z : Chip} (s : Chip) (kind target result : Nat) (done : List (ReqRef × Status)) (hz : Keeps z s) : Keeps z (postFw s kind target result done) := by
  refine hz.trans ?_
  clear hz
  unfold postFw
  repeat' first
    | with_reducible apply post_keeps
    | with_reducible assumption
    | with_reducible apply Keeps.refl

theorem Chip_modFw_keeps {z : Chip} (s : Chip) (f : Fw → Fw) (hz : Keeps z s) : Keeps z (Chip.modFw s f) := by
  refine hz.trans ?_
  clear hz
  unfold Chip.modFw
  repeat' first
    | with_reducible assumption
    | with_reducible apply Keeps.refl
    | fail_if_no_progress (with_reducible refine Keeps.lit ?_ rfl rfl rfl rfl rfl rfl rfl rfl rfl rfl rfl rfl rfl rfl rfl rfl rfl)

theorem setFwSlot_keeps {z : Chip} (s : Chip) (target slot : Nat) (g : FwSlot → FwSlot) (hz : Keeps z s) : Keeps z (setFwSlot s target slot g) := by
  refine hz.trans ?_
  clear hz
  unfold setFwSlot
  repeat' first
    | with_reducible apply Chip_modFw_keeps
    | with_reducible assumption
    | fail_if_no_progress beta_reduce
    | with_reducible apply Keeps.ite
    | with_reducible apply Keeps.refl

theorem fwRecord_keeps {z : Chip} (s : Chip) (target result version : Nat) (hz : Keeps z s) : Keeps z (fwRecord s target result version) := by
  refine hz.trans ?_
  clear hz
  unfold fwRecord
  repeat' first
    | with_reducible apply recPost_keeps
    | with_reducible assumption
    | with_reducible apply Keeps.refl

theorem trialFallback_keeps {z : Chip} (s : Chip) (hz : Keeps z s) : Keeps z (trialFallback s) := by
  refine hz.trans ?_
  clear hz
  unfold trialFallback
  repeat' first
    | with_reducible apply fwRecord_keeps
    | with_reducible apply Chip_modFw_keeps
    | with_reducible apply setFault_keeps
    | with_reducible assumption
    | fail_if_no_progress beta_reduce
    | (extract_lets +onlyGivenNames x; refine Keeps.bind (x := x) (fun hx => ?_) ?_; rotate_left; subst x; rotate_right; clear_value x)
    | (extract_lets +onlyGivenNames x; subst x)
    | with_reducible apply Keeps.ite
    | with_reducible apply Keeps.refl

theorem discardFwStage_keeps {z : Chip} (s : Chip) (hz : Keeps z s) : Keeps z (discardFwStage s) := by
  refine hz.trans ?_
  clear hz
  unfold discardFwStage
  repeat' first
    | with_reducible apply setFwSlot_keeps
    | with_reducible apply Chip_modFw_keeps
    | with_reducible assumption
    | fail_if_no_progress beta_reduce
    | (extract_lets +onlyGivenNames x; refine Keeps.bind (x := x) (fun hx => ?_) ?_; rotate_left; subst x; rotate_right; clear_value x)
    | (extract_lets +onlyGivenNames x; subst x)
    | with_reducible apply Keeps.refl
    | fail_if_no_progress (with_reducible refine Keeps.lit ?_ rfl rfl rfl rfl rfl rfl rfl rfl rfl rfl rfl rfl rfl rfl rfl rfl rfl)
    | split

theorem Chip_modCfg_keeps {z : Chip} (s : Chip) (f : Cfg → Cfg) (hz : Keeps z s) : Keeps z (Chip.modCfg s f) := by
  refine hz.trans ?_
  clear hz
  unfold Chip.modCfg
  repeat' first
    | with_reducible assumption
    | with_reducible apply Keeps.refl
    | fail_if_no_progress (with_reducible refine Keeps.lit ?_ rfl rfl rfl rfl rfl rfl rfl rfl rfl rfl rfl rfl rfl rfl rfl rfl rfl)

theorem putSlot_keeps {z : Chip} (slot : Nat) (raw : List Byte) (s : Chip) (hz : Keeps z s) : Keeps z (putSlot slot raw s) := by
  refine hz.trans ?_
  clear hz
  unfold putSlot
  repeat' first
    | with_reducible apply Chip_modCfg_keeps
    | with_reducible assumption
    | fail_if_no_progress beta_reduce
    | with_reducible apply Keeps.ite
    | with_reducible apply Keeps.refl

theorem postCfg_keeps {z : Chip} (s : Chip) (kind code : Nat) (done : List (ReqRef × Status)) (hz : Keeps z s) : Keeps z (postCfg s kind code done) := by
  refine hz.trans ?_
  clear hz
  unfold postCfg
  repeat' first
    | with_reducible apply post_keeps
    | with_reducible assumption
    | with_reducible apply Keeps.refl

theorem closeStage_keeps {z : Chip} (s : Chip) (hz : Keeps z s) : Keeps z (closeStage s) := by
  refine hz.trans ?_
  clear hz
  unfold closeStage
  repeat' first
    | with_reducible apply Chip_modCfg_keeps
    | with_reducible assumption
    | fail_if_no_progress beta_reduce
    | with_reducible apply Keeps.refl

theorem discardCfgStage_keeps {z : Chip} (s : Chip) (hz : Keeps z s) : Keeps z (discardCfgStage s) := by
  refine hz.trans ?_
  clear hz
  unfold discardCfgStage
  repeat' first
    | with_reducible apply closeStage_keeps
    | with_reducible apply postCfg_keeps
    | with_reducible apply setFault_keeps
    | with_reducible assumption
    | (extract_lets +onlyGivenNames x; subst x)
    | with_reducible apply Keeps.ite
    | with_reducible apply Keeps.refl

theorem emptyPorts_keeps {z : Chip} (s : Chip) (hz : Keeps z s) : Keeps z (emptyPorts s) := by
  unfold emptyPorts
  exact .modPort _ _ (.modPort _ _ hz fun q h => ⟨Nat.zero_le _, Nat.zero_le _⟩) fun q h => ⟨Nat.zero_le _, Nat.zero_le _⟩

theorem dropBusQueues_keeps {z : Chip} (s : Chip) (hz : Keeps z s) : Keeps z (dropBusQueues s) := by
  refine .forEach (fun k s => ?_) hz
  refine .foldl (fun y a => ?_) (Chip_modBus_keeps _ _ _ (Nat.zero_le _) (.refl _))
  split
  · exact Chip_modRect_keeps _ _ _ (.refl _)
  · exact Chip_modRect_keeps _ _ _ (.refl _)
  · exact modRead_keeps _ _ _ _ (.refl _)
  · exact .refl _

theorem dropEvents_keeps {z : Chip} (s : Chip) (hz : Keeps z s) : Keeps z (dropEvents s) := by
  unfold dropEvents
  exact hz.trans ⟨fun b => ⟨Nat.zero_le _, b.recorder, b.energy, b.ports, b.sticky, b.sources, b.rollback, b.sram, b.depths⟩, fun _ => .refl _, rfl, id⟩

theorem yardStopNow_keeps {z : Chip} (s : Chip) (activation : Bool) (hz : Keeps z s) : Keeps z (yardStopNow s activation) := by
  refine hz.trans ?_
  clear hz
  unfold yardStopNow
  repeat' first
    | with_reducible apply dropEvents_keeps
    | with_reducible apply dropBusQueues_keeps
    | with_reducible apply emptyPorts_keeps
    | with_reducible apply discardCfgStage_keeps
    | with_reducible apply discardFwStage_keeps
    | with_reducible apply trialFallback_keeps
    | with_reducible apply Chip_modFw_keeps
    | with_reducible apply setFault_keeps
    | with_reducible assumption
    | fail_if_no_progress beta_reduce
    | with_reducible apply Keeps.ite
    | with_reducible apply Keeps.refl
    | fail_if_no_progress (with_reducible refine Keeps.lit ?_ rfl rfl rfl rfl rfl rfl rfl rfl rfl rfl rfl rfl rfl rfl rfl rfl rfl)

end Sys2Proof.Machine
end

