-- ==== Sys2Proof/Laws/Keeps4.lean ====
section
/-! SUPPORT. What the operations of Box, Breaker, Nymi, Hall, Collect, Dogs, Sense keep. -/

namespace Sys2Proof.Machine

theorem mramWritten_keeps {z : Chip} (addr n : Nat) (s : Chip) (hz : Keeps z s) : Keeps z (mramWritten addr n s) := by
  refine hz.trans ?_
  clear hz
  unfold mramWritten
  repeat' first
    | with_reducible assumption
    | fail_if_no_progress beta_reduce
    | (extract_lets +onlyGivenNames x; subst x)
    | with_reducible apply Keeps.refl
    | fail_if_no_progress (with_reducible refine Keeps.lit ?_ rfl rfl rfl rfl rfl rfl rfl rfl rfl rfl rfl rfl rfl rfl rfl rfl rfl)

theorem offerBox_keeps {z : Chip} (s : Chip) (kind : BoxKind) (op : Nat) (rq : Request) (r : ReqRef) (hz : Keeps z s) : Keeps z (offerBox s kind op rq r) := by
  unfold offerBox
  dsimp only
  split
  · rename_i h
    refine .depths hz rfl rfl rfl rfl rfl rfl rfl rfl rfl rfl rfl fun d => ⟨d.channels, d.rails, ?_, d.buses, d.slow, d.stamps⟩
    simp [boxRoom] at h
    simpa using h.1
  · exact .lit hz rfl rfl rfl rfl rfl rfl rfl rfl rfl rfl rfl rfl rfl rfl rfl rfl rfl

theorem shortCircuitTrip_keeps {z : Chip} (n : Nat) (s : Chip) (hz : Keeps z s) : Keeps z (shortCircuitTrip n s) := by
  refine hz.trans ?_
  clear hz
  unfold shortCircuitTrip
  repeat' first
    | with_reducible apply driversOff_keeps
    | with_reducible apply Chip_modCh_keeps
    | with_reducible assumption
    | fail_if_no_progress beta_reduce
    | (extract_lets +onlyGivenNames x; refine Keeps.bind (x := x) (fun hx => ?_) ?_; rotate_left; subst x; rotate_right; clear_value x)
    | (extract_lets +onlyGivenNames x; subst x)
    | with_reducible apply Keeps.ite
    | with_reducible apply Keeps.refl

theorem instantaneousTrip_keeps {z : Chip} (n : Nat) (s : Chip) (hz : Keeps z s) : Keeps z (instantaneousTrip n s) := by
  refine hz.trans ?_
  clear hz
  unfold instantaneousTrip
  repeat' first
    | with_reducible apply driversOff_keeps
    | with_reducible apply Chip_modCh_keeps
    | with_reducible assumption
    | fail_if_no_progress beta_reduce
    | (extract_lets +onlyGivenNames x; refine Keeps.bind (x := x) (fun hx => ?_) ?_; rotate_left; subst x; rotate_right; clear_value x)
    | (extract_lets +onlyGivenNames x; subst x)
    | with_reducible apply Keeps.ite
    | with_reducible apply Keeps.refl

theorem retryDueNow_keeps {z : Chip} (n : Nat) (s : Chip) (hz : Keeps z s) : Keeps z (retryDueNow n s) := by
  refine hz.trans ?_
  clear hz
  unfold retryDueNow
  repeat' first
    | with_reducible apply startRetry_keeps
    | with_reducible assumption
    | fail_if_no_progress beta_reduce
    | (extract_lets +onlyGivenNames x; subst x)
    | with_reducible apply Keeps.ite
    | with_reducible apply Keeps.refl

theorem retryReset_keeps {z : Chip} (n : Nat) (s : Chip) (hz : Keeps z s) : Keeps z (retryReset n s) := by
  refine hz.trans ?_
  clear hz
  unfold retryReset
  repeat' first
    | with_reducible apply Chip_modCh_keeps
    | with_reducible assumption
    | fail_if_no_progress beta_reduce
    | (extract_lets +onlyGivenNames x; subst x)
    | with_reducible apply Keeps.ite
    | with_reducible apply Keeps.refl

theorem bodyBrkGet_keeps {z : Chip} (rq : Request) (r : ReqRef) (s : Chip) (hz : Keeps z s) : Keeps z (bodyBrkGet rq r s).2 := by
  refine hz.trans ?_
  clear hz
  unfold bodyBrkGet
  repeat' first
    | with_reducible assumption
    | fail_if_no_progress beta_reduce
    | with_reducible apply Keeps.refl
    | fail_if_no_progress (with_reducible refine Keeps.lit ?_ rfl rfl rfl rfl rfl rfl rfl rfl rfl rfl rfl rfl rfl rfl rfl rfl rfl)
    | split

theorem bodyBrkCurveGet_keeps {z : Chip} (rq : Request) (r : ReqRef) (s : Chip) (hz : Keeps z s) : Keeps z (bodyBrkCurveGet rq r s).2 := by
  refine hz.trans ?_
  clear hz
  unfold bodyBrkCurveGet
  repeat' first
    | with_reducible assumption
    | fail_if_no_progress beta_reduce
    | (extract_lets +onlyGivenNames x; subst x)
    | with_reducible apply Keeps.ite
    | with_reducible apply Keeps.refl
    | fail_if_no_progress (with_reducible refine Keeps.lit ?_ rfl rfl rfl rfl rfl rfl rfl rfl rfl rfl rfl rfl rfl rfl rfl rfl rfl)
    | split

theorem bodyBrkEval_keeps {z : Chip} (rq : Request) (r : ReqRef) (s : Chip) (hz : Keeps z s) : Keeps z (bodyBrkEval rq r s).2 := by
  refine hz.trans ?_
  clear hz
  unfold bodyBrkEval
  repeat' first
    | with_reducible assumption
    | fail_if_no_progress beta_reduce
    | (extract_lets +onlyGivenNames x; subst x)
    | with_reducible apply Keeps.ite
    | with_reducible apply Keeps.refl
    | fail_if_no_progress (with_reducible refine Keeps.lit ?_ rfl rfl rfl rfl rfl rfl rfl rfl rfl rfl rfl rfl rfl rfl rfl rfl rfl)
    | split

theorem Chip_modTime_keeps {z : Chip} (s : Chip) (f : TimeSync → TimeSync) (hz : Keeps z s) : Keeps z (Chip.modTime s f) := by
  refine hz.trans ?_
  clear hz
  unfold Chip.modTime
  repeat' first
    | with_reducible apply Chip_modNet_keeps
    | with_reducible assumption
    | fail_if_no_progress beta_reduce
    | with_reducible apply Keeps.refl

theorem postHall_keeps {z : Chip} (s : Chip) (kind : Nat) (rest : List Byte) (done : List (ReqRef × Status)) (hz : Keeps z s) : Keeps z (postHall s kind rest done) := by
  refine hz.trans ?_
  clear hz
  unfold postHall
  repeat' first
    | with_reducible apply post_keeps
    | with_reducible assumption
    | with_reducible apply Keeps.refl

theorem postNpLink_keeps {z : Chip} (s : Chip) (p : Nat) (hz : Keeps z s) : Keeps z (postNpLink s p) := by
  refine hz.trans ?_
  clear hz
  unfold postNpLink
  repeat' first
    | with_reducible apply postHall_keeps
    | with_reducible assumption
    | with_reducible apply Keeps.refl

theorem clearSent_keeps {z : Chip} (s : Chip) (hz : Keeps z s) : Keeps z (clearSent s) := by
  refine hz.trans ?_
  clear hz
  unfold clearSent
  repeat' first
    | with_reducible apply Chip_modNet_keeps
    | with_reducible assumption
    | fail_if_no_progress beta_reduce
    | with_reducible apply Keeps.refl

theorem putOn_keeps {z : Chip} (p : Nat) (f : Frame) (s : Chip) (hz : Keeps z s) : Keeps z (putOn p f s) := by
  refine hz.trans ?_
  clear hz
  unfold putOn
  repeat' first
    | with_reducible apply Chip_modNp_keeps
    | with_reducible assumption
    | fail_if_no_progress beta_reduce
    | with_reducible apply Keeps.refl

theorem sendOn_keeps {z : Chip} (p : Nat) (f : Frame) (s : Chip) (hz : Keeps z s) : Keeps z (sendOn p f s) := by
  refine hz.trans ?_
  clear hz
  unfold sendOn
  repeat' first
    | with_reducible apply putOn_keeps
    | with_reducible assumption
    | with_reducible apply Keeps.refl

theorem nextFid_keeps {z : Chip} (s : Chip) (hz : Keeps z s) : Keeps z (nextFid s) := by
  refine hz.trans ?_
  clear hz
  unfold nextFid
  repeat' first
    | with_reducible apply Chip_modNet_keeps
    | with_reducible assumption
    | fail_if_no_progress beta_reduce
    | with_reducible apply Keeps.refl

theorem discardFrame_keeps {z : Chip} (source : Nat) (s : Chip) (hz : Keeps z s) : Keeps z (discardFrame source s) := by
  refine hz.trans ?_
  clear hz
  unfold discardFrame
  repeat' first
    | with_reducible apply Chip_modNet_keeps
    | with_reducible apply setFault_keeps
    | with_reducible assumption
    | fail_if_no_progress beta_reduce
    | with_reducible apply Keeps.refl

theorem onFrame_keeps {z : Chip} (typ p : Nat) (f : Frame) (act : Chip → Chip) (s : Chip) (ha : ∀ x, Keeps x (act x))
    (hz : Keeps z s) : Keeps z (onFrame typ p f act s) := by
  unfold onFrame
  repeat' first
    | refine Keeps.trans ?_ (ha _)
    | with_reducible apply discardFrame_keeps
    | with_reducible apply clearSent_keeps
    | with_reducible apply crcError_keeps
    | with_reducible apply Chip_modNp_keeps
    | with_reducible assumption
    | fail_if_no_progress beta_reduce
    | (extract_lets +onlyGivenNames x; refine Keeps.bind (x := x) (fun hx => ?_) ?_; rotate_left; subst x; rotate_right; clear_value x)
    | with_reducible apply Keeps.ite

theorem forwardOn_keeps {z : Chip} (p : Nat) (f : Frame) (s : Chip) (hz : Keeps z s) : Keeps z (forwardOn p f s) := by
  refine hz.trans ?_
  clear hz
  unfold forwardOn
  repeat' first
    | with_reducible apply discardFrame_keeps
    | with_reducible apply putOn_keeps
    | with_reducible assumption
    | with_reducible apply Keeps.ite
    | with_reducible apply Keeps.refl

theorem routeOn_keeps {z : Chip} (came : Option Nat) (f : Frame) (s : Chip) (hz : Keeps z s) : Keeps z (routeOn came f s) := by
  refine hz.trans ?_
  clear hz
  unfold routeOn
  repeat' first
    | with_reducible apply forwardOn_keeps
    | with_reducible apply discardFrame_keeps
    | with_reducible apply sendOn_keeps
    | with_reducible assumption
    | (extract_lets +onlyGivenNames x; subst x)
    | with_reducible apply Keeps.ite
    | with_reducible apply Keeps.refl

theorem onRouted_keeps {z : Chip} (p : Nat) (f : Frame) (act : Chip → Chip) (s : Chip) (ha : ∀ x, Keeps x (act x))
    (hz : Keeps z s) : Keeps z (onRouted p f act s) := by
  unfold onRouted
  repeat' first
    | refine Keeps.trans ?_ (ha _)
    | with_reducible apply routeOn_keeps
    | with_reducible assumption
    | with_reducible apply Keeps.ite

theorem sendUp_keeps {z : Chip} (came : Option Nat) (f : Frame) (s : Chip) (hz : Keeps z s) : Keeps z (sendUp came f s) := by
  refine hz.trans ?_
  clear hz
  unfold sendUp
  repeat' first
    | with_reducible apply forwardOn_keeps
    | with_reducible apply discardFrame_keeps
    | with_reducible apply sendOn_keeps
    | with_reducible assumption
    | (extract_lets +onlyGivenNames x; subst x)
    | with_reducible apply Keeps.ite
    | with_reducible apply Keeps.refl

theorem sendDown_keeps {z : Chip} (came : Option Nat) (f : Frame) (s : Chip) (hz : Keeps z s) : Keeps z (sendDown came f s) := by
  refine hz.trans ?_
  clear hz
  unfold sendDown
  repeat' first
    | with_reducible apply forwardOn_keeps
    | with_reducible apply sendOn_keeps
    | with_reducible assumption
    | (with_reducible apply Keeps.foldl; intro _ _)
    | fail_if_no_progress beta_reduce
    | with_reducible apply Keeps.ite
    | with_reducible apply Keeps.refl

theorem setLocked_keeps {z : Chip} (on : Bool) (s : Chip) (hz : Keeps z s) : Keeps z (setLocked on s) := by
  refine hz.trans ?_
  clear hz
  unfold setLocked
  repeat' first
    | with_reducible apply postNpLink_keeps
    | with_reducible apply Chip_modTime_keeps
    | with_reducible assumption
    | fail_if_no_progress beta_reduce
    | with_reducible apply Keeps.ite
    | with_reducible apply Keeps.refl

theorem refreshNet_keeps {z : Chip} (s : Chip) (hz : Keeps z s) : Keeps z (refreshNet s) := by
  refine hz.trans ?_
  clear hz
  unfold refreshNet
  repeat' first
    | with_reducible apply setLocked_keeps
    | with_reducible apply postNpLink_keeps
    | with_reducible apply Chip_modTime_keeps
    | with_reducible apply Chip_modNet_keeps
    | with_reducible apply evalFault_keeps
    | with_reducible assumption
    | fail_if_no_progress beta_reduce
    | (extract_lets +onlyGivenNames x; refine Keeps.bind (x := x) (fun hx => ?_) ?_; rotate_left; subst x; rotate_right; clear_value x)
    | (extract_lets +onlyGivenNames x; subst x)
    | with_reducible apply Keeps.ite
    | with_reducible apply Keeps.refl

theorem setNp_keeps {z : Chip} (p : Nat) (st : NpState) (s : Chip) (hz : Keeps z s) : Keeps z (setNp p st s) := by
  refine hz.trans ?_
  clear hz
  unfold setNp
  repeat' first
    | with_reducible apply refreshNet_keeps
    | with_reducible apply postNpLink_keeps
    | with_reducible apply Chip_modNp_keeps
    | with_reducible apply evalFault_keeps
    | with_reducible assumption
    | fail_if_no_progress beta_reduce
    | (extract_lets +onlyGivenNames x; refine Keeps.bind (x := x) (fun hx => ?_) ?_; rotate_left; subst x; rotate_right; clear_value x)
    | (extract_lets +onlyGivenNames x; subst x)
    | with_reducible apply Keeps.ite
    | with_reducible apply Keeps.refl

theorem linkTrain_keeps {z : Chip} (p : Nat) (s : Chip) (hz : Keeps z s) : Keeps z (linkTrain p s) := by
  refine hz.trans ?_
  clear hz
  unfold linkTrain
  repeat' first
    | with_reducible apply setNp_keeps
    | with_reducible apply clearSent_keeps
    | with_reducible apply Chip_modNp_keeps
    | with_reducible assumption
    | fail_if_no_progress beta_reduce
    | (extract_lets +onlyGivenNames x; refine Keeps.bind (x := x) (fun hx => ?_) ?_; rotate_left; subst x; rotate_right; clear_value x)
    | with_reducible apply Keeps.ite
    | with_reducible apply Keeps.refl

theorem linkHelloTimer_keeps {z : Chip} (p : Nat) (s : Chip) (hz : Keeps z s) : Keeps z (linkHelloTimer p s) := by
  refine hz.trans ?_
  clear hz
  unfold linkHelloTimer
  repeat' first
    | with_reducible apply nextFid_keeps
    | with_reducible apply sendOn_keeps
    | with_reducible apply clearSent_keeps
    | with_reducible apply Chip_modNp_keeps
    | with_reducible assumption
    | fail_if_no_progress beta_reduce
    | (extract_lets +onlyGivenNames x; refine Keeps.bind (x := x) (fun hx => ?_) ?_; rotate_left; subst x; rotate_right; clear_value x)
    | (extract_lets +onlyGivenNames x; subst x)
    | with_reducible apply Keeps.ite
    | with_reducible apply Keeps.refl

theorem takeHello_keeps {z : Chip} (p : Nat) (f : Frame) (s : Chip) (hz : Keeps z s) : Keeps z (takeHello p f s) := by
  refine hz.trans ?_
  clear hz
  unfold takeHello
  repeat' first
    | with_reducible apply setNp_keeps
    | with_reducible apply refreshNet_keeps
    | with_reducible apply Chip_modNp_keeps
    | with_reducible assumption
    | fail_if_no_progress beta_reduce
    | (extract_lets +onlyGivenNames x; refine Keeps.bind (x := x) (fun hx => ?_) ?_; rotate_left; subst x; rotate_right; clear_value x)
    | (extract_lets +onlyGivenNames x; subst x)
    | with_reducible apply Keeps.ite
    | with_reducible apply Keeps.refl

theorem takeDown_keeps {z : Chip} (p : Nat) (s : Chip) (hz : Keeps z s) : Keeps z (takeDown p s) := by
  refine hz.trans ?_
  clear hz
  unfold takeDown
  repeat' first
    | with_reducible apply setNp_keeps
    | with_reducible apply Chip_modNp_keeps
    | with_reducible assumption
    | fail_if_no_progress beta_reduce
    | with_reducible apply Keeps.refl

theorem timeExchange_keeps {z : Chip} (t1 : Nat) (s : Chip) (hz : Keeps z s) : Keeps z (timeExchange t1 s) := by
  refine hz.trans ?_
  clear hz
  unfold timeExchange
  repeat' first
    | with_reducible apply refreshNet_keeps
    | with_reducible apply nextFid_keeps
    | with_reducible apply sendOn_keeps
    | with_reducible apply clearSent_keeps
    | with_reducible apply Chip_modTime_keeps
    | with_reducible assumption
    | fail_if_no_progress beta_reduce
    | (extract_lets +onlyGivenNames x; refine Keeps.bind (x := x) (fun hx => ?_) ?_; rotate_left; subst x; rotate_right; clear_value x)
    | (extract_lets +onlyGivenNames x; subst x)
    | with_reducible apply Keeps.ite
    | with_reducible apply Keeps.refl
    | fail_if_no_progress (with_reducible refine Keeps.lit ?_ rfl rfl rfl rfl rfl rfl rfl rfl rfl rfl rfl rfl rfl rfl rfl rfl rfl)
    | split

theorem takeTimeReq_keeps {z : Chip} (p : Nat) (f : Frame) (t2 t3 : Nat) (s : Chip) (hz : Keeps z s) : Keeps z (takeTimeReq p f t2 t3 s) := by
  refine hz.trans ?_
  clear hz
  unfold takeTimeReq
  repeat' first
    | with_reducible apply sendOn_keeps
    | with_reducible apply Chip_modTime_keeps
    | with_reducible assumption
    | fail_if_no_progress beta_reduce
    | with_reducible apply Keeps.refl

theorem lockStep_keeps {z : Chip} (offset : Int) (s : Chip) (hz : Keeps z s) : Keeps z (lockStep offset s) := by
  refine hz.trans ?_
  clear hz
  unfold lockStep
  repeat' first
    | with_reducible apply setLocked_keeps
    | with_reducible apply Chip_modTime_keeps
    | with_reducible assumption
    | fail_if_no_progress beta_reduce
    | (extract_lets +onlyGivenNames x; refine Keeps.bind (x := x) (fun hx => ?_) ?_; rotate_left; subst x; rotate_right; clear_value x)
    | (extract_lets +onlyGivenNames x; subst x)
    | with_reducible apply Keeps.ite
    | with_reducible apply Keeps.refl

theorem slewTime_keeps {z : Chip} (offset : Int) (s : Chip) (hz : Keeps z s) : Keeps z (slewTime offset s) := by
  refine hz.trans ?_
  clear hz
  unfold slewTime
  repeat' first
    | with_reducible apply Chip_modTime_keeps
    | with_reducible assumption
    | fail_if_no_progress beta_reduce
    | with_reducible apply Keeps.refl

theorem steerRc_keeps {z : Chip} (offset : Int) (s : Chip) (hz : Keeps z s) : Keeps z (steerRc offset s) := by
  refine hz.trans ?_
  clear hz
  unfold steerRc
  repeat' first
    | with_reducible assumption
    | (extract_lets +onlyGivenNames x; subst x)
    | with_reducible apply Keeps.ite
    | with_reducible apply Keeps.refl
    | fail_if_no_progress (with_reducible refine Keeps.lit ?_ rfl rfl rfl rfl rfl rfl rfl rfl rfl rfl rfl rfl rfl rfl rfl rfl rfl)

theorem applyOffset_keeps {z : Chip} (offset delay : Int) (s : Chip) (hz : Keeps z s) : Keeps z (applyOffset offset delay s) := by
  refine hz.trans ?_
  clear hz
  unfold applyOffset
  repeat' first
    | with_reducible apply steerRc_keeps
    | with_reducible apply slewTime_keeps
    | with_reducible apply lockStep_keeps
    | with_reducible apply Chip_modTime_keeps
    | with_reducible assumption
    | fail_if_no_progress beta_reduce
    | with_reducible apply Keeps.ite
    | with_reducible apply Keeps.refl

theorem takeTimeResp_keeps {z : Chip} (p : Nat) (f : Frame) (t4 : Nat) (s : Chip) (hz : Keeps z s) : Keeps z (takeTimeResp p f t4 s) := by
  refine hz.trans ?_
  clear hz
  unfold takeTimeResp
  repeat' first
    | with_reducible apply applyOffset_keeps
    | with_reducible apply Chip_modTime_keeps
    | with_reducible assumption
    | fail_if_no_progress beta_reduce
    | (extract_lets +onlyGivenNames x; refine Keeps.bind (x := x) (fun hx => ?_) ?_; rotate_left; subst x; rotate_right; clear_value x)
    | (extract_lets +onlyGivenNames x; subst x)
    | with_reducible apply Keeps.ite
    | with_reducible apply Keeps.refl
    | fail_if_no_progress (with_reducible refine Keeps.lit ?_ rfl rfl rfl rfl rfl rfl rfl rfl rfl rfl rfl rfl rfl rfl rfl rfl rfl)
    | split

theorem hallTimeTick_keeps {z : Chip} (s : Chip) (hz : Keeps z s) : Keeps z (hallTimeTick s) := by
  refine hz.trans ?_
  unfold hallTimeTick
  split
  · exact .same rfl rfl rfl rfl rfl rfl rfl rfl rfl rfl rfl rfl rfl rfl rfl rfl rfl
  · exact .same rfl rfl rfl rfl rfl rfl rfl rfl rfl rfl rfl rfl rfl rfl rfl rfl rfl

theorem timeTick_keeps {z : Chip} (s : Chip) (hz : Keeps z s) : Keeps z (timeTick s) := by
  refine hz.trans ?_
  clear hz
  unfold timeTick
  repeat' first
    | with_reducible apply Chip_modTime_keeps
    | with_reducible apply evalFault_keeps
    | with_reducible assumption
    | fail_if_no_progress beta_reduce
    | with_reducible apply Keeps.ite
    | with_reducible apply Keeps.refl

theorem bodyHallGet_keeps {z : Chip} (rq : Request) (r : ReqRef) (s : Chip) (hz : Keeps z s) : Keeps z (bodyHallGet rq r s).2 := by
  refine hz.trans ?_
  clear hz
  unfold bodyHallGet
  repeat' first
    | with_reducible assumption
    | fail_if_no_progress beta_reduce
    | with_reducible apply Keeps.refl

theorem bodyHallTimeGet_keeps {z : Chip} (rq : Request) (r : ReqRef) (s : Chip) (hz : Keeps z s) : Keeps z (bodyHallTimeGet rq r s).2 := by
  refine hz.trans ?_
  clear hz
  unfold bodyHallTimeGet
  repeat' first
    | with_reducible assumption
    | fail_if_no_progress beta_reduce
    | with_reducible apply Keeps.refl

theorem spreadBroadcast_keeps {z : Chip} (came : Option Nat) (f : Frame) (s : Chip) (hz : Keeps z s) : Keeps z (spreadBroadcast came f s) := by
  refine hz.trans ?_
  clear hz
  unfold spreadBroadcast
  repeat' first
    | with_reducible apply sendDown_keeps
    | with_reducible apply postHall_keeps
    | with_reducible apply Chip_modNet_keeps
    | with_reducible assumption
    | fail_if_no_progress beta_reduce
    | (extract_lets +onlyGivenNames x; refine Keeps.bind (x := x) (fun hx => ?_) ?_; rotate_left; subst x; rotate_right; clear_value x)
    | (extract_lets +onlyGivenNames x; subst x)
    | with_reducible apply Keeps.ite
    | with_reducible apply Keeps.refl

theorem climbBroadcast_keeps {z : Chip} (came : Option Nat) (f : Frame) (s : Chip) (hz : Keeps z s) : Keeps z (climbBroadcast came f s) := by
  refine hz.trans ?_
  clear hz
  unfold climbBroadcast
  repeat' first
    | with_reducible apply spreadBroadcast_keeps
    | with_reducible apply sendUp_keeps
    | with_reducible assumption
    | (extract_lets +onlyGivenNames x; subst x)
    | with_reducible apply Keeps.ite
    | with_reducible apply Keeps.refl

theorem takeBroadcast_keeps {z : Chip} (p : Nat) (f : Frame) (s : Chip) (hz : Keeps z s) : Keeps z (takeBroadcast p f s) := by
  refine hz.trans ?_
  clear hz
  unfold takeBroadcast
  repeat' first
    | with_reducible apply climbBroadcast_keeps
    | with_reducible apply spreadBroadcast_keeps
    | with_reducible assumption
    | with_reducible apply Keeps.ite
    | with_reducible apply Keeps.refl

theorem hallWordReply_keeps {z : Chip} (st : Status) (s : Chip) (hz : Keeps z s) : Keeps z (hallWordReply st s).2 := by
  refine hz.trans ?_
  clear hz
  unfold hallWordReply
  repeat' first
    | with_reducible assumption
    | with_reducible apply Keeps.refl

theorem bodyHallBroadcast_keeps {z : Chip} (rq : Request) (r : ReqRef) (s : Chip) (hz : Keeps z s) : Keeps z (bodyHallBroadcast rq r s).2 := by
  refine hz.trans ?_
  clear hz
  unfold bodyHallBroadcast
  repeat' first
    | with_reducible apply hallWordReply_keeps
    | with_reducible apply climbBroadcast_keeps
    | with_reducible apply nextFid_keeps
    | with_reducible apply clearSent_keeps
    | with_reducible assumption
    | fail_if_no_progress beta_reduce
    | (extract_lets +onlyGivenNames x; refine Keeps.bind (x := x) (fun hx => ?_) ?_; rotate_left; subst x; rotate_right; clear_value x)
    | (extract_lets +onlyGivenNames x; subst x)
    | with_reducible apply Keeps.ite
    | with_reducible apply Keeps.refl
    | fail_if_no_progress (with_reducible refine Keeps.lit ?_ rfl rfl rfl rfl rfl rfl rfl rfl rfl rfl rfl rfl rfl rfl rfl rfl rfl)
    | split

theorem takeRelease_keeps {z : Chip} (payload : List Byte) (s : Chip) (hz : Keeps z s) : Keeps z (takeRelease payload s) := by
  refine hz.trans ?_
  clear hz
  unfold takeRelease
  repeat' first
    | with_reducible apply postHall_keeps
    | with_reducible apply Chip_modNet_keeps
    | with_reducible apply setFault_keeps
    | with_reducible assumption
    | fail_if_no_progress beta_reduce
    | with_reducible apply Keeps.ite
    | with_reducible apply Keeps.refl

theorem sendAggregate_keeps {z : Chip} (timedOut : Bool) (s : Chip) (hz : Keeps z s) : Keeps z (sendAggregate timedOut s) := by
  refine hz.trans ?_
  clear hz
  unfold sendAggregate
  repeat' first
    | with_reducible apply takeRelease_keeps
    | with_reducible apply sendDown_keeps
    | with_reducible apply sendUp_keeps
    | with_reducible apply nextFid_keeps
    | with_reducible apply Chip_modNet_keeps
    | with_reducible assumption
    | fail_if_no_progress beta_reduce
    | (extract_lets +onlyGivenNames x; refine Keeps.bind (x := x) (fun hx => ?_) ?_; rotate_left; subst x; rotate_right; clear_value x)
    | (extract_lets +onlyGivenNames x; subst x)
    | with_reducible apply Keeps.ite
    | with_reducible apply Keeps.refl
    | fail_if_no_progress (with_reducible refine Keeps.lit ?_ rfl rfl rfl rfl rfl rfl rfl rfl rfl rfl rfl rfl rfl rfl rfl rfl rfl)
    | split

theorem barrierCheck_keeps {z : Chip} (s : Chip) (hz : Keeps z s) : Keeps z (barrierCheck s) := by
  refine hz.trans ?_
  clear hz
  unfold barrierCheck
  repeat' first
    | with_reducible apply sendAggregate_keeps
    | with_reducible assumption
    | fail_if_no_progress beta_reduce
    | with_reducible apply Keeps.ite
    | with_reducible apply Keeps.refl
    | fail_if_no_progress (with_reducible refine Keeps.lit ?_ rfl rfl rfl rfl rfl rfl rfl rfl rfl rfl rfl rfl rfl rfl rfl rfl rfl)
    | split

theorem openBarrier_keeps {z : Chip} (id : Nat) (s : Chip) (hz : Keeps z s) : Keeps z (openBarrier id s) := by
  refine hz.trans ?_
  clear hz
  unfold openBarrier
  repeat' first
    | with_reducible apply barrierCheck_keeps
    | with_reducible apply Chip_modNet_keeps
    | with_reducible assumption
    | fail_if_no_progress beta_reduce
    | (extract_lets +onlyGivenNames x; subst x)
    | with_reducible apply Keeps.ite
    | with_reducible apply Keeps.refl
    | fail_if_no_progress (with_reducible refine Keeps.lit ?_ rfl rfl rfl rfl rfl rfl rfl rfl rfl rfl rfl rfl rfl rfl rfl rfl rfl)
    | split

theorem rootOpens_keeps {z : Chip} (id : Nat) (s : Chip) (hz : Keeps z s) : Keeps z (rootOpens id s) := by
  refine hz.trans ?_
  clear hz
  unfold rootOpens
  repeat' first
    | with_reducible apply openBarrier_keeps
    | with_reducible apply sendDown_keeps
    | with_reducible apply nextFid_keeps
    | with_reducible assumption
    | with_reducible apply Keeps.refl

theorem takeArrive_keeps {z : Chip} (p : Nat) (f : Frame) (s : Chip) (hz : Keeps z s) : Keeps z (takeArrive p f s) := by
  refine hz.trans ?_
  clear hz
  unfold takeArrive
  repeat' first
    | with_reducible apply rootOpens_keeps
    | with_reducible apply barrierCheck_keeps
    | with_reducible apply sendUp_keeps
    | with_reducible apply Chip_modNet_keeps
    | with_reducible assumption
    | fail_if_no_progress beta_reduce
    | (extract_lets +onlyGivenNames x; subst x)
    | with_reducible apply Keeps.ite
    | with_reducible apply Keeps.refl
    | fail_if_no_progress (with_reducible refine Keeps.lit ?_ rfl rfl rfl rfl rfl rfl rfl rfl rfl rfl rfl rfl rfl rfl rfl rfl rfl)
    | split

theorem takeOpen_keeps {z : Chip} (p : Nat) (f : Frame) (s : Chip) (hz : Keeps z s) : Keeps z (takeOpen p f s) := by
  refine hz.trans ?_
  clear hz
  unfold takeOpen
  repeat' first
    | with_reducible apply openBarrier_keeps
    | with_reducible apply sendDown_keeps
    | with_reducible assumption
    | with_reducible apply Keeps.ite
    | with_reducible apply Keeps.refl

theorem barrierTimeout_keeps {z : Chip} (s : Chip) (hz : Keeps z s) : Keeps z (barrierTimeout s) := by
  refine hz.trans ?_
  clear hz
  unfold barrierTimeout
  repeat' first
    | with_reducible apply sendAggregate_keeps
    | with_reducible apply clearSent_keeps
    | with_reducible assumption
    | fail_if_no_progress beta_reduce
    | (extract_lets +onlyGivenNames x; refine Keeps.bind (x := x) (fun hx => ?_) ?_; rotate_left; subst x; rotate_right; clear_value x)
    | with_reducible apply Keeps.ite
    | with_reducible apply Keeps.refl
    | fail_if_no_progress (with_reducible refine Keeps.lit ?_ rfl rfl rfl rfl rfl rfl rfl rfl rfl rfl rfl rfl rfl rfl rfl rfl rfl)
    | split

theorem arriveHere_keeps {z : Chip} (id : Nat) (r : ReqRef) (s : Chip) (hz : Keeps z s) : Keeps z (arriveHere id r s) := by
  refine hz.trans ?_
  clear hz
  unfold arriveHere
  repeat' first
    | with_reducible apply rootOpens_keeps
    | with_reducible apply barrierCheck_keeps
    | with_reducible apply sendUp_keeps
    | with_reducible apply nextFid_keeps
    | with_reducible apply Chip_modNet_keeps
    | with_reducible assumption
    | fail_if_no_progress beta_reduce
    | (extract_lets +onlyGivenNames x; refine Keeps.bind (x := x) (fun hx => ?_) ?_; rotate_left; subst x; rotate_right; clear_value x)
    | with_reducible apply Keeps.ite
    | with_reducible apply Keeps.refl
    | fail_if_no_progress (with_reducible refine Keeps.lit ?_ rfl rfl rfl rfl rfl rfl rfl rfl rfl rfl rfl rfl rfl rfl rfl rfl rfl)
    | split

theorem bodyHallBarrier_keeps {z : Chip} (rq : Request) (r : ReqRef) (s : Chip) (hz : Keeps z s) : Keeps z (bodyHallBarrier rq r s).2 := by
  refine hz.trans ?_
  clear hz
  unfold bodyHallBarrier
  repeat' first
    | with_reducible apply arriveHere_keeps
    | with_reducible apply clearSent_keeps
    | (with_reducible apply acceptFirst_keeps; intro _)
    | with_reducible assumption
    | fail_if_no_progress beta_reduce
    | (extract_lets +onlyGivenNames x; refine Keeps.bind (x := x) (fun hx => ?_) ?_; rotate_left; subst x; rotate_right; clear_value x)
    | with_reducible apply Keeps.ite
    | with_reducible apply Keeps.refl
    | fail_if_no_progress (with_reducible refine Keeps.lit ?_ rfl rfl rfl rfl rfl rfl rfl rfl rfl rfl rfl rfl rfl rfl rfl rfl rfl)
    | split

theorem npDown_keeps {z : Chip} (p : Nat) (c : DownCause) (s : Chip) (hz : Keeps z s) : Keeps z (npDown p c s) := by
  refine hz.trans ?_
  clear hz
  unfold npDown
  repeat' first
    | with_reducible apply barrierCheck_keeps
    | with_reducible apply takeDown_keeps
    | with_reducible apply clearSent_keeps
    | with_reducible assumption
    | (extract_lets +onlyGivenNames x; refine Keeps.bind (x := x) (fun hx => ?_) ?_; rotate_left; subst x; rotate_right; clear_value x)
    | with_reducible apply Keeps.ite
    | with_reducible apply Keeps.refl

theorem linkRestart_keeps {z : Chip} (s : Chip) (hz : Keeps z s) : Keeps z (linkRestart s) := by
  refine hz.trans ?_
  clear hz
  unfold linkRestart
  repeat' first
    | with_reducible apply takeDown_keeps
    | with_reducible apply setLocked_keeps
    | with_reducible apply postHall_keeps
    | with_reducible apply Chip_modTime_keeps
    | with_reducible apply Chip_modNet_keeps
    | with_reducible assumption
    | (with_reducible apply Keeps.forEach; intro _ _)
    | (with_reducible apply Keeps.foldl; intro _ _)
    | fail_if_no_progress beta_reduce
    | with_reducible apply Keeps.refl

theorem holdSchedule_keeps {z : Chip} (payload : List Byte) (s : Chip) (hz : Keeps z s) : Keeps z (holdSchedule payload s) := by
  refine hz.trans ?_
  clear hz
  unfold holdSchedule
  repeat' first
    | with_reducible apply Chip_modNet_keeps
    | with_reducible assumption
    | fail_if_no_progress beta_reduce
    | with_reducible apply Keeps.ite
    | with_reducible apply Keeps.refl

theorem acceptSchedule_keeps {z : Chip} (payload : List Byte) (s : Chip) (hz : Keeps z s) : Keeps z (acceptSchedule payload s) := by
  refine hz.trans ?_
  clear hz
  unfold acceptSchedule
  repeat' first
    | with_reducible apply holdSchedule_keeps
    | with_reducible apply sendDown_keeps
    | with_reducible apply nextFid_keeps
    | with_reducible assumption
    | with_reducible apply Keeps.refl

theorem takeSchedReq_keeps {z : Chip} (f : Frame) (s : Chip) (hz : Keeps z s) : Keeps z (takeSchedReq f s) := by
  refine hz.trans ?_
  clear hz
  unfold takeSchedReq
  repeat' first
    | with_reducible apply acceptSchedule_keeps
    | with_reducible apply routeOn_keeps
    | with_reducible assumption
    | (extract_lets +onlyGivenNames x; refine Keeps.bind (x := x) (fun hx => ?_) ?_; rotate_left; subst x; rotate_right; clear_value x)
    | (extract_lets +onlyGivenNames x; subst x)
    | with_reducible apply Keeps.ite
    | with_reducible apply Keeps.refl

theorem stillDone_keeps {z : Chip} (at_ status seq : Nat) (s : Chip) (hz : Keeps z s) : Keeps z (stillDone at_ status seq s) := by
  refine hz.trans ?_
  clear hz
  unfold stillDone
  repeat' first
    | with_reducible apply postHall_keeps
    | with_reducible apply Chip_modNet_keeps
    | with_reducible assumption
    | fail_if_no_progress beta_reduce
    | with_reducible apply Keeps.refl

theorem takeSchedule_keeps {z : Chip} (p : Nat) (f : Frame) (s : Chip) (hz : Keeps z s) : Keeps z (takeSchedule p f s) := by
  refine hz.trans ?_
  clear hz
  unfold takeSchedule
  repeat' first
    | with_reducible apply stillDone_keeps
    | with_reducible apply holdSchedule_keeps
    | with_reducible apply sendDown_keeps
    | with_reducible apply setFault_keeps
    | with_reducible assumption
    | (extract_lets +onlyGivenNames x; refine Keeps.bind (x := x) (fun hx => ?_) ?_; rotate_left; subst x; rotate_right; clear_value x)
    | (extract_lets +onlyGivenNames x; subst x)
    | with_reducible apply Keeps.ite
    | with_reducible apply Keeps.refl

theorem takeSchedAns_keeps {z : Chip} (f : Frame) (s : Chip) (hz : Keeps z s) : Keeps z (takeSchedAns f s) := by
  refine hz.trans ?_
  clear hz
  unfold takeSchedAns
  repeat' first
    | with_reducible apply Chip_modNet_keeps
    | with_reducible apply formReply_keeps
    | with_reducible assumption
    | fail_if_no_progress beta_reduce
    | with_reducible apply Keeps.ite
    | with_reducible apply Keeps.refl
    | fail_if_no_progress (with_reducible refine Keeps.lit ?_ rfl rfl rfl rfl rfl rfl rfl rfl rfl rfl rfl rfl rfl rfl rfl rfl rfl)
    | split

theorem scheduleReqTimeout_keeps {z : Chip} (s : Chip) (hz : Keeps z s) : Keeps z (scheduleReqTimeout s) := by
  refine hz.trans ?_
  clear hz
  unfold scheduleReqTimeout
  repeat' first
    | with_reducible apply Chip_modNet_keeps
    | with_reducible apply formReply_keeps
    | with_reducible assumption
    | (with_reducible apply Keeps.foldl; intro _ _)
    | fail_if_no_progress beta_reduce
    | with_reducible apply Keeps.refl

theorem askSchedule_keeps {z : Chip} (kind act at_ : Nat) (r : ReqRef) (s : Chip) (hz : Keeps z s) : Keeps z (askSchedule kind act at_ r s).2 := by
  refine hz.trans ?_
  clear hz
  unfold askSchedule
  repeat' first
    | with_reducible apply acceptSchedule_keeps
    | with_reducible apply routeOn_keeps
    | with_reducible apply nextFid_keeps
    | with_reducible apply clearSent_keeps
    | with_reducible apply Chip_modNet_keeps
    | with_reducible assumption
    | fail_if_no_progress beta_reduce
    | (extract_lets +onlyGivenNames x; refine Keeps.bind (x := x) (fun hx => ?_) ?_; rotate_left; subst x; rotate_right; clear_value x)
    | (extract_lets +onlyGivenNames x; subst x)
    | with_reducible apply Keeps.ite
    | with_reducible apply Keeps.refl
    | fail_if_no_progress (with_reducible refine Keeps.lit ?_ rfl rfl rfl rfl rfl rfl rfl rfl rfl rfl rfl rfl rfl rfl rfl rfl rfl)
    | split

theorem bodyStillLife_keeps {z : Chip} (rq : Request) (r : ReqRef) (s : Chip) (hz : Keeps z s) : Keeps z (bodyStillLife rq r s).2 := by
  refine hz.trans ?_
  clear hz
  unfold bodyStillLife
  repeat' first
    | with_reducible apply askSchedule_keeps
    | with_reducible assumption
    | fail_if_no_progress beta_reduce
    | with_reducible apply Keeps.ite
    | with_reducible apply Keeps.refl
    | fail_if_no_progress (with_reducible refine Keeps.lit ?_ rfl rfl rfl rfl rfl rfl rfl rfl rfl rfl rfl rfl rfl rfl rfl rfl rfl)
    | split

theorem bodyHallReset_keeps {z : Chip} (rq : Request) (r : ReqRef) (s : Chip) (hz : Keeps z s) : Keeps z (bodyHallReset rq r s).2 := by
  refine hz.trans ?_
  clear hz
  unfold bodyHallReset
  repeat' first
    | with_reducible apply askSchedule_keeps
    | with_reducible assumption
    | fail_if_no_progress beta_reduce
    | (extract_lets +onlyGivenNames x; subst x)
    | with_reducible apply Keeps.ite
    | with_reducible apply Keeps.refl
    | fail_if_no_progress (with_reducible refine Keeps.lit ?_ rfl rfl rfl rfl rfl rfl rfl rfl rfl rfl rfl rfl rfl rfl rfl rfl rfl)
    | split

theorem stillTold_keeps {z : Chip} (s : Chip) (hz : Keeps z s) : Keeps z (stillTold s) := by
  refine hz.trans ?_
  clear hz
  unfold stillTold
  repeat' first
    | with_reducible apply stillDone_keeps
    | with_reducible apply Chip_modNet_keeps
    | with_reducible assumption
    | fail_if_no_progress beta_reduce
    | with_reducible apply Keeps.ite
    | with_reducible apply Keeps.refl
    | fail_if_no_progress (with_reducible refine Keeps.lit ?_ rfl rfl rfl rfl rfl rfl rfl rfl rfl rfl rfl rfl rfl rfl rfl rfl rfl)
    | split

theorem stillAction_keeps {z : Chip} (s : Chip) (hz : Keeps z s) : Keeps z (stillAction s) := by
  refine hz.trans ?_
  clear hz
  unfold stillAction
  repeat' first
    | with_reducible apply stillDone_keeps
    | with_reducible apply Chip_modNet_keeps
    | with_reducible apply ledgerBoundary_keeps
    | with_reducible apply Chip_setLedger_keeps
    | with_reducible assumption
    | fail_if_no_progress beta_reduce
    | (extract_lets +onlyGivenNames x; refine Keeps.bind (x := x) (fun hx => ?_) ?_; rotate_left; subst x; rotate_right; clear_value x)
    | (extract_lets +onlyGivenNames x; subst x)
    | with_reducible apply Keeps.ite
    | with_reducible apply Keeps.refl
    | fail_if_no_progress (with_reducible refine Keeps.lit ?_ rfl rfl rfl rfl rfl rfl rfl rfl rfl rfl rfl rfl rfl rfl rfl rfl rfl)
    | split

theorem postHallReset_keeps {z : Chip} (x : Sched) (s : Chip) (hz : Keeps z s) : Keeps z (postHallReset x s) := by
  refine hz.trans ?_
  clear hz
  unfold postHallReset
  repeat' first
    | with_reducible apply postHall_keeps
    | with_reducible assumption
    | with_reducible apply Keeps.refl

theorem resetAction_keeps {z : Chip} (x : Sched) (s : Chip) (hz : Keeps z s) : Keeps z (resetAction x s) := by
  refine hz.trans ?_
  clear hz
  unfold resetAction
  repeat' first
    | with_reducible apply postHallReset_keeps
    | with_reducible apply linkRestart_keeps
    | with_reducible apply yardStopNow_keeps
    | with_reducible apply Chip_modNet_keeps
    | with_reducible assumption
    | fail_if_no_progress beta_reduce
    | (extract_lets +onlyGivenNames x; refine Keeps.bind (x := x) (fun hx => ?_) ?_; rotate_left; subst x; rotate_right; clear_value x)
    | with_reducible apply Keeps.ite
    | with_reducible apply Keeps.refl

theorem scheduleAction_keeps {z : Chip} (s : Chip) (hz : Keeps z s) : Keeps z (scheduleAction s) := by
  refine hz.trans ?_
  clear hz
  unfold scheduleAction
  repeat' first
    | with_reducible apply resetAction_keeps
    | with_reducible apply stillAction_keeps
    | with_reducible apply clearSent_keeps
    | with_reducible assumption
    | fail_if_no_progress beta_reduce
    | (extract_lets +onlyGivenNames x; refine Keeps.bind (x := x) (fun hx => ?_) ?_; rotate_left; subst x; rotate_right; clear_value x)
    | with_reducible apply Keeps.ite
    | with_reducible apply Keeps.refl
    | fail_if_no_progress (with_reducible refine Keeps.lit ?_ rfl rfl rfl rfl rfl rfl rfl rfl rfl rfl rfl rfl rfl rfl rfl rfl rfl)
    | split

theorem sendCap_keeps {z : Chip} (typ pair : Nat) (payload : List Byte) (s : Chip) (hz : Keeps z s) : Keeps z (sendCap typ pair payload s) := by
  refine hz.trans ?_
  clear hz
  unfold sendCap
  repeat' first
    | with_reducible apply routeOn_keeps
    | with_reducible apply nextFid_keeps
    | with_reducible apply Chip_modNet_keeps
    | with_reducible assumption
    | fail_if_no_progress beta_reduce
    | with_reducible apply Keeps.refl

theorem splitHere_keeps {z : Chip} (a : Nat) (s : Chip) (hz : Keeps z s) : Keeps z (splitHere a s) := by
  refine hz.trans ?_
  clear hz
  unfold splitHere
  repeat' first
    | with_reducible apply sendCap_keeps
    | with_reducible assumption
    | (with_reducible apply Keeps.foldl; intro _ _)
    | fail_if_no_progress beta_reduce
    | (extract_lets +onlyGivenNames x; subst x)
    | with_reducible apply Keeps.refl
    | fail_if_no_progress (with_reducible refine Keeps.lit ?_ rfl rfl rfl rfl rfl rfl rfl rfl rfl rfl rfl rfl rfl rfl rfl rfl rfl)

theorem reportUp_keeps {z : Chip} (s : Chip) (hz : Keeps z s) : Keeps z (reportUp s) := by
  refine hz.trans ?_
  clear hz
  unfold reportUp
  repeat' first
    | with_reducible apply splitHere_keeps
    | with_reducible apply sendCap_keeps
    | with_reducible apply Chip_modNet_keeps
    | with_reducible assumption
    | fail_if_no_progress beta_reduce
    | (extract_lets +onlyGivenNames x; refine Keeps.bind (x := x) (fun hx => ?_) ?_; rotate_left; subst x; rotate_right; clear_value x)
    | (extract_lets +onlyGivenNames x; subst x)
    | with_reducible apply Keeps.ite
    | with_reducible apply Keeps.refl

theorem reportWhenReady_keeps {z : Chip} (s : Chip) (hz : Keeps z s) : Keeps z (reportWhenReady s) := by
  refine hz.trans ?_
  clear hz
  unfold reportWhenReady
  repeat' first
    | with_reducible apply reportUp_keeps
    | with_reducible assumption
    | fail_if_no_progress beta_reduce
    | (extract_lets +onlyGivenNames x; subst x)
    | with_reducible apply Keeps.ite
    | with_reducible apply Keeps.refl

theorem hallCapRound_keeps {z : Chip} (s : Chip) (hz : Keeps z s) : Keeps z (hallCapRound s) := by
  refine hz.trans ?_
  clear hz
  unfold hallCapRound
  repeat' first
    | with_reducible apply reportWhenReady_keeps
    | with_reducible apply clearSent_keeps
    | with_reducible apply Chip_modNet_keeps
    | with_reducible assumption
    | fail_if_no_progress beta_reduce
    | (extract_lets +onlyGivenNames x; refine Keeps.bind (x := x) (fun hx => ?_) ?_; rotate_left; subst x; rotate_right; clear_value x)
    | (extract_lets +onlyGivenNames x; subst x)
    | with_reducible apply Keeps.ite
    | with_reducible apply Keeps.refl
    | fail_if_no_progress (with_reducible refine Keeps.lit ?_ rfl rfl rfl rfl rfl rfl rfl rfl rfl rfl rfl rfl rfl rfl rfl rfl rfl)

theorem capReportDeadline_keeps {z : Chip} (s : Chip) (hz : Keeps z s) : Keeps z (capReportDeadline s) := by
  refine hz.trans ?_
  clear hz
  unfold capReportDeadline
  repeat' first
    | with_reducible apply reportUp_keeps
    | with_reducible apply clearSent_keeps
    | with_reducible assumption
    | (extract_lets +onlyGivenNames x; refine Keeps.bind (x := x) (fun hx => ?_) ?_; rotate_left; subst x; rotate_right; clear_value x)
    | (extract_lets +onlyGivenNames x; subst x)
    | with_reducible apply Keeps.ite
    | with_reducible apply Keeps.refl

theorem takeCapReport_keeps {z : Chip} (f : Frame) (s : Chip) (hz : Keeps z s) : Keeps z (takeCapReport f s) := by
  refine hz.trans ?_
  clear hz
  unfold takeCapReport
  repeat' first
    | with_reducible apply reportWhenReady_keeps
    | with_reducible apply Chip_modNet_keeps
    | with_reducible assumption
    | fail_if_no_progress beta_reduce
    | (extract_lets +onlyGivenNames x; subst x)
    | with_reducible apply Keeps.ite
    | with_reducible apply Keeps.refl

theorem takeCapAlloc_keeps {z : Chip} (f : Frame) (s : Chip) (hz : Keeps z s) : Keeps z (takeCapAlloc f s) := by
  refine hz.trans ?_
  clear hz
  unfold takeCapAlloc
  repeat' first
    | with_reducible apply splitHere_keeps
    | with_reducible assumption
    | (extract_lets +onlyGivenNames x; subst x)
    | with_reducible apply Keeps.ite
    | with_reducible apply Keeps.refl

theorem setHallLive_keeps {z : Chip} (on : Bool) (s : Chip) (hz : Keeps z s) : Keeps z (setHallLive on s) := by
  refine hz.trans ?_
  clear hz
  unfold setHallLive
  repeat' first
    | with_reducible apply energyEvent_keeps
    | with_reducible assumption
    | (extract_lets +onlyGivenNames x; subst x)
    | with_reducible apply Keeps.refl
    | fail_if_no_progress (with_reducible refine Keeps.lit ?_ rfl rfl rfl rfl rfl rfl rfl rfl rfl rfl rfl rfl rfl rfl rfl rfl rfl)

theorem capAllocApply_keeps {z : Chip} (s : Chip) (hz : Keeps z s) : Keeps z (capAllocApply s) := by
  refine hz.trans ?_
  clear hz
  unfold capAllocApply
  repeat' first
    | with_reducible apply setHallLive_keeps
    | with_reducible apply Chip_modNet_keeps
    | with_reducible apply setLive_keeps
    | with_reducible assumption
    | fail_if_no_progress beta_reduce
    | (extract_lets +onlyGivenNames x; refine Keeps.bind (x := x) (fun hx => ?_) ?_; rotate_left; subst x; rotate_right; clear_value x)
    | (extract_lets +onlyGivenNames x; subst x)
    | with_reducible apply Keeps.ite
    | with_reducible apply Keeps.refl
    | fail_if_no_progress (with_reducible refine Keeps.lit ?_ rfl rfl rfl rfl rfl rfl rfl rfl rfl rfl rfl rfl rfl rfl rfl rfl rfl)
    | split

theorem hallCapLost_keeps {z : Chip} (s : Chip) (hz : Keeps z s) : Keeps z (hallCapLost s) := by
  refine hz.trans ?_
  clear hz
  unfold hallCapLost
  repeat' first
    | with_reducible apply setHallLive_keeps
    | with_reducible apply evalFault_keeps
    | with_reducible assumption
    | (extract_lets +onlyGivenNames x; refine Keeps.bind (x := x) (fun hx => ?_) ?_; rotate_left; subst x; rotate_right; clear_value x)
    | (extract_lets +onlyGivenNames x; subst x)
    | with_reducible apply Keeps.ite
    | with_reducible apply Keeps.refl
    | fail_if_no_progress (with_reducible refine Keeps.lit ?_ rfl rfl rfl rfl rfl rfl rfl rfl rfl rfl rfl rfl rfl rfl rfl rfl rfl)

theorem bodyCapSet_keeps {z : Chip} (rq : Request) (r : ReqRef) (s : Chip) (hz : Keeps z s) : Keeps z (bodyCapSet rq r s).2 := by
  refine hz.trans ?_
  clear hz
  unfold bodyCapSet
  repeat' first
    | with_reducible apply queueEnergy_keeps
    | with_reducible assumption
    | fail_if_no_progress beta_reduce
    | (extract_lets +onlyGivenNames x; subst x)
    | with_reducible apply Keeps.ite
    | with_reducible apply Keeps.refl
    | fail_if_no_progress (with_reducible refine Keeps.lit ?_ rfl rfl rfl rfl rfl rfl rfl rfl rfl rfl rfl rfl rfl rfl rfl rfl rfl)
    | split

theorem deliverMessage_keeps {z : Chip} (f : Frame) (s : Chip) (hz : Keeps z s) : Keeps z (deliverMessage f s) := by
  refine hz.trans ?_
  clear hz
  unfold deliverMessage
  repeat' first
    | with_reducible apply postHall_keeps
    | with_reducible assumption
    | with_reducible apply Keeps.refl

theorem takeMessage_keeps {z : Chip} (f : Frame) (s : Chip) (hz : Keeps z s) : Keeps z (takeMessage f s) := by
  refine hz.trans ?_
  clear hz
  unfold takeMessage
  repeat' first
    | with_reducible apply deliverMessage_keeps
    | with_reducible apply routeOn_keeps
    | with_reducible assumption
    | with_reducible apply Keeps.refl

theorem postResult_keeps {z : Chip} (m : MsgAsk) (epoch : List Byte) (holder : Nat) (st : Status) (s : Chip) (hz : Keeps z s) : Keeps z (postResult m epoch holder st s) := by
  refine hz.trans ?_
  clear hz
  unfold postResult
  repeat' first
    | with_reducible apply postHall_keeps
    | with_reducible assumption
    | with_reducible apply Keeps.refl

theorem resendCap_keeps {z : Chip} (fid holder : Nat) (s : Chip) (hz : Keeps z s) : Keeps z (resendCap fid holder s) := by
  refine hz.trans ?_
  clear hz
  unfold resendCap
  repeat' first
    | with_reducible apply routeOn_keeps
    | with_reducible apply Chip_modNet_keeps
    | with_reducible assumption
    | fail_if_no_progress beta_reduce
    | (extract_lets +onlyGivenNames x; refine Keeps.bind (x := x) (fun hx => ?_) ?_; rotate_left; subst x; rotate_right; clear_value x)
    | (extract_lets +onlyGivenNames x; subst x)
    | with_reducible apply Keeps.ite
    | with_reducible apply Keeps.refl
    | fail_if_no_progress (with_reducible refine Keeps.lit ?_ rfl rfl rfl rfl rfl rfl rfl rfl rfl rfl rfl rfl rfl rfl rfl rfl rfl)
    | split

theorem takeAck_keeps {z : Chip} (f : Frame) (s : Chip) (hz : Keeps z s) : Keeps z (takeAck f s) := by
  refine hz.trans ?_
  clear hz
  unfold takeAck
  repeat' first
    | with_reducible apply resendCap_keeps
    | with_reducible apply postResult_keeps
    | with_reducible apply Chip_modNet_keeps
    | with_reducible assumption
    | fail_if_no_progress beta_reduce
    | (extract_lets +onlyGivenNames x; refine Keeps.bind (x := x) (fun hx => ?_) ?_; rotate_left; subst x; rotate_right; clear_value x)
    | (extract_lets +onlyGivenNames x; subst x)
    | with_reducible apply Keeps.ite
    | with_reducible apply Keeps.refl
    | fail_if_no_progress (with_reducible refine Keeps.lit ?_ rfl rfl rfl rfl rfl rfl rfl rfl rfl rfl rfl rfl rfl rfl rfl rfl rfl)
    | split

theorem messageTimeout_keeps {z : Chip} (s : Chip) (hz : Keeps z s) : Keeps z (messageTimeout s) := by
  refine hz.trans ?_
  clear hz
  unfold messageTimeout
  repeat' first
    | with_reducible apply postResult_keeps
    | with_reducible apply Chip_modNet_keeps
    | with_reducible apply Chip_drawn_keeps
    | with_reducible assumption
    | (with_reducible apply Keeps.foldl; intro _ _)
    | fail_if_no_progress beta_reduce
    | with_reducible apply Keeps.refl

theorem launchMessage_keeps {z : Chip} (f : Frame) (s : Chip) (hz : Keeps z s) : Keeps z (launchMessage f s) := by
  refine hz.trans ?_
  clear hz
  unfold launchMessage
  repeat' first
    | with_reducible apply takeAck_keeps
    | with_reducible apply deliverMessage_keeps
    | with_reducible apply routeOn_keeps
    | with_reducible assumption
    | (extract_lets +onlyGivenNames x; subst x)
    | with_reducible apply Keeps.ite
    | with_reducible apply Keeps.refl

theorem bodyHallSend_keeps {z : Chip} (rq : Request) (r : ReqRef) (s : Chip) (hz : Keeps z s) : Keeps z (bodyHallSend rq r s).2 := by
  refine hz.trans ?_
  clear hz
  unfold bodyHallSend
  repeat' first
    | with_reducible apply launchMessage_keeps
    | with_reducible apply nextFid_keeps
    | with_reducible apply clearSent_keeps
    | with_reducible apply Chip_modNet_keeps
    | (with_reducible apply acceptFirst_keeps; intro _)
    | with_reducible assumption
    | fail_if_no_progress beta_reduce
    | (extract_lets +onlyGivenNames x; refine Keeps.bind (x := x) (fun hx => ?_) ?_; rotate_left; subst x; rotate_right; clear_value x)
    | (extract_lets +onlyGivenNames x; subst x)
    | with_reducible apply Keeps.ite
    | with_reducible apply Keeps.refl
    | fail_if_no_progress (with_reducible refine Keeps.lit ?_ rfl rfl rfl rfl rfl rfl rfl rfl rfl rfl rfl rfl rfl rfl rfl rfl rfl)
    | split

theorem setColl_keeps {z : Chip} (st : CollState) (s : Chip) (hz : Keeps z s) : Keeps z (setColl st s) := by
  refine hz.trans ?_
  clear hz
  unfold setColl
  repeat' first
    | with_reducible apply postHall_keeps
    | with_reducible apply Chip_modNet_keeps
    | with_reducible assumption
    | fail_if_no_progress beta_reduce
    | (extract_lets +onlyGivenNames x; refine Keeps.bind (x := x) (fun hx => ?_) ?_; rotate_left; subst x; rotate_right; clear_value x)
    | (extract_lets +onlyGivenNames x; subst x)
    | with_reducible apply Keeps.ite
    | with_reducible apply Keeps.refl

theorem Chip_modColl_keeps {z : Chip} (s : Chip) (f : Collect → Collect) (hz : Keeps z s) : Keeps z (Chip.modColl s f) := by
  refine hz.trans ?_
  clear hz
  unfold Chip.modColl
  repeat' first
    | with_reducible apply Chip_modNet_keeps
    | with_reducible assumption
    | fail_if_no_progress beta_reduce
    | with_reducible apply Keeps.refl

theorem sendCollectReq_keeps {z : Chip} (s : Chip) (hz : Keeps z s) : Keeps z (sendCollectReq s) := by
  refine hz.trans ?_
  clear hz
  unfold sendCollectReq
  repeat' first
    | with_reducible apply Chip_modColl_keeps
    | with_reducible apply routeOn_keeps
    | with_reducible apply nextFid_keeps
    | with_reducible apply Chip_modNet_keeps
    | with_reducible assumption
    | fail_if_no_progress beta_reduce
    | (extract_lets +onlyGivenNames x; refine Keeps.bind (x := x) (fun hx => ?_) ?_; rotate_left; subst x; rotate_right; clear_value x)
    | (extract_lets +onlyGivenNames x; subst x)
    | with_reducible apply Keeps.ite
    | with_reducible apply Keeps.refl

theorem askNext_keeps {z : Chip} (s : Chip) (hz : Keeps z s) : Keeps z (askNext s) := by
  refine hz.trans ?_
  clear hz
  unfold askNext
  repeat' first
    | with_reducible apply sendCollectReq_keeps
    | with_reducible apply setColl_keeps
    | with_reducible assumption
    | (extract_lets +onlyGivenNames x; subst x)
    | with_reducible apply Keeps.ite
    | with_reducible apply Keeps.refl

theorem finishMember_keeps {z : Chip} (s : Chip) (hz : Keeps z s) : Keeps z (finishMember s) := by
  refine hz.trans ?_
  clear hz
  unfold finishMember
  repeat' first
    | with_reducible apply askNext_keeps
    | with_reducible apply Chip_modColl_keeps
    | with_reducible assumption
    | fail_if_no_progress beta_reduce
    | with_reducible apply Keeps.refl

theorem takeStream_keeps {z : Chip} (src off : Nat) (last : Bool) (bytes : List Byte) (s : Chip) (hz : Keeps z s) : Keeps z (takeStream src off last bytes s) := by
  refine hz.trans ?_
  clear hz
  unfold takeStream
  repeat' first
    | with_reducible apply finishMember_keeps
    | with_reducible apply askNext_keeps
    | with_reducible apply Chip_modColl_keeps
    | with_reducible assumption
    | fail_if_no_progress beta_reduce
    | (extract_lets +onlyGivenNames x; refine Keeps.bind (x := x) (fun hx => ?_) ?_; rotate_left; subst x; rotate_right; clear_value x)
    | (extract_lets +onlyGivenNames x; subst x)
    | with_reducible apply Keeps.ite
    | with_reducible apply Keeps.refl

theorem takeCollectData_keeps {z : Chip} (f : Frame) (s : Chip) (hz : Keeps z s) : Keeps z (takeCollectData f s) := by
  refine hz.trans ?_
  clear hz
  unfold takeCollectData
  repeat' first
    | with_reducible apply takeStream_keeps
    | with_reducible assumption
    | with_reducible apply Keeps.refl

theorem answerAsk_keeps {z : Chip} (s : Chip) (a : CollAsk) (hz : Keeps z s) : Keeps z (answerAsk s a) := by
  refine hz.trans ?_
  clear hz
  unfold answerAsk
  repeat' first
    | with_reducible apply takeStream_keeps
    | with_reducible apply Chip_modNet_keeps
    | with_reducible apply Chip_drawn_keeps
    | with_reducible assumption
    | (with_reducible apply Keeps.foldl; intro _ _)
    | fail_if_no_progress beta_reduce
    | (extract_lets +onlyGivenNames x; refine Keeps.bind (x := x) (fun hx => ?_) ?_; rotate_left; subst x; rotate_right; clear_value x)
    | (extract_lets +onlyGivenNames x; subst x)
    | with_reducible apply Keeps.ite
    | with_reducible apply Keeps.refl

theorem answerCollect_keeps {z : Chip} (s : Chip) (hz : Keeps z s) : Keeps z (answerCollect s) := by
  refine hz.trans ?_
  clear hz
  unfold answerCollect
  repeat' first
    | with_reducible apply answerAsk_keeps
    | with_reducible assumption
    | (with_reducible apply Keeps.foldl; intro _ _)
    | with_reducible apply Keeps.refl

theorem streamStep_keeps {z : Chip} (s : Chip) (o : CollOut) (hz : Keeps z s) : Keeps z (streamStep s o) := by
  refine hz.trans ?_
  clear hz
  unfold streamStep
  repeat' first
    | with_reducible apply routeOn_keeps
    | with_reducible apply Chip_modNet_keeps
    | with_reducible assumption
    | fail_if_no_progress beta_reduce
    | (extract_lets +onlyGivenNames x; subst x)
    | with_reducible apply Keeps.ite
    | with_reducible apply Keeps.refl
    | fail_if_no_progress (with_reducible refine Keeps.lit ?_ rfl rfl rfl rfl rfl rfl rfl rfl rfl rfl rfl rfl rfl rfl rfl rfl rfl)
    | split

theorem streamTick_keeps {z : Chip} (s : Chip) (hz : Keeps z s) : Keeps z (streamTick s) := by
  refine hz.trans ?_
  clear hz
  unfold streamTick
  repeat' first
    | with_reducible apply streamStep_keeps
    | with_reducible assumption
    | (with_reducible apply Keeps.foldl; intro _ _)
    | with_reducible apply Keeps.refl

theorem takeCollectReq_keeps {z : Chip} (f : Frame) (s : Chip) (hz : Keeps z s) : Keeps z (takeCollectReq f s) := by
  refine hz.trans ?_
  clear hz
  unfold takeCollectReq
  repeat' first
    | with_reducible apply answerCollect_keeps
    | with_reducible apply Chip_modNet_keeps
    | with_reducible assumption
    | fail_if_no_progress beta_reduce
    | with_reducible apply Keeps.refl

theorem collectNoReply_keeps {z : Chip} (s : Chip) (hz : Keeps z s) : Keeps z (collectNoReply s) := by
  refine hz.trans ?_
  clear hz
  unfold collectNoReply
  repeat' first
    | with_reducible apply finishMember_keeps
    | with_reducible apply askNext_keeps
    | with_reducible apply Chip_modColl_keeps
    | with_reducible apply clearSent_keeps
    | with_reducible apply Chip_drawn_keeps
    | with_reducible assumption
    | fail_if_no_progress beta_reduce
    | (extract_lets +onlyGivenNames x; refine Keeps.bind (x := x) (fun hx => ?_) ?_; rotate_left; subst x; rotate_right; clear_value x)
    | (extract_lets +onlyGivenNames x; subst x)
    | with_reducible apply Keeps.ite
    | with_reducible apply Keeps.refl

theorem bodyCollectStart_keeps {z : Chip} (rq : Request) (r : ReqRef) (s : Chip) (hz : Keeps z s) : Keeps z (bodyCollectStart rq r s).2 := by
  refine hz.trans ?_
  clear hz
  unfold bodyCollectStart
  repeat' first
    | with_reducible apply askNext_keeps
    | with_reducible apply Chip_modColl_keeps
    | with_reducible apply clearSent_keeps
    | (with_reducible apply acceptFirst_keeps; intro _)
    | with_reducible assumption
    | fail_if_no_progress beta_reduce
    | (extract_lets +onlyGivenNames x; refine Keeps.bind (x := x) (fun hx => ?_) ?_; rotate_left; subst x; rotate_right; clear_value x)
    | with_reducible apply Keeps.ite
    | with_reducible apply Keeps.refl
    | fail_if_no_progress (with_reducible refine Keeps.lit ?_ rfl rfl rfl rfl rfl rfl rfl rfl rfl rfl rfl rfl rfl rfl rfl rfl rfl)
    | split

theorem bodyCollectRead_keeps {z : Chip} (rq : Request) (r : ReqRef) (s : Chip) (hz : Keeps z s) : Keeps z (bodyCollectRead rq r s).2 := by
  refine hz.trans ?_
  clear hz
  unfold bodyCollectRead
  repeat' first
    | with_reducible apply askNext_keeps
    | with_reducible apply Chip_modColl_keeps
    | with_reducible apply clearSent_keeps
    | with_reducible assumption
    | fail_if_no_progress beta_reduce
    | (extract_lets +onlyGivenNames x; refine Keeps.bind (x := x) (fun hx => ?_) ?_; rotate_left; subst x; rotate_right; clear_value x)
    | (extract_lets +onlyGivenNames x; subst x)
    | with_reducible apply Keeps.ite
    | with_reducible apply Keeps.refl
    | fail_if_no_progress (with_reducible refine Keeps.lit ?_ rfl rfl rfl rfl rfl rfl rfl rfl rfl rfl rfl rfl rfl rfl rfl rfl rfl)
    | split

theorem bodyCollectStatus_keeps {z : Chip} (rq : Request) (r : ReqRef) (s : Chip) (hz : Keeps z s) : Keeps z (bodyCollectStatus rq r s).2 := by
  refine hz.trans ?_
  clear hz
  unfold bodyCollectStatus
  repeat' first
    | with_reducible assumption
    | fail_if_no_progress beta_reduce
    | with_reducible apply Keeps.ite
    | with_reducible apply Keeps.refl
    | fail_if_no_progress (with_reducible refine Keeps.lit ?_ rfl rfl rfl rfl rfl rfl rfl rfl rfl rfl rfl rfl rfl rfl rfl rfl rfl)
    | split

theorem bodyCollectCancel_keeps {z : Chip} (rq : Request) (r : ReqRef) (s : Chip) (hz : Keeps z s) : Keeps z (bodyCollectCancel rq r s).2 := by
  refine hz.trans ?_
  clear hz
  unfold bodyCollectCancel
  repeat' first
    | with_reducible apply setColl_keeps
    | with_reducible assumption
    | fail_if_no_progress beta_reduce
    | (extract_lets +onlyGivenNames x; refine Keeps.bind (x := x) (fun hx => ?_) ?_; rotate_left; subst x; rotate_right; clear_value x)
    | with_reducible apply Keeps.ite
    | with_reducible apply Keeps.refl
    | fail_if_no_progress (with_reducible refine Keeps.lit ?_ rfl rfl rfl rfl rfl rfl rfl rfl rfl rfl rfl rfl rfl rfl rfl rfl rfl)
    | split

theorem hallTick_keeps {z : Chip} (s : Chip) (hz : Keeps z s) : Keeps z (hallTick s) := by
  refine hz.trans ?_
  clear hz
  unfold hallTick
  repeat' first
    | with_reducible apply streamTick_keeps
    | with_reducible apply answerCollect_keeps
    | with_reducible apply stillTold_keeps
    | with_reducible apply barrierCheck_keeps
    | with_reducible apply timeTick_keeps
    | with_reducible apply refreshNet_keeps
    | with_reducible apply clearSent_keeps
    | with_reducible apply evalFault_keeps
    | with_reducible apply setLive_keeps
    | with_reducible assumption
    | (with_reducible apply Keeps.forEach; intro _ _)
    | fail_if_no_progress beta_reduce
    | (extract_lets +onlyGivenNames x; refine Keeps.bind (x := x) (fun hx => ?_) ?_; rotate_left; subst x; rotate_right; clear_value x)
    | with_reducible apply Keeps.ite
    | with_reducible apply Keeps.refl

theorem Chip_modDog_keeps {z : Chip} (s : Chip) (d : Dog) (f : Wd → Wd) (hz : Keeps z s) : Keeps z (Chip.modDog s d f) := by
  refine hz.trans ?_
  clear hz
  unfold Chip.modDog
  repeat' first
    | with_reducible assumption
    | fail_if_no_progress beta_reduce
    | (extract_lets +onlyGivenNames x; subst x)
    | with_reducible apply Keeps.refl
    | fail_if_no_progress (with_reducible refine Keeps.lit ?_ rfl rfl rfl rfl rfl rfl rfl rfl rfl rfl rfl rfl rfl rfl rfl rfl rfl)
    | split

theorem newChallenge_keeps {z : Chip} (s : Chip) (d : Dog) (hz : Keeps z s) : Keeps z (newChallenge s d) := by
  refine hz.trans ?_
  clear hz
  unfold newChallenge
  repeat' first
    | with_reducible apply Chip_modDog_keeps
    | with_reducible apply Chip_drawn_keeps
    | with_reducible assumption
    | fail_if_no_progress beta_reduce
    | with_reducible apply Keeps.refl

theorem startCycle_keeps {z : Chip} (s : Chip) (d : Dog) (t : Nat) (hz : Keeps z s) : Keeps z (startCycle s d t) := by
  refine hz.trans ?_
  clear hz
  unfold startCycle
  repeat' first
    | with_reducible apply newChallenge_keeps
    | with_reducible apply Chip_modDog_keeps
    | with_reducible assumption
    | fail_if_no_progress beta_reduce
    | with_reducible apply Keeps.refl

theorem postDog_keeps {z : Chip} (s : Chip) (d : Dog) (kind : Nat) (hz : Keeps z s) : Keeps z (postDog s d kind) := by
  refine hz.trans ?_
  clear hz
  unfold postDog
  repeat' first
    | with_reducible apply post_keeps
    | with_reducible assumption
    | with_reducible apply Keeps.refl

theorem expired_keeps {z : Chip} (s : Chip) (d : Dog) (hz : Keeps z s) : Keeps z (expired s d) := by
  refine hz.trans ?_
  clear hz
  unfold expired
  repeat' first
    | with_reducible apply startCycle_keeps
    | with_reducible apply Chip_modDog_keeps
    | with_reducible assumption
    | fail_if_no_progress beta_reduce
    | with_reducible apply Keeps.refl

theorem expireDog_keeps {z : Chip} (s : Chip) (d : Dog) (hz : Keeps z s) : Keeps z (expireDog s d) := by
  refine hz.trans ?_
  clear hz
  unfold expireDog
  repeat' first
    | with_reducible apply expired_keeps
    | with_reducible apply postDog_keeps
    | with_reducible apply yardStopNow_keeps
    | with_reducible apply writeCounts_keeps
    | with_reducible apply setFault_keeps
    | with_reducible apply recPost_keeps
    | with_reducible assumption
    | fail_if_no_progress beta_reduce
    | (extract_lets +onlyGivenNames x; refine Keeps.bind (x := x) (fun hx => ?_) ?_; rotate_left; subst x; rotate_right; clear_value x)
    | (extract_lets +onlyGivenNames x; subst x)
    | with_reducible apply Keeps.ite
    | with_reducible apply Keeps.refl
    | fail_if_no_progress (with_reducible refine Keeps.lit ?_ rfl rfl rfl rfl rfl rfl rfl rfl rfl rfl rfl rfl rfl rfl rfl rfl rfl)
    | split

theorem dogExpiry_keeps {z : Chip} (d : Dog) (s : Chip) (hz : Keeps z s) : Keeps z (dogExpiry d s) := by
  refine hz.trans ?_
  clear hz
  unfold dogExpiry
  repeat' first
    | with_reducible apply expireDog_keeps
    | with_reducible assumption
    | with_reducible apply Keeps.ite
    | with_reducible apply Keeps.refl

theorem goodService_keeps {z : Chip} (s : Chip) (d : Dog) (t : Nat) (hz : Keeps z s) : Keeps z (goodService s d t) := by
  refine hz.trans ?_
  clear hz
  unfold goodService
  repeat' first
    | with_reducible apply startCycle_keeps
    | with_reducible apply Chip_modDog_keeps
    | with_reducible assumption
    | fail_if_no_progress beta_reduce
    | (extract_lets +onlyGivenNames x; refine Keeps.bind (x := x) (fun hx => ?_) ?_; rotate_left; subst x; rotate_right; clear_value x)
    | (extract_lets +onlyGivenNames x; subst x)
    | with_reducible apply Keeps.ite
    | with_reducible apply Keeps.refl
    | fail_if_no_progress (with_reducible refine Keeps.lit ?_ rfl rfl rfl rfl rfl rfl rfl rfl rfl rfl rfl rfl rfl rfl rfl rfl rfl)

theorem wd0Service_keeps {z : Chip} (seq token : Nat) (s : Chip) (hz : Keeps z s) : Keeps z (wd0Service seq token s) := by
  refine hz.trans ?_
  clear hz
  unfold wd0Service
  repeat' first
    | with_reducible apply goodService_keeps
    | with_reducible apply expireDog_keeps
    | with_reducible assumption
    | (extract_lets +onlyGivenNames x; subst x)
    | with_reducible apply Keeps.ite
    | with_reducible apply Keeps.refl

theorem disarmWd1_keeps {z : Chip} (s : Chip) (hz : Keeps z s) : Keeps z (disarmWd1 s) := by
  refine hz.trans ?_
  clear hz
  unfold disarmWd1
  repeat' first
    | with_reducible apply postDog_keeps
    | with_reducible apply newChallenge_keeps
    | with_reducible apply Chip_modDog_keeps
    | with_reducible assumption
    | fail_if_no_progress beta_reduce
    | (extract_lets +onlyGivenNames x; refine Keeps.bind (x := x) (fun hx => ?_) ?_; rotate_left; subst x; rotate_right; clear_value x)
    | (extract_lets +onlyGivenNames x; subst x)
    | with_reducible apply Keeps.ite
    | with_reducible apply Keeps.refl
    | fail_if_no_progress (with_reducible refine Keeps.lit ?_ rfl rfl rfl rfl rfl rfl rfl rfl rfl rfl rfl rfl rfl rfl rfl rfl rfl)

theorem hostLossStep_keeps {z : Chip} (s : Chip) (hz : Keeps z s) : Keeps z (hostLossStep s) := by
  refine hz.trans ?_
  clear hz
  unfold hostLossStep
  repeat' first
    | with_reducible apply postDog_keeps
    | with_reducible assumption
    | (extract_lets +onlyGivenNames x; refine Keeps.bind (x := x) (fun hx => ?_) ?_; rotate_left; subst x; rotate_right; clear_value x)
    | (extract_lets +onlyGivenNames x; subst x)
    | with_reducible apply Keeps.ite
    | with_reducible apply Keeps.refl
    | fail_if_no_progress (with_reducible refine Keeps.lit ?_ rfl rfl rfl rfl rfl rfl rfl rfl rfl rfl rfl rfl rfl rfl rfl rfl rfl)

theorem bodyWdChallenge_keeps {z : Chip} (rq : Request) (r : ReqRef) (s : Chip) (hz : Keeps z s) : Keeps z (bodyWdChallenge rq r s).2 := by
  refine hz.trans ?_
  clear hz
  unfold bodyWdChallenge
  repeat' first
    | with_reducible assumption
    | fail_if_no_progress beta_reduce
    | (extract_lets +onlyGivenNames x; subst x)
    | with_reducible apply Keeps.ite
    | with_reducible apply Keeps.refl
    | fail_if_no_progress (with_reducible refine Keeps.lit ?_ rfl rfl rfl rfl rfl rfl rfl rfl rfl rfl rfl rfl rfl rfl rfl rfl rfl)
    | split

theorem bodyWdServe_keeps {z : Chip} (t : Nat) (rq : Request) (r : ReqRef) (s : Chip) (hz : Keeps z s) : Keeps z (bodyWdServe t rq r s).2 := by
  refine hz.trans ?_
  clear hz
  unfold bodyWdServe
  repeat' first
    | with_reducible apply goodService_keeps
    | with_reducible apply expireDog_keeps
    | with_reducible apply postDog_keeps
    | with_reducible apply startCycle_keeps
    | with_reducible apply Chip_modDog_keeps
    | with_reducible assumption
    | fail_if_no_progress beta_reduce
    | (extract_lets +onlyGivenNames x; refine Keeps.bind (x := x) (fun hx => ?_) ?_; rotate_left; subst x; rotate_right; clear_value x)
    | (extract_lets +onlyGivenNames x; subst x)
    | with_reducible apply Keeps.ite
    | with_reducible apply Keeps.refl
    | fail_if_no_progress (with_reducible refine Keeps.lit ?_ rfl rfl rfl rfl rfl rfl rfl rfl rfl rfl rfl rfl rfl rfl rfl rfl rfl)
    | split

theorem bodyFaultScan_keeps {z : Chip} (rq : Request) (r : ReqRef) (s : Chip) (hz : Keeps z s) : Keeps z (bodyFaultScan rq r s).2 := by
  refine hz.trans ?_
  clear hz
  unfold bodyFaultScan
  repeat' first
    | with_reducible assumption
    | fail_if_no_progress beta_reduce
    | with_reducible apply Keeps.refl

theorem bodyFaultBlockGet_keeps {z : Chip} (rq : Request) (r : ReqRef) (s : Chip) (hz : Keeps z s) : Keeps z (bodyFaultBlockGet rq r s).2 := by
  refine hz.trans ?_
  clear hz
  unfold bodyFaultBlockGet
  repeat' first
    | with_reducible assumption
    | fail_if_no_progress beta_reduce
    | (extract_lets +onlyGivenNames x; subst x)
    | with_reducible apply Keeps.ite
    | with_reducible apply Keeps.refl
    | fail_if_no_progress (with_reducible refine Keeps.lit ?_ rfl rfl rfl rfl rfl rfl rfl rfl rfl rfl rfl rfl rfl rfl rfl rfl rfl)
    | split

theorem bodyFaultClear_keeps {z : Chip} (rq : Request) (r : ReqRef) (s : Chip) (hz : Keeps z s) : Keeps z (bodyFaultClear rq r s).2 := by
  refine hz.trans ?_
  unfold bodyFaultClear
  dsimp only
  split
  · exact .refl _
  · exact ⟨fun b => ⟨b.events, b.recorder, b.energy, b.ports, b.sticky.filter _, fun i hi => b.sources i (List.mem_filter.mp hi).1,
      b.rollback, b.sram, b.depths⟩, fun _ => .refl _, rfl, id⟩

theorem bodyWdGet_keeps {z : Chip} (rq : Request) (r : ReqRef) (s : Chip) (hz : Keeps z s) : Keeps z (bodyWdGet rq r s).2 := by
  refine hz.trans ?_
  clear hz
  unfold bodyWdGet
  repeat' first
    | with_reducible assumption
    | fail_if_no_progress beta_reduce
    | with_reducible apply Keeps.refl

theorem bodyCountsGet_keeps {z : Chip} (rq : Request) (r : ReqRef) (s : Chip) (hz : Keeps z s) : Keeps z (bodyCountsGet rq r s).2 := by
  refine hz.trans ?_
  clear hz
  unfold bodyCountsGet
  repeat' first
    | with_reducible assumption
    | fail_if_no_progress beta_reduce
    | with_reducible apply Keeps.refl

theorem Chip_modSeq_keeps {z : Chip} (s : Chip) (k : Nat) (f : Seq → Seq) (hz : Keeps z s) : Keeps z (Chip.modSeq s k f) := by
  refine hz.trans ?_
  clear hz
  unfold Chip.modSeq
  repeat' first
    | with_reducible assumption
    | with_reducible apply Keeps.refl
    | fail_if_no_progress (with_reducible refine Keeps.lit ?_ rfl rfl rfl rfl rfl rfl rfl rfl rfl rfl rfl rfl rfl rfl rfl rfl rfl)

theorem Chip_modMon_keeps {z : Chip} (s : Chip) (m : Nat) (f : Mon → Mon) (hz : Keeps z s) : Keeps z (Chip.modMon s m f) := by
  refine hz.trans ?_
  clear hz
  unfold Chip.modMon
  repeat' first
    | with_reducible assumption
    | with_reducible apply Keeps.refl
    | fail_if_no_progress (with_reducible refine Keeps.lit ?_ rfl rfl rfl rfl rfl rfl rfl rfl rfl rfl rfl rfl rfl rfl rfl rfl rfl)

theorem Chip_modCap_keeps {z : Chip} (s : Chip) (k : Nat) (f : CapTimer → CapTimer) (hf : (f (s.cap k)).fifo.length ≤ (s.cap k).fifo.length)
    (hz : Keeps z s) : Keeps z (s.modCap k f) :=
  .depths hz rfl rfl rfl rfl rfl rfl rfl rfl rfl rfl rfl fun d => ⟨d.channels, d.rails, d.box, d.buses, d.slow, timer_depth d.stamps k _ (hf.trans (d.stamps k))⟩

theorem sarOvr_keeps {z : Chip} (s : Chip) (diff : Bool) (nv : Int) (hz : Keeps z s) : Keeps z (sarOvr s diff nv).2 := by
  refine hz.trans ?_
  clear hz
  unfold sarOvr
  repeat' first
    | with_reducible apply Chip_drawn_keeps
    | with_reducible assumption
    | (extract_lets +onlyGivenNames x; subst x)
    | with_reducible apply Keeps.ite
    | with_reducible apply Keeps.refl
    | fail_if_no_progress (with_reducible refine Keeps.lit ?_ rfl rfl rfl rfl rfl rfl rfl rfl rfl rfl rfl rfl rfl rfl rfl rfl rfl)
    | split

theorem yardIrq_keeps {z : Chip} (s : Chip) (i : YardIrq) (hz : Keeps z s) : Keeps z (yardIrq s i) := by
  refine hz.trans ?_
  clear hz
  unfold yardIrq
  repeat' first
    | with_reducible assumption
    | (extract_lets +onlyGivenNames x; subst x)
    | with_reducible apply Keeps.refl
    | fail_if_no_progress (with_reducible refine Keeps.lit ?_ rfl rfl rfl rfl rfl rfl rfl rfl rfl rfl rfl rfl rfl rfl rfl rfl rfl)

theorem ringWrite_keeps {z : Chip} (s : Chip) (k : Nat) (g : SeqCfg) (w : Nat) (hz : Keeps z s) : Keeps z (ringWrite s k g w) := by
  refine hz.trans ?_
  unfold ringWrite
  have h : ∀ a w, Keeps s { s with sram := s.sram.writeWord a w } := fun a w =>
    ⟨fun b => ⟨b.events, b.recorder, b.energy, b.ports, b.sticky, b.sources, b.rollback, Memory.writeWord_wf _ _ b.sram, b.depths⟩, fun _ => .refl _, rfl, id⟩
  dsimp only
  have k : ∀ a w f, Keeps s (Chip.modSeq { s with sram := s.sram.writeWord a w } k f) := fun a w f => .lit (h a w) rfl rfl rfl rfl rfl rfl rfl rfl rfl rfl rfl rfl rfl rfl rfl rfl rfl
  split <;> split
  · apply post_keeps; apply yardIrq_keeps; apply setFault_keeps; apply k
  · apply post_keeps; apply yardIrq_keeps; apply k
  · apply setFault_keeps; apply k
  · apply k

theorem ringAdvance_keeps {z : Chip} (s : Chip) (k : Nat) (g : SeqCfg) (goal : Nat) (hz : Keeps z s) : Keeps z (ringAdvance s k g goal) := by
  refine hz.trans ?_
  clear hz
  unfold ringAdvance
  repeat' first
    | with_reducible apply Chip_modSeq_keeps
    | with_reducible assumption
    | fail_if_no_progress beta_reduce
    | (extract_lets +onlyGivenNames x; subst x)
    | with_reducible apply Keeps.ite
    | with_reducible apply Keeps.refl

theorem captureWord_keeps {z : Chip} (s : Chip) (k : Nat) (g : SeqCfg) (w : Nat) (hz : Keeps z s) : Keeps z (captureWord s k g w) := by
  refine hz.trans ?_
  clear hz
  unfold captureWord
  repeat' first
    | with_reducible apply ringAdvance_keeps
    | with_reducible apply post_keeps
    | with_reducible assumption
    | fail_if_no_progress beta_reduce
    | (extract_lets +onlyGivenNames x; refine Keeps.bind (x := x) (fun hx => ?_) ?_; rotate_left; subst x; rotate_right; clear_value x)
    | (extract_lets +onlyGivenNames x; subst x)
    | with_reducible apply Keeps.ite
    | with_reducible apply Keeps.refl
    | fail_if_no_progress (with_reducible refine Keeps.lit ?_ rfl rfl rfl rfl rfl rfl rfl rfl rfl rfl rfl rfl rfl rfl rfl rfl rfl)

theorem seqConversion_keeps {z : Chip} (k pos : Nat) (nv : Int) (s : Chip) (hz : Keeps z s) : Keeps z (seqConversion k pos nv s) := by
  refine hz.trans ?_
  clear hz
  unfold seqConversion
  repeat' first
    | with_reducible apply captureWord_keeps
    | with_reducible apply ringWrite_keeps
    | with_reducible apply sarOvr_keeps
    | with_reducible apply Chip_modSeq_keeps
    | with_reducible assumption
    | fail_if_no_progress beta_reduce
    | (extract_lets +onlyGivenNames x; refine Keeps.bind (x := x) (fun hx => ?_) ?_; rotate_left; subst x; rotate_right; clear_value x)
    | (extract_lets +onlyGivenNames x; refine Keeps.bind (x := x.2) (fun hx => ?_) ?_; rotate_left; subst x; rotate_right; clear_value x)
    | (extract_lets +onlyGivenNames x; subst x)
    | with_reducible apply Keeps.ite
    | with_reducible apply Keeps.refl
    | fail_if_no_progress (with_reducible refine Keeps.lit ?_ rfl rfl rfl rfl rfl rfl rfl rfl rfl rfl rfl rfl rfl rfl rfl rfl rfl)
    | split

theorem seqBegin_keeps {z : Chip} (s : Chip) (k : Nat) (hz : Keeps z s) : Keeps z (seqBegin s k) := by
  refine hz.trans ?_
  clear hz
  unfold seqBegin
  repeat' first
    | with_reducible apply Chip_modSeq_keeps
    | with_reducible assumption
    | fail_if_no_progress beta_reduce
    | with_reducible apply Keeps.refl

theorem seqHalt_keeps {z : Chip} (s : Chip) (k : Nat) (refs : List ReqRef) (hz : Keeps z s) : Keeps z (seqHalt s k refs) := by
  refine hz.trans ?_
  clear hz
  unfold seqHalt
  repeat' first
    | with_reducible apply Chip_modSeq_keeps
    | with_reducible assumption
    | fail_if_no_progress beta_reduce
    | with_reducible apply Keeps.refl

theorem seqZero_keeps {z : Chip} (s : Chip) (k : Nat) (hz : Keeps z s) : Keeps z (seqZero s k) := by
  refine hz.trans ?_
  clear hz
  unfold seqZero
  repeat' first
    | with_reducible apply Chip_modSeq_keeps
    | with_reducible assumption
    | fail_if_no_progress beta_reduce
    | with_reducible apply Keeps.refl

theorem applySeq_keeps {z : Chip} (s : Chip) (e : SeqSet) (hz : Keeps z s) : Keeps z (applySeq s e) := by
  refine hz.trans ?_
  clear hz
  unfold applySeq
  repeat' first
    | with_reducible apply seqHalt_keeps
    | with_reducible apply seqBegin_keeps
    | with_reducible apply Chip_modSeq_keeps
    | with_reducible apply formReply_keeps
    | with_reducible apply post_keeps
    | with_reducible assumption
    | fail_if_no_progress beta_reduce
    | (extract_lets +onlyGivenNames x; refine Keeps.bind (x := x) (fun hx => ?_) ?_; rotate_left; subst x; rotate_right; clear_value x)
    | (extract_lets +onlyGivenNames x; subst x)
    | with_reducible apply Keeps.ite
    | with_reducible apply Keeps.refl
    | fail_if_no_progress (with_reducible refine Keeps.lit ?_ rfl rfl rfl rfl rfl rfl rfl rfl rfl rfl rfl rfl rfl rfl rfl rfl rfl)
    | split

theorem applySeqQueue_keeps {z : Chip} (s : Chip) (hz : Keeps z s) : Keeps z (applySeqQueue s) := by
  refine hz.trans ?_
  clear hz
  unfold applySeqQueue
  repeat' first
    | with_reducible apply applySeq_keeps
    | with_reducible assumption
    | (with_reducible apply Keeps.foldl; intro _ _)
    | (extract_lets +onlyGivenNames x; subst x)
    | with_reducible apply Keeps.ite
    | with_reducible apply Keeps.refl
    | fail_if_no_progress (with_reducible refine Keeps.lit ?_ rfl rfl rfl rfl rfl rfl rfl rfl rfl rfl rfl rfl rfl rfl rfl rfl rfl)

theorem seqStopComplete_keeps {z : Chip} (k : Nat) (s : Chip) (hz : Keeps z s) : Keeps z (seqStopComplete k s) := by
  refine hz.trans ?_
  clear hz
  unfold seqStopComplete
  repeat' first
    | with_reducible apply seqZero_keeps
    | with_reducible apply seqBegin_keeps
    | with_reducible apply Chip_modSeq_keeps
    | with_reducible apply post_keeps
    | with_reducible assumption
    | fail_if_no_progress beta_reduce
    | (extract_lets +onlyGivenNames x; refine Keeps.bind (x := x) (fun hx => ?_) ?_; rotate_left; subst x; rotate_right; clear_value x)
    | (extract_lets +onlyGivenNames x; subst x)
    | with_reducible apply Keeps.ite
    | with_reducible apply Keeps.refl

theorem queueSlow_keeps {z : Chip} (s : Chip) (hz : Keeps z s) : Keeps z (queueSlow s) := by
  unfold queueSlow
  split
  · exact hz
  split
  · rename_i h
    exact .depths hz rfl rfl rfl rfl rfl rfl rfl rfl rfl rfl rfl fun d => ⟨d.channels, d.rails, d.box, d.buses, h, d.stamps⟩
  · exact setFault_keeps _ _ (.lit hz rfl rfl rfl rfl rfl rfl rfl rfl rfl rfl rfl rfl rfl rfl rfl rfl rfl)

theorem yardTick_keeps {z : Chip} (s : Chip) (hz : Keeps z s) : Keeps z (yardTick s) := by
  refine .depths hz rfl rfl rfl rfl rfl rfl rfl rfl rfl rfl rfl fun d => ⟨d.channels, d.rails, d.box, d.buses, ?_, d.stamps⟩
  show (if _ then _ else _ : Nat) ≤ 1024
  split
  · exact Nat.zero_le _
  · exact d.slow

theorem housekeepingReading_keeps {z : Chip} (i : Nat) (v : List Int) (s : Chip) (hz : Keeps z s) : Keeps z (housekeepingReading i v s) := by
  unfold housekeepingReading
  dsimp only
  split
  · apply queueSlow_keeps
    refine .lit (Keeps.foldProj Prod.snd (fun b a => ?_) hz) rfl rfl rfl rfl rfl rfl rfl rfl rfl rfl rfl rfl rfl rfl rfl rfl rfl
    exact sarOvr_keeps _ _ _ (.refl _)
  · exact hz

theorem hkStep_keeps {z : Chip} (s : Chip) (hz : Keeps z s) : Keeps z (hkStep s) := by
  refine hz.trans ?_
  clear hz
  unfold hkStep
  repeat' first
    | with_reducible apply evalFault_keeps
    | with_reducible assumption
    | (extract_lets +onlyGivenNames x; subst x)
    | with_reducible apply Keeps.ite
    | with_reducible apply Keeps.refl
    | fail_if_no_progress (with_reducible refine Keeps.lit ?_ rfl rfl rfl rfl rfl rfl rfl rfl rfl rfl rfl rfl rfl rfl rfl rfl rfl)

theorem windowEvent_keeps {z : Chip} (s : Chip) (m : Nat) (hz : Keeps z s) : Keeps z (windowEvent s m) := by
  refine hz.trans ?_
  clear hz
  unfold windowEvent
  repeat' first
    | with_reducible apply Chip_modMon_keeps
    | with_reducible apply post_keeps
    | with_reducible assumption
    | fail_if_no_progress beta_reduce
    | with_reducible apply Keeps.refl

theorem moveLevel_keeps {z : Chip} (m : Nat) (l : Level) (s : Chip) (hz : Keeps z s) : Keeps z (moveLevel m l s) := by
  refine hz.trans ?_
  clear hz
  unfold moveLevel
  repeat' first
    | with_reducible apply Chip_modMon_keeps
    | with_reducible assumption
    | fail_if_no_progress beta_reduce
    | with_reducible apply Keeps.refl

theorem setLevel_keeps {z : Chip} (s : Chip) (m : Nat) (c : MonCfg) (l : Level) (hz : Keeps z s) : Keeps z (setLevel s m c l) := by
  refine hz.trans ?_
  clear hz
  unfold setLevel
  repeat' first
    | with_reducible apply moveLevel_keeps
    | with_reducible apply windowEvent_keeps
    | with_reducible apply yardIrq_keeps
    | with_reducible apply Chip_modMon_keeps
    | with_reducible assumption
    | fail_if_no_progress beta_reduce
    | (extract_lets +onlyGivenNames x; refine Keeps.bind (x := x) (fun hx => ?_) ?_; rotate_left; subst x; rotate_right; clear_value x)
    | with_reducible apply Keeps.ite
    | with_reducible apply Keeps.refl

theorem windowDeferred_keeps {z : Chip} (m : Nat) (s : Chip) (hz : Keeps z s) : Keeps z (windowDeferred m s) := by
  refine hz.trans ?_
  clear hz
  unfold windowDeferred
  repeat' first
    | with_reducible apply windowEvent_keeps
    | with_reducible assumption
    | fail_if_no_progress beta_reduce
    | (extract_lets +onlyGivenNames x; subst x)
    | with_reducible apply Keeps.ite
    | with_reducible apply Keeps.refl

theorem captureStamp_keeps {z : Chip} (t : Nat) (src lvl : Byte) (at_ : Nat) (s : Chip) (hz : Keeps z s) : Keeps z (captureStamp t src lvl at_ s) := by
  unfold captureStamp
  dsimp only
  split
  · have k : Keeps z ((trigTimer s (Fin.ofNat 16 t)).modCap t fun c => { c with seen := captureMark s src.toNat }) :=
      Chip_modCap_keeps _ _ _ (Nat.le_refl _) (trigTimer_keeps _ _ hz)
    generalize (trigTimer s (Fin.ofNat 16 t)).modCap t (fun c => { c with seen := captureMark s src.toNat }) = x at k ⊢
    split
    · rename_i h
      refine .depths k rfl rfl rfl rfl rfl rfl rfl rfl rfl rfl rfl fun d => ⟨d.channels, d.rails, d.box, d.buses, d.slow, timer_depth d.stamps _ _ ?_⟩
      simpa using h
    · exact setFault_keeps _ _ (Chip_modCap_keeps _ _ _ (Nat.le_refl _) k)
  · exact hz

theorem bodyMeasStatus_keeps {z : Chip} (rq : Request) (r : ReqRef) (s : Chip) (hz : Keeps z s) : Keeps z (bodyMeasStatus rq r s).2 := by
  refine hz.trans ?_
  clear hz
  unfold bodyMeasStatus
  repeat' first
    | with_reducible assumption
    | fail_if_no_progress beta_reduce
    | (extract_lets +onlyGivenNames x; subst x)
    | with_reducible apply Keeps.refl

theorem bodySarReading_keeps {z : Chip} (rq : Request) (r : ReqRef) (s : Chip) (hz : Keeps z s) : Keeps z (bodySarReading rq r s).2 := by
  refine hz.trans ?_
  clear hz
  unfold bodySarReading
  repeat' first
    | with_reducible assumption
    | fail_if_no_progress beta_reduce
    | (extract_lets +onlyGivenNames x; subst x)
    | with_reducible apply Keeps.ite
    | with_reducible apply Keeps.refl
    | fail_if_no_progress (with_reducible refine Keeps.lit ?_ rfl rfl rfl rfl rfl rfl rfl rfl rfl rfl rfl rfl rfl rfl rfl rfl rfl)
    | split

theorem queueSeq_keeps {z : Chip} (s : Chip) (k : Nat) (start : Bool) (r : ReqRef) (hz : Keeps z s) : Keeps z (queueSeq s k start r) := by
  refine hz.trans ?_
  clear hz
  unfold queueSeq
  repeat' first
    | with_reducible assumption
    | (extract_lets +onlyGivenNames x; subst x)
    | with_reducible apply Keeps.refl
    | fail_if_no_progress (with_reducible refine Keeps.lit ?_ rfl rfl rfl rfl rfl rfl rfl rfl rfl rfl rfl rfl rfl rfl rfl rfl rfl)

theorem bodySeqStart_keeps {z : Chip} (rq : Request) (r : ReqRef) (s : Chip) (hz : Keeps z s) : Keeps z (bodySeqStart rq r s).2 := by
  refine hz.trans ?_
  clear hz
  unfold bodySeqStart
  repeat' first
    | with_reducible apply queueSeq_keeps
    | with_reducible assumption
    | fail_if_no_progress beta_reduce
    | (extract_lets +onlyGivenNames x; subst x)
    | with_reducible apply Keeps.ite
    | with_reducible apply Keeps.refl
    | fail_if_no_progress (with_reducible refine Keeps.lit ?_ rfl rfl rfl rfl rfl rfl rfl rfl rfl rfl rfl rfl rfl rfl rfl rfl rfl)
    | split

theorem bodySeqStop_keeps {z : Chip} (rq : Request) (r : ReqRef) (s : Chip) (hz : Keeps z s) : Keeps z (bodySeqStop rq r s).2 := by
  refine hz.trans ?_
  clear hz
  unfold bodySeqStop
  repeat' first
    | with_reducible apply queueSeq_keeps
    | with_reducible assumption
    | fail_if_no_progress beta_reduce
    | (extract_lets +onlyGivenNames x; subst x)
    | with_reducible apply Keeps.ite
    | with_reducible apply Keeps.refl
    | fail_if_no_progress (with_reducible refine Keeps.lit ?_ rfl rfl rfl rfl rfl rfl rfl rfl rfl rfl rfl rfl rfl rfl rfl rfl rfl)
    | split

theorem bodySeqGet_keeps {z : Chip} (rq : Request) (r : ReqRef) (s : Chip) (hz : Keeps z s) : Keeps z (bodySeqGet rq r s).2 := by
  refine hz.trans ?_
  clear hz
  unfold bodySeqGet
  repeat' first
    | with_reducible assumption
    | fail_if_no_progress beta_reduce
    | (extract_lets +onlyGivenNames x; subst x)
    | with_reducible apply Keeps.ite
    | with_reducible apply Keeps.refl
    | fail_if_no_progress (with_reducible refine Keeps.lit ?_ rfl rfl rfl rfl rfl rfl rfl rfl rfl rfl rfl rfl rfl rfl rfl rfl rfl)
    | split

theorem ringRead_keeps {z : Chip} (s : Chip) (p : Port) (k : Nat) (g : SeqCfg) (advance : Bool) (most start : Nat) (hz : Keeps z s) : Keeps z (ringRead s p k g advance most start).2 := by
  refine hz.trans ?_
  clear hz
  unfold ringRead
  repeat' first
    | with_reducible apply ringAdvance_keeps
    | with_reducible assumption
    | (extract_lets +onlyGivenNames x; refine Keeps.bind (x := x) (fun hx => ?_) ?_; rotate_left; subst x; rotate_right; clear_value x)
    | (extract_lets +onlyGivenNames x; subst x)
    | with_reducible apply Keeps.ite
    | with_reducible apply Keeps.refl
    | fail_if_no_progress (with_reducible refine Keeps.lit ?_ rfl rfl rfl rfl rfl rfl rfl rfl rfl rfl rfl rfl rfl rfl rfl rfl rfl)
    | split

theorem bodyMeasRingRead_keeps {z : Chip} (rq : Request) (r : ReqRef) (s : Chip) (hz : Keeps z s) : Keeps z (bodyMeasRingRead rq r s).2 := by
  refine hz.trans ?_
  clear hz
  unfold bodyMeasRingRead
  repeat' first
    | with_reducible apply ringRead_keeps
    | with_reducible assumption
    | fail_if_no_progress beta_reduce
    | (extract_lets +onlyGivenNames x; subst x)
    | with_reducible apply Keeps.ite
    | with_reducible apply Keeps.refl
    | fail_if_no_progress (with_reducible refine Keeps.lit ?_ rfl rfl rfl rfl rfl rfl rfl rfl rfl rfl rfl rfl rfl rfl rfl rfl rfl)
    | split

theorem bodyWmGetAll_keeps {z : Chip} (rq : Request) (r : ReqRef) (s : Chip) (hz : Keeps z s) : Keeps z (bodyWmGetAll rq r s).2 := by
  refine hz.trans ?_
  clear hz
  unfold bodyWmGetAll
  repeat' first
    | with_reducible assumption
    | fail_if_no_progress beta_reduce
    | with_reducible apply Keeps.refl

theorem bodyWmSet_keeps {z : Chip} (rq : Request) (r : ReqRef) (s : Chip) (hz : Keeps z s) : Keeps z (bodyWmSet rq r s).2 := by
  refine hz.trans ?_
  clear hz
  unfold bodyWmSet
  repeat' first
    | with_reducible apply Chip_modMon_keeps
    | with_reducible assumption
    | fail_if_no_progress beta_reduce
    | (extract_lets +onlyGivenNames x; refine Keeps.bind (x := x) (fun hx => ?_) ?_; rotate_left; subst x; rotate_right; clear_value x)
    | (extract_lets +onlyGivenNames x; subst x)
    | with_reducible apply Keeps.ite
    | with_reducible apply Keeps.refl
    | fail_if_no_progress (with_reducible refine Keeps.lit ?_ rfl rfl rfl rfl rfl rfl rfl rfl rfl rfl rfl rfl rfl rfl rfl rfl rfl)
    | split

theorem bodyCapArm_keeps {z : Chip} (rq : Request) (r : ReqRef) (s : Chip) (hz : Keeps z s) : Keeps z (bodyCapArm rq r s).2 := by
  unfold bodyCapArm
  dsimp only
  split
  · exact hz
  split
  · exact hz
  · with_reducible apply Chip_modCap_keeps
    · split
      · exact Nat.le_refl _
      · exact Nat.zero_le _
    · exact hz

theorem bodyCapRead_keeps {z : Chip} (rq : Request) (r : ReqRef) (s : Chip) (hz : Keeps z s) : Keeps z (bodyCapRead rq r s).2 := by
  unfold bodyCapRead
  dsimp only
  split
  · exact hz
  · with_reducible apply Chip_modCap_keeps
    · simp
    · exact hz

end Sys2Proof.Machine
end

