-- ==== Sys2Proof/Laws/Keeps5.lean ====
section
/-! SUPPORT. What the operations of Configs, Studio, Firmware, Heat, Mailbox, Recorder, Session keep. -/

namespace Sys2Proof.Machine

theorem cfgWordReply_keeps {z : Chip} (st : Status) (s : Chip) (hz : Keeps z s) : Keeps z (cfgWordReply st s).2 := by
  refine hz.trans ?_
  clear hz
  unfold cfgWordReply
  repeat' first
    | with_reducible assumption
    | with_reducible apply Keeps.refl

theorem bodyCfgInfo_keeps {z : Chip} (rq : Request) (r : ReqRef) (s : Chip) (hz : Keeps z s) : Keeps z (bodyCfgInfo rq r s).2 := by
  refine hz.trans ?_
  clear hz
  unfold bodyCfgInfo
  repeat' first
    | with_reducible assumption
    | fail_if_no_progress beta_reduce
    | with_reducible apply Keeps.ite
    | with_reducible apply Keeps.refl
    | fail_if_no_progress (with_reducible refine Keeps.lit ?_ rfl rfl rfl rfl rfl rfl rfl rfl rfl rfl rfl rfl rfl rfl rfl rfl rfl)
    | split

theorem bodyCfgRead_keeps {z : Chip} (rq : Request) (r : ReqRef) (s : Chip) (hz : Keeps z s) : Keeps z (bodyCfgRead rq r s).2 := by
  refine hz.trans ?_
  clear hz
  unfold bodyCfgRead
  repeat' first
    | with_reducible assumption
    | fail_if_no_progress beta_reduce
    | (extract_lets +onlyGivenNames x; subst x)
    | with_reducible apply Keeps.ite
    | with_reducible apply Keeps.refl
    | fail_if_no_progress (with_reducible refine Keeps.lit ?_ rfl rfl rfl rfl rfl rfl rfl rfl rfl rfl rfl rfl rfl rfl rfl rfl rfl)
    | split

theorem abandonStage_keeps {z : Chip} (s : Chip) (hz : Keeps z s) : Keeps z (abandonStage s) := by
  refine hz.trans ?_
  clear hz
  unfold abandonStage
  repeat' first
    | with_reducible apply closeStage_keeps
    | with_reducible apply postCfg_keeps
    | with_reducible assumption
    | (extract_lets +onlyGivenNames x; refine Keeps.bind (x := x) (fun hx => ?_) ?_; rotate_left; subst x; rotate_right; clear_value x)
    | (extract_lets +onlyGivenNames x; subst x)
    | with_reducible apply Keeps.ite
    | with_reducible apply Keeps.refl

theorem bodyStageBegin_keeps {z : Chip} (rq : Request) (r : ReqRef) (s : Chip) (hz : Keeps z s) : Keeps z (bodyStageBegin rq r s).2 := by
  refine hz.trans ?_
  clear hz
  unfold bodyStageBegin
  repeat' first
    | with_reducible apply abandonStage_keeps
    | with_reducible apply cfgWordReply_keeps
    | with_reducible apply Chip_modCfg_keeps
    | with_reducible assumption
    | fail_if_no_progress beta_reduce
    | (extract_lets +onlyGivenNames x; refine Keeps.bind (x := x) (fun hx => ?_) ?_; rotate_left; subst x; rotate_right; clear_value x)
    | (extract_lets +onlyGivenNames x; subst x)
    | with_reducible apply Keeps.ite
    | with_reducible apply Keeps.refl
    | fail_if_no_progress (with_reducible refine Keeps.lit ?_ rfl rfl rfl rfl rfl rfl rfl rfl rfl rfl rfl rfl rfl rfl rfl rfl rfl)
    | split

theorem bodyStageWrite_keeps {z : Chip} (rq : Request) (r : ReqRef) (s : Chip) (hz : Keeps z s) : Keeps z (bodyStageWrite rq r s).2 := by
  refine hz.trans ?_
  clear hz
  unfold bodyStageWrite
  repeat' first
    | with_reducible apply cfgWordReply_keeps
    | with_reducible apply mramWritten_keeps
    | with_reducible apply Chip_modCfg_keeps
    | with_reducible assumption
    | fail_if_no_progress beta_reduce
    | (extract_lets +onlyGivenNames x; refine Keeps.bind (x := x) (fun hx => ?_) ?_; rotate_left; subst x; rotate_right; clear_value x)
    | (extract_lets +onlyGivenNames x; subst x)
    | with_reducible apply Keeps.ite
    | with_reducible apply Keeps.refl
    | fail_if_no_progress (with_reducible refine Keeps.lit ?_ rfl rfl rfl rfl rfl rfl rfl rfl rfl rfl rfl rfl rfl rfl rfl rfl rfl)
    | split

theorem bodyStageEnd_keeps {z : Chip} (rq : Request) (r : ReqRef) (s : Chip) (hz : Keeps z s) : Keeps z (bodyStageEnd rq r s).2 := by
  refine hz.trans ?_
  clear hz
  unfold bodyStageEnd
  repeat' first
    | with_reducible apply cfgWordReply_keeps
    | with_reducible apply Chip_modCfg_keeps
    | with_reducible assumption
    | fail_if_no_progress beta_reduce
    | with_reducible apply Keeps.ite
    | with_reducible apply Keeps.refl
    | fail_if_no_progress (with_reducible refine Keeps.lit ?_ rfl rfl rfl rfl rfl rfl rfl rfl rfl rfl rfl rfl rfl rfl rfl rfl rfl)
    | split

theorem stageChecked_keeps {z : Chip} (s : Chip) (hz : Keeps z s) : Keeps z (stageChecked s) := by
  refine hz.trans ?_
  clear hz
  unfold stageChecked
  repeat' first
    | with_reducible apply closeStage_keeps
    | with_reducible apply postCfg_keeps
    | with_reducible apply Chip_modCfg_keeps
    | with_reducible apply setFault_keeps
    | with_reducible assumption
    | fail_if_no_progress beta_reduce
    | (extract_lets +onlyGivenNames x; refine Keeps.bind (x := x) (fun hx => ?_) ?_; rotate_left; subst x; rotate_right; clear_value x)
    | (extract_lets +onlyGivenNames x; subst x)
    | with_reducible apply Keeps.ite
    | with_reducible apply Keeps.refl

theorem otherChecked_keeps {z : Chip} (src : Nat) (s : Chip) (hz : Keeps z s) : Keeps z (otherChecked src s) := by
  refine hz.trans ?_
  clear hz
  unfold otherChecked
  repeat' first
    | with_reducible apply Chip_modCfg_keeps
    | with_reducible assumption
    | fail_if_no_progress beta_reduce
    | with_reducible apply Keeps.ite
    | with_reducible apply Keeps.refl

theorem bodyCfgCommit_keeps {z : Chip} (rq : Request) (r : ReqRef) (s : Chip) (hz : Keeps z s) : Keeps z (bodyCfgCommit rq r s).2 := by
  refine hz.trans ?_
  clear hz
  unfold bodyCfgCommit
  repeat' first
    | with_reducible apply otherChecked_keeps
    | with_reducible apply cfgWordReply_keeps
    | with_reducible apply offerBox_keeps
    | with_reducible assumption
    | fail_if_no_progress beta_reduce
    | (extract_lets +onlyGivenNames x; refine Keeps.bind (x := x) (fun hx => ?_) ?_; rotate_left; subst x; rotate_right; clear_value x)
    | (extract_lets +onlyGivenNames x; subst x)
    | with_reducible apply Keeps.ite
    | with_reducible apply Keeps.refl
    | fail_if_no_progress (with_reducible refine Keeps.lit ?_ rfl rfl rfl rfl rfl rfl rfl rfl rfl rfl rfl rfl rfl rfl rfl rfl rfl)
    | split

theorem flipState_keeps {z : Chip} (raw : List Byte) (r : ReqRef) (s : Chip) (hz : Keeps z s) : Keeps z (flipState raw r s) := by
  refine hz.trans ?_
  clear hz
  unfold flipState
  repeat' first
    | with_reducible apply mramWritten_keeps
    | with_reducible apply Chip_modCfg_keeps
    | with_reducible assumption
    | fail_if_no_progress beta_reduce
    | with_reducible apply Keeps.refl

theorem copyChecked_keeps {z : Chip} (src : Nat) (raw : List Byte) (s : Chip) (hz : Keeps z s) : Keeps z (copyChecked src raw s).2 := by
  refine hz.trans ?_
  clear hz
  unfold copyChecked
  repeat' first
    | with_reducible apply mramWritten_keeps
    | with_reducible apply putSlot_keeps
    | with_reducible apply Chip_modCfg_keeps
    | with_reducible assumption
    | fail_if_no_progress beta_reduce
    | (extract_lets +onlyGivenNames x; refine Keeps.bind (x := x) (fun hx => ?_) ?_; rotate_left; subst x; rotate_right; clear_value x)
    | with_reducible apply Keeps.ite
    | with_reducible apply Keeps.refl
    | fail_if_no_progress (with_reducible refine Keeps.lit ?_ rfl rfl rfl rfl rfl rfl rfl rfl rfl rfl rfl rfl rfl rfl rfl rfl rfl)
    | split

theorem startCopy_keeps {z : Chip} (src expected : Nat) (raw : List Byte) (r : ReqRef) (s : Chip) (hz : Keeps z s) : Keeps z (startCopy src expected raw r s) := by
  refine hz.trans ?_
  clear hz
  unfold startCopy
  repeat' first
    | with_reducible apply putSlot_keeps
    | with_reducible apply Chip_modCfg_keeps
    | with_reducible assumption
    | fail_if_no_progress beta_reduce
    | with_reducible apply Keeps.ite
    | with_reducible apply Keeps.refl

theorem endCopy_keeps {z : Chip} (k : CfgCopy) (s : Chip) (hz : Keeps z s) : Keeps z (endCopy k s) := by
  refine hz.trans ?_
  clear hz
  unfold endCopy
  repeat' first
    | with_reducible apply copyChecked_keeps
    | with_reducible apply flipState_keeps
    | with_reducible apply postCfg_keeps
    | with_reducible apply Chip_modCfg_keeps
    | with_reducible assumption
    | fail_if_no_progress beta_reduce
    | (extract_lets +onlyGivenNames x; refine Keeps.bind (x := x) (fun hx => ?_) ?_; rotate_left; subst x; rotate_right; clear_value x)
    | (extract_lets +onlyGivenNames x; refine Keeps.bind (x := x.2) (fun hx => ?_) ?_; rotate_left; subst x; rotate_right; clear_value x)
    | with_reducible apply Keeps.ite
    | with_reducible apply Keeps.refl
    | fail_if_no_progress (with_reducible refine Keeps.lit ?_ rfl rfl rfl rfl rfl rfl rfl rfl rfl rfl rfl rfl rfl rfl rfl rfl rfl)
    | split

theorem copyTick_keeps {z : Chip} (s : Chip) (hz : Keeps z s) : Keeps z (copyTick s) := by
  refine hz.trans ?_
  clear hz
  unfold copyTick
  repeat' first
    | with_reducible apply endCopy_keeps
    | with_reducible apply Chip_drawn_keeps
    | with_reducible assumption
    | fail_if_no_progress beta_reduce
    | (extract_lets +onlyGivenNames x; refine Keeps.bind (x := x) (fun hx => ?_) ?_; rotate_left; subst x; rotate_right; clear_value x)
    | (extract_lets +onlyGivenNames x; subst x)
    | with_reducible apply Keeps.ite
    | with_reducible apply Keeps.refl
    | fail_if_no_progress (with_reducible refine Keeps.lit ?_ rfl rfl rfl rfl rfl rfl rfl rfl rfl rfl rfl rfl rfl rfl rfl rfl rfl)
    | split

theorem takeCommit_keeps {z : Chip} (e : BoxEntry) (s : Chip) (hz : Keeps z s) : Keeps z (takeCommit e s) := by
  refine hz.trans ?_
  clear hz
  unfold takeCommit
  repeat' first
    | with_reducible apply startCopy_keeps
    | with_reducible apply otherChecked_keeps
    | with_reducible apply postCfg_keeps
    | with_reducible apply setFault_keeps
    | with_reducible assumption
    | fail_if_no_progress beta_reduce
    | (extract_lets +onlyGivenNames x; refine Keeps.bind (x := x) (fun hx => ?_) ?_; rotate_left; subst x; rotate_right; clear_value x)
    | (extract_lets +onlyGivenNames x; subst x)
    | with_reducible apply Keeps.ite
    | with_reducible apply Keeps.refl
    | fail_if_no_progress (with_reducible refine Keeps.lit ?_ rfl rfl rfl rfl rfl rfl rfl rfl rfl rfl rfl rfl rfl rfl rfl rfl rfl)
    | split

theorem endBinding_keeps {z : Chip} (new : Image) (j : Nat) (s : Chip) (hz : Keeps z s) : Keeps z (endBinding new j s) := by
  refine hz.trans ?_
  clear hz
  unfold endBinding
  repeat' first
    | with_reducible apply setAdmit_keeps
    | with_reducible apply askClose_keeps
    | with_reducible apply Chip_modBat_keeps
    | with_reducible assumption
    | fail_if_no_progress beta_reduce
    | (extract_lets +onlyGivenNames x; refine Keeps.bind (x := x) (fun hx => ?_) ?_; rotate_left; subst x; rotate_right; clear_value x)
    | (extract_lets +onlyGivenNames x; subst x)
    | with_reducible apply Keeps.ite
    | with_reducible apply Keeps.refl

theorem readmit_keeps {z : Chip} (old : Image) (profile j : Nat) (was : Admit) (s : Chip) (hz : Keeps z s) : Keeps z (readmit old profile j was s) := by
  refine hz.trans ?_
  clear hz
  unfold readmit
  repeat' first
    | with_reducible apply startAdmission_keeps
    | with_reducible assumption
    | with_reducible apply Keeps.ite
    | with_reducible apply Keeps.refl

theorem showRoles_keeps {z : Chip} (s : Chip) (hz : Keeps z s) : Keeps z (showRoles s) := by
  refine hz.trans ?_
  clear hz
  unfold showRoles
  repeat' first
    | with_reducible apply Chip_modPort_keeps
    | with_reducible assumption
    | with_reducible apply Keeps.modPort
    | exact fun q h => ⟨h.queue, h.replies⟩
    | fail_if_no_progress beta_reduce
    | with_reducible apply Keeps.refl

theorem dacFromImage_keeps {z : Chip} (n : Nat) (s : Chip) (hz : Keeps z s) : Keeps z (dacFromImage n s) := by
  refine hz.trans ?_
  clear hz
  unfold dacFromImage
  repeat' first
    | with_reducible apply Chip_modCh_keeps
    | with_reducible assumption
    | fail_if_no_progress beta_reduce
    | with_reducible apply Keeps.refl

theorem soaFromImage_keeps {z : Chip} (old : Image) (n : Nat) (s : Chip) (hz : Keeps z s) : Keeps z (soaFromImage old n s) := by
  refine hz.trans ?_
  clear hz
  unfold soaFromImage
  repeat' first
    | with_reducible apply setLive_keeps
    | with_reducible apply Chip_modCh_keeps
    | with_reducible assumption
    | fail_if_no_progress beta_reduce
    | (extract_lets +onlyGivenNames x; refine Keeps.bind (x := x) (fun hx => ?_) ?_; rotate_left; subst x; rotate_right; clear_value x)
    | (extract_lets +onlyGivenNames x; subst x)
    | with_reducible apply Keeps.ite
    | with_reducible apply Keeps.refl

theorem roleChange_keeps {z : Chip} (old : Image) (n : Nat) (s : Chip) (hz : Keeps z s) : Keeps z (roleChange old n s) := by
  refine hz.trans ?_
  clear hz
  unfold roleChange
  repeat' first
    | with_reducible apply showRoles_keeps
    | with_reducible apply chIdle_keeps
    | with_reducible apply driversOff_keeps
    | with_reducible apply Chip_modCh_keeps
    | with_reducible assumption
    | fail_if_no_progress beta_reduce
    | (extract_lets +onlyGivenNames x; refine Keeps.bind (x := x) (fun hx => ?_) ?_; rotate_left; subst x; rotate_right; clear_value x)
    | (extract_lets +onlyGivenNames x; subst x)
    | with_reducible apply Keeps.ite
    | with_reducible apply Keeps.refl
    | fail_if_no_progress (with_reducible refine Keeps.lit ?_ rfl rfl rfl rfl rfl rfl rfl rfl rfl rfl rfl rfl rfl rfl rfl rfl rfl)
    | split

theorem railFromImage_keeps {z : Chip} (k : Nat) (s : Chip) (hz : Keeps z s) : Keeps z (railFromImage k s) := by
  refine hz.trans ?_
  clear hz
  unfold railFromImage
  repeat' first
    | with_reducible apply attnRail_keeps
    | with_reducible apply setRailState_keeps
    | with_reducible apply Chip_modRail_keeps
    | with_reducible apply Chip_setRail_keeps
    | with_reducible assumption
    | fail_if_no_progress beta_reduce
    | (extract_lets +onlyGivenNames x; refine Keeps.bind (x := x) (fun hx => ?_) ?_; rotate_left; subst x; rotate_right; clear_value x)
    | (extract_lets +onlyGivenNames x; subst x)
    | with_reducible apply Keeps.ite
    | with_reducible apply Keeps.refl
    | fail_if_no_progress (with_reducible refine Keeps.lit ?_ rfl rfl rfl rfl rfl rfl rfl rfl rfl rfl rfl rfl rfl rfl rfl rfl rfl)
    | split

theorem rectFromImage_keeps {z : Chip} (old : Image) (n : Nat) (s : Chip) (hz : Keeps z s) : Keeps z (rectFromImage old n s) := by
  refine hz.trans ?_
  clear hz
  unfold rectFromImage
  repeat' first
    | with_reducible apply Chip_modRect_keeps
    | with_reducible assumption
    | fail_if_no_progress beta_reduce
    | with_reducible apply Keeps.ite
    | with_reducible apply Keeps.refl

theorem linkFromImage_keeps {z : Chip} (old : Image) (n : Nat) (s : Chip) (hz : Keeps z s) : Keeps z (linkFromImage old n s) := by
  refine hz.trans ?_
  clear hz
  unfold linkFromImage
  repeat' first
    | with_reducible apply setLinkState_keeps
    | with_reducible apply refuseBurst_keeps
    | with_reducible apply endGrant_keeps
    | with_reducible apply Chip_setBurst_keeps
    | with_reducible apply Chip_modLink_keeps
    | with_reducible apply Chip_setLink_keeps
    | with_reducible assumption
    | fail_if_no_progress beta_reduce
    | (extract_lets +onlyGivenNames x; refine Keeps.bind (x := x) (fun hx => ?_) ?_; rotate_left; subst x; rotate_right; clear_value x)
    | with_reducible apply Keeps.ite
    | with_reducible apply Keeps.refl
    | fail_if_no_progress (with_reducible refine Keeps.lit ?_ rfl rfl rfl rfl rfl rfl rfl rfl rfl rfl rfl rfl rfl rfl rfl rfl rfl)
    | split

theorem seqFromImage_keeps {z : Chip} (old : Image) (k : Nat) (s : Chip) (hz : Keeps z s) : Keeps z (seqFromImage old k s) := by
  refine hz.trans ?_
  clear hz
  unfold seqFromImage
  repeat' first
    | with_reducible apply seqZero_keeps
    | with_reducible apply seqHalt_keeps
    | with_reducible apply Chip_modSeq_keeps
    | with_reducible assumption
    | fail_if_no_progress beta_reduce
    | (extract_lets +onlyGivenNames x; refine Keeps.bind (x := x) (fun hx => ?_) ?_; rotate_left; subst x; rotate_right; clear_value x)
    | (extract_lets +onlyGivenNames x; subst x)
    | with_reducible apply Keeps.ite
    | with_reducible apply Keeps.refl

theorem calKept_keeps {z : Chip} (o : Nat) (s : Chip) (hz : Keeps z s) : Keeps z (calKept o s) := by
  refine hz.trans ?_
  clear hz
  unfold calKept
  repeat' first
    | with_reducible apply Chip_modMeter_keeps
    | with_reducible assumption
    | with_reducible exact rfl
    | fail_if_no_progress beta_reduce
    | with_reducible apply Keeps.refl

theorem calFromImage_keeps {z : Chip} (had : Bool) (o : Nat) (s : Chip) (hz : Keeps z s) : Keeps z (calFromImage had o s) := by
  refine hz.trans ?_
  clear hz
  unfold calFromImage
  repeat' first
    | with_reducible apply calKept_keeps
    | with_reducible apply Chip_modMeter_keeps
    | with_reducible assumption
    | with_reducible exact rfl
    | fail_if_no_progress beta_reduce
    | (extract_lets +onlyGivenNames x; refine Keeps.bind (x := x) (fun hx => ?_) ?_; rotate_left; subst x; rotate_right; clear_value x)
    | (extract_lets +onlyGivenNames x; subst x)
    | with_reducible apply Keeps.ite
    | with_reducible apply Keeps.refl

theorem monFromImage_keeps {z : Chip} (old : Image) (m : Nat) (s : Chip) (hz : Keeps z s) : Keeps z (monFromImage old m s) := by
  refine hz.trans ?_
  clear hz
  unfold monFromImage
  repeat' first
    | with_reducible apply Chip_modMon_keeps
    | with_reducible assumption
    | fail_if_no_progress beta_reduce
    | (extract_lets +onlyGivenNames x; subst x)
    | with_reducible apply Keeps.ite
    | with_reducible apply Keeps.refl
    | fail_if_no_progress (with_reducible refine Keeps.lit ?_ rfl rfl rfl rfl rfl rfl rfl rfl rfl rfl rfl rfl rfl rfl rfl rfl rfl)
    | split

theorem periodFromImage_keeps {z : Chip} (first : Bool) (s : Chip) (hz : Keeps z s) : Keeps z (periodFromImage first s) := by
  refine hz.trans ?_
  clear hz
  unfold periodFromImage
  repeat' first
    | with_reducible apply Chip_setLedger_keeps
    | with_reducible assumption
    | fail_if_no_progress beta_reduce
    | with_reducible apply Keeps.ite
    | with_reducible apply Keeps.refl

theorem bookFromImage_keeps {z : Chip} (s : Chip) (hz : Keeps z s) : Keeps z (bookFromImage s) := by
  refine hz.trans ?_
  clear hz
  unfold bookFromImage
  repeat' first
    | with_reducible assumption
    | fail_if_no_progress beta_reduce
    | (extract_lets +onlyGivenNames x; subst x)
    | with_reducible apply Keeps.refl
    | fail_if_no_progress (with_reducible refine Keeps.lit ?_ rfl rfl rfl rfl rfl rfl rfl rfl rfl rfl rfl rfl rfl rfl rfl rfl rfl)

theorem scanFromImage_keeps {z : Chip} (was : Nat → Bool) (i : Nat) (s : Chip) (hz : Keeps z s) : Keeps z (scanFromImage was i s) := by
  refine hz.trans ?_
  clear hz
  unfold scanFromImage
  repeat' first
    | with_reducible assumption
    | (extract_lets +onlyGivenNames x; subst x)
    | with_reducible apply Keeps.ite
    | with_reducible apply Keeps.refl
    | fail_if_no_progress (with_reducible refine Keeps.lit ?_ rfl rfl rfl rfl rfl rfl rfl rfl rfl rfl rfl rfl rfl rfl rfl rfl rfl)

theorem applyImage_keeps {z : Chip} (new : Image) (s : Chip) (hz : Keeps z s) : Keeps z (applyImage new s) := by
  refine hz.trans ?_
  clear hz
  unfold applyImage
  repeat' first
    | with_reducible apply scanFromImage_keeps
    | with_reducible apply bookFromImage_keeps
    | with_reducible apply periodFromImage_keeps
    | with_reducible apply monFromImage_keeps
    | with_reducible apply calFromImage_keeps
    | with_reducible apply seqFromImage_keeps
    | with_reducible apply linkFromImage_keeps
    | with_reducible apply rectFromImage_keeps
    | with_reducible apply railFromImage_keeps
    | with_reducible apply roleChange_keeps
    | with_reducible apply soaFromImage_keeps
    | with_reducible apply dacFromImage_keeps
    | with_reducible apply readmit_keeps
    | with_reducible apply endBinding_keeps
    | with_reducible apply disarmWd1_keeps
    | with_reducible apply linkRestart_keeps
    | with_reducible apply judgeReady_keeps
    | with_reducible assumption
    | (with_reducible apply Keeps.forEach; intro _ _)
    | fail_if_no_progress beta_reduce
    | with_reducible apply Keeps.ite
    | with_reducible apply Keeps.refl
    | fail_if_no_progress (with_reducible refine Keeps.lit ?_ rfl rfl rfl rfl rfl rfl rfl rfl rfl rfl rfl rfl rfl rfl rfl rfl rfl)

theorem endStage_keeps {z : Chip} (s : Chip) (hz : Keeps z s) : Keeps z (endStage s) := by
  refine hz.trans ?_
  clear hz
  unfold endStage
  repeat' first
    | with_reducible apply abandonStage_keeps
    | with_reducible apply closeStage_keeps
    | with_reducible assumption
    | with_reducible apply Keeps.ite
    | with_reducible apply Keeps.refl

theorem cfgApply_keeps {z : Chip} (s : Chip) (hz : Keeps z s) : Keeps z (cfgApply s) := by
  refine hz.trans ?_
  clear hz
  unfold cfgApply
  repeat' first
    | with_reducible apply endStage_keeps
    | with_reducible apply applyImage_keeps
    | with_reducible apply postCfg_keeps
    | with_reducible apply Chip_modCfg_keeps
    | with_reducible assumption
    | fail_if_no_progress beta_reduce
    | (extract_lets +onlyGivenNames x; refine Keeps.bind (x := x) (fun hx => ?_) ?_; rotate_left; subst x; rotate_right; clear_value x)
    | with_reducible apply Keeps.ite
    | with_reducible apply Keeps.refl
    | fail_if_no_progress (with_reducible refine Keeps.lit ?_ rfl rfl rfl rfl rfl rfl rfl rfl rfl rfl rfl rfl rfl rfl rfl rfl rfl)
    | split

theorem Chip_modOst_keeps {z : Chip} (s : Chip) (f : Ostler → Ostler) (hz : Keeps z s) : Keeps z (Chip.modOst s f) := by
  refine hz.trans ?_
  clear hz
  unfold Chip.modOst
  repeat' first
    | with_reducible assumption
    | with_reducible apply Keeps.refl
    | fail_if_no_progress (with_reducible refine Keeps.lit ?_ rfl rfl rfl rfl rfl rfl rfl rfl rfl rfl rfl rfl rfl rfl rfl rfl rfl)

theorem setErrn_keeps {z : Chip} (s : Chip) (hz : Keeps z s) : Keeps z (setErrn s) := by
  refine hz.trans ?_
  clear hz
  unfold setErrn
  repeat' first
    | with_reducible assumption
    | (extract_lets +onlyGivenNames x; subst x)
    | with_reducible apply Keeps.refl
    | fail_if_no_progress (with_reducible refine Keeps.lit ?_ rfl rfl rfl rfl rfl rfl rfl rfl rfl rfl rfl rfl rfl rfl rfl rfl rfl)

theorem blank_bus (k : Nat) : (tget (List.replicate 4 ({} : DsBus)) k).queue.length ≤ 32 := by
  rw [tget, List.getD_eq_getElem?_getD, List.getElem?_replicate]
  split <;> decide

theorem blank_timer (k : Nat) : (tget (List.replicate 16 ({} : CapTimer)) k).fifo.length ≤ 8 := by
  rw [tget, List.getD_eq_getElem?_getD, List.getElem?_replicate]
  split <;> decide

theorem studioLost_keeps {z : Chip} (s : Chip) (hz : Keeps z s) : Keeps z (studioLost s) := by
  refine (discardFwStage_keeps s hz).trans ?_
  unfold studioLost
  dsimp only
  generalize discardFwStage s = x
  exact ⟨fun b => ⟨Nat.zero_le _, Nat.zero_le _, Nat.zero_le _, fun p => by cases p <;> exact ⟨Nat.zero_le _, Nat.zero_le _⟩,
    .nil, fun _ h => (List.not_mem_nil h).elim, b.rollback, rfl, ⟨Nat.zero_le _, Nat.zero_le _, Nat.zero_le _, blank_bus, Nat.zero_le _, blank_timer⟩⟩, fun _ => .refl _, rfl, fun e => ⟨fun h => absurd h (show (0 : Nat) ≠ 0xFFFF by decide), e.kept⟩⟩

theorem goOff_keeps {z : Chip} (cause : Nat) (off : Cause) (s : Chip) (hz : Keeps z s) : Keeps z (goOff cause off s) := by
  refine hz.trans ?_
  clear hz
  unfold goOff
  repeat' first
    | with_reducible apply studioLost_keeps
    | with_reducible apply Chip_modOst_keeps
    | with_reducible apply discharge_keeps
    | with_reducible assumption
    | fail_if_no_progress beta_reduce
    | with_reducible apply Keeps.ite
    | with_reducible apply Keeps.refl

theorem beginWake_keeps {z : Chip} (st : Straps) (s : Chip) (hz : Keeps z s) : Keeps z (beginWake st s) := by
  refine hz.trans ?_
  clear hz
  unfold beginWake
  repeat' first
    | with_reducible apply studioLost_keeps
    | with_reducible apply setErrn_keeps
    | with_reducible apply Chip_modOst_keeps
    | with_reducible apply discharge_keeps
    | with_reducible assumption
    | fail_if_no_progress beta_reduce
    | (extract_lets +onlyGivenNames x; refine Keeps.bind (x := x) (fun hx => ?_) ?_; rotate_left; subst x; rotate_right; clear_value x)
    | (extract_lets +onlyGivenNames x; subst x)
    | with_reducible apply Keeps.refl
    | fail_if_no_progress (with_reducible refine Keeps.lit ?_ rfl rfl rfl rfl rfl rfl rfl rfl rfl rfl rfl rfl rfl rfl rfl rfl rfl)

theorem wakeIfReady_keeps {z : Chip} (st : Straps) (s : Chip) (hz : Keeps z s) : Keeps z (wakeIfReady st s) := by
  refine hz.trans ?_
  clear hz
  unfold wakeIfReady
  repeat' first
    | with_reducible apply beginWake_keeps
    | with_reducible assumption
    | with_reducible apply Keeps.ite
    | with_reducible apply Keeps.refl

theorem requestWake_keeps {z : Chip} (st : Straps) (s : Chip) (hz : Keeps z s) : Keeps z (requestWake st s) := by
  refine hz.trans ?_
  clear hz
  unfold requestWake
  repeat' first
    | with_reducible apply wakeIfReady_keeps
    | with_reducible apply Chip_modOst_keeps
    | with_reducible assumption
    | fail_if_no_progress beta_reduce
    | with_reducible apply Keeps.ite
    | with_reducible apply Keeps.refl
    | fail_if_no_progress (with_reducible refine Keeps.lit ?_ rfl rfl rfl rfl rfl rfl rfl rfl rfl rfl rfl rfl rfl rfl rfl rfl rfl)
    | split

theorem enterDeadStop_keeps {z : Chip} (code tries : Nat) (s : Chip) (hz : Keeps z s) : Keeps z (enterDeadStop code tries s) := by
  refine hz.trans ?_
  clear hz
  unfold enterDeadStop
  repeat' first
    | with_reducible apply goOff_keeps
    | with_reducible apply setErrn_keeps
    | with_reducible apply Chip_modOst_keeps
    | with_reducible assumption
    | fail_if_no_progress beta_reduce
    | with_reducible apply Keeps.ite
    | with_reducible apply Keeps.refl

theorem endInOff_keeps {z : Chip} (s : Chip) (hz : Keeps z s) : Keeps z (endInOff s) := by
  refine hz.trans ?_
  clear hz
  unfold endInOff
  repeat' first
    | with_reducible apply goOff_keeps
    | with_reducible apply setErrn_keeps
    | with_reducible apply Chip_modOst_keeps
    | with_reducible assumption
    | fail_if_no_progress beta_reduce
    | with_reducible apply Keeps.refl

theorem countReset_keeps {z : Chip} (s : Chip) (hz : Keeps z s) : Keeps z (countReset s) := by
  refine hz.trans ?_
  clear hz
  unfold countReset
  repeat' first
    | with_reducible apply writeCounts_keeps
    | with_reducible assumption
    | with_reducible apply Keeps.ite
    | with_reducible apply Keeps.refl
    | fail_if_no_progress (with_reducible refine Keeps.lit ?_ rfl rfl rfl rfl rfl rfl rfl rfl rfl rfl rfl rfl rfl rfl rfl rfl rfl)

theorem fwSlotFails_keeps {z : Chip} (target slot : Nat) (s : Chip) (hz : Keeps z s) : Keeps z (fwSlotFails target slot s) := by
  refine hz.trans ?_
  clear hz
  unfold fwSlotFails
  repeat' first
    | with_reducible apply setFwSlot_keeps
    | with_reducible assumption
    | fail_if_no_progress beta_reduce
    | with_reducible apply Keeps.ite
    | with_reducible apply Keeps.refl

theorem patchVerify_keeps {z : Chip} (s : Chip) (hz : Keeps z s) : Keeps z (patchVerify s) := by
  refine hz.trans ?_
  clear hz
  unfold patchVerify
  repeat' first
    | with_reducible apply fwSlotFails_keeps
    | with_reducible apply Chip_modFw_keeps
    | with_reducible apply setFault_keeps
    | with_reducible assumption
    | fail_if_no_progress beta_reduce
    | (extract_lets +onlyGivenNames x; subst x)
    | with_reducible apply Keeps.ite
    | with_reducible apply Keeps.refl

theorem enterW6_keeps {z : Chip} (s : Chip) (hz : Keeps z s) : Keeps z (enterW6 s) := by
  refine hz.trans ?_
  clear hz
  unfold enterW6
  repeat' first
    | with_reducible apply patchVerify_keeps
    | with_reducible apply countReset_keeps
    | with_reducible apply Chip_modOst_keeps
    | with_reducible apply trialFallback_keeps
    | with_reducible apply discharge_keeps
    | with_reducible apply setFault_keeps
    | with_reducible assumption
    | fail_if_no_progress beta_reduce
    | (extract_lets +onlyGivenNames x; subst x)
    | with_reducible apply Keeps.ite
    | with_reducible apply Keeps.refl
    | fail_if_no_progress (with_reducible refine Keeps.lit ?_ rfl rfl rfl rfl rfl rfl rfl rfl rfl rfl rfl rfl rfl rfl rfl rfl rfl)

theorem chipReset_keeps {z : Chip} (cause source : Nat) (crit : Bool) (s : Chip) (hz : Keeps z s) : Keeps z (chipReset cause source crit s) := by
  refine hz.trans ?_
  clear hz
  unfold chipReset
  repeat' first
    | with_reducible apply enterW6_keeps
    | with_reducible apply studioLost_keeps
    | with_reducible apply setErrn_keeps
    | with_reducible apply Chip_modOst_keeps
    | with_reducible assumption
    | fail_if_no_progress beta_reduce
    | (extract_lets +onlyGivenNames x; subst x)
    | with_reducible apply Keeps.ite
    | with_reducible apply Keeps.refl
    | fail_if_no_progress (with_reducible refine Keeps.lit ?_ rfl rfl rfl rfl rfl rfl rfl rfl rfl rfl rfl rfl rfl rfl rfl rfl rfl)

theorem restoreMeters_keeps {z : Chip} (s : Chip) (hz : Keeps z s) : Keeps z (restoreMeters s) := by
  refine hz.trans ?_
  clear hz
  unfold restoreMeters
  repeat' first
    | with_reducible apply setFault_keeps
    | with_reducible assumption
    | fail_if_no_progress beta_reduce
    | (extract_lets +onlyGivenNames x; refine Keeps.bind (x := x) (fun hx => ?_) ?_; rotate_left; subst x; rotate_right; clear_value x)
    | (extract_lets +onlyGivenNames x; subst x)
    | with_reducible apply Keeps.refl
    | fail_if_no_progress (with_reducible refine Keeps.lit ?_ rfl rfl rfl rfl rfl rfl rfl rfl rfl rfl rfl rfl rfl rfl rfl rfl rfl)
    | split

theorem restoreLedger_keeps {z : Chip} (s : Chip) (hz : Keeps z s) : Keeps z (restoreLedger s) := by
  refine hz.trans ?_
  clear hz
  unfold restoreLedger
  repeat' first
    | with_reducible apply nearFullStep_keeps
    | with_reducible apply Chip_setLedger_keeps
    | with_reducible assumption
    | fail_if_no_progress beta_reduce
    | with_reducible apply Keeps.ite
    | with_reducible apply Keeps.refl

theorem restoreSessions_keeps {z : Chip} (s : Chip) (hz : Keeps z s) : Keeps z (restoreSessions s) := by
  refine hz.trans ?_
  clear hz
  unfold restoreSessions
  repeat' first
    | with_reducible apply Chip_setLedger_keeps
    | with_reducible assumption
    | fail_if_no_progress beta_reduce
    | with_reducible apply Keeps.refl

theorem imageAtWake_keeps {z : Chip} (new : Image) (s : Chip) (hz : Keeps z s) : Keeps z (imageAtWake new s) := by
  refine hz.trans ?_
  clear hz
  unfold imageAtWake
  repeat' first
    | with_reducible apply bookFromImage_keeps
    | with_reducible apply monFromImage_keeps
    | with_reducible apply calKept_keeps
    | with_reducible apply linkFromImage_keeps
    | with_reducible apply railFromImage_keeps
    | with_reducible apply dacFromImage_keeps
    | with_reducible apply seqBegin_keeps
    | with_reducible assumption
    | (with_reducible apply Keeps.forEach; intro _ _)
    | fail_if_no_progress beta_reduce
    | (extract_lets +onlyGivenNames x; subst x)
    | with_reducible apply Keeps.ite
    | with_reducible apply Keeps.refl
    | fail_if_no_progress (with_reducible refine Keeps.lit ?_ rfl rfl rfl rfl rfl rfl rfl rfl rfl rfl rfl rfl rfl rfl rfl rfl rfl)

theorem configAtWake_keeps {z : Chip} (s : Chip) (hz : Keeps z s) : Keeps z (configAtWake s) := by
  refine hz.trans ?_
  clear hz
  unfold configAtWake
  repeat' first
    | with_reducible apply imageAtWake_keeps
    | with_reducible apply Chip_modCfg_keeps
    | with_reducible apply setFault_keeps
    | with_reducible assumption
    | fail_if_no_progress beta_reduce
    | (extract_lets +onlyGivenNames x; refine Keeps.bind (x := x) (fun hx => ?_) ?_; rotate_left; subst x; rotate_right; clear_value x)
    | (extract_lets +onlyGivenNames x; subst x)
    | with_reducible apply Keeps.ite
    | with_reducible apply Keeps.refl
    | fail_if_no_progress (with_reducible refine Keeps.lit ?_ rfl rfl rfl rfl rfl rfl rfl rfl rfl rfl rfl rfl rfl rfl rfl rfl rfl)
    | split

theorem yardVerify_keeps {z : Chip} (s : Chip) (hz : Keeps z s) : Keeps z (yardVerify s) := by
  refine hz.trans ?_
  clear hz
  unfold yardVerify
  repeat' first
    | with_reducible apply fwSlotFails_keeps
    | with_reducible apply fwRecord_keeps
    | with_reducible apply Chip_modFw_keeps
    | with_reducible apply setFault_keeps
    | with_reducible assumption
    | fail_if_no_progress beta_reduce
    | (extract_lets +onlyGivenNames x; refine Keeps.bind (x := x) (fun hx => ?_) ?_; rotate_left; subst x; rotate_right; clear_value x)
    | (extract_lets +onlyGivenNames x; subst x)
    | with_reducible apply Keeps.ite
    | with_reducible apply Keeps.refl

theorem armWd0_keeps {z : Chip} (s : Chip) (hz : Keeps z s) : Keeps z (armWd0 s) := by
  refine hz.trans ?_
  clear hz
  unfold armWd0
  repeat' first
    | with_reducible apply startCycle_keeps
    | with_reducible apply Chip_modDog_keeps
    | with_reducible assumption
    | fail_if_no_progress beta_reduce
    | with_reducible apply Keeps.ite
    | with_reducible apply Keeps.refl

theorem dogsAtWake_keeps {z : Chip} (s : Chip) (hz : Keeps z s) : Keeps z (dogsAtWake s) := by
  refine hz.trans ?_
  clear hz
  unfold dogsAtWake
  repeat' first
    | with_reducible apply armWd0_keeps
    | with_reducible apply newChallenge_keeps
    | with_reducible apply Chip_modDog_keeps
    | with_reducible assumption
    | fail_if_no_progress beta_reduce
    | with_reducible apply Keeps.refl

theorem supplySources_keeps {z : Chip} (s : Chip) (hz : Keeps z s) : Keeps z (supplySources s) := by
  refine hz.trans ?_
  clear hz
  unfold supplySources
  repeat' first
    | with_reducible apply evalFault_keeps
    | with_reducible assumption
    | with_reducible apply Keeps.refl

theorem readRecord_keeps {z : Chip} (s : Chip) (hz : Keeps z s) : Keeps z (readRecord s) := by
  refine hz.trans ?_
  clear hz
  unfold readRecord
  repeat' first
    | with_reducible apply Chip_modOst_keeps
    | with_reducible apply setFault_keeps
    | with_reducible assumption
    | fail_if_no_progress beta_reduce
    | with_reducible apply Keeps.ite
    | with_reducible apply Keeps.refl

theorem tellActivation_keeps {z : Chip} (s : Chip) (hz : Keeps z s) : Keeps z (tellActivation s) := by
  refine hz.trans ?_
  clear hz
  unfold tellActivation
  repeat' first
    | with_reducible apply fwRecord_keeps
    | with_reducible apply Chip_modFw_keeps
    | with_reducible apply postFw_keeps
    | with_reducible assumption
    | fail_if_no_progress beta_reduce
    | (extract_lets +onlyGivenNames x; refine Keeps.bind (x := x) (fun hx => ?_) ?_; rotate_left; subst x; rotate_right; clear_value x)
    | with_reducible apply Keeps.ite
    | with_reducible apply Keeps.refl
    | fail_if_no_progress (with_reducible refine Keeps.lit ?_ rfl rfl rfl rfl rfl rfl rfl rfl rfl rfl rfl rfl rfl rfl rfl rfl rfl)
    | split

theorem retained_keeps {z : Chip} (s : Chip) (hz : Keeps z s) :
    Keeps z { s with mode := { s.mode with epoch := s.pair.me.retEpoch } } := hz.trans
  ⟨fun b => ⟨b.events, b.recorder, b.energy, b.ports, b.sticky, b.sources, b.rollback, b.sram, b.depths⟩,
    fun _ => .refl _, rfl, fun e => ⟨e.kept, e.kept⟩⟩

theorem commitWake_keeps {z : Chip} (s : Chip) (hz : Keeps z s) : Keeps z (commitWake s) := by
  have k := retained_keeps s hz
  unfold commitWake
  dsimp only
  split
  · apply wakeCommit_keeps
    apply startRole_keeps
    exact k
  · refine Chip_modMe_keeps _ _ (by with_reducible exact rfl) (Chip_modPartner_keeps _ _ (wakeCommit_keeps _ ?_))
    exact .lit k rfl rfl rfl rfl rfl rfl rfl rfl rfl rfl rfl rfl rfl rfl rfl rfl rfl

theorem tellDiscarded_keeps {z : Chip} (s : Chip) (hz : Keeps z s) : Keeps z (tellDiscarded s) := by
  refine hz.trans ?_
  clear hz
  unfold tellDiscarded
  repeat' first
    | with_reducible apply Chip_modCfg_keeps
    | with_reducible apply setFault_keeps
    | with_reducible assumption
    | fail_if_no_progress beta_reduce
    | with_reducible apply Keeps.ite
    | with_reducible apply Keeps.refl

theorem wakeDone_keeps {z : Chip} (started : Bool) (s : Chip) (hz : Keeps z s) : Keeps z (wakeDone started s) := by
  refine hz.trans ?_
  clear hz
  unfold wakeDone
  repeat' first
    | with_reducible apply tellDiscarded_keeps
    | with_reducible apply commitWake_keeps
    | with_reducible apply tellActivation_keeps
    | with_reducible apply readRecord_keeps
    | with_reducible apply supplySources_keeps
    | with_reducible apply dogsAtWake_keeps
    | with_reducible apply yardVerify_keeps
    | with_reducible apply configAtWake_keeps
    | with_reducible apply restoreSessions_keeps
    | with_reducible apply restoreLedger_keeps
    | with_reducible apply restoreMeters_keeps
    | with_reducible apply setErrn_keeps
    | with_reducible apply Chip_modOst_keeps
    | with_reducible apply Chip_modFw_keeps
    | with_reducible apply setFault_keeps
    | with_reducible apply recPost_keeps
    | with_reducible assumption
    | fail_if_no_progress beta_reduce
    | (extract_lets +onlyGivenNames x; subst x)
    | with_reducible apply Keeps.ite
    | with_reducible apply Keeps.refl
    | fail_if_no_progress (with_reducible refine Keeps.lit ?_ rfl rfl rfl rfl rfl rfl rfl rfl rfl rfl rfl rfl rfl rfl rfl rfl rfl)

theorem bodyFwInfo_keeps {z : Chip} (rq : Request) (r : ReqRef) (s : Chip) (hz : Keeps z s) : Keeps z (bodyFwInfo rq r s).2 := by
  refine hz.trans ?_
  clear hz
  unfold bodyFwInfo
  repeat' first
    | with_reducible assumption
    | fail_if_no_progress beta_reduce
    | with_reducible apply Keeps.refl

theorem fwWordReply_keeps {z : Chip} (st : Status) (s : Chip) (hz : Keeps z s) : Keeps z (fwWordReply st s).2 := by
  refine hz.trans ?_
  clear hz
  unfold fwWordReply
  repeat' first
    | with_reducible assumption
    | with_reducible apply Keeps.refl

theorem bodyFwStageBegin_keeps {z : Chip} (rq : Request) (r : ReqRef) (s : Chip) (hz : Keeps z s) : Keeps z (bodyFwStageBegin rq r s).2 := by
  refine hz.trans ?_
  clear hz
  unfold bodyFwStageBegin
  repeat' first
    | with_reducible apply fwWordReply_keeps
    | with_reducible apply setFwSlot_keeps
    | with_reducible apply Chip_modFw_keeps
    | with_reducible assumption
    | fail_if_no_progress beta_reduce
    | (extract_lets +onlyGivenNames x; refine Keeps.bind (x := x) (fun hx => ?_) ?_; rotate_left; subst x; rotate_right; clear_value x)
    | (extract_lets +onlyGivenNames x; subst x)
    | with_reducible apply Keeps.ite
    | with_reducible apply Keeps.refl
    | fail_if_no_progress (with_reducible refine Keeps.lit ?_ rfl rfl rfl rfl rfl rfl rfl rfl rfl rfl rfl rfl rfl rfl rfl rfl rfl)
    | split

theorem bodyFwStageWrite_keeps {z : Chip} (rq : Request) (r : ReqRef) (s : Chip) (hz : Keeps z s) : Keeps z (bodyFwStageWrite rq r s).2 := by
  refine hz.trans ?_
  clear hz
  unfold bodyFwStageWrite
  repeat' first
    | with_reducible apply fwWordReply_keeps
    | with_reducible apply mramWritten_keeps
    | with_reducible apply Chip_modFw_keeps
    | with_reducible assumption
    | fail_if_no_progress beta_reduce
    | (extract_lets +onlyGivenNames x; refine Keeps.bind (x := x) (fun hx => ?_) ?_; rotate_left; subst x; rotate_right; clear_value x)
    | (extract_lets +onlyGivenNames x; subst x)
    | with_reducible apply Keeps.ite
    | with_reducible apply Keeps.refl
    | fail_if_no_progress (with_reducible refine Keeps.lit ?_ rfl rfl rfl rfl rfl rfl rfl rfl rfl rfl rfl rfl rfl rfl rfl rfl rfl)
    | split

theorem bodyFwStageEnd_keeps {z : Chip} (rq : Request) (r : ReqRef) (s : Chip) (hz : Keeps z s) : Keeps z (bodyFwStageEnd rq r s).2 := by
  refine hz.trans ?_
  clear hz
  unfold bodyFwStageEnd
  repeat' first
    | with_reducible apply fwWordReply_keeps
    | with_reducible apply Chip_modFw_keeps
    | with_reducible assumption
    | fail_if_no_progress beta_reduce
    | with_reducible apply Keeps.ite
    | with_reducible apply Keeps.refl
    | fail_if_no_progress (with_reducible refine Keeps.lit ?_ rfl rfl rfl rfl rfl rfl rfl rfl rfl rfl rfl rfl rfl rfl rfl rfl rfl)
    | split

theorem fwVerifyDone_keeps {z : Chip} (eccBad : Bool) (s : Chip) (hz : Keeps z s) : Keeps z (fwVerifyDone eccBad s) := by
  refine hz.trans ?_
  clear hz
  unfold fwVerifyDone
  repeat' first
    | with_reducible apply setFwSlot_keeps
    | with_reducible apply Chip_modFw_keeps
    | with_reducible apply postFw_keeps
    | with_reducible assumption
    | fail_if_no_progress beta_reduce
    | (extract_lets +onlyGivenNames x; refine Keeps.bind (x := x) (fun hx => ?_) ?_; rotate_left; subst x; rotate_right; clear_value x)
    | (extract_lets +onlyGivenNames x; subst x)
    | with_reducible apply Keeps.ite
    | with_reducible apply Keeps.refl

theorem bodyActivate_keeps {z : Chip} (op : Nat) (rq : Request) (r : ReqRef) (s : Chip) (hz : Keeps z s) : Keeps z (bodyActivate op rq r s).2 := by
  refine hz.trans ?_
  clear hz
  unfold bodyActivate
  repeat' first
    | with_reducible apply offerBox_keeps
    | with_reducible assumption
    | fail_if_no_progress beta_reduce
    | (extract_lets +onlyGivenNames x; subst x)
    | with_reducible apply Keeps.ite
    | with_reducible apply Keeps.refl
    | fail_if_no_progress (with_reducible refine Keeps.lit ?_ rfl rfl rfl rfl rfl rfl rfl rfl rfl rfl rfl rfl rfl rfl rfl rfl rfl)
    | split

theorem startTrial_keeps {z : Chip} (t : Nat) (r : ReqRef) (s : Chip) (hz : Keeps z s) : Keeps z (startTrial t r s) := by
  refine hz.trans ?_
  clear hz
  unfold startTrial
  repeat' first
    | with_reducible apply Chip_modFw_keeps
    | with_reducible assumption
    | fail_if_no_progress beta_reduce
    | with_reducible apply Keeps.ite
    | with_reducible apply Keeps.refl

theorem confirmOtp_keeps (s : Chip) (n : Nat) :
    Keeps s { s with otp := { s.otp with rollback := min 64 (max s.otp.rollback n) } } :=
  ⟨fun b => ⟨b.events, b.recorder, b.energy, b.ports, b.sticky, b.sources, Nat.min_le_left _ _, b.sram, b.depths⟩,
    fun b => ⟨by have := b.rollback; show _ ≤ min 64 (max _ _); omega, id⟩, rfl, id⟩

theorem confirmFw_keeps {z : Chip} (t : Nat) (s : Chip) (hz : Keeps z s) : Keeps z (confirmFw t s) := by
  refine hz.trans ?_
  unfold confirmFw
  dsimp only
  repeat' first
    | with_reducible apply confirmOtp_keeps
    | with_reducible apply fwRecord_keeps
    | with_reducible apply Chip_modFw_keeps
    | with_reducible apply postFw_keeps
    | with_reducible assumption
    | fail_if_no_progress beta_reduce
    | with_reducible apply Keeps.ite

theorem applyActivate_keeps {z : Chip} (op : Nat) (e : BoxEntry) (s : Chip) (hz : Keeps z s) : Keeps z (applyActivate op e s) := by
  refine hz.trans ?_
  clear hz
  unfold applyActivate
  repeat' first
    | with_reducible apply confirmFw_keeps
    | with_reducible apply startTrial_keeps
    | with_reducible apply setFault_keeps
    | with_reducible apply formReply_keeps
    | with_reducible assumption
    | (extract_lets +onlyGivenNames x; refine Keeps.bind (x := x) (fun hx => ?_) ?_; rotate_left; subst x; rotate_right; clear_value x)
    | (extract_lets +onlyGivenNames x; subst x)
    | with_reducible apply Keeps.ite
    | with_reducible apply Keeps.refl

theorem activateRestart_keeps {z : Chip} (s : Chip) (hz : Keeps z s) : Keeps z (activateRestart s) := by
  refine hz.trans ?_
  clear hz
  unfold activateRestart
  repeat' first
    | with_reducible apply chipReset_keeps
    | with_reducible apply yardStopNow_keeps
    | with_reducible apply Chip_modFw_keeps
    | with_reducible assumption
    | fail_if_no_progress beta_reduce
    | (extract_lets +onlyGivenNames x; refine Keeps.bind (x := x) (fun hx => ?_) ?_; rotate_left; subst x; rotate_right; clear_value x)
    | with_reducible apply Keeps.ite
    | with_reducible apply Keeps.refl
    | fail_if_no_progress (with_reducible refine Keeps.lit ?_ rfl rfl rfl rfl rfl rfl rfl rfl rfl rfl rfl rfl rfl rfl rfl rfl rfl)
    | split

theorem holdInRecovery_keeps {z : Chip} (s : Chip) (hz : Keeps z s) : Keeps z (holdInRecovery s) := by
  refine hz.trans ?_
  clear hz
  unfold holdInRecovery
  repeat' first
    | with_reducible apply dropShelf_keeps
    | with_reducible apply commitMode_keeps
    | with_reducible apply clearIntents_keeps
    | with_reducible assumption
    | (extract_lets +onlyGivenNames x; refine Keeps.bind (x := x) (fun hx => ?_) ?_; rotate_left; subst x; rotate_right; clear_value x)
    | (extract_lets +onlyGivenNames x; subst x)
    | with_reducible apply Keeps.ite
    | with_reducible apply Keeps.refl
    | fail_if_no_progress (with_reducible refine Keeps.lit ?_ rfl rfl rfl rfl rfl rfl rfl rfl rfl rfl rfl rfl rfl rfl rfl rfl rfl)

theorem yardRestart_keeps {z : Chip} (s : Chip) (hz : Keeps z s) : Keeps z (yardRestart s) := by
  refine hz.trans ?_
  clear hz
  unfold yardRestart
  repeat' first
    | with_reducible apply holdInRecovery_keeps
    | with_reducible apply tellActivation_keeps
    | with_reducible apply armWd0_keeps
    | with_reducible apply yardVerify_keeps
    | with_reducible apply postHallReset_keeps
    | with_reducible apply Chip_modFw_keeps
    | with_reducible apply Chip_modNet_keeps
    | with_reducible assumption
    | fail_if_no_progress beta_reduce
    | (extract_lets +onlyGivenNames x; refine Keeps.bind (x := x) (fun hx => ?_) ?_; rotate_left; subst x; rotate_right; clear_value x)
    | (extract_lets +onlyGivenNames x; subst x)
    | with_reducible apply Keeps.ite
    | with_reducible apply Keeps.refl
    | fail_if_no_progress (with_reducible refine Keeps.lit ?_ rfl rfl rfl rfl rfl rfl rfl rfl rfl rfl rfl rfl rfl rfl rfl rfl rfl)
    | split

theorem Chip_modHeat_keeps {z : Chip} (s : Chip) (f : Heat → Heat) (hz : Keeps z s) : Keeps z (Chip.modHeat s f) := by
  refine hz.trans ?_
  clear hz
  unfold Chip.modHeat
  repeat' first
    | with_reducible assumption
    | with_reducible apply Keeps.refl
    | fail_if_no_progress (with_reducible refine Keeps.lit ?_ rfl rfl rfl rfl rfl rfl rfl rfl rfl rfl rfl rfl rfl rfl rfl rfl rfl)

theorem shutdownStep_keeps {z : Chip} (on : Bool) (s : Chip) (hz : Keeps z s) : Keeps z (shutdownStep on s) := by
  refine hz.trans ?_
  clear hz
  unfold shutdownStep
  repeat' first
    | with_reducible apply beginHandover_keeps
    | with_reducible apply Chip_modMe_keeps
    | with_reducible apply setFault_keeps
    | with_reducible apply setLive_keeps
    | with_reducible assumption
    | with_reducible exact rfl
    | fail_if_no_progress beta_reduce
    | (extract_lets +onlyGivenNames x; refine Keeps.bind (x := x) (fun hx => ?_) ?_; rotate_left; subst x; rotate_right; clear_value x)
    | with_reducible apply Keeps.ite
    | with_reducible apply Keeps.refl

theorem backstop_keeps {z : Chip} (s : Chip) (hz : Keeps z s) : Keeps z (backstop s) := by
  refine hz.trans ?_
  clear hz
  unfold backstop
  repeat' first
    | with_reducible apply Chip_modOst_keeps
    | with_reducible apply startPowerDown_keeps
    | with_reducible assumption
    | fail_if_no_progress beta_reduce
    | (extract_lets +onlyGivenNames x; refine Keeps.bind (x := x) (fun hx => ?_) ?_; rotate_left; subst x; rotate_right; clear_value x)
    | (extract_lets +onlyGivenNames x; subst x)
    | with_reducible apply Keeps.ite
    | with_reducible apply Keeps.refl
    | fail_if_no_progress (with_reducible refine Keeps.lit ?_ rfl rfl rfl rfl rfl rfl rfl rfl rfl rfl rfl rfl rfl rfl rfl rfl rfl)

theorem rcTrim_keeps {z : Chip} (s : Chip) (hz : Keeps z s) : Keeps z (rcTrim s) := by
  refine hz.trans ?_
  clear hz
  unfold rcTrim
  repeat' first
    | with_reducible apply Chip_modHeat_keeps
    | with_reducible assumption
    | fail_if_no_progress beta_reduce
    | (extract_lets +onlyGivenNames x; subst x)
    | with_reducible apply Keeps.ite
    | with_reducible apply Keeps.refl

theorem nextSample_keeps {z : Chip} (s : Chip) (hz : Keeps z s) : Keeps z (nextSample s) := by
  refine hz.trans ?_
  clear hz
  unfold nextSample
  repeat' first
    | with_reducible apply Chip_modHeat_keeps
    | with_reducible assumption
    | fail_if_no_progress beta_reduce
    | with_reducible apply Keeps.ite
    | with_reducible apply Keeps.refl

theorem sampleAll_keeps {z : Chip} (counts : List Nat) (s : Chip) (hz : Keeps z s) : Keeps z (sampleAll counts s) := by
  refine hz.trans ?_
  clear hz
  unfold sampleAll
  repeat' first
    | with_reducible apply nextSample_keeps
    | with_reducible apply rcTrim_keeps
    | with_reducible apply shutdownStep_keeps
    | with_reducible apply Chip_modHeat_keeps
    | with_reducible apply Chip_modOst_keeps
    | with_reducible apply evalFault_keeps
    | with_reducible assumption
    | (with_reducible apply Keeps.forEach; intro _ _)
    | fail_if_no_progress beta_reduce
    | with_reducible apply Keeps.ite
    | with_reducible apply Keeps.refl

theorem tempSample_keeps {z : Chip} (counts : List Nat) (s : Chip) (hz : Keeps z s) : Keeps z (tempSample counts s) := by
  refine hz.trans ?_
  clear hz
  unfold tempSample
  repeat' first
    | with_reducible apply sampleAll_keeps
    | with_reducible apply backstop_keeps
    | with_reducible assumption
    | (extract_lets +onlyGivenNames x; refine Keeps.bind (x := x) (fun hx => ?_) ?_; rotate_left; subst x; rotate_right; clear_value x)
    | with_reducible apply Keeps.ite
    | with_reducible apply Keeps.refl

theorem throttleTick_keeps {z : Chip} (s : Chip) (hz : Keeps z s) : Keeps z (throttleTick s) := by
  refine hz.trans ?_
  clear hz
  unfold throttleTick
  repeat' first
    | with_reducible assumption
    | (extract_lets +onlyGivenNames x; subst x)
    | with_reducible apply Keeps.refl
    | fail_if_no_progress (with_reducible refine Keeps.lit ?_ rfl rfl rfl rfl rfl rfl rfl rfl rfl rfl rfl rfl rfl rfl rfl rfl rfl)

theorem referenceTrim_keeps {z : Chip} (s : Chip) (hz : Keeps z s) : Keeps z (referenceTrim s) := by
  refine hz.trans ?_
  clear hz
  unfold referenceTrim
  repeat' first
    | with_reducible apply Chip_modHeat_keeps
    | with_reducible assumption
    | fail_if_no_progress beta_reduce
    | (extract_lets +onlyGivenNames x; subst x)
    | with_reducible apply Keeps.ite
    | with_reducible apply Keeps.refl

theorem trimTick_keeps {z : Chip} (s : Chip) (hz : Keeps z s) : Keeps z (trimTick s) := by
  refine hz.trans ?_
  clear hz
  unfold trimTick
  repeat' first
    | with_reducible apply Chip_modHeat_keeps
    | with_reducible assumption
    | fail_if_no_progress beta_reduce
    | with_reducible apply Keeps.ite
    | with_reducible apply Keeps.refl

theorem ts0Read_keeps {z : Chip} (t : Int) (st : Straps) (s : Chip) (hz : Keeps z s) : Keeps z (ts0Read t st s) := by
  refine hz.trans ?_
  clear hz
  unfold ts0Read
  repeat' first
    | with_reducible apply enterDeadStop_keeps
    | with_reducible apply wakeIfReady_keeps
    | with_reducible apply Chip_modOst_keeps
    | with_reducible assumption
    | fail_if_no_progress beta_reduce
    | (extract_lets +onlyGivenNames x; refine Keeps.bind (x := x) (fun hx => ?_) ?_; rotate_left; subst x; rotate_right; clear_value x)
    | (extract_lets +onlyGivenNames x; subst x)
    | with_reducible apply Keeps.ite
    | with_reducible apply Keeps.refl

theorem bodyClearLockout_keeps {z : Chip} (rq : Request) (r : ReqRef) (s : Chip) (hz : Keeps z s) : Keeps z (bodyClearLockout rq r s).2 := by
  refine hz.trans ?_
  clear hz
  unfold bodyClearLockout
  repeat' first
    | with_reducible apply offerBox_keeps
    | with_reducible assumption
    | fail_if_no_progress beta_reduce
    | with_reducible apply Keeps.refl
    | fail_if_no_progress (with_reducible refine Keeps.lit ?_ rfl rfl rfl rfl rfl rfl rfl rfl rfl rfl rfl rfl rfl rfl rfl rfl rfl)
    | split

theorem bodyClearLatch_keeps {z : Chip} (rq : Request) (r : ReqRef) (s : Chip) (hz : Keeps z s) : Keeps z (bodyClearLatch rq r s).2 := by
  refine hz.trans ?_
  clear hz
  unfold bodyClearLatch
  repeat' first
    | with_reducible apply offerBox_keeps
    | with_reducible assumption
    | fail_if_no_progress beta_reduce
    | with_reducible apply Keeps.refl
    | fail_if_no_progress (with_reducible refine Keeps.lit ?_ rfl rfl rfl rfl rfl rfl rfl rfl rfl rfl rfl rfl rfl rfl rfl rfl rfl)
    | split

theorem bodySeveritySet_keeps {z : Chip} (rq : Request) (r : ReqRef) (s : Chip) (hz : Keeps z s) : Keeps z (bodySeveritySet rq r s).2 := by
  refine hz.trans ?_
  clear hz
  unfold bodySeveritySet
  repeat' first
    | with_reducible apply offerBox_keeps
    | with_reducible assumption
    | fail_if_no_progress beta_reduce
    | with_reducible apply Keeps.refl
    | fail_if_no_progress (with_reducible refine Keeps.lit ?_ rfl rfl rfl rfl rfl rfl rfl rfl rfl rfl rfl rfl rfl rfl rfl rfl rfl)
    | split

theorem boxDenied_keeps {z : Chip} (e : BoxEntry) (s : Chip) (hz : Keeps z s) : Keeps z (boxDenied e s) := by
  refine hz.trans ?_
  clear hz
  unfold boxDenied
  repeat' first
    | with_reducible apply setFault_keeps
    | with_reducible apply formReply_keeps
    | with_reducible assumption
    | with_reducible apply Keeps.refl

theorem admitWaiting_keeps {z : Chip} (s : Chip) (hz : Keeps z s) : Keeps z (admitWaiting s) := by
  unfold admitWaiting
  split
  · exact hz
  split
  · rename_i e rest _ h
    have k : Keeps z { s with boxWait := rest, box := s.box ++ [e] } :=
      .depths hz rfl rfl rfl rfl rfl rfl rfl rfl rfl rfl rfl fun d => ⟨d.channels, d.rails, by simpa using h, d.buses, d.slow, d.stamps⟩
    dsimp only
    split
    · exact formReply_keeps _ _ _ _ _ k
    · exact k
  · exact hz

theorem mailboxEntry_keeps {z : Chip} (s : Chip) (hz : Keeps z s) : Keeps z (mailboxEntry s) := by
  unfold mailboxEntry
  split
  · exact hz
  split
  · exact hz
  · rename_i h _
    have k (u) : Keeps z { s with box := _, boxUsed := u } :=
      .depths hz rfl rfl rfl rfl rfl rfl rfl rfl rfl rfl rfl fun d => ⟨d.channels, d.rails, (Nat.le_succ _).trans (by simpa [h] using d.box), d.buses, d.slow, d.stamps⟩
    refine admitWaiting_keeps _ (.ite (boxDenied_keeps _ _ (k _)) (.ite (takeCommit_keeps _ _ (k _)) ?_))
    exact .lit (k _) rfl rfl rfl rfl rfl rfl rfl rfl rfl rfl rfl rfl rfl rfl rfl rfl rfl

theorem mailboxTimeout_keeps {z : Chip} (s : Chip) (hz : Keeps z s) : Keeps z (mailboxTimeout s) := by
  refine hz.trans ?_
  clear hz
  unfold mailboxTimeout
  repeat' first
    | with_reducible apply formReply_keeps
    | with_reducible assumption
    | (with_reducible apply Keeps.foldl; intro _ _)
    | fail_if_no_progress beta_reduce
    | with_reducible apply Keeps.refl
    | fail_if_no_progress (with_reducible refine Keeps.lit ?_ rfl rfl rfl rfl rfl rfl rfl rfl rfl rfl rfl rfl rfl rfl rfl rfl rfl)

theorem applyClearLockout_keeps {z : Chip} (v : BoxView) (e : BoxEntry) (s : Chip) (hz : Keeps z s) : Keeps z (applyClearLockout v e s) := by
  refine hz.trans ?_
  clear hz
  unfold applyClearLockout
  repeat' first
    | with_reducible apply boxDenied_keeps
    | with_reducible apply chIdle_keeps
    | with_reducible apply setFault_keeps
    | with_reducible apply formReply_keeps
    | with_reducible apply Chip_modCh_keeps
    | with_reducible assumption
    | fail_if_no_progress beta_reduce
    | (extract_lets +onlyGivenNames x; refine Keeps.bind (x := x) (fun hx => ?_) ?_; rotate_left; subst x; rotate_right; clear_value x)
    | (extract_lets +onlyGivenNames x; subst x)
    | with_reducible apply Keeps.ite
    | with_reducible apply Keeps.refl

theorem applyClearLatch_keeps {z : Chip} (v : BoxView) (e : BoxEntry) (s : Chip) (hz : Keeps z s) : Keeps z (applyClearLatch v e s) := by
  refine hz.trans ?_
  clear hz
  unfold applyClearLatch
  repeat' first
    | with_reducible apply boxDenied_keeps
    | with_reducible apply setRailState_keeps
    | with_reducible apply setFault_keeps
    | with_reducible apply formReply_keeps
    | with_reducible apply Chip_modRail_keeps
    | with_reducible assumption
    | fail_if_no_progress beta_reduce
    | (extract_lets +onlyGivenNames x; refine Keeps.bind (x := x) (fun hx => ?_) ?_; rotate_left; subst x; rotate_right; clear_value x)
    | (extract_lets +onlyGivenNames x; subst x)
    | with_reducible apply Keeps.ite
    | with_reducible apply Keeps.refl

theorem applySeverity_keeps {z : Chip} (v : BoxView) (e : BoxEntry) (s : Chip) (hz : Keeps z s) : Keeps z (applySeverity v e s) := by
  refine hz.trans ?_
  clear hz
  unfold applySeverity
  repeat' first
    | with_reducible apply boxDenied_keeps
    | with_reducible apply formReply_keeps
    | with_reducible assumption
    | fail_if_no_progress beta_reduce
    | (extract_lets +onlyGivenNames x; refine Keeps.bind (x := x) (fun hx => ?_) ?_; rotate_left; subst x; rotate_right; clear_value x)
    | (extract_lets +onlyGivenNames x; subst x)
    | with_reducible apply Keeps.ite
    | with_reducible apply Keeps.refl
    | fail_if_no_progress (with_reducible refine Keeps.lit ?_ rfl rfl rfl rfl rfl rfl rfl rfl rfl rfl rfl rfl rfl rfl rfl rfl rfl)

theorem applyBoxEntry_keeps {z : Chip} (v : BoxView) (s : Chip) (e : BoxEntry) (hz : Keeps z s) : Keeps z (applyBoxEntry v s e) := by
  refine hz.trans ?_
  clear hz
  unfold applyBoxEntry
  repeat' first
    | with_reducible apply applySeverity_keeps
    | with_reducible apply applyClearLatch_keeps
    | with_reducible apply applyClearLockout_keeps
    | with_reducible apply applyActivate_keeps
    | with_reducible assumption
    | fail_if_no_progress beta_reduce
    | with_reducible apply Keeps.refl
    | fail_if_no_progress (with_reducible refine Keeps.lit ?_ rfl rfl rfl rfl rfl rfl rfl rfl rfl rfl rfl rfl rfl rfl rfl rfl rfl)
    | split

theorem applyBox_keeps {z : Chip} (s : Chip) (hz : Keeps z s) : Keeps z (applyBox s) := by
  refine hz.trans ?_
  clear hz
  unfold applyBox
  repeat' first
    | with_reducible apply applyBoxEntry_keeps
    | with_reducible assumption
    | (with_reducible apply Keeps.foldl; intro _ _)
    | with_reducible apply Keeps.refl
    | fail_if_no_progress (with_reducible refine Keeps.lit ?_ rfl rfl rfl rfl rfl rfl rfl rfl rfl rfl rfl rfl rfl rfl rfl rfl rfl)

theorem keepView_keeps {z : Chip} (s : Chip) (hz : Keeps z s) : Keeps z (keepView s) := by
  refine hz.trans ?_
  clear hz
  unfold keepView
  repeat' first
    | with_reducible assumption
    | with_reducible apply Keeps.ite
    | with_reducible apply Keeps.refl
    | fail_if_no_progress (with_reducible refine Keeps.lit ?_ rfl rfl rfl rfl rfl rfl rfl rfl rfl rfl rfl rfl rfl rfl rfl rfl rfl)

theorem applyQueues_keeps {z : Chip} (s : Chip) (hz : Keeps z s) : Keeps z (applyQueues s) := by
  refine hz.trans ?_
  clear hz
  unfold applyQueues
  repeat' first
    | with_reducible apply applyBox_keeps
    | with_reducible apply applyChQueue_keeps
    | with_reducible apply applyEnergyQueue_keeps
    | with_reducible apply applyRailQueue_keeps
    | with_reducible assumption
    | with_reducible apply Keeps.refl

theorem atBoundary_keeps {z : Chip} (f : Chip → Chip) (s : Chip) (ha : ∀ x, Keeps x (f x)) (hz : Keeps z s) :
    Keeps z (atBoundary f s) := by
  unfold atBoundary
  split
  · exact keepView_keeps _ (applyQueues_keeps _ (hz.trans (ha _)))
  · exact hz.trans (ha _)

theorem Chip_modSketch_keeps {z : Chip} (s : Chip) (f : Sketch → Sketch) (hq : (f s.sketch).queue.length ≤ s.sketch.queue.length)
    (hz : Keeps z s) : Keeps z (s.modSketch f) :=
  hz.trans ⟨fun b => ⟨b.events, hq.trans b.recorder, b.energy, b.ports, b.sticky, b.sources, b.rollback, b.sram, b.depths⟩, fun _ => .refl _, rfl, id⟩

theorem postRec_keeps {z : Chip} (s : Chip) (kind slot : Nat) (hz : Keeps z s) : Keeps z (postRec s kind slot) := by
  refine hz.trans ?_
  clear hz
  unfold postRec
  repeat' first
    | with_reducible apply post_keeps
    | with_reducible assumption
    | with_reducible apply Keeps.refl

theorem writeEvent_keeps {z : Chip} (good : Bool) (e : RecEvent) (s : Chip) (hz : Keeps z s) : Keeps z (writeEvent good e s) := by
  refine hz.trans ?_
  clear hz
  unfold writeEvent
  repeat' first
    | with_reducible apply Chip_modSketch_keeps
    | with_reducible apply mramWritten_keeps
    | with_reducible apply setFault_keeps
    | with_reducible assumption
    | with_reducible exact Nat.le_refl _
    | fail_if_no_progress beta_reduce
    | (extract_lets +onlyGivenNames x; refine Keeps.bind (x := x) (fun hx => ?_) ?_; rotate_left; subst x; rotate_right; clear_value x)
    | (extract_lets +onlyGivenNames x; subst x)
    | with_reducible apply Keeps.ite
    | with_reducible apply Keeps.refl

theorem writeSummary_keeps {z : Chip} (good : Bool) (s : Chip) (hz : Keeps z s) : Keeps z (writeSummary good s) := by
  refine hz.trans ?_
  clear hz
  unfold writeSummary
  repeat' first
    | with_reducible apply Chip_modSketch_keeps
    | with_reducible apply mramWritten_keeps
    | with_reducible apply setFault_keeps
    | with_reducible apply Chip_drawn_keeps
    | with_reducible assumption
    | with_reducible exact Nat.le_refl _
    | fail_if_no_progress beta_reduce
    | (extract_lets +onlyGivenNames x; refine Keeps.bind (x := x) (fun hx => ?_) ?_; rotate_left; subst x; rotate_right; clear_value x)
    | (extract_lets +onlyGivenNames x; subst x)
    | with_reducible apply Keeps.ite
    | with_reducible apply Keeps.refl

theorem recSummary_keeps {z : Chip} (good : Bool) (s : Chip) (hz : Keeps z s) : Keeps z (recSummary good s) := by
  refine hz.trans ?_
  clear hz
  unfold recSummary
  repeat' first
    | with_reducible apply writeSummary_keeps
    | with_reducible apply Chip_modSketch_keeps
    | with_reducible assumption
    | with_reducible exact Nat.le_refl _
    | fail_if_no_progress beta_reduce
    | with_reducible apply Keeps.ite
    | with_reducible apply Keeps.refl

theorem captureTrigger_keeps {z : Chip} (d : Nat) (cause : TrigCause) (s : Chip) (hz : Keeps z s) : Keeps z (captureTrigger d cause s) := by
  refine hz.trans ?_
  clear hz
  unfold captureTrigger
  repeat' first
    | with_reducible apply Chip_modSketch_keeps
    | with_reducible apply ringAdvance_keeps
    | with_reducible apply post_keeps
    | with_reducible assumption
    | with_reducible exact Nat.le_refl _
    | fail_if_no_progress beta_reduce
    | (extract_lets +onlyGivenNames x; refine Keeps.bind (x := x) (fun hx => ?_) ?_; rotate_left; subst x; rotate_right; clear_value x)
    | (extract_lets +onlyGivenNames x; subst x)
    | with_reducible apply Keeps.ite
    | with_reducible apply Keeps.refl
    | fail_if_no_progress (with_reducible refine Keeps.lit ?_ rfl rfl rfl rfl rfl rfl rfl rfl rfl rfl rfl rfl rfl rfl rfl rfl rfl)
    | split

theorem captureComplete_keeps {z : Chip} (d : Nat) (s : Chip) (hz : Keeps z s) : Keeps z (captureComplete d s) := by
  refine hz.trans ?_
  clear hz
  unfold captureComplete
  repeat' first
    | with_reducible apply Chip_modSketch_keeps
    | with_reducible apply post_keeps
    | with_reducible assumption
    | with_reducible exact Nat.le_refl _
    | fail_if_no_progress beta_reduce
    | (extract_lets +onlyGivenNames x; subst x)
    | with_reducible apply Keeps.ite
    | with_reducible apply Keeps.refl
    | fail_if_no_progress (with_reducible refine Keeps.lit ?_ rfl rfl rfl rfl rfl rfl rfl rfl rfl rfl rfl rfl rfl rfl rfl rfl rfl)
    | split

theorem flushCapture_keeps {z : Chip} (good : Bool) (s : Chip) (hz : Keeps z s) : Keeps z (flushCapture good s) := by
  refine hz.trans ?_
  clear hz
  unfold flushCapture
  repeat' first
    | with_reducible apply postRec_keeps
    | with_reducible apply Chip_modSketch_keeps
    | with_reducible apply mramWritten_keeps
    | with_reducible apply setFault_keeps
    | with_reducible apply recPost_keeps
    | with_reducible apply post_keeps
    | with_reducible assumption
    | with_reducible exact Nat.le_refl _
    | fail_if_no_progress beta_reduce
    | (extract_lets +onlyGivenNames x; refine Keeps.bind (x := x) (fun hx => ?_) ?_; rotate_left; subst x; rotate_right; clear_value x)
    | (extract_lets +onlyGivenNames x; subst x)
    | with_reducible apply Keeps.ite
    | with_reducible apply Keeps.refl
    | fail_if_no_progress (with_reducible refine Keeps.lit ?_ rfl rfl rfl rfl rfl rfl rfl rfl rfl rfl rfl rfl rfl rfl rfl rfl rfl)
    | split

theorem flushEvent_keeps {z : Chip} (good : Bool) (s : Chip) (hz : Keeps z s) : Keeps z (flushEvent good s) := by
  unfold flushEvent
  split
  · exact hz
  · apply writeEvent_keeps
    apply Chip_modSketch_keeps _ _ _ hz
    simp [*]

theorem sketchFlush_keeps {z : Chip} (good : Bool) (s : Chip) (hz : Keeps z s) : Keeps z (sketchFlush good s) := by
  refine hz.trans ?_
  clear hz
  unfold sketchFlush
  repeat' first
    | with_reducible apply flushEvent_keeps
    | with_reducible apply flushCapture_keeps
    | with_reducible assumption
    | fail_if_no_progress beta_reduce
    | with_reducible apply Keeps.ite
    | with_reducible apply Keeps.refl
    | fail_if_no_progress (with_reducible refine Keeps.lit ?_ rfl rfl rfl rfl rfl rfl rfl rfl rfl rfl rfl rfl rfl rfl rfl rfl rfl)
    | split

theorem flushAllEvents_keeps {z : Chip} (good : Bool) (s : Chip) (hz : Keeps z s) : Keeps z (flushAllEvents good s) := by
  refine hz.trans ?_
  clear hz
  unfold flushAllEvents
  repeat' first
    | with_reducible apply flushEvent_keeps
    | with_reducible assumption
    | (with_reducible apply Keeps.forEach; intro _ _)
    | fail_if_no_progress beta_reduce
    | with_reducible apply Keeps.refl

theorem freezeEffect_keeps {z : Chip} (good : Bool) (s : Chip) (hz : Keeps z s) : Keeps z (freezeEffect good s) := by
  refine hz.trans ?_
  clear hz
  unfold freezeEffect
  repeat' first
    | with_reducible apply flushAllEvents_keeps
    | with_reducible apply writeEvent_keeps
    | with_reducible apply postRec_keeps
    | with_reducible apply Chip_modSketch_keeps
    | with_reducible assumption
    | with_reducible exact Nat.le_refl _
    | fail_if_no_progress beta_reduce
    | (extract_lets +onlyGivenNames x; refine Keeps.bind (x := x) (fun hx => ?_) ?_; rotate_left; subst x; rotate_right; clear_value x)
    | with_reducible apply Keeps.ite
    | with_reducible apply Keeps.refl

theorem bodyRecFreeze_keeps {z : Chip} (rq : Request) (r : ReqRef) (s : Chip) (hz : Keeps z s) : Keeps z (bodyRecFreeze rq r s).2 := by
  refine hz.trans ?_
  clear hz
  unfold bodyRecFreeze
  repeat' first
    | with_reducible apply startFreeze_keeps
    | with_reducible assumption
    | fail_if_no_progress beta_reduce
    | with_reducible apply Keeps.refl

theorem undropped_keeps {z : Chip} (s : Chip) (id : Nat) (hz : Keeps z s) : Keeps z (undropped s id) := by
  refine hz.trans ?_
  clear hz
  unfold undropped
  repeat' first
    | with_reducible apply Chip_modSketch_keeps
    | with_reducible assumption
    | with_reducible exact Nat.le_refl _
    | fail_if_no_progress beta_reduce
    | with_reducible apply Keeps.ite
    | with_reducible apply Keeps.refl

theorem thaw_keeps {z : Chip} (s : Chip) (hz : Keeps z s) : Keeps z (thaw s) := by
  refine hz.trans ?_
  clear hz
  unfold thaw
  repeat' first
    | with_reducible apply undropped_keeps
    | with_reducible apply postRec_keeps
    | with_reducible apply Chip_modSketch_keeps
    | with_reducible apply recordSet_keeps
    | with_reducible apply recPost_keeps
    | with_reducible assumption
    | (with_reducible apply Keeps.foldl; intro _ _)
    | with_reducible exact Nat.le_refl _
    | fail_if_no_progress beta_reduce
    | with_reducible apply Keeps.refl

theorem bodyRecThaw_keeps {z : Chip} (rq : Request) (r : ReqRef) (s : Chip) (hz : Keeps z s) : Keeps z (bodyRecThaw rq r s).2 := by
  refine hz.trans ?_
  clear hz
  unfold bodyRecThaw
  repeat' first
    | with_reducible apply thaw_keeps
    | with_reducible assumption
    | fail_if_no_progress beta_reduce
    | (extract_lets +onlyGivenNames x; refine Keeps.bind (x := x) (fun hx => ?_) ?_; rotate_left; subst x; rotate_right; clear_value x)
    | with_reducible apply Keeps.ite
    | with_reducible apply Keeps.refl
    | fail_if_no_progress (with_reducible refine Keeps.lit ?_ rfl rfl rfl rfl rfl rfl rfl rfl rfl rfl rfl rfl rfl rfl rfl rfl rfl)
    | split

theorem bodyRecTrigger_keeps {z : Chip} (rq : Request) (r : ReqRef) (s : Chip) (hz : Keeps z s) : Keeps z (bodyRecTrigger rq r s).2 := by
  refine hz.trans ?_
  clear hz
  unfold bodyRecTrigger
  repeat' first
    | with_reducible apply addTrigger_keeps
    | with_reducible apply recPost_keeps
    | with_reducible assumption
    | (with_reducible apply Keeps.forEach; intro _ _)
    | fail_if_no_progress beta_reduce
    | with_reducible apply Keeps.ite
    | with_reducible apply Keeps.refl

theorem bodyRecInfo_keeps {z : Chip} (rq : Request) (r : ReqRef) (s : Chip) (hz : Keeps z s) : Keeps z (bodyRecInfo rq r s).2 := by
  refine hz.trans ?_
  clear hz
  unfold bodyRecInfo
  repeat' first
    | with_reducible assumption
    | fail_if_no_progress beta_reduce
    | with_reducible apply Keeps.refl

theorem bodyRecRead_keeps {z : Chip} (rq : Request) (r : ReqRef) (s : Chip) (hz : Keeps z s) : Keeps z (bodyRecRead rq r s).2 := by
  refine hz.trans ?_
  clear hz
  unfold bodyRecRead
  repeat' first
    | with_reducible assumption
    | fail_if_no_progress beta_reduce
    | (extract_lets +onlyGivenNames x; subst x)
    | with_reducible apply Keeps.ite
    | with_reducible apply Keeps.refl
    | fail_if_no_progress (with_reducible refine Keeps.lit ?_ rfl rfl rfl rfl rfl rfl rfl rfl rfl rfl rfl rfl rfl rfl rfl rfl rfl)
    | split

theorem scrubPass_keeps {z : Chip} (corrected uncorrectable : List Nat) (s : Chip) (hz : Keeps z s) : Keeps z (scrubPass corrected uncorrectable s) := by
  refine hz.trans ?_
  clear hz
  unfold scrubPass
  repeat' first
    | with_reducible apply setFault_keeps
    | with_reducible assumption
    | fail_if_no_progress beta_reduce
    | (extract_lets +onlyGivenNames x; refine Keeps.bind (x := x) (fun hx => ?_) ?_; rotate_left; subst x; rotate_right; clear_value x)
    | with_reducible apply Keeps.ite
    | with_reducible apply Keeps.refl
    | fail_if_no_progress (with_reducible refine Keeps.lit ?_ rfl rfl rfl rfl rfl rfl rfl rfl rfl rfl rfl rfl rfl rfl rfl rfl rfl)

theorem agingExpiry_keeps {z : Chip} (c : AgedClass) (s : Chip) (hz : Keeps z s) : Keeps z (agingExpiry c s) := by
  refine hz.trans ?_
  clear hz
  unfold agingExpiry
  repeat' first
    | with_reducible apply setFault_keeps
    | with_reducible assumption
    | with_reducible apply Keeps.ite
    | with_reducible apply Keeps.refl

theorem bodyHello_keeps {z : Chip} (rq : Request) (r : ReqRef) (s : Chip) (hz : Keeps z s) : Keeps z (bodyHello rq r s).2 := by
  refine hz.trans ?_
  clear hz
  unfold bodyHello
  repeat' first
    | with_reducible apply Chip_modPort_keeps
    | with_reducible assumption
    | with_reducible apply Keeps.modPort
    | exact fun q h => ⟨h.queue, h.replies⟩
    | fail_if_no_progress beta_reduce
    | with_reducible apply Keeps.refl
    | fail_if_no_progress (with_reducible refine Keeps.lit ?_ rfl rfl rfl rfl rfl rfl rfl rfl rfl rfl rfl rfl rfl rfl rfl rfl rfl)
    | split

theorem bodyPing_keeps {z : Chip} (rq : Request) (r : ReqRef) (s : Chip) (hz : Keeps z s) : Keeps z (bodyPing rq r s).2 := by
  refine hz.trans ?_
  clear hz
  unfold bodyPing
  repeat' first
    | with_reducible assumption
    | fail_if_no_progress beta_reduce
    | with_reducible apply Keeps.refl

theorem bodyGoodbye_keeps {z : Chip} (rq : Request) (r : ReqRef) (s : Chip) (hz : Keeps z s) : Keeps z (bodyGoodbye rq r s).2 := by
  refine hz.trans ?_
  clear hz
  unfold bodyGoodbye
  repeat' first
    | with_reducible apply disarmWd1_keeps
    | with_reducible apply Chip_modPort_keeps
    | with_reducible assumption
    | with_reducible apply Keeps.modPort
    | exact fun q h => ⟨h.queue, h.replies⟩
    | fail_if_no_progress beta_reduce
    | with_reducible apply Keeps.ite
    | with_reducible apply Keeps.refl

theorem bodyFence_keeps {z : Chip} (rq : Request) (r : ReqRef) (s : Chip) (hz : Keeps z s) : Keeps z (bodyFence rq r s).2 := by
  refine hz.trans ?_
  clear hz
  unfold bodyFence
  repeat' first
    | with_reducible apply Chip_modPort_keeps
    | with_reducible assumption
    | with_reducible apply Keeps.modPort
    | exact fun q h => ⟨h.queue, h.replies⟩
    | fail_if_no_progress beta_reduce
    | (extract_lets +onlyGivenNames x; subst x)
    | with_reducible apply Keeps.ite
    | with_reducible apply Keeps.refl
    | fail_if_no_progress (with_reducible refine Keeps.lit ?_ rfl rfl rfl rfl rfl rfl rfl rfl rfl rfl rfl rfl rfl rfl rfl rfl rfl)
    | split

theorem endFence_keeps {z : Chip} (p : Port) (f : Fence) (st : Status) (data : List Byte) (s : Chip) (hz : Keeps z s) : Keeps z (endFence p f st data s) := by
  refine hz.trans ?_
  clear hz
  unfold endFence
  repeat' first
    | with_reducible apply formReply_keeps
    | with_reducible apply Chip_modPort_keeps
    | with_reducible assumption
    | with_reducible apply Keeps.modPort
    | exact fun q h => ⟨h.queue, h.replies⟩
    | fail_if_no_progress beta_reduce
    | with_reducible apply Keeps.refl

theorem fenceRelease_keeps {z : Chip} (p : Port) (s : Chip) (hz : Keeps z s) : Keeps z (fenceRelease p s) := by
  refine hz.trans ?_
  clear hz
  unfold fenceRelease
  repeat' first
    | with_reducible apply endFence_keeps
    | with_reducible assumption
    | fail_if_no_progress beta_reduce
    | with_reducible apply Keeps.ite
    | with_reducible apply Keeps.refl
    | fail_if_no_progress (with_reducible refine Keeps.lit ?_ rfl rfl rfl rfl rfl rfl rfl rfl rfl rfl rfl rfl rfl rfl rfl rfl rfl)
    | split

theorem fenceTimeout_keeps {z : Chip} (p : Port) (s : Chip) (hz : Keeps z s) : Keeps z (fenceTimeout p s) := by
  refine hz.trans ?_
  clear hz
  unfold fenceTimeout
  repeat' first
    | with_reducible apply endFence_keeps
    | with_reducible assumption
    | fail_if_no_progress beta_reduce
    | with_reducible apply Keeps.ite
    | with_reducible apply Keeps.refl
    | fail_if_no_progress (with_reducible refine Keeps.lit ?_ rfl rfl rfl rfl rfl rfl rfl rfl rfl rfl rfl rfl rfl rfl rfl rfl rfl)
    | split

theorem bodyEventRead_keeps {z : Chip} (rq : Request) (r : ReqRef) (s : Chip) (hz : Keeps z s) : Keeps z (bodyEventRead rq r s).2 := by
  refine hz.trans ?_
  unfold bodyEventRead
  refine ⟨fun b => ⟨?_, b.recorder, b.energy, b.ports, b.sticky, b.sources, b.rollback, b.sram, b.depths⟩, fun _ => .refl _, rfl, id⟩
  refine Nat.le_trans ?_ b.events
  dsimp only
  split
  · exact List.length_filter_le _ _
  · exact Nat.le_refl _

theorem bodySummary_keeps {z : Chip} (rq : Request) (r : ReqRef) (s : Chip) (hz : Keeps z s) : Keeps z (bodySummary rq r s).2 := by
  refine hz.trans ?_
  clear hz
  unfold bodySummary
  repeat' first
    | with_reducible assumption
    | fail_if_no_progress beta_reduce
    | (extract_lets +onlyGivenNames x; subst x)
    | with_reducible apply Keeps.ite
    | with_reducible apply Keeps.refl
    | fail_if_no_progress (with_reducible refine Keeps.lit ?_ rfl rfl rfl rfl rfl rfl rfl rfl rfl rfl rfl rfl rfl rfl rfl rfl rfl)
    | split

theorem postCal_keeps {z : Chip} (s : Chip) (r : ReqRef) (st : Status) (hz : Keeps z s) : Keeps z (postCal s r st) := by
  refine hz.trans ?_
  clear hz
  unfold postCal
  repeat' first
    | with_reducible apply post_keeps
    | with_reducible assumption
    | with_reducible apply Keeps.refl

theorem bodySvcCalRead_keeps {z : Chip} (rq : Request) (r : ReqRef) (s : Chip) (hz : Keeps z s) : Keeps z (bodySvcCalRead rq r s).2 := by
  refine hz.trans ?_
  clear hz
  unfold bodySvcCalRead
  repeat' first
    | with_reducible apply postCal_keeps
    | with_reducible assumption
    | fail_if_no_progress beta_reduce
    | (extract_lets +onlyGivenNames x; refine Keeps.bind (x := x) (fun hx => ?_) ?_; rotate_left; subst x; rotate_right; clear_value x)
    | (extract_lets +onlyGivenNames x; subst x)
    | with_reducible apply Keeps.ite
    | with_reducible apply Keeps.refl
    | fail_if_no_progress (with_reducible refine Keeps.lit ?_ rfl rfl rfl rfl rfl rfl rfl rfl rfl rfl rfl rfl rfl rfl rfl rfl rfl)
    | split

theorem svcCalDone_keeps {z : Chip} (s : Chip) (hz : Keeps z s) : Keeps z (svcCalDone s) := by
  refine hz.trans ?_
  clear hz
  unfold svcCalDone
  repeat' first
    | with_reducible apply postCal_keeps
    | with_reducible assumption
    | fail_if_no_progress beta_reduce
    | (extract_lets +onlyGivenNames x; refine Keeps.bind (x := x) (fun hx => ?_) ?_; rotate_left; subst x; rotate_right; clear_value x)
    | (extract_lets +onlyGivenNames x; subst x)
    | with_reducible apply Keeps.ite
    | with_reducible apply Keeps.refl
    | fail_if_no_progress (with_reducible refine Keeps.lit ?_ rfl rfl rfl rfl rfl rfl rfl rfl rfl rfl rfl rfl rfl rfl rfl rfl rfl)
    | split

theorem bodySvcFetExercise_keeps {z : Chip} (rq : Request) (r : ReqRef) (s : Chip) (hz : Keeps z s) : Keeps z (bodySvcFetExercise rq r s).2 := by
  refine hz.trans ?_
  clear hz
  unfold bodySvcFetExercise
  repeat' first
    | with_reducible apply queueCh_keeps
    | with_reducible assumption
    | fail_if_no_progress beta_reduce
    | (extract_lets +onlyGivenNames x; subst x)
    | with_reducible apply Keeps.ite
    | with_reducible apply Keeps.refl
    | fail_if_no_progress (with_reducible refine Keeps.lit ?_ rfl rfl rfl rfl rfl rfl rfl rfl rfl rfl rfl rfl rfl rfl rfl rfl rfl)
    | split

theorem exerciseEnd_keeps {z : Chip} (s : Chip) (hz : Keeps z s) : Keeps z (exerciseEnd s) := by
  refine hz.trans ?_
  clear hz
  unfold exerciseEnd
  repeat' first
    | with_reducible apply chStop_keeps
    | with_reducible apply Chip_modCh_keeps
    | with_reducible assumption
    | fail_if_no_progress beta_reduce
    | (extract_lets +onlyGivenNames x; refine Keeps.bind (x := x) (fun hx => ?_) ?_; rotate_left; subst x; rotate_right; clear_value x)
    | (extract_lets +onlyGivenNames x; subst x)
    | with_reducible apply Keeps.ite
    | with_reducible apply Keeps.refl
    | fail_if_no_progress (with_reducible refine Keeps.lit ?_ rfl rfl rfl rfl rfl rfl rfl rfl rfl rfl rfl rfl rfl rfl rfl rfl rfl)

theorem badRequest_keeps {z : Chip} (p : Port) (b : List Byte) (s : Chip) (hz : Keeps z s) : Keeps z (badRequest p b s) := by
  unfold badRequest
  split
  · rename_i h
    have hr : (s.port p).replies.length < 8 := by simp [takes] at h; exact h.1.1.1.1.2
    split
    · refine formReply_keeps _ _ _ _ _ (.ite (setFault_keeps _ _ ?_) ?_) <;> exact takeRequest_keeps _ _ _ _ hz hr
    · exact hz
  · exact hz

end Sys2Proof.Machine
end

