-- ==== Sys2Proof/Laws/Keeps6.lean ====
section
/-! SUPPORT. What the operations of Wires, Waking, Tick keep. -/

namespace Sys2Proof.Machine

theorem readWindow_keeps {z : Chip} (s : Chip) (p : Port) (n : Nat) (hz : Keeps z s) : Keeps z (readWindow s p n) := by
  unfold readWindow
  dsimp only
  have h : ∀ l, Keeps z (s.modPort p fun ps => { ps with lastRead := l }) :=
    fun l => .modPort _ _ hz fun q h => ⟨h.queue, h.replies⟩
  split
  · split
    · exact .modPort _ _ (h _) fun q h => ⟨h.queue, by simpa using h.replies.trans (by omega)⟩
    · exact clearFlags_keeps _ _ (h _)
  · exact h _

theorem arrive_keeps {z : Chip} (s : Chip) (p : Port) (bytes : List Byte) (hz : Keeps z s) : Keeps z (arrive s p bytes) := by
  refine hz.trans ?_
  unfold arrive
  have h : Keeps s (s.drawn.modPort p fun ps => { ps with received := some (s.now, s.draw) }) :=
    .modPort _ _ (Chip_drawn_keeps s (.refl s)) fun q h => ⟨h.queue, h.replies⟩
  dsimp only
  generalize s.drawn.modPort p (fun ps => { ps with received := some (s.now, s.draw) }) = x at h ⊢
  split
  · exact .port p _ h fun h => ⟨by simpa using by omega, h.replies⟩
  split
  · refine clearFlags_keeps _ _ (.lit (x := x.modPort p _) (Keeps.port p _ h fun h => ⟨h.queue, ?_⟩) rfl rfl rfl rfl rfl rfl rfl rfl rfl rfl rfl rfl rfl rfl rfl rfl rfl)
    simpa using by omega
  · exact h

theorem rxKept_keeps {z : Chip} (s : Chip) (hz : Keeps z s) : Keeps z (rxKept s) := by
  refine hz.trans ?_
  clear hz
  unfold rxKept
  repeat' first
    | with_reducible assumption
    | (extract_lets +onlyGivenNames x; subst x)
    | with_reducible apply Keeps.refl
    | fail_if_no_progress (with_reducible refine Keeps.lit ?_ rfl rfl rfl rfl rfl rfl rfl rfl rfl rfl rfl rfl rfl rfl rfl rfl rfl)

theorem twWrite_keeps {z : Chip} (adr : Nat) (bytes : List Byte) (s : Chip) (hz : Keeps z s) : Keeps z (twWrite adr bytes s) := by
  refine hz.trans ?_
  clear hz
  unfold twWrite
  repeat' first
    | with_reducible apply rxKept_keeps
    | with_reducible apply arrive_keeps
    | with_reducible apply setFault_keeps
    | with_reducible assumption
    | fail_if_no_progress beta_reduce
    | (extract_lets +onlyGivenNames x; refine Keeps.bind (x := x) (fun hx => ?_) ?_; rotate_left; subst x; rotate_right; clear_value x)
    | with_reducible apply Keeps.ite
    | with_reducible apply Keeps.refl
    | fail_if_no_progress (with_reducible refine Keeps.lit ?_ rfl rfl rfl rfl rfl rfl rfl rfl rfl rfl rfl rfl rfl rfl rfl rfl rfl)
    | split

theorem twRead_keeps {z : Chip} (adr n : Nat) (s : Chip) (hz : Keeps z s) : Keeps z (twRead adr n s) := by
  refine hz.trans ?_
  clear hz
  unfold twRead
  repeat' first
    | with_reducible apply rxKept_keeps
    | with_reducible apply readWindow_keeps
    | with_reducible assumption
    | with_reducible apply Keeps.ite
    | with_reducible apply Keeps.refl

theorem twHeld_keeps {z : Chip} (s : Chip) (hz : Keeps z s) : Keeps z (twHeld s) := by
  refine hz.trans ?_
  clear hz
  unfold twHeld
  repeat' first
    | with_reducible apply setFault_keeps
    | with_reducible assumption
    | with_reducible apply Keeps.ite
    | with_reducible apply Keeps.refl

theorem spiTransfer_keeps {z : Chip} (s : Chip) (f : Chip → Chip) (hf : ∀ x, Keeps x (f x)) (hz : Keeps z s) :
    Keeps z (spiTransfer s f) := by
  unfold spiTransfer
  split
  · exact .trans (.lit hz rfl rfl rfl rfl rfl rfl rfl rfl rfl rfl rfl rfl rfl rfl rfl rfl rfl) (hf _)
  · exact hz

theorem spiWrite_keeps {z : Chip} (bytes : List Byte) (s : Chip) (hz : Keeps z s) : Keeps z (spiWrite bytes s) := by
  refine hz.trans ?_
  clear hz
  unfold spiWrite
  repeat' first
    | (with_reducible apply spiTransfer_keeps; intro _)
    | with_reducible apply arrive_keeps
    | with_reducible apply setFault_keeps
    | with_reducible assumption
    | fail_if_no_progress beta_reduce
    | (extract_lets +onlyGivenNames x; refine Keeps.bind (x := x) (fun hx => ?_) ?_; rotate_left; subst x; rotate_right; clear_value x)
    | with_reducible apply Keeps.ite
    | with_reducible apply Keeps.refl

theorem spiRead_keeps {z : Chip} (n : Nat) (s : Chip) (hz : Keeps z s) : Keeps z (spiRead n s) := by
  refine hz.trans ?_
  clear hz
  unfold spiRead
  repeat' first
    | (with_reducible apply spiTransfer_keeps; intro _)
    | with_reducible apply readWindow_keeps
    | with_reducible assumption
    | fail_if_no_progress beta_reduce
    | with_reducible apply Keeps.refl

theorem spiOther_keeps {z : Chip} (cmd : Byte) (s : Chip) (hz : Keeps z s) : Keeps z (spiOther cmd s) := by
  refine hz.trans ?_
  clear hz
  unfold spiOther
  repeat' first
    | (with_reducible apply spiTransfer_keeps; intro _)
    | with_reducible assumption
    | fail_if_no_progress beta_reduce
    | with_reducible apply Keeps.ite
    | with_reducible apply Keeps.refl

theorem losePower_keeps {z : Chip} (s : Chip) (hz : Keeps z s) : Keeps z (losePower s) := by
  refine hz.trans ?_
  clear hz
  unfold losePower
  repeat' first
    | with_reducible apply goOff_keeps
    | with_reducible apply setErrn_keeps
    | with_reducible apply Chip_modOst_keeps
    | with_reducible assumption
    | fail_if_no_progress beta_reduce
    | with_reducible apply Keeps.ite
    | with_reducible apply Keeps.refl

theorem supplyLoss_keeps {z : Chip} (s : Chip) (hz : Keeps z s) : Keeps z (supplyLoss s) := by
  refine hz.trans ?_
  clear hz
  unfold supplyLoss
  repeat' first
    | with_reducible apply losePower_keeps
    | with_reducible apply Chip_modOst_keeps
    | with_reducible assumption
    | fail_if_no_progress beta_reduce
    | with_reducible apply Keeps.refl

theorem vinLow_keeps {z : Chip} (f : Feed) (s : Chip) (hz : Keeps z s) : Keeps z (vinLow f s) := by
  refine hz.trans ?_
  clear hz
  unfold vinLow
  repeat' first
    | with_reducible apply losePower_keeps
    | with_reducible apply Chip_modOst_keeps
    | with_reducible apply evalFault_keeps
    | with_reducible assumption
    | (extract_lets +onlyGivenNames x; refine Keeps.bind (x := x) (fun hx => ?_) ?_; rotate_left; subst x; rotate_right; clear_value x)
    | with_reducible apply Keeps.ite
    | with_reducible apply Keeps.refl

theorem vinReturn_keeps {z : Chip} (f : Feed) (st : Straps) (s : Chip) (hz : Keeps z s) : Keeps z (vinReturn f st s) := by
  refine hz.trans ?_
  clear hz
  unfold vinReturn
  repeat' first
    | with_reducible apply supplyLoss_keeps
    | with_reducible apply requestWake_keeps
    | with_reducible apply wakeIfReady_keeps
    | with_reducible apply Chip_modOst_keeps
    | with_reducible apply setLive_keeps
    | with_reducible assumption
    | (extract_lets +onlyGivenNames x; refine Keeps.bind (x := x) (fun hx => ?_) ?_; rotate_left; subst x; rotate_right; clear_value x)
    | (extract_lets +onlyGivenNames x; subst x)
    | with_reducible apply Keeps.ite
    | with_reducible apply Keeps.refl

theorem keepalivePowerOn_keeps {z : Chip} (st : Straps) (s : Chip) (hz : Keeps z s) : Keeps z (keepalivePowerOn st s) := by
  refine hz.trans ?_
  clear hz
  unfold keepalivePowerOn
  repeat' first
    | with_reducible apply requestWake_keeps
    | with_reducible apply studioLost_keeps
    | with_reducible apply Chip_modOst_keeps
    | with_reducible assumption
    | fail_if_no_progress beta_reduce
    | (extract_lets +onlyGivenNames x; refine Keeps.bind (x := x) (fun hx => ?_) ?_; rotate_left; subst x; rotate_right; clear_value x)
    | (extract_lets +onlyGivenNames x; subst x)
    | with_reducible apply Keeps.ite
    | with_reducible apply Keeps.refl

theorem rstnAssert_keeps {z : Chip} (s : Chip) (hz : Keeps z s) : Keeps z (rstnAssert s) := by
  refine hz.trans ?_
  clear hz
  unfold rstnAssert
  repeat' first
    | with_reducible apply goOff_keeps
    | with_reducible apply setErrn_keeps
    | with_reducible apply Chip_modOst_keeps
    | with_reducible assumption
    | fail_if_no_progress beta_reduce
    | (extract_lets +onlyGivenNames x; refine Keeps.bind (x := x) (fun hx => ?_) ?_; rotate_left; subst x; rotate_right; clear_value x)
    | with_reducible apply Keeps.ite
    | with_reducible apply Keeps.refl

theorem rstnRelease_keeps {z : Chip} (st : Straps) (s : Chip) (hz : Keeps z s) : Keeps z (rstnRelease st s) := by
  refine hz.trans ?_
  clear hz
  unfold rstnRelease
  repeat' first
    | with_reducible apply requestWake_keeps
    | with_reducible apply Chip_modOst_keeps
    | with_reducible assumption
    | fail_if_no_progress beta_reduce
    | with_reducible apply Keeps.ite
    | with_reducible apply Keeps.refl

theorem wakenPulse_keeps {z : Chip} (lowNs : Nat) (st : Straps) (s : Chip) (hz : Keeps z s) : Keeps z (wakenPulse lowNs st s) := by
  refine hz.trans ?_
  clear hz
  unfold wakenPulse
  repeat' first
    | with_reducible apply requestWake_keeps
    | with_reducible assumption
    | with_reducible apply Keeps.ite
    | with_reducible apply Keeps.refl

theorem requestOffPin_keeps {z : Chip} (s : Chip) (hz : Keeps z s) : Keeps z (requestOffPin s) := by
  refine hz.trans ?_
  clear hz
  unfold requestOffPin
  repeat' first
    | with_reducible apply goOff_keeps
    | with_reducible apply setErrn_keeps
    | with_reducible apply Chip_modOst_keeps
    | with_reducible assumption
    | fail_if_no_progress beta_reduce
    | (extract_lets +onlyGivenNames x; refine Keeps.bind (x := x) (fun hx => ?_) ?_; rotate_left; subst x; rotate_right; clear_value x)
    | (extract_lets +onlyGivenNames x; subst x)
    | with_reducible apply Keeps.ite
    | with_reducible apply Keeps.refl
    | fail_if_no_progress (with_reducible refine Keeps.lit ?_ rfl rfl rfl rfl rfl rfl rfl rfl rfl rfl rfl rfl rfl rfl rfl rfl rfl)
    | split

theorem nextStep_keeps {z : Chip} (s : Chip) (hz : Keeps z s) : Keeps z (nextStep s) := by
  refine hz.trans ?_
  clear hz
  unfold nextStep
  repeat' first
    | with_reducible apply enterW6_keeps
    | with_reducible apply endInOff_keeps
    | with_reducible apply Chip_modOst_keeps
    | with_reducible apply discharge_keeps
    | with_reducible assumption
    | fail_if_no_progress beta_reduce
    | with_reducible apply Keeps.ite
    | with_reducible apply Keeps.refl

theorem stepGood_keeps {z : Chip} (s : Chip) (hz : Keeps z s) : Keeps z (stepGood s) := by
  refine hz.trans ?_
  clear hz
  unfold stepGood
  repeat' first
    | with_reducible apply nextStep_keeps
    | with_reducible apply Chip_modOst_keeps
    | with_reducible assumption
    | fail_if_no_progress beta_reduce
    | with_reducible apply Keeps.ite
    | with_reducible apply Keeps.refl

theorem stepFails_keeps {z : Chip} (code : Nat) (s : Chip) (hz : Keeps z s) : Keeps z (stepFails code s) := by
  refine hz.trans ?_
  clear hz
  unfold stepFails
  repeat' first
    | with_reducible apply endInOff_keeps
    | with_reducible apply enterDeadStop_keeps
    | with_reducible assumption
    | with_reducible apply Keeps.ite
    | with_reducible apply Keeps.refl

theorem rcReference_keeps {z : Chip} (s : Chip) (hz : Keeps z s) : Keeps z (rcReference s) := by
  refine hz.trans ?_
  clear hz
  unfold rcReference
  repeat' first
    | with_reducible assumption
    | (extract_lets +onlyGivenNames x; subst x)
    | with_reducible apply Keeps.refl
    | fail_if_no_progress (with_reducible refine Keeps.lit ?_ rfl rfl rfl rfl rfl rfl rfl rfl rfl rfl rfl rfl rfl rfl rfl rfl rfl)

theorem onRc_keeps {z : Chip} (s : Chip) (hz : Keeps z s) : Keeps z (onRc s) := by
  refine hz.trans ?_
  clear hz
  unfold onRc
  repeat' first
    | with_reducible apply rcReference_keeps
    | with_reducible apply Chip_modOst_keeps
    | with_reducible assumption
    | fail_if_no_progress beta_reduce
    | with_reducible apply Keeps.refl

theorem retryStep_keeps {z : Chip} (wait : Nat) (s : Chip) (hz : Keeps z s) : Keeps z (retryStep wait s) := by
  refine hz.trans ?_
  clear hz
  unfold retryStep
  repeat' first
    | with_reducible apply Chip_modOst_keeps
    | with_reducible apply discharge_keeps
    | with_reducible assumption
    | fail_if_no_progress beta_reduce
    | with_reducible apply Keeps.refl

theorem stepTimedOut_keeps {z : Chip} (rcUsable : Bool) (s : Chip) (hz : Keeps z s) : Keeps z (stepTimedOut rcUsable s) := by
  refine hz.trans ?_
  clear hz
  unfold stepTimedOut
  repeat' first
    | with_reducible apply retryStep_keeps
    | with_reducible apply onRc_keeps
    | with_reducible apply rcReference_keeps
    | with_reducible apply stepFails_keeps
    | with_reducible apply nextStep_keeps
    | with_reducible apply wakeDone_keeps
    | with_reducible apply endInOff_keeps
    | with_reducible apply Chip_modOst_keeps
    | with_reducible assumption
    | fail_if_no_progress beta_reduce
    | (extract_lets +onlyGivenNames x; subst x)
    | with_reducible apply Keeps.ite
    | with_reducible apply Keeps.refl
    | fail_if_no_progress (with_reducible refine Keeps.lit ?_ rfl rfl rfl rfl rfl rfl rfl rfl rfl rfl rfl rfl rfl rfl rfl rfl rfl)
    | split

theorem stepRetry_keeps {z : Chip} (s : Chip) (hz : Keeps z s) : Keeps z (stepRetry s) := by
  refine hz.trans ?_
  clear hz
  unfold stepRetry
  repeat' first
    | with_reducible apply Chip_modOst_keeps
    | with_reducible apply discharge_keeps
    | with_reducible assumption
    | fail_if_no_progress beta_reduce
    | with_reducible apply Keeps.ite
    | with_reducible apply Keeps.refl

theorem wakeComplete_keeps {z : Chip} (s : Chip) (hz : Keeps z s) : Keeps z (wakeComplete s) := by
  refine hz.trans ?_
  clear hz
  unfold wakeComplete
  repeat' first
    | with_reducible apply wakeDone_keeps
    | with_reducible apply endInOff_keeps
    | with_reducible assumption
    | with_reducible apply Keeps.ite
    | with_reducible apply Keeps.refl

theorem deadStopRetry_keeps {z : Chip} (st : Straps) (s : Chip) (hz : Keeps z s) : Keeps z (deadStopRetry st s) := by
  refine hz.trans ?_
  clear hz
  unfold deadStopRetry
  repeat' first
    | with_reducible apply beginWake_keeps
    | with_reducible apply Chip_modOst_keeps
    | with_reducible assumption
    | fail_if_no_progress beta_reduce
    | (extract_lets +onlyGivenNames x; subst x)
    | with_reducible apply Keeps.ite
    | with_reducible apply Keeps.refl

theorem studioAbsent_keeps {z : Chip} (s : Chip) (hz : Keeps z s) : Keeps z (studioAbsent s) := by
  refine hz.trans ?_
  clear hz
  unfold studioAbsent
  repeat' first
    | with_reducible apply goOff_keeps
    | with_reducible apply setErrn_keeps
    | with_reducible apply Chip_modOst_keeps
    | with_reducible assumption
    | fail_if_no_progress beta_reduce
    | with_reducible apply Keeps.ite
    | with_reducible apply Keeps.refl

theorem studioAbsentRewake_keeps {z : Chip} (st : Straps) (s : Chip) (hz : Keeps z s) : Keeps z (studioAbsentRewake st s) := by
  refine hz.trans ?_
  clear hz
  unfold studioAbsentRewake
  repeat' first
    | with_reducible apply enterDeadStop_keeps
    | with_reducible apply wakeIfReady_keeps
    | with_reducible apply Chip_modOst_keeps
    | with_reducible assumption
    | fail_if_no_progress beta_reduce
    | (extract_lets +onlyGivenNames x; refine Keeps.bind (x := x) (fun hx => ?_) ?_; rotate_left; subst x; rotate_right; clear_value x)
    | (extract_lets +onlyGivenNames x; subst x)
    | with_reducible apply Keeps.ite
    | with_reducible apply Keeps.refl

theorem flushEnd_keeps {z : Chip} (st : Straps) (good : Bool) (s : Chip) (hz : Keeps z s) : Keeps z (flushEnd st good s) := by
  refine hz.trans ?_
  clear hz
  unfold flushEnd
  repeat' first
    | with_reducible apply writeSummary_keeps
    | with_reducible apply enterDeadStop_keeps
    | with_reducible apply wakeIfReady_keeps
    | with_reducible apply goOff_keeps
    | with_reducible apply setErrn_keeps
    | with_reducible apply Chip_modOst_keeps
    | with_reducible apply writeCounts_keeps
    | with_reducible apply writeCheckpoint_keeps
    | with_reducible apply setFault_keeps
    | with_reducible assumption
    | fail_if_no_progress beta_reduce
    | (extract_lets +onlyGivenNames x; refine Keeps.bind (x := x) (fun hx => ?_) ?_; rotate_left; subst x; rotate_right; clear_value x)
    | (extract_lets +onlyGivenNames x; subst x)
    | with_reducible apply Keeps.ite
    | with_reducible apply Keeps.refl
    | fail_if_no_progress (with_reducible refine Keeps.lit ?_ rfl rfl rfl rfl rfl rfl rfl rfl rfl rfl rfl rfl rfl rfl rfl rfl rfl)

theorem levelChange_keeps {z : Chip} (m : Nat) (held : HeldInput) (st : Straps) (s : Chip) (hz : Keeps z s) : Keeps z (levelChange m held st s) := by
  refine hz.trans ?_
  clear hz
  unfold levelChange
  repeat' first
    | with_reducible apply requestWake_keeps
    | with_reducible apply setLevel_keeps
    | with_reducible apply moveLevel_keeps
    | with_reducible assumption
    | fail_if_no_progress beta_reduce
    | (extract_lets +onlyGivenNames x; refine Keeps.bind (x := x) (fun hx => ?_) ?_; rotate_left; subst x; rotate_right; clear_value x)
    | (extract_lets +onlyGivenNames x; subst x)
    | with_reducible apply Keeps.ite
    | with_reducible apply Keeps.refl
    | fail_if_no_progress (with_reducible refine Keeps.lit ?_ rfl rfl rfl rfl rfl rfl rfl rfl rfl rfl rfl rfl rfl rfl rfl rfl rfl)
    | split

theorem rxWake_keeps {z : Chip} (s : Chip) (hz : Keeps z s) : Keeps z (rxWake s) := by
  refine hz.trans ?_
  clear hz
  unfold rxWake
  repeat' first
    | with_reducible apply Chip_modOst_keeps
    | with_reducible assumption
    | fail_if_no_progress beta_reduce
    | with_reducible apply Keeps.ite
    | with_reducible apply Keeps.refl

theorem rxSleep_keeps {z : Chip} (s : Chip) (hz : Keeps z s) : Keeps z (rxSleep s) := by
  refine hz.trans ?_
  clear hz
  unfold rxSleep
  repeat' first
    | with_reducible apply Chip_modOst_keeps
    | with_reducible assumption
    | fail_if_no_progress beta_reduce
    | with_reducible apply Keeps.ite
    | with_reducible apply Keeps.refl

theorem respondWith_keeps {z : Chip} (ver tag : Byte) (st : Status) (data : List Byte) (s : Chip) (hz : Keeps z s) : Keeps z (respondWith ver tag st data s) := by
  unfold respondWith
  dsimp only
  refine Keeps.lit (x := s.modPort .tw _) (.modPort .tw _ hz fun q h => ?_) rfl rfl rfl rfl rfl rfl rfl rfl rfl rfl rfl rfl rfl rfl rfl rfl rfl
  exact ⟨h.queue, Nat.le_add_left 1 7⟩

theorem respond_keeps {z : Chip} (anyVer : Bool) (rq : Request) (f : Chip → Status × List Byte × Chip) (s : Chip)
    (ha : ∀ x, Keeps x (f x).2.2) (hz : Keeps z s) : Keeps z (respond anyVer rq f s) := by
  unfold respond
  split
  · split
    · exact respondWith_keeps _ _ _ _ _ hz
    split
    · exact respondWith_keeps _ _ _ _ _ hz
    · exact respondWith_keeps _ _ _ _ _ (hz.trans (ha _))
  · exact hz

theorem respHello_keeps {z : Chip} (rq : Request) (s : Chip) (hz : Keeps z s) : Keeps z (respHello rq s).2.2 := by
  refine hz.trans ?_
  clear hz
  unfold respHello
  repeat' first
    | with_reducible assumption
    | fail_if_no_progress beta_reduce
    | with_reducible apply Keeps.refl
    | fail_if_no_progress (with_reducible refine Keeps.lit ?_ rfl rfl rfl rfl rfl rfl rfl rfl rfl rfl rfl rfl rfl rfl rfl rfl rfl)
    | split

theorem responderModeRequest_keeps {z : Chip} (rq : Request) (st : Straps) (s : Chip) (hz : Keeps z s) : Keeps z (responderModeRequest rq st s) := by
  refine hz.trans ?_
  clear hz
  unfold responderModeRequest
  repeat' first
    | (with_reducible apply respond_keeps; intro _)
    | with_reducible apply requestOffPin_keeps
    | with_reducible apply requestWake_keeps
    | with_reducible apply Chip_modOst_keeps
    | with_reducible apply Chip_modPort_keeps
    | with_reducible assumption
    | with_reducible apply Keeps.modPort
    | exact fun q h => ⟨h.queue, h.replies⟩
    | fail_if_no_progress beta_reduce
    | (extract_lets +onlyGivenNames x; refine Keeps.bind (x := x) (fun hx => ?_) ?_; rotate_left; subst x; rotate_right; clear_value x)
    | (extract_lets +onlyGivenNames x; subst x)
    | with_reducible apply Keeps.ite
    | with_reducible apply Keeps.refl

theorem toRc_keeps {z : Chip} (s : Chip) (hz : Keeps z s) : Keeps z (toRc s) := by
  refine hz.trans ?_
  clear hz
  unfold toRc
  repeat' first
    | with_reducible apply onRc_keeps
    | with_reducible apply evalFault_keeps
    | with_reducible assumption
    | (extract_lets +onlyGivenNames x; refine Keeps.bind (x := x) (fun hx => ?_) ?_; rotate_left; subst x; rotate_right; clear_value x)
    | with_reducible apply Keeps.ite
    | with_reducible apply Keeps.refl

theorem xtalFail_keeps {z : Chip} (s : Chip) (hz : Keeps z s) : Keeps z (xtalFail s) := by
  refine hz.trans ?_
  clear hz
  unfold xtalFail
  repeat' first
    | with_reducible apply toRc_keeps
    | with_reducible apply Chip_modOst_keeps
    | with_reducible assumption
    | fail_if_no_progress beta_reduce
    | with_reducible apply Keeps.ite
    | with_reducible apply Keeps.refl

theorem xtalRetry_keeps {z : Chip} (s : Chip) (hz : Keeps z s) : Keeps z (xtalRetry s) := by
  refine hz.trans ?_
  clear hz
  unfold xtalRetry
  repeat' first
    | with_reducible apply Chip_modOst_keeps
    | with_reducible assumption
    | fail_if_no_progress beta_reduce
    | with_reducible apply Keeps.ite
    | with_reducible apply Keeps.refl

theorem xtalRestore_keeps {z : Chip} (s : Chip) (hz : Keeps z s) : Keeps z (xtalRestore s) := by
  refine hz.trans ?_
  clear hz
  unfold xtalRestore
  repeat' first
    | with_reducible apply Chip_modOst_keeps
    | with_reducible apply setLive_keeps
    | with_reducible assumption
    | fail_if_no_progress beta_reduce
    | (extract_lets +onlyGivenNames x; refine Keeps.bind (x := x) (fun hx => ?_) ?_; rotate_left; subst x; rotate_right; clear_value x)
    | (extract_lets +onlyGivenNames x; subst x)
    | with_reducible apply Keeps.ite
    | with_reducible apply Keeps.refl
    | fail_if_no_progress (with_reducible refine Keeps.lit ?_ rfl rfl rfl rfl rfl rfl rfl rfl rfl rfl rfl rfl rfl rfl rfl rfl rfl)

theorem pllUnlock_keeps {z : Chip} (recovered : Bool) (s : Chip) (hz : Keeps z s) : Keeps z (pllUnlock recovered s) := by
  refine hz.trans ?_
  clear hz
  unfold pllUnlock
  repeat' first
    | with_reducible apply toRc_keeps
    | with_reducible apply enterDeadStop_keeps
    | with_reducible apply setFault_keeps
    | with_reducible assumption
    | (extract_lets +onlyGivenNames x; refine Keeps.bind (x := x) (fun hx => ?_) ?_; rotate_left; subst x; rotate_right; clear_value x)
    | with_reducible apply Keeps.ite
    | with_reducible apply Keeps.refl

theorem rcClockFail_keeps {z : Chip} (s : Chip) (hz : Keeps z s) : Keeps z (rcClockFail s) := by
  refine hz.trans ?_
  clear hz
  unfold rcClockFail
  repeat' first
    | with_reducible apply enterDeadStop_keeps
    | with_reducible assumption
    | with_reducible apply Keeps.ite
    | with_reducible apply Keeps.refl

theorem latchAll_keeps {z : Chip} (l : Latch) (s : Chip) (hz : Keeps z s) : Keeps z (latchAll l s) := by
  refine hz.trans ?_
  clear hz
  unfold latchAll
  repeat' first
    | with_reducible assumption
    | fail_if_no_progress beta_reduce
    | (extract_lets +onlyGivenNames x; subst x)
    | with_reducible apply Keeps.refl
    | fail_if_no_progress (with_reducible refine Keeps.lit ?_ rfl rfl rfl rfl rfl rfl rfl rfl rfl rfl rfl rfl rfl rfl rfl rfl rfl)

theorem dieLinkTick_keeps {z : Chip} (l : Latch) (s : Chip) (hz : Keeps z s) : Keeps z (dieLinkTick l s) := by
  refine hz.trans ?_
  clear hz
  unfold dieLinkTick
  repeat' first
    | with_reducible apply Chip_modMe_keeps
    | with_reducible assumption
    | with_reducible exact rfl
    | fail_if_no_progress beta_reduce
    | with_reducible apply Keeps.ite
    | with_reducible apply Keeps.refl

theorem powerSums_keeps {z : Chip} (s : Chip) (hz : Keeps z s) : Keeps z (powerSums s) := by
  refine hz.trans ?_
  clear hz
  unfold powerSums
  repeat' first
    | with_reducible assumption
    | fail_if_no_progress beta_reduce
    | (extract_lets +onlyGivenNames x; subst x)
    | with_reducible apply Keeps.refl
    | fail_if_no_progress (with_reducible refine Keeps.lit ?_ rfl rfl rfl rfl rfl rfl rfl rfl rfl rfl rfl rfl rfl rfl rfl rfl rfl)

theorem applySetpoints_keeps {z : Chip} (s : Chip) (hz : Keeps z s) : Keeps z (applySetpoints s) := by
  refine hz.trans ?_
  clear hz
  unfold applySetpoints
  repeat' first
    | with_reducible apply applyQueues_keeps
    | with_reducible apply applySeqQueue_keeps
    | with_reducible assumption
    | with_reducible apply Keeps.ite
    | with_reducible apply Keeps.refl

theorem settleTick_keeps {z : Chip} (s : Chip) (hz : Keeps z s) : Keeps z (settleTick s) := by
  refine hz.trans ?_
  clear hz
  unfold settleTick
  repeat' first
    | with_reducible assumption
    | (extract_lets +onlyGivenNames x; subst x)
    | with_reducible apply Keeps.ite
    | with_reducible apply Keeps.refl
    | fail_if_no_progress (with_reducible refine Keeps.lit ?_ rfl rfl rfl rfl rfl rfl rfl rfl rfl rfl rfl rfl rfl rfl rfl rfl rfl)

theorem trefRead_keeps {z : Chip} (n : Nat) (s : Chip) (hz : Keeps z s) : Keeps z (trefRead n s) := by
  refine hz.trans ?_
  clear hz
  unfold trefRead
  repeat' first
    | with_reducible apply evalFault_keeps
    | with_reducible apply Chip_modCh_keeps
    | with_reducible assumption
    | fail_if_no_progress beta_reduce
    | (extract_lets +onlyGivenNames x; refine Keeps.bind (x := x) (fun hx => ?_) ?_; rotate_left; subst x; rotate_right; clear_value x)
    | (extract_lets +onlyGivenNames x; subst x)
    | with_reducible apply Keeps.ite
    | with_reducible apply Keeps.refl

theorem trefStep_keeps {z : Chip} (s : Chip) (hz : Keeps z s) : Keeps z (trefStep s) := by
  refine hz.trans ?_
  clear hz
  unfold trefStep
  repeat' first
    | with_reducible apply trefRead_keeps
    | with_reducible assumption
    | (with_reducible apply Keeps.forEach; intro _ _)
    | fail_if_no_progress beta_reduce
    | with_reducible apply Keeps.ite
    | with_reducible apply Keeps.refl

theorem resetLinks_keeps {z : Chip} (s : Chip) (hz : Keeps z s) : Keeps z (resetLinks s) := by
  refine hz.trans ?_
  clear hz
  unfold resetLinks
  repeat' first
    | with_reducible apply linkDown_keeps
    | with_reducible apply refuseBurst_keeps
    | with_reducible apply Chip_modLink_keeps
    | with_reducible assumption
    | (with_reducible apply Keeps.forEach; intro _ _)
    | fail_if_no_progress beta_reduce
    | (extract_lets +onlyGivenNames x; refine Keeps.bind (x := x) (fun hx => ?_) ?_; rotate_left; subst x; rotate_right; clear_value x)
    | with_reducible apply Keeps.ite
    | with_reducible apply Keeps.refl

theorem resetSense_keeps {z : Chip} (s : Chip) (hz : Keeps z s) : Keeps z (resetSense s) := by
  unfold resetSense
  refine .forEach (fun _ _ => Chip_modCap_keeps _ _ _ (Nat.zero_le _) (.refl _)) (.forEach (fun _ _ => ?_) hz)
  exact .ite (seqHalt_keeps _ _ _ (.refl _)) (.refl _)

theorem resetBuses_keeps {z : Chip} (low : List Bool) (s : Chip) (hz : Keeps z s) : Keeps z (resetBuses low s) := by
  refine hz.trans ?_
  clear hz
  unfold resetBuses
  repeat' first
    | with_reducible apply dsFinish_keeps
    | with_reducible apply setStuck_keeps
    | with_reducible apply recovers_keeps
    | with_reducible assumption
    | (with_reducible apply Keeps.forEach; intro _ _)
    | fail_if_no_progress beta_reduce
    | with_reducible apply Keeps.ite
    | with_reducible apply Keeps.refl

theorem resetBlock_keeps {z : Chip} (l : Latch) (b : Nat) (s : Chip) (hz : Keeps z s) : Keeps z (resetBlock l b s) := by
  refine hz.trans ?_
  clear hz
  unfold resetBlock
  repeat' first
    | with_reducible apply resetBuses_keeps
    | with_reducible apply resetSense_keeps
    | with_reducible apply resetLinks_keeps
    | with_reducible apply linkRestart_keeps
    | with_reducible apply yardStopNow_keeps
    | with_reducible apply emptyPorts_keeps
    | with_reducible assumption
    | with_reducible apply Keeps.ite
    | with_reducible apply Keeps.refl

theorem tryReset_keeps {z : Chip} (l : Latch) (s : Chip) (b : Nat) (hz : Keeps z s) : Keeps z (tryReset l s b) := by
  refine hz.trans ?_
  clear hz
  unfold tryReset
  repeat' first
    | with_reducible apply resetBlock_keeps
    | with_reducible assumption
    | fail_if_no_progress beta_reduce
    | (extract_lets +onlyGivenNames x; refine Keeps.bind (x := x) (fun hx => ?_) ?_; rotate_left; subst x; rotate_right; clear_value x)
    | (extract_lets +onlyGivenNames x; subst x)
    | with_reducible apply Keeps.ite
    | with_reducible apply Keeps.refl
    | fail_if_no_progress (with_reducible refine Keeps.lit ?_ rfl rfl rfl rfl rfl rfl rfl rfl rfl rfl rfl rfl rfl rfl rfl rfl rfl)

theorem nmi_keeps {z : Chip} (ids : List Nat) (s : Chip) (hz : Keeps z s) : Keeps z (nmi ids s) := by
  refine hz.trans ?_
  clear hz
  unfold nmi
  repeat' first
    | with_reducible apply recPost_keeps
    | with_reducible assumption
    | (with_reducible apply Keeps.foldl; intro _ _)
    | fail_if_no_progress beta_reduce
    | (extract_lets +onlyGivenNames x; refine Keeps.bind (x := x) (fun hx => ?_) ?_; rotate_left; subst x; rotate_right; clear_value x)
    | (extract_lets +onlyGivenNames x; subst x)
    | with_reducible apply Keeps.ite
    | with_reducible apply Keeps.refl
    | fail_if_no_progress (with_reducible refine Keeps.lit ?_ rfl rfl rfl rfl rfl rfl rfl rfl rfl rfl rfl rfl rfl rfl rfl rfl rfl)

theorem reactions_keeps {z : Chip} (l : Latch) (s : Chip) (hz : Keeps z s) : Keeps z (reactions l s) := by
  refine hz.trans ?_
  clear hz
  unfold reactions
  repeat' first
    | with_reducible apply nmi_keeps
    | with_reducible apply tryReset_keeps
    | with_reducible apply chipReset_keeps
    | with_reducible apply setErrn_keeps
    | with_reducible assumption
    | (with_reducible apply Keeps.foldl; intro _ _)
    | fail_if_no_progress beta_reduce
    | (extract_lets +onlyGivenNames x; refine Keeps.bind (x := x) (fun hx => ?_) ?_; rotate_left; subst x; rotate_right; clear_value x)
    | (extract_lets +onlyGivenNames x; subst x)
    | with_reducible apply Keeps.ite
    | with_reducible apply Keeps.refl
    | fail_if_no_progress (with_reducible refine Keeps.lit ?_ rfl rfl rfl rfl rfl rfl rfl rfl rfl rfl rfl rfl rfl rfl rfl rfl rfl)
    | split

theorem renewFaults_keeps {z : Chip} (s : Chip) (hz : Keeps z s) : Keeps z (renewFaults s) := by
  refine hz.trans ?_
  clear hz
  unfold renewFaults
  repeat' first
    | with_reducible apply setFault_keeps
    | with_reducible assumption
    | (with_reducible apply Keeps.foldl; intro _ _)
    | with_reducible apply Keeps.refl

/-- The boundary of a tick: what commands keep is kept, and the tick count steps. -/
structure Ticks (s t : Chip) : Prop where
  inv : Inv s → Inv t
  otp : Inv s → OtpGrows s.otp t.otp
  tick : t.clk.tick = s.clk.tick + 1
  epoch : EpochOk s.mode.epoch s.pair.me.retEpoch → EpochOk t.mode.epoch t.pair.me.retEpoch

theorem Ticks.then {s t u : Chip} (h : Ticks s t) (k : Keeps t u) : Ticks s u :=
  ⟨k.inv ∘ h.inv, fun b => (h.otp b).trans (k.otp (h.inv b)), k.tick.trans h.tick, k.epoch ∘ h.epoch⟩

theorem stepClock_ticks (s : Chip) (n h f : Nat) (d : Bool) (hn : n = s.clk.tick + 1) :
    Ticks s { s with clk := ⟨n, h, f, d⟩ } :=
  ⟨fun b => ⟨b.events, b.recorder, b.energy, b.ports, b.sticky, b.sources, b.rollback, b.sram, b.depths⟩, fun _ => .refl _, hn, id⟩

theorem clockTick_ticks (s : Chip) : Ticks s (clockTick s) :=
  (stepClock_ticks s _ s.clk.hall s.clk.fresh s.clk.degraded rfl).then (hallTimeTick_keeps _ (.refl _))

theorem enginesTick_keeps {z : Chip} (s : Chip) (hz : Keeps z s) : Keeps z (enginesTick s) := by
  refine hz.trans ?_
  clear hz
  unfold enginesTick
  repeat' first
    | with_reducible apply applySetpoints_keeps
    | with_reducible apply powerSums_keeps
    | with_reducible apply hostLossStep_keeps
    | with_reducible apply svcStep_keeps
    | with_reducible apply chTick_keeps
    | with_reducible apply linkTick_keeps
    | with_reducible apply railTick_keeps
    | with_reducible assumption
    | (with_reducible apply Keeps.forEach; intro _ _)
    | fail_if_no_progress beta_reduce
    | with_reducible apply Keeps.refl

theorem blocksTick_keeps {z : Chip} (l : Latch) (s : Chip) (hz : Keeps z s) : Keeps z (blocksTick l s) := by
  refine hz.trans ?_
  clear hz
  unfold blocksTick
  repeat' first
    | with_reducible apply trefStep_keeps
    | with_reducible apply settleTick_keeps
    | with_reducible apply trimTick_keeps
    | with_reducible apply throttleTick_keeps
    | with_reducible apply copyTick_keeps
    | with_reducible apply hkStep_keeps
    | with_reducible apply yardTick_keeps
    | with_reducible apply hallTick_keeps
    | with_reducible apply exhaustStep_keeps
    | with_reducible apply pairTick_keeps
    | with_reducible apply stageProgress_keeps
    | with_reducible apply batTick_keeps
    | with_reducible apply attestTick_keeps
    | with_reducible apply ledgerTick_keeps
    | with_reducible apply dsTick_keeps
    | with_reducible assumption
    | (with_reducible apply Keeps.forEach; intro _ _)
    | fail_if_no_progress beta_reduce
    | with_reducible apply Keeps.ite
    | with_reducible apply Keeps.refl

theorem Ticks.after {s t u : Chip} (h : Keeps s t) (k : Ticks t u) : Ticks s u :=
  ⟨k.inv ∘ h.inv, fun b => (h.otp b).trans (k.otp (h.inv b)), k.tick.trans (h.tick ▸ rfl), k.epoch ∘ h.epoch⟩

theorem runTick_ticks (l : Latch) (s : Chip) : Ticks s (runTick l s) :=
  ((Ticks.after (mirrorSend_keeps s (.refl _)) (clockTick_ticks (mirrorSend s))).then (keepView_keeps _ (reactions_keeps _ _ (renewFaults_keeps _ (blocksTick_keeps _ _
    (enginesTick_keeps _ (dieLinkTick_keeps _ _ (latchAll_keeps _ _ (.refl _)))))))))

theorem tick_ticks (l : Latch) (s : Chip) : Ticks s (tick l s) := by
  unfold tick
  split
  · exact runTick_ticks l s
  split
  · dsimp only
    split
    · exact (clockTick_ticks s).then (.ite (dieLinkTick_keeps _ _ (markUnc_keeps _ (.refl _))) (markUnc_keeps _ (.refl _)))
    · exact (clockTick_ticks s).then (.ite (dieLinkTick_keeps _ _ (.refl _)) (.refl _))
  · exact stepClock_ticks s _ _ _ _ rfl

end Sys2Proof.Machine
end

