-- ==== Sys2Proof/Laws/SameMode.lean ====
section
/-! SUPPORT. Operations that leave the mode register as it is, for the rule that the mode moves only along R37: one lemma per
operation. -/

namespace Sys2Proof.Machine

/-- From `s` to `t` the mode register is as it was. -/
structure SameMode (s t : Chip) : Prop where
  eq : t.mode.mode = s.mode.mode

theorem SameMode.refl (s : Chip) : SameMode s s := ⟨rfl⟩

theorem SameMode.trans {s t u : Chip} (h : SameMode s t) (k : SameMode t u) : SameMode s u := ⟨k.eq.trans h.eq⟩

theorem SameMode.lit {s x : Chip} {c_clk c_strap c_mode c_img c_imgValid c_chs c_chQueue c_rails c_railQueue c_terms c_bats c_batRecs c_hk c_sram c_seqs c_mons c_caps c_sense c_ds c_dsPoll c_throttled c_energy c_book c_rects c_links c_bursts c_meters c_meterBook c_ledger c_tw c_spi c_addr c_spiStatus c_receipts c_deadBelow c_events c_svc c_faults c_dogs c_retained c_pair c_net c_sketch c_box c_boxWait c_boxDue c_boxUsed c_boxSeen c_fw c_otp c_mram c_cfg c_ostler c_heat} (h : SameMode s x) (h0 : c_mode.mode = x.mode.mode) : SameMode s (Chip.mk c_clk c_strap c_mode c_img c_imgValid c_chs c_chQueue c_rails c_railQueue c_terms c_bats c_batRecs c_hk c_sram c_seqs c_mons c_caps c_sense c_ds c_dsPoll c_throttled c_energy c_book c_rects c_links c_bursts c_meters c_meterBook c_ledger c_tw c_spi c_addr c_spiStatus c_receipts c_deadBelow c_events c_svc c_faults c_dogs c_retained c_pair c_net c_sketch c_box c_boxWait c_boxDue c_boxUsed c_boxSeen c_fw c_otp c_mram c_cfg c_ostler c_heat) := h.trans ⟨h0⟩

theorem SameMode.ite {s y z : Chip} {c : Prop} [Decidable c] (h : SameMode s y) (k : SameMode s z) : SameMode s (if c then y else z) := by
  split <;> assumption

theorem SameMode.iteSelf {s x y : Chip} {c : Prop} [Decidable c] (h : SameMode x y) (k : SameMode s x) : SameMode s (if c then y else x) := by
  split
  · exact k.trans h
  · exact k

theorem SameMode.bind {s x t : Chip} (k : SameMode s x → SameMode s t) (h : SameMode s x) : SameMode s t := k h

theorem SameMode.letAny {α : Sort _} {s : Chip} {e : α} {b : α → Chip} (k : ∀ x, SameMode s (b x)) : SameMode s (let x := e; b x) := k e

theorem SameMode.foldl {α : Type} {s x : Chip} {g : Chip → α → Chip} {l : List α} (k : ∀ y a, SameMode y (g y a)) (h : SameMode s x) : SameMode s (l.foldl g x) := by
  induction l generalizing x with
  | nil => exact h
  | cons a l ih => exact ih (h.trans (k x a))

theorem SameMode.forEach {s x : Chip} {g : Nat → Chip → Chip} {n : Nat} (k : ∀ a y, SameMode y (g a y)) (h : SameMode s x) : SameMode s (forEach n g x) :=
  SameMode.foldl (fun y a => k a y) h

theorem SameMode.foldProj {α β : Type} {s : Chip} (p : β → Chip) {g : β → α → β} (k : ∀ b a, SameMode (p b) (p (g b a)))
    {l : List α} {b : β} (h : SameMode s (p b)) : SameMode s (p (l.foldl g b)) := by
  induction l generalizing b with
  | nil => exact h
  | cons a l ih => exact ih (h.trans (k b a))

theorem SameMode.foldMem {α : Type} {s x : Chip} {g : Chip → α → Chip} {l : List α} (k : ∀ a ∈ l, ∀ y, SameMode y (g y a)) (h : SameMode s x) :
    SameMode s (l.foldl g x) := by
  induction l generalizing x with
  | nil => exact h
  | cons a l ih => exact ih (fun b hb => k b (.tail _ hb)) (h.trans (k a (.head _) x))

theorem SameMode.optMap {α : Type} {s y : Chip} {o : Option α} {g : α → Chip} (k : ∀ a, SameMode y (g a)) (h : SameMode s y) : SameMode s ((o.map g).getD y) := by
  cases o
  · exact h
  · exact h.trans (k _)

theorem Chip_setCh_SameMode {z : Chip} (s : Chip) (n : Nat) (c : Ch) (hz : SameMode z s) : SameMode z (Chip.setCh s n c) := by
  refine hz.trans ?_
  clear hz
  unfold Chip.setCh
  repeat' first
    | with_reducible assumption
    | fail_if_no_progress beta_reduce
    | with_reducible apply SameMode.ite
    | with_reducible apply SameMode.refl
    | fail_if_no_progress (with_reducible refine SameMode.lit ?_ rfl)

theorem Chip_modCh_SameMode {z : Chip} (s : Chip) (n : Nat) (f : Ch → Ch) (hz : SameMode z s) : SameMode z (Chip.modCh s n f) := by
  refine hz.trans ?_
  clear hz
  unfold Chip.modCh
  repeat' first
    | with_reducible apply Chip_setCh_SameMode
    | with_reducible assumption
    | fail_if_no_progress beta_reduce
    | with_reducible apply SameMode.ite
    | with_reducible apply SameMode.refl

theorem Chip_setRail_SameMode {z : Chip} (s : Chip) (n : Nat) (r : Rail) (hz : SameMode z s) : SameMode z (Chip.setRail s n r) := by
  refine hz.trans ?_
  clear hz
  unfold Chip.setRail
  repeat' first
    | with_reducible assumption
    | fail_if_no_progress beta_reduce
    | with_reducible apply SameMode.ite
    | with_reducible apply SameMode.refl
    | fail_if_no_progress (with_reducible refine SameMode.lit ?_ rfl)

theorem Chip_modRail_SameMode {z : Chip} (s : Chip) (n : Nat) (f : Rail → Rail) (hz : SameMode z s) : SameMode z (Chip.modRail s n f) := by
  refine hz.trans ?_
  clear hz
  unfold Chip.modRail
  repeat' first
    | with_reducible apply Chip_setRail_SameMode
    | with_reducible assumption
    | fail_if_no_progress beta_reduce
    | with_reducible apply SameMode.ite
    | with_reducible apply SameMode.refl

theorem Chip_setLink_SameMode {z : Chip} (s : Chip) (n : Nat) (l : Link) (hz : SameMode z s) : SameMode z (Chip.setLink s n l) := by
  refine hz.trans ?_
  clear hz
  unfold Chip.setLink
  repeat' first
    | with_reducible assumption
    | fail_if_no_progress beta_reduce
    | with_reducible apply SameMode.ite
    | with_reducible apply SameMode.refl
    | fail_if_no_progress (with_reducible refine SameMode.lit ?_ rfl)

theorem Chip_modLink_SameMode {z : Chip} (s : Chip) (n : Nat) (f : Link → Link) (hz : SameMode z s) : SameMode z (Chip.modLink s n f) := by
  refine hz.trans ?_
  clear hz
  unfold Chip.modLink
  repeat' first
    | with_reducible apply Chip_setLink_SameMode
    | with_reducible assumption
    | fail_if_no_progress beta_reduce
    | with_reducible apply SameMode.ite
    | with_reducible apply SameMode.refl

theorem Chip_setBurst_SameMode {z : Chip} (s : Chip) (n : Nat) (b : Burst) (hz : SameMode z s) : SameMode z (Chip.setBurst s n b) := by
  refine hz.trans ?_
  clear hz
  unfold Chip.setBurst
  repeat' first
    | with_reducible assumption
    | fail_if_no_progress beta_reduce
    | with_reducible apply SameMode.ite
    | with_reducible apply SameMode.refl
    | fail_if_no_progress (with_reducible refine SameMode.lit ?_ rfl)

theorem Chip_modBurst_SameMode {z : Chip} (s : Chip) (n : Nat) (f : Burst → Burst) (hz : SameMode z s) : SameMode z (Chip.modBurst s n f) := by
  refine hz.trans ?_
  clear hz
  unfold Chip.modBurst
  repeat' first
    | with_reducible apply Chip_setBurst_SameMode
    | with_reducible assumption
    | fail_if_no_progress beta_reduce
    | with_reducible apply SameMode.ite
    | with_reducible apply SameMode.refl

theorem Chip_modPort_SameMode {z : Chip} (s : Chip) (p : Port) (f : PortState → PortState) (hz : SameMode z s) : SameMode z (Chip.modPort s p f) :=
  hz.trans ⟨by cases p <;> rfl⟩

theorem postRecord_SameMode {z : Chip} (s : Chip) (cls : Nat) (body : List Byte) (done : Option (ReqRef × Status)) (hz : SameMode z s) : SameMode z (postRecord s cls body done) := by
  refine hz.trans ?_
  clear hz
  unfold postRecord
  repeat' first
    | with_reducible assumption
    | fail_if_no_progress beta_reduce
    | (extract_lets +onlyGivenNames x; subst x)
    | with_reducible apply SameMode.ite
    | with_reducible apply SameMode.refl
    | fail_if_no_progress (with_reducible refine SameMode.lit ?_ rfl)

theorem post_SameMode {z : Chip} (s : Chip) (cls : Nat) (body : List Byte) (done : List (ReqRef × Status)) (hz : SameMode z s) : SameMode z (post s cls body done) := by
  refine hz.trans ?_
  clear hz
  unfold post
  repeat' first
    | with_reducible apply postRecord_SameMode
    | with_reducible assumption
    | (with_reducible apply SameMode.foldl; intro _ _)
    | fail_if_no_progress beta_reduce
    | with_reducible apply SameMode.ite
    | with_reducible apply SameMode.refl
    | fail_if_no_progress (with_reducible refine SameMode.lit ?_ rfl)
    | split

theorem clearFlags_SameMode {z : Chip} (s : Chip) (p : Port) (hz : SameMode z s) : SameMode z (clearFlags s p) := by
  refine hz.trans ?_
  clear hz
  unfold clearFlags
  repeat' first
    | with_reducible apply Chip_modPort_SameMode
    | with_reducible assumption
    | fail_if_no_progress beta_reduce
    | with_reducible apply SameMode.ite
    | with_reducible apply SameMode.refl

theorem formReply_SameMode {z : Chip} (s : Chip) (r : ReqRef) (st : Status) (data : List Byte) (more : Bool) (hz : SameMode z s) : SameMode z (formReply s r st data more) := by
  refine hz.trans ?_
  clear hz
  unfold formReply
  repeat' first
    | with_reducible apply clearFlags_SameMode
    | with_reducible apply Chip_modPort_SameMode
    | with_reducible assumption
    | fail_if_no_progress beta_reduce
    | (extract_lets +onlyGivenNames x; refine SameMode.bind (x := x) (fun hx => ?_) ?_; rotate_left; subst x; rotate_right; clear_value x)
    | (extract_lets +onlyGivenNames x; subst x)
    | with_reducible apply SameMode.ite
    | with_reducible apply SameMode.refl

theorem recPost_SameMode {z : Chip} (s : Chip) (kind sev source : Nat) (detail : List Byte) (hz : SameMode z s) : SameMode z (recPost s kind sev source detail) := by
  refine hz.trans ?_
  clear hz
  unfold recPost
  repeat' first
    | with_reducible assumption
    | fail_if_no_progress beta_reduce
    | (extract_lets +onlyGivenNames x; subst x)
    | with_reducible apply SameMode.ite
    | with_reducible apply SameMode.refl
    | fail_if_no_progress (with_reducible refine SameMode.lit ?_ rfl)

theorem addTrigger_SameMode {z : Chip} (s : Chip) (d : Nat) (cause : TrigCause) (hz : SameMode z s) : SameMode z (addTrigger s d cause) := by
  refine hz.trans ?_
  clear hz
  unfold addTrigger
  repeat' first
    | with_reducible assumption
    | fail_if_no_progress beta_reduce
    | (extract_lets +onlyGivenNames x; subst x)
    | with_reducible apply SameMode.ite
    | with_reducible apply SameMode.refl
    | fail_if_no_progress (with_reducible refine SameMode.lit ?_ rfl)

theorem trigWhere_SameMode {z : Chip} (s : Chip) (f : CapDef → Bool) (cause : TrigCause) (hz : SameMode z s) : SameMode z (trigWhere s f cause) := by
  refine hz.trans ?_
  clear hz
  unfold trigWhere
  repeat' first
    | with_reducible apply addTrigger_SameMode
    | with_reducible assumption
    | (with_reducible apply SameMode.foldl; intro _ _)
    | fail_if_no_progress beta_reduce
    | (extract_lets +onlyGivenNames x; subst x)
    | with_reducible apply SameMode.ite
    | with_reducible apply SameMode.refl

theorem startFreeze_SameMode {z : Chip} (s : Chip) (cause source : Nat) (hz : SameMode z s) : SameMode z (startFreeze s cause source) := by
  refine hz.trans ?_
  clear hz
  unfold startFreeze
  repeat' first
    | with_reducible assumption
    | fail_if_no_progress beta_reduce
    | (extract_lets +onlyGivenNames x; subst x)
    | with_reducible apply SameMode.ite
    | with_reducible apply SameMode.refl
    | fail_if_no_progress (with_reducible refine SameMode.lit ?_ rfl)

theorem trigFault_SameMode {z : Chip} (s : Chip) (id sev : Nat) (hz : SameMode z s) : SameMode z (trigFault s id sev) := by
  refine hz.trans ?_
  clear hz
  unfold trigFault
  repeat' first
    | with_reducible apply trigWhere_SameMode
    | with_reducible assumption
    | fail_if_no_progress beta_reduce
    | (extract_lets +onlyGivenNames x; refine SameMode.bind (x := x) (fun hx => ?_) ?_; rotate_left; subst x; rotate_right; clear_value x)
    | with_reducible apply SameMode.ite
    | with_reducible apply SameMode.refl

theorem recordSet_SameMode {z : Chip} (s : Chip) (id sev mask : Nat) (hz : SameMode z s) : SameMode z (recordSet s id sev mask) := by
  refine hz.trans ?_
  clear hz
  unfold recordSet
  repeat' first
    | with_reducible apply trigFault_SameMode
    | with_reducible apply startFreeze_SameMode
    | with_reducible apply recPost_SameMode
    | with_reducible assumption
    | fail_if_no_progress beta_reduce
    | with_reducible apply SameMode.ite
    | with_reducible apply SameMode.refl

theorem setFault_SameMode {z : Chip} (s : Chip) (id : Nat) (hz : SameMode z s) : SameMode z (setFault s id) := by
  refine hz.trans ?_
  clear hz
  unfold setFault
  repeat' first
    | with_reducible apply recordSet_SameMode
    | with_reducible apply post_SameMode
    | with_reducible assumption
    | fail_if_no_progress beta_reduce
    | (extract_lets +onlyGivenNames x; refine SameMode.bind (x := x) (fun hx => ?_) ?_; rotate_left; subst x; rotate_right; clear_value x)
    | (extract_lets +onlyGivenNames x; subst x)
    | with_reducible apply SameMode.ite
    | with_reducible apply SameMode.refl
    | fail_if_no_progress (with_reducible refine SameMode.lit ?_ rfl)

theorem setRailState_SameMode {z : Chip} (s : Chip) (k : Nat) (st : RailState) (done : List (ReqRef × Status)) (hz : SameMode z s) : SameMode z (setRailState s k st done) := by
  refine hz.trans ?_
  clear hz
  unfold setRailState
  repeat' first
    | with_reducible apply recPost_SameMode
    | with_reducible apply post_SameMode
    | with_reducible apply Chip_modRail_SameMode
    | with_reducible assumption
    | fail_if_no_progress beta_reduce
    | (extract_lets +onlyGivenNames x; refine SameMode.bind (x := x) (fun hx => ?_) ?_; rotate_left; subst x; rotate_right; clear_value x)
    | with_reducible apply SameMode.ite
    | with_reducible apply SameMode.refl

theorem setLimit_SameMode {z : Chip} (s : Chip) (k : Nat) (on : Bool) (hz : SameMode z s) : SameMode z (setLimit s k on) := by
  refine hz.trans ?_
  clear hz
  unfold setLimit
  repeat' first
    | with_reducible apply post_SameMode
    | with_reducible apply Chip_modRail_SameMode
    | with_reducible assumption
    | fail_if_no_progress beta_reduce
    | (extract_lets +onlyGivenNames x; refine SameMode.bind (x := x) (fun hx => ?_) ?_; rotate_left; subst x; rotate_right; clear_value x)
    | with_reducible apply SameMode.ite
    | with_reducible apply SameMode.refl

theorem lanesMid_SameMode {z : Chip} (s : Chip) (k : Nat) (hz : SameMode z s) : SameMode z (lanesMid s k) := by
  refine hz.trans ?_
  clear hz
  unfold lanesMid
  repeat' first
    | with_reducible apply setLimit_SameMode
    | with_reducible apply Chip_modRail_SameMode
    | with_reducible assumption
    | fail_if_no_progress beta_reduce
    | with_reducible apply SameMode.ite
    | with_reducible apply SameMode.refl

theorem railStop_SameMode {z : Chip} (s : Chip) (k : Nat) (cause : RailStop) (st : RailState) (hz : SameMode z s) : SameMode z (railStop s k cause st) := by
  refine hz.trans ?_
  clear hz
  unfold railStop
  repeat' first
    | with_reducible apply lanesMid_SameMode
    | with_reducible apply setRailState_SameMode
    | with_reducible apply Chip_modRail_SameMode
    | with_reducible assumption
    | fail_if_no_progress beta_reduce
    | with_reducible apply SameMode.ite
    | with_reducible apply SameMode.refl

theorem railFeedOpen_SameMode {z : Chip} (s : Chip) (k : Nat) (hz : SameMode z s) : SameMode z (railFeedOpen s k) := by
  refine hz.trans ?_
  clear hz
  unfold railFeedOpen
  repeat' first
    | with_reducible apply railStop_SameMode
    | with_reducible assumption
    | fail_if_no_progress beta_reduce
    | (extract_lets +onlyGivenNames x; subst x)
    | with_reducible apply SameMode.ite
    | with_reducible apply SameMode.refl

theorem railKill_SameMode {z : Chip} (s : Chip) (k : Nat) (cause : RailStop) (hz : SameMode z s) : SameMode z (railKill s k cause) := by
  refine hz.trans ?_
  clear hz
  unfold railKill
  repeat' first
    | with_reducible apply railStop_SameMode
    | with_reducible apply setRailState_SameMode
    | with_reducible apply Chip_modRail_SameMode
    | with_reducible assumption
    | fail_if_no_progress beta_reduce
    | (extract_lets +onlyGivenNames x; refine SameMode.bind (x := x) (fun hx => ?_) ?_; rotate_left; subst x; rotate_right; clear_value x)
    | (extract_lets +onlyGivenNames x; subst x)
    | with_reducible apply SameMode.ite
    | with_reducible apply SameMode.refl
    | fail_if_no_progress (with_reducible refine SameMode.lit ?_ rfl)
    | split

theorem postLink_SameMode {z : Chip} (s : Chip) (n kind : Nat) (hz : SameMode z s) : SameMode z (postLink s n kind) := by
  refine hz.trans ?_
  clear hz
  unfold postLink
  repeat' first
    | with_reducible apply post_SameMode
    | with_reducible assumption
    | fail_if_no_progress beta_reduce
    | with_reducible apply SameMode.ite
    | with_reducible apply SameMode.refl

theorem endGrant_SameMode {z : Chip} (s : Chip) (n : Nat) (g : Grant) (why : Refuse) (hz : SameMode z s) : SameMode z (endGrant s n g why) := by
  refine hz.trans ?_
  clear hz
  unfold endGrant
  repeat' first
    | with_reducible apply postLink_SameMode
    | with_reducible apply Chip_modBurst_SameMode
    | with_reducible apply Chip_modLink_SameMode
    | with_reducible assumption
    | fail_if_no_progress beta_reduce
    | with_reducible apply SameMode.ite
    | with_reducible apply SameMode.refl

theorem refuseBurst_SameMode {z : Chip} (s : Chip) (n : Nat) (why : Refuse) (hz : SameMode z s) : SameMode z (refuseBurst s n why) := by
  refine hz.trans ?_
  clear hz
  unfold refuseBurst
  repeat' first
    | with_reducible apply postLink_SameMode
    | with_reducible apply Chip_modBurst_SameMode
    | with_reducible apply Chip_modLink_SameMode
    | with_reducible assumption
    | fail_if_no_progress beta_reduce
    | (extract_lets +onlyGivenNames x; refine SameMode.bind (x := x) (fun hx => ?_) ?_; rotate_left; subst x; rotate_right; clear_value x)
    | with_reducible apply SameMode.ite
    | with_reducible apply SameMode.refl

theorem withdrawFeed_SameMode {z : Chip} (s : Chip) (n : Nat) (hz : SameMode z s) : SameMode z (withdrawFeed s n) := by
  refine hz.trans ?_
  clear hz
  unfold withdrawFeed
  repeat' first
    | with_reducible apply endGrant_SameMode
    | with_reducible apply Chip_modBurst_SameMode
    | with_reducible assumption
    | (with_reducible apply SameMode.forEach; intro _ _)
    | fail_if_no_progress beta_reduce
    | with_reducible apply SameMode.ite
    | with_reducible apply SameMode.refl

theorem leftOn_SameMode {z : Chip} (s : Chip) (n : Nat) (hz : SameMode z s) : SameMode z (leftOn s n) := by
  refine hz.trans ?_
  clear hz
  unfold leftOn
  repeat' first
    | with_reducible apply withdrawFeed_SameMode
    | with_reducible apply railFeedOpen_SameMode
    | with_reducible assumption
    | fail_if_no_progress beta_reduce
    | with_reducible apply SameMode.ite
    | with_reducible apply SameMode.refl
    | fail_if_no_progress (with_reducible refine SameMode.lit ?_ rfl)
    | split

theorem setChState_SameMode {z : Chip} (s : Chip) (n : Nat) (st : ChState) (done : List (ReqRef × Status)) (hz : SameMode z s) : SameMode z (setChState s n st done) := by
  refine hz.trans ?_
  clear hz
  unfold setChState
  repeat' first
    | with_reducible apply leftOn_SameMode
    | with_reducible apply post_SameMode
    | with_reducible apply Chip_modCh_SameMode
    | with_reducible assumption
    | fail_if_no_progress beta_reduce
    | (extract_lets +onlyGivenNames x; refine SameMode.bind (x := x) (fun hx => ?_) ?_; rotate_left; subst x; rotate_right; clear_value x)
    | (extract_lets +onlyGivenNames x; subst x)
    | with_reducible apply SameMode.ite
    | with_reducible apply SameMode.refl

theorem driversOff_SameMode {z : Chip} (s : Chip) (n : Nat) (p : Pull) (hz : SameMode z s) : SameMode z (driversOff s n p) := by
  refine hz.trans ?_
  clear hz
  unfold driversOff
  repeat' first
    | with_reducible apply Chip_modCh_SameMode
    | with_reducible assumption
    | (with_reducible apply SameMode.foldl; intro _ _)
    | fail_if_no_progress beta_reduce
    | with_reducible apply SameMode.ite
    | with_reducible apply SameMode.refl

theorem chanStopRecord_SameMode {z : Chip} (s : Chip) (n : Nat) (cause : ChStop) (hz : SameMode z s) : SameMode z (chanStopRecord s n cause) := by
  refine hz.trans ?_
  clear hz
  unfold chanStopRecord
  repeat' first
    | with_reducible apply recPost_SameMode
    | with_reducible assumption
    | fail_if_no_progress beta_reduce
    | with_reducible apply SameMode.ite
    | with_reducible apply SameMode.refl

theorem chStop_SameMode {z : Chip} (s : Chip) (n : Nat) (cause : ChStop) (p : Pull) (st : ChState) (status : Status) (hz : SameMode z s) : SameMode z (chStop s n cause p st status) := by
  refine hz.trans ?_
  clear hz
  unfold chStop
  repeat' first
    | with_reducible apply chanStopRecord_SameMode
    | with_reducible apply driversOff_SameMode
    | with_reducible apply setChState_SameMode
    | with_reducible apply Chip_modCh_SameMode
    | with_reducible assumption
    | fail_if_no_progress beta_reduce
    | with_reducible apply SameMode.ite
    | with_reducible apply SameMode.refl

theorem chIdle_SameMode {z : Chip} (s : Chip) (n : Nat) (st : ChState) (status : Status) (hz : SameMode z s) : SameMode z (chIdle s n st status) := by
  refine hz.trans ?_
  clear hz
  unfold chIdle
  repeat' first
    | with_reducible apply setChState_SameMode
    | with_reducible apply Chip_modCh_SameMode
    | with_reducible assumption
    | fail_if_no_progress beta_reduce
    | with_reducible apply SameMode.ite
    | with_reducible apply SameMode.refl

theorem chClose_SameMode {z : Chip} (s : Chip) (n : Nat) (hz : SameMode z s) : SameMode z (chClose s n) := by
  refine hz.trans ?_
  clear hz
  unfold chClose
  repeat' first
    | with_reducible apply setChState_SameMode
    | with_reducible apply Chip_modCh_SameMode
    | with_reducible assumption
    | (with_reducible apply SameMode.foldl; intro _ _)
    | fail_if_no_progress beta_reduce
    | with_reducible apply SameMode.ite
    | with_reducible apply SameMode.refl

theorem primerGo_SameMode {z : Chip} (s : Chip) (n : Nat) (hz : SameMode z s) : SameMode z (primerGo s n) := by
  refine hz.trans ?_
  clear hz
  unfold primerGo
  repeat' first
    | with_reducible apply chClose_SameMode
    | with_reducible apply setChState_SameMode
    | with_reducible apply Chip_modCh_SameMode
    | with_reducible assumption
    | fail_if_no_progress beta_reduce
    | (extract_lets +onlyGivenNames x; refine SameMode.bind (x := x) (fun hx => ?_) ?_; rotate_left; subst x; rotate_right; clear_value x)
    | with_reducible apply SameMode.ite
    | with_reducible apply SameMode.refl

theorem startInrush_SameMode {z : Chip} (s : Chip) (n : Nat) (retry : Bool) (hz : SameMode z s) : SameMode z (startInrush s n retry) := by
  refine hz.trans ?_
  clear hz
  unfold startInrush
  repeat' first
    | with_reducible apply primerGo_SameMode
    | with_reducible apply setChState_SameMode
    | with_reducible apply Chip_modCh_SameMode
    | with_reducible assumption
    | (with_reducible apply SameMode.foldl; intro _ _)
    | fail_if_no_progress beta_reduce
    | (extract_lets +onlyGivenNames x; refine SameMode.bind (x := x) (fun hx => ?_) ?_; rotate_left; subst x; rotate_right; clear_value x)
    | with_reducible apply SameMode.ite
    | with_reducible apply SameMode.refl

theorem chBegin_SameMode {z : Chip} (s : Chip) (n : Nat) (hz : SameMode z s) : SameMode z (chBegin s n) := by
  refine hz.trans ?_
  clear hz
  unfold chBegin
  repeat' first
    | with_reducible apply startInrush_SameMode
    | with_reducible apply setChState_SameMode
    | with_reducible apply Chip_modCh_SameMode
    | with_reducible assumption
    | fail_if_no_progress beta_reduce
    | (extract_lets +onlyGivenNames x; refine SameMode.bind (x := x) (fun hx => ?_) ?_; rotate_left; subst x; rotate_right; clear_value x)
    | with_reducible apply SameMode.ite
    | with_reducible apply SameMode.refl

theorem trip_SameMode {z : Chip} (s : Chip) (n : Nat) (causes : List ChStop) (member : Nat) (hz : SameMode z s) : SameMode z (trip s n causes member) := by
  refine hz.trans ?_
  clear hz
  unfold trip
  repeat' first
    | with_reducible apply chStop_SameMode
    | with_reducible apply setFault_SameMode
    | with_reducible apply Chip_modCh_SameMode
    | with_reducible assumption
    | (with_reducible apply SameMode.foldl; intro _ _)
    | fail_if_no_progress beta_reduce
    | (extract_lets +onlyGivenNames x; refine SameMode.bind (x := x) (fun hx => ?_) ?_; rotate_left; subst x; rotate_right; clear_value x)
    | (extract_lets +onlyGivenNames x; subst x)
    | with_reducible apply SameMode.ite
    | with_reducible apply SameMode.refl
    | (with_reducible apply SameMode.optMap; intro _)
    | fail_if_no_progress (with_reducible refine SameMode.lit ?_ rfl)
    | split

theorem tripOrHold_SameMode {z : Chip} (s : Chip) (n : Nat) (causes : List ChStop) (member : Nat) (hz : SameMode z s) : SameMode z (tripOrHold s n causes member) := by
  refine hz.trans ?_
  clear hz
  unfold tripOrHold
  repeat' first
    | with_reducible apply trip_SameMode
    | with_reducible apply Chip_modCh_SameMode
    | with_reducible assumption
    | fail_if_no_progress beta_reduce
    | with_reducible apply SameMode.ite
    | with_reducible apply SameMode.refl

theorem clearIntents_SameMode {z : Chip} (s : Chip) (hz : SameMode z s) : SameMode z (clearIntents s) := by
  refine hz.trans ?_
  clear hz
  unfold clearIntents
  repeat' first
    | with_reducible apply chIdle_SameMode
    | with_reducible apply Chip_modRail_SameMode
    | with_reducible apply Chip_modCh_SameMode
    | with_reducible assumption
    | (with_reducible apply SameMode.forEach; intro _ _)
    | fail_if_no_progress beta_reduce
    | (extract_lets +onlyGivenNames x; refine SameMode.bind (x := x) (fun hx => ?_) ?_; rotate_left; subst x; rotate_right; clear_value x)
    | with_reducible apply SameMode.ite
    | with_reducible apply SameMode.refl

theorem releaseChannel_SameMode {z : Chip} (s : Chip) (n : Nat) (hz : SameMode z s) : SameMode z (releaseChannel s n) := by
  refine hz.trans ?_
  clear hz
  unfold releaseChannel
  repeat' first
    | with_reducible apply startInrush_SameMode
    | with_reducible apply Chip_modCh_SameMode
    | with_reducible assumption
    | fail_if_no_progress beta_reduce
    | (extract_lets +onlyGivenNames x; refine SameMode.bind (x := x) (fun hx => ?_) ?_; rotate_left; subst x; rotate_right; clear_value x)
    | with_reducible apply SameMode.ite
    | with_reducible apply SameMode.refl

theorem releaseStage_SameMode {z : Chip} (s : Chip) (hz : SameMode z s) : SameMode z (releaseStage s) := by
  refine hz.trans ?_
  clear hz
  unfold releaseStage
  repeat' first
    | with_reducible apply releaseChannel_SameMode
    | with_reducible apply Chip_modRail_SameMode
    | with_reducible assumption
    | (with_reducible apply SameMode.forEach; intro _ _)
    | fail_if_no_progress beta_reduce
    | with_reducible apply SameMode.ite
    | with_reducible apply SameMode.refl

theorem beginSwitching_SameMode {z : Chip} (s : Chip) (k : Nat) (hz : SameMode z s) : SameMode z (beginSwitching s k) := by
  refine hz.trans ?_
  clear hz
  unfold beginSwitching
  repeat' first
    | with_reducible apply Chip_modRail_SameMode
    | with_reducible assumption
    | fail_if_no_progress beta_reduce
    | with_reducible apply SameMode.ite
    | with_reducible apply SameMode.refl

theorem enterBridging_SameMode {z : Chip} (s : Chip) (k : Nat) (uB : Int) (hz : SameMode z s) : SameMode z (enterBridging s k uB) := by
  refine hz.trans ?_
  clear hz
  unfold enterBridging
  repeat' first
    | with_reducible apply setLimit_SameMode
    | with_reducible apply setRailState_SameMode
    | with_reducible apply Chip_modRail_SameMode
    | with_reducible assumption
    | fail_if_no_progress beta_reduce
    | with_reducible apply SameMode.ite
    | with_reducible apply SameMode.refl

theorem railInputUv_SameMode {z : Chip} (k : Nat) (s : Chip) (hz : SameMode z s) : SameMode z (railInputUv k s) := by
  refine hz.trans ?_
  clear hz
  unfold railInputUv
  repeat' first
    | with_reducible apply railStop_SameMode
    | with_reducible apply setFault_SameMode
    | with_reducible apply Chip_modRail_SameMode
    | with_reducible assumption
    | fail_if_no_progress beta_reduce
    | (extract_lets +onlyGivenNames x; refine SameMode.bind (x := x) (fun hx => ?_) ?_; rotate_left; subst x; rotate_right; clear_value x)
    | with_reducible apply SameMode.ite
    | with_reducible apply SameMode.refl

theorem ocLatch_SameMode {z : Chip} (k : Nat) (s : Chip) (hz : SameMode z s) : SameMode z (ocLatch k s) := by
  refine hz.trans ?_
  clear hz
  unfold ocLatch
  repeat' first
    | with_reducible apply railStop_SameMode
    | with_reducible apply setFault_SameMode
    | with_reducible assumption
    | fail_if_no_progress beta_reduce
    | with_reducible apply SameMode.ite
    | with_reducible apply SameMode.refl

theorem railOvervoltage_SameMode {z : Chip} (k : Nat) (s : Chip) (hz : SameMode z s) : SameMode z (railOvervoltage k s) := by
  refine hz.trans ?_
  clear hz
  unfold railOvervoltage
  repeat' first
    | with_reducible apply railStop_SameMode
    | with_reducible apply setFault_SameMode
    | with_reducible assumption
    | fail_if_no_progress beta_reduce
    | with_reducible apply SameMode.ite
    | with_reducible apply SameMode.refl

theorem railStops_SameMode {z : Chip} (s : Chip) (k : Nat) (hz : SameMode z s) : SameMode z (railStops s k) := by
  refine hz.trans ?_
  clear hz
  unfold railStops
  repeat' first
    | with_reducible apply railOvervoltage_SameMode
    | with_reducible apply ocLatch_SameMode
    | with_reducible apply railInputUv_SameMode
    | with_reducible assumption
    | fail_if_no_progress beta_reduce
    | with_reducible apply SameMode.ite
    | with_reducible apply SameMode.refl

theorem railAnswer_SameMode {z : Chip} (s : Chip) (e : RailSet) (st : Status) (data : List Byte) (hz : SameMode z s) : SameMode z (railAnswer s e st data) := by
  refine hz.trans ?_
  clear hz
  unfold railAnswer
  repeat' first
    | with_reducible apply formReply_SameMode
    | with_reducible apply post_SameMode
    | with_reducible assumption
    | fail_if_no_progress beta_reduce
    | with_reducible apply SameMode.ite
    | with_reducible apply SameMode.refl

theorem railApplyOn_SameMode {z : Chip} (s : Chip) (e : RailSet) (hz : SameMode z s) : SameMode z (railApplyOn s e) := by
  refine hz.trans ?_
  clear hz
  unfold railApplyOn
  repeat' first
    | with_reducible apply railAnswer_SameMode
    | with_reducible apply setRailState_SameMode
    | with_reducible apply formReply_SameMode
    | with_reducible apply Chip_modRail_SameMode
    | with_reducible assumption
    | fail_if_no_progress beta_reduce
    | (extract_lets +onlyGivenNames x; refine SameMode.bind (x := x) (fun hx => ?_) ?_; rotate_left; subst x; rotate_right; clear_value x)
    | (extract_lets +onlyGivenNames x; subst x)
    | with_reducible apply SameMode.ite
    | with_reducible apply SameMode.refl
    | fail_if_no_progress (with_reducible refine SameMode.lit ?_ rfl)
    | split

theorem railActOff_SameMode {z : Chip} (s : Chip) (k : Nat) (mode : Bool) (hz : SameMode z s) : SameMode z (railActOff s k mode) := by
  refine hz.trans ?_
  clear hz
  unfold railActOff
  repeat' first
    | with_reducible apply railStops_SameMode
    | with_reducible apply beginSwitching_SameMode
    | with_reducible apply railKill_SameMode
    | with_reducible apply setLimit_SameMode
    | with_reducible apply setRailState_SameMode
    | with_reducible apply Chip_modRail_SameMode
    | with_reducible assumption
    | fail_if_no_progress beta_reduce
    | (extract_lets +onlyGivenNames x; refine SameMode.bind (x := x) (fun hx => ?_) ?_; rotate_left; subst x; rotate_right; clear_value x)
    | (extract_lets +onlyGivenNames x; subst x)
    | with_reducible apply SameMode.ite
    | with_reducible apply SameMode.refl
    | fail_if_no_progress (with_reducible refine SameMode.lit ?_ rfl)
    | split

theorem railActDisable_SameMode {z : Chip} (s : Chip) (k : Nat) (hz : SameMode z s) : SameMode z (railActDisable s k) := by
  refine hz.trans ?_
  clear hz
  unfold railActDisable
  repeat' first
    | with_reducible apply railStops_SameMode
    | with_reducible apply railKill_SameMode
    | with_reducible apply Chip_modRail_SameMode
    | with_reducible assumption
    | fail_if_no_progress beta_reduce
    | with_reducible apply SameMode.ite
    | with_reducible apply SameMode.refl

theorem railWrite_SameMode {z : Chip} (s : Chip) (k kind : Nat) (v : Int) (hz : SameMode z s) : SameMode z (railWrite s k kind v) := by
  refine hz.trans ?_
  clear hz
  unfold railWrite
  repeat' first
    | with_reducible apply setFault_SameMode
    | with_reducible apply Chip_modRail_SameMode
    | with_reducible assumption
    | fail_if_no_progress beta_reduce
    | with_reducible apply SameMode.ite
    | with_reducible apply SameMode.refl

theorem attnRail_SameMode {z : Chip} (s : Chip) (k : Nat) (hz : SameMode z s) : SameMode z (attnRail s k) := by
  refine hz.trans ?_
  clear hz
  unfold attnRail
  repeat' first
    | with_reducible apply Chip_modLink_SameMode
    | with_reducible assumption
    | (with_reducible apply SameMode.forEach; intro _ _)
    | fail_if_no_progress beta_reduce
    | with_reducible apply SameMode.ite
    | with_reducible apply SameMode.refl

theorem applyRail_SameMode {z : Chip} (s : Chip) (e : RailSet) (hz : SameMode z s) : SameMode z (applyRail s e) := by
  refine hz.trans ?_
  clear hz
  unfold applyRail
  repeat' first
    | with_reducible apply attnRail_SameMode
    | with_reducible apply railWrite_SameMode
    | with_reducible apply railActDisable_SameMode
    | with_reducible apply railActOff_SameMode
    | with_reducible apply railApplyOn_SameMode
    | with_reducible apply railAnswer_SameMode
    | with_reducible apply railStops_SameMode
    | with_reducible apply Chip_modRail_SameMode
    | with_reducible assumption
    | fail_if_no_progress beta_reduce
    | (extract_lets +onlyGivenNames x; refine SameMode.bind (x := x) (fun hx => ?_) ?_; rotate_left; subst x; rotate_right; clear_value x)
    | (extract_lets +onlyGivenNames x; subst x)
    | with_reducible apply SameMode.ite
    | with_reducible apply SameMode.refl
    | fail_if_no_progress (with_reducible refine SameMode.lit ?_ rfl)
    | split

theorem applyHostRail_SameMode {z : Chip} (links : List RailSet) (s : Chip) (e : RailSet) (hz : SameMode z s) : SameMode z (applyHostRail links s e) := by
  refine hz.trans ?_
  clear hz
  unfold applyHostRail
  repeat' first
    | with_reducible apply applyRail_SameMode
    | with_reducible apply attnRail_SameMode
    | with_reducible assumption
    | fail_if_no_progress beta_reduce
    | (extract_lets +onlyGivenNames x; refine SameMode.bind (x := x) (fun hx => ?_) ?_; rotate_left; subst x; rotate_right; clear_value x)
    | with_reducible apply SameMode.ite
    | with_reducible apply SameMode.refl

theorem applyRailQueue_SameMode {z : Chip} (s : Chip) (hz : SameMode z s) : SameMode z (applyRailQueue s) := by
  refine hz.trans ?_
  clear hz
  unfold applyRailQueue
  repeat' first
    | with_reducible apply applyHostRail_SameMode
    | with_reducible apply applyRail_SameMode
    | with_reducible assumption
    | (with_reducible apply SameMode.foldl; intro _ _)
    | fail_if_no_progress beta_reduce
    | with_reducible apply SameMode.ite
    | with_reducible apply SameMode.refl
    | fail_if_no_progress (with_reducible refine SameMode.lit ?_ rfl)

theorem queueEnergy_SameMode {z : Chip} (s : Chip) (e : EnergySet) (hz : SameMode z s) : SameMode z (queueEnergy s e) := by
  refine hz.trans ?_
  clear hz
  unfold queueEnergy
  repeat' first
    | with_reducible assumption
    | fail_if_no_progress beta_reduce
    | (extract_lets +onlyGivenNames x; subst x)
    | with_reducible apply SameMode.ite
    | with_reducible apply SameMode.refl
    | fail_if_no_progress (with_reducible refine SameMode.lit ?_ rfl)

theorem setCharges_SameMode {z : Chip} (s : Chip) (shares : List (Nat × Int)) (hz : SameMode z s) : SameMode z (setCharges s shares) := by
  refine hz.trans ?_
  clear hz
  unfold setCharges
  repeat' first
    | with_reducible apply queueEnergy_SameMode
    | with_reducible assumption
    | (with_reducible apply SameMode.foldl; intro _ _)
    | fail_if_no_progress beta_reduce
    | with_reducible apply SameMode.ite
    | with_reducible apply SameMode.refl

theorem charge_SameMode {z : Chip} (s : Chip) (p : Int) (hz : SameMode z s) : SameMode z (charge s p) := by
  refine hz.trans ?_
  clear hz
  unfold charge
  repeat' first
    | with_reducible apply setCharges_SameMode
    | with_reducible assumption
    | fail_if_no_progress beta_reduce
    | with_reducible apply SameMode.ite
    | with_reducible apply SameMode.refl

theorem beginHand_SameMode {z : Chip} (s : Chip) (k : Nat) (hz : SameMode z s) : SameMode z (beginHand s k) := by
  refine hz.trans ?_
  clear hz
  unfold beginHand
  repeat' first
    | with_reducible apply setLimit_SameMode
    | with_reducible apply Chip_modRail_SameMode
    | with_reducible assumption
    | fail_if_no_progress beta_reduce
    | with_reducible apply SameMode.ite
    | with_reducible apply SameMode.refl

theorem beginHands_SameMode {z : Chip} (s : Chip) (hz : SameMode z s) : SameMode z (beginHands s) := by
  refine hz.trans ?_
  clear hz
  unfold beginHands
  repeat' first
    | with_reducible apply beginHand_SameMode
    | with_reducible assumption
    | (with_reducible apply SameMode.forEach; intro _ _)
    | fail_if_no_progress beta_reduce
    | with_reducible apply SameMode.ite
    | with_reducible apply SameMode.refl

theorem applyEnergy_SameMode {z : Chip} (s : Chip) (e : EnergySet) (hz : SameMode z s) : SameMode z (applyEnergy s e) := by
  refine hz.trans ?_
  clear hz
  unfold applyEnergy
  repeat' first
    | with_reducible apply beginHands_SameMode
    | with_reducible apply charge_SameMode
    | with_reducible apply enterBridging_SameMode
    | with_reducible apply setFault_SameMode
    | with_reducible apply Chip_modRail_SameMode
    | with_reducible assumption
    | (with_reducible apply SameMode.forEach; intro _ _)
    | fail_if_no_progress beta_reduce
    | (extract_lets +onlyGivenNames x; subst x)
    | with_reducible apply SameMode.ite
    | with_reducible apply SameMode.refl
    | fail_if_no_progress (with_reducible refine SameMode.lit ?_ rfl)
    | split

theorem applyEnergyQueue_SameMode {z : Chip} (s : Chip) (hz : SameMode z s) : SameMode z (applyEnergyQueue s) := by
  refine hz.trans ?_
  clear hz
  unfold applyEnergyQueue
  repeat' first
    | with_reducible apply applyEnergy_SameMode
    | with_reducible assumption
    | (with_reducible apply SameMode.foldl; intro _ _)
    | fail_if_no_progress beta_reduce
    | (extract_lets +onlyGivenNames x; subst x)
    | with_reducible apply SameMode.ite
    | with_reducible apply SameMode.refl
    | fail_if_no_progress (with_reducible refine SameMode.lit ?_ rfl)

theorem chAnswer_SameMode {z : Chip} (s : Chip) (e : ChSet) (st : Status) (data : List Byte) (hz : SameMode z s) : SameMode z (chAnswer s e st data) := by
  refine hz.trans ?_
  clear hz
  unfold chAnswer
  repeat' first
    | with_reducible apply formReply_SameMode
    | with_reducible apply post_SameMode
    | with_reducible assumption
    | fail_if_no_progress beta_reduce
    | with_reducible apply SameMode.ite
    | with_reducible apply SameMode.refl

theorem chAccept_SameMode {z : Chip} (s : Chip) (e : ChSet) (exercise : Bool) (hz : SameMode z s) : SameMode z (chAccept s e exercise) := by
  refine hz.trans ?_
  clear hz
  unfold chAccept
  repeat' first
    | with_reducible apply chBegin_SameMode
    | with_reducible apply formReply_SameMode
    | with_reducible apply Chip_modCh_SameMode
    | with_reducible assumption
    | fail_if_no_progress beta_reduce
    | (extract_lets +onlyGivenNames x; refine SameMode.bind (x := x) (fun hx => ?_) ?_; rotate_left; subst x; rotate_right; clear_value x)
    | with_reducible apply SameMode.ite
    | with_reducible apply SameMode.refl

theorem chApplyOn_SameMode {z : Chip} (s : Chip) (e : ChSet) (hz : SameMode z s) : SameMode z (chApplyOn s e) := by
  refine hz.trans ?_
  clear hz
  unfold chApplyOn
  repeat' first
    | with_reducible apply chAccept_SameMode
    | with_reducible apply chAnswer_SameMode
    | with_reducible apply formReply_SameMode
    | with_reducible apply Chip_modCh_SameMode
    | with_reducible assumption
    | fail_if_no_progress beta_reduce
    | (extract_lets +onlyGivenNames x; subst x)
    | with_reducible apply SameMode.ite
    | with_reducible apply SameMode.refl
    | fail_if_no_progress (with_reducible refine SameMode.lit ?_ rfl)
    | split

theorem chActOff_SameMode {z : Chip} (s : Chip) (n : Nat) (hz : SameMode z s) : SameMode z (chActOff s n) := by
  refine hz.trans ?_
  clear hz
  unfold chActOff
  repeat' first
    | with_reducible apply chIdle_SameMode
    | with_reducible apply chStop_SameMode
    | with_reducible apply Chip_modCh_SameMode
    | with_reducible assumption
    | fail_if_no_progress beta_reduce
    | (extract_lets +onlyGivenNames x; refine SameMode.bind (x := x) (fun hx => ?_) ?_; rotate_left; subst x; rotate_right; clear_value x)
    | with_reducible apply SameMode.ite
    | with_reducible apply SameMode.refl
    | fail_if_no_progress (with_reducible refine SameMode.lit ?_ rfl)
    | split

theorem chActDisable_SameMode {z : Chip} (s : Chip) (n : Nat) (hz : SameMode z s) : SameMode z (chActDisable s n) := by
  refine hz.trans ?_
  clear hz
  unfold chActDisable
  repeat' first
    | with_reducible apply chIdle_SameMode
    | with_reducible apply chStop_SameMode
    | with_reducible apply Chip_modCh_SameMode
    | with_reducible assumption
    | fail_if_no_progress beta_reduce
    | (extract_lets +onlyGivenNames x; refine SameMode.bind (x := x) (fun hx => ?_) ?_; rotate_left; subst x; rotate_right; clear_value x)
    | with_reducible apply SameMode.ite
    | with_reducible apply SameMode.refl
    | fail_if_no_progress (with_reducible refine SameMode.lit ?_ rfl)
    | split

theorem chActMode_SameMode {z : Chip} (s : Chip) (n : Nat) (p : Pull) (hz : SameMode z s) : SameMode z (chActMode s n p) := by
  refine hz.trans ?_
  clear hz
  unfold chActMode
  repeat' first
    | with_reducible apply chIdle_SameMode
    | with_reducible apply chStop_SameMode
    | with_reducible apply Chip_modCh_SameMode
    | with_reducible assumption
    | fail_if_no_progress beta_reduce
    | (extract_lets +onlyGivenNames x; refine SameMode.bind (x := x) (fun hx => ?_) ?_; rotate_left; subst x; rotate_right; clear_value x)
    | with_reducible apply SameMode.ite
    | with_reducible apply SameMode.refl
    | fail_if_no_progress (with_reducible refine SameMode.lit ?_ rfl)
    | split

theorem chApplyExercise_SameMode {z : Chip} (s : Chip) (e : ChSet) (hold : Nat) (hz : SameMode z s) : SameMode z (chApplyExercise s e hold) := by
  refine hz.trans ?_
  clear hz
  unfold chApplyExercise
  repeat' first
    | with_reducible apply chAccept_SameMode
    | with_reducible apply chAnswer_SameMode
    | with_reducible assumption
    | fail_if_no_progress beta_reduce
    | (extract_lets +onlyGivenNames x; refine SameMode.bind (x := x) (fun hx => ?_) ?_; rotate_left; subst x; rotate_right; clear_value x)
    | (extract_lets +onlyGivenNames x; subst x)
    | with_reducible apply SameMode.ite
    | with_reducible apply SameMode.refl
    | fail_if_no_progress (with_reducible refine SameMode.lit ?_ rfl)

theorem timerStops_SameMode {z : Chip} (s : Chip) (n : Nat) (hz : SameMode z s) : SameMode z (timerStops s n) := by
  refine hz.trans ?_
  clear hz
  unfold timerStops
  repeat' first
    | with_reducible apply tripOrHold_SameMode
    | with_reducible assumption
    | fail_if_no_progress beta_reduce
    | with_reducible apply SameMode.ite
    | with_reducible apply SameMode.refl

theorem applyCh_SameMode {z : Chip} (s : Chip) (e : ChSet) (hz : SameMode z s) : SameMode z (applyCh s e) := by
  refine hz.trans ?_
  clear hz
  unfold applyCh
  repeat' first
    | with_reducible apply timerStops_SameMode
    | with_reducible apply chApplyExercise_SameMode
    | with_reducible apply chActDisable_SameMode
    | with_reducible apply chActOff_SameMode
    | with_reducible apply chApplyOn_SameMode
    | with_reducible apply chAnswer_SameMode
    | with_reducible apply Chip_modCh_SameMode
    | with_reducible assumption
    | fail_if_no_progress beta_reduce
    | (extract_lets +onlyGivenNames x; refine SameMode.bind (x := x) (fun hx => ?_) ?_; rotate_left; subst x; rotate_right; clear_value x)
    | with_reducible apply SameMode.ite
    | with_reducible apply SameMode.refl
    | fail_if_no_progress (with_reducible refine SameMode.lit ?_ rfl)
    | split

theorem applyChQueue_SameMode {z : Chip} (s : Chip) (hz : SameMode z s) : SameMode z (applyChQueue s) := by
  refine hz.trans ?_
  clear hz
  unfold applyChQueue
  repeat' first
    | with_reducible apply applyCh_SameMode
    | with_reducible assumption
    | (with_reducible apply SameMode.foldl; intro _ _)
    | fail_if_no_progress beta_reduce
    | with_reducible apply SameMode.ite
    | with_reducible apply SameMode.refl
    | fail_if_no_progress (with_reducible refine SameMode.lit ?_ rfl)

theorem chAuto_SameMode {z : Chip} (s : Chip) (n : Nat) (hz : SameMode z s) : SameMode z (chAuto s n) := by
  refine hz.trans ?_
  clear hz
  unfold chAuto
  repeat' first
    | with_reducible apply chBegin_SameMode
    | with_reducible apply Chip_modCh_SameMode
    | with_reducible assumption
    | fail_if_no_progress beta_reduce
    | (extract_lets +onlyGivenNames x; refine SameMode.bind (x := x) (fun hx => ?_) ?_; rotate_left; subst x; rotate_right; clear_value x)
    | (extract_lets +onlyGivenNames x; subst x)
    | with_reducible apply SameMode.ite
    | with_reducible apply SameMode.refl

theorem railAuto_SameMode {z : Chip} (s : Chip) (k : Nat) (hz : SameMode z s) : SameMode z (railAuto s k) := by
  refine hz.trans ?_
  clear hz
  unfold railAuto
  repeat' first
    | with_reducible apply setRailState_SameMode
    | with_reducible apply Chip_modRail_SameMode
    | with_reducible assumption
    | fail_if_no_progress beta_reduce
    | (extract_lets +onlyGivenNames x; refine SameMode.bind (x := x) (fun hx => ?_) ?_; rotate_left; subst x; rotate_right; clear_value x)
    | (extract_lets +onlyGivenNames x; subst x)
    | with_reducible apply SameMode.ite
    | with_reducible apply SameMode.refl
    | fail_if_no_progress (with_reducible refine SameMode.lit ?_ rfl)
    | split

theorem startNextSource_SameMode {z : Chip} (s : Chip) (hz : SameMode z s) : SameMode z (startNextSource s) := by
  refine hz.trans ?_
  clear hz
  unfold startNextSource
  repeat' first
    | with_reducible apply chAuto_SameMode
    | with_reducible assumption
    | fail_if_no_progress beta_reduce
    | (extract_lets +onlyGivenNames x; subst x)
    | with_reducible apply SameMode.ite
    | with_reducible apply SameMode.refl
    | fail_if_no_progress (with_reducible refine SameMode.lit ?_ rfl)
    | split

theorem stageRailsGo_SameMode {z : Chip} (s : Chip) (hz : SameMode z s) : SameMode z (stageRailsGo s) := by
  refine hz.trans ?_
  clear hz
  unfold stageRailsGo
  repeat' first
    | with_reducible apply railAuto_SameMode
    | with_reducible apply railActOff_SameMode
    | with_reducible assumption
    | (with_reducible apply SameMode.foldl; intro _ _)
    | fail_if_no_progress beta_reduce
    | (extract_lets +onlyGivenNames x; refine SameMode.bind (x := x) (fun hx => ?_) ?_; rotate_left; subst x; rotate_right; clear_value x)
    | (extract_lets +onlyGivenNames x; subst x)
    | with_reducible apply SameMode.ite
    | with_reducible apply SameMode.refl
    | fail_if_no_progress (with_reducible refine SameMode.lit ?_ rfl)

theorem stageChannelsGo_SameMode {z : Chip} (s : Chip) (hz : SameMode z s) : SameMode z (stageChannelsGo s) := by
  refine hz.trans ?_
  clear hz
  unfold stageChannelsGo
  repeat' first
    | with_reducible apply chAuto_SameMode
    | with_reducible apply chActMode_SameMode
    | with_reducible assumption
    | (with_reducible apply SameMode.foldl; intro _ _)
    | fail_if_no_progress beta_reduce
    | (extract_lets +onlyGivenNames x; subst x)
    | with_reducible apply SameMode.ite
    | with_reducible apply SameMode.refl
    | fail_if_no_progress (with_reducible refine SameMode.lit ?_ rfl)

theorem commandStage_SameMode {z : Chip} (s : Chip) (hz : SameMode z s) : SameMode z (commandStage s) := by
  refine hz.trans ?_
  clear hz
  unfold commandStage
  repeat' first
    | with_reducible apply stageChannelsGo_SameMode
    | with_reducible apply stageRailsGo_SameMode
    | with_reducible apply startNextSource_SameMode
    | with_reducible apply railActOff_SameMode
    | with_reducible assumption
    | (with_reducible apply SameMode.foldl; intro _ _)
    | fail_if_no_progress beta_reduce
    | with_reducible apply SameMode.ite
    | with_reducible apply SameMode.refl
    | fail_if_no_progress (with_reducible refine SameMode.lit ?_ rfl)
    | split

theorem enterStage_SameMode {z : Chip} (s : Chip) (st : Stage) (hz : SameMode z s) : SameMode z (enterStage s st) := by
  refine hz.trans ?_
  clear hz
  unfold enterStage
  repeat' first
    | with_reducible apply commandStage_SameMode
    | with_reducible apply releaseStage_SameMode
    | with_reducible assumption
    | fail_if_no_progress beta_reduce
    | (extract_lets +onlyGivenNames x; subst x)
    | with_reducible apply SameMode.ite
    | with_reducible apply SameMode.refl
    | fail_if_no_progress (with_reducible refine SameMode.lit ?_ rfl)

theorem postMode_SameMode {z : Chip} (s : Chip) (done : List (ReqRef × Status)) (hz : SameMode z s) : SameMode z (postMode s done) := by
  refine hz.trans ?_
  clear hz
  unfold postMode
  repeat' first
    | with_reducible apply post_SameMode
    | with_reducible assumption
    | fail_if_no_progress beta_reduce
    | with_reducible apply SameMode.ite
    | with_reducible apply SameMode.refl

theorem recordMode_SameMode {z : Chip} (s : Chip) (hz : SameMode z s) : SameMode z (recordMode s) := by
  refine hz.trans ?_
  clear hz
  unfold recordMode
  repeat' first
    | with_reducible apply recPost_SameMode
    | with_reducible apply Chip_modPort_SameMode
    | with_reducible assumption
    | fail_if_no_progress beta_reduce
    | (extract_lets +onlyGivenNames x; subst x)
    | with_reducible apply SameMode.ite
    | with_reducible apply SameMode.refl
    | fail_if_no_progress (with_reducible refine SameMode.lit ?_ rfl)

theorem svcTurnOff_SameMode {z : Chip} (s : Chip) (hz : SameMode z s) : SameMode z (svcTurnOff s) := by
  refine hz.trans ?_
  clear hz
  unfold svcTurnOff
  repeat' first
    | with_reducible apply chActMode_SameMode
    | with_reducible apply railActOff_SameMode
    | with_reducible assumption
    | fail_if_no_progress beta_reduce
    | (extract_lets +onlyGivenNames x; refine SameMode.bind (x := x) (fun hx => ?_) ?_; rotate_left; subst x; rotate_right; clear_value x)
    | with_reducible apply SameMode.ite
    | with_reducible apply SameMode.refl
    | fail_if_no_progress (with_reducible refine SameMode.lit ?_ rfl)
    | split

theorem dropShelf_SameMode {z : Chip} (why : Refuse) (s : Chip) (hz : SameMode z s) : SameMode z (dropShelf why s) := by
  refine hz.trans ?_
  clear hz
  unfold dropShelf
  repeat' first
    | with_reducible apply chActMode_SameMode
    | with_reducible apply railStops_SameMode
    | with_reducible apply refuseBurst_SameMode
    | with_reducible apply endGrant_SameMode
    | with_reducible apply railKill_SameMode
    | with_reducible assumption
    | (with_reducible apply SameMode.forEach; intro _ _)
    | fail_if_no_progress beta_reduce
    | with_reducible apply SameMode.ite
    | with_reducible apply SameMode.refl

theorem postFw_SameMode {z : Chip} (s : Chip) (kind target result : Nat) (done : List (ReqRef × Status)) (hz : SameMode z s) : SameMode z (postFw s kind target result done) := by
  refine hz.trans ?_
  clear hz
  unfold postFw
  repeat' first
    | with_reducible apply post_SameMode
    | with_reducible assumption
    | fail_if_no_progress beta_reduce
    | with_reducible apply SameMode.ite
    | with_reducible apply SameMode.refl

theorem Chip_modFw_SameMode {z : Chip} (s : Chip) (f : Fw → Fw) (hz : SameMode z s) : SameMode z (Chip.modFw s f) := by
  refine hz.trans ?_
  clear hz
  unfold Chip.modFw
  repeat' first
    | with_reducible assumption
    | fail_if_no_progress beta_reduce
    | with_reducible apply SameMode.ite
    | with_reducible apply SameMode.refl
    | fail_if_no_progress (with_reducible refine SameMode.lit ?_ rfl)

theorem fwRecord_SameMode {z : Chip} (s : Chip) (target result version : Nat) (hz : SameMode z s) : SameMode z (fwRecord s target result version) := by
  refine hz.trans ?_
  clear hz
  unfold fwRecord
  repeat' first
    | with_reducible apply recPost_SameMode
    | with_reducible assumption
    | fail_if_no_progress beta_reduce
    | with_reducible apply SameMode.ite
    | with_reducible apply SameMode.refl

theorem startTrial_SameMode {z : Chip} (t : Nat) (r : ReqRef) (s : Chip) (hz : SameMode z s) : SameMode z (startTrial t r s) := by
  refine hz.trans ?_
  clear hz
  unfold startTrial
  repeat' first
    | with_reducible apply Chip_modFw_SameMode
    | with_reducible assumption
    | fail_if_no_progress beta_reduce
    | with_reducible apply SameMode.ite
    | with_reducible apply SameMode.refl

theorem confirmFw_SameMode {z : Chip} (t : Nat) (s : Chip) (hz : SameMode z s) : SameMode z (confirmFw t s) := by
  refine hz.trans ?_
  clear hz
  unfold confirmFw
  repeat' first
    | with_reducible apply fwRecord_SameMode
    | with_reducible apply Chip_modFw_SameMode
    | with_reducible apply postFw_SameMode
    | with_reducible assumption
    | fail_if_no_progress beta_reduce
    | (extract_lets +onlyGivenNames x; refine SameMode.bind (x := x) (fun hx => ?_) ?_; rotate_left; subst x; rotate_right; clear_value x)
    | (extract_lets +onlyGivenNames x; subst x)
    | with_reducible apply SameMode.ite
    | with_reducible apply SameMode.refl
    | fail_if_no_progress (with_reducible refine SameMode.lit ?_ rfl)

theorem applyActivate_SameMode {z : Chip} (op : Nat) (e : BoxEntry) (s : Chip) (hz : SameMode z s) : SameMode z (applyActivate op e s) := by
  refine hz.trans ?_
  clear hz
  unfold applyActivate
  repeat' first
    | with_reducible apply confirmFw_SameMode
    | with_reducible apply startTrial_SameMode
    | with_reducible apply setFault_SameMode
    | with_reducible apply formReply_SameMode
    | with_reducible assumption
    | fail_if_no_progress beta_reduce
    | (extract_lets +onlyGivenNames x; refine SameMode.bind (x := x) (fun hx => ?_) ?_; rotate_left; subst x; rotate_right; clear_value x)
    | (extract_lets +onlyGivenNames x; subst x)
    | with_reducible apply SameMode.ite
    | with_reducible apply SameMode.refl

theorem boxDenied_SameMode {z : Chip} (e : BoxEntry) (s : Chip) (hz : SameMode z s) : SameMode z (boxDenied e s) := by
  refine hz.trans ?_
  clear hz
  unfold boxDenied
  repeat' first
    | with_reducible apply setFault_SameMode
    | with_reducible apply formReply_SameMode
    | with_reducible assumption
    | fail_if_no_progress beta_reduce
    | with_reducible apply SameMode.ite
    | with_reducible apply SameMode.refl

theorem applyClearLockout_SameMode {z : Chip} (v : BoxView) (e : BoxEntry) (s : Chip) (hz : SameMode z s) : SameMode z (applyClearLockout v e s) := by
  refine hz.trans ?_
  clear hz
  unfold applyClearLockout
  repeat' first
    | with_reducible apply boxDenied_SameMode
    | with_reducible apply chIdle_SameMode
    | with_reducible apply setFault_SameMode
    | with_reducible apply formReply_SameMode
    | with_reducible apply Chip_modCh_SameMode
    | with_reducible assumption
    | fail_if_no_progress beta_reduce
    | (extract_lets +onlyGivenNames x; refine SameMode.bind (x := x) (fun hx => ?_) ?_; rotate_left; subst x; rotate_right; clear_value x)
    | (extract_lets +onlyGivenNames x; subst x)
    | with_reducible apply SameMode.ite
    | with_reducible apply SameMode.refl

theorem applyClearLatch_SameMode {z : Chip} (v : BoxView) (e : BoxEntry) (s : Chip) (hz : SameMode z s) : SameMode z (applyClearLatch v e s) := by
  refine hz.trans ?_
  clear hz
  unfold applyClearLatch
  repeat' first
    | with_reducible apply boxDenied_SameMode
    | with_reducible apply setRailState_SameMode
    | with_reducible apply setFault_SameMode
    | with_reducible apply formReply_SameMode
    | with_reducible apply Chip_modRail_SameMode
    | with_reducible assumption
    | fail_if_no_progress beta_reduce
    | (extract_lets +onlyGivenNames x; refine SameMode.bind (x := x) (fun hx => ?_) ?_; rotate_left; subst x; rotate_right; clear_value x)
    | (extract_lets +onlyGivenNames x; subst x)
    | with_reducible apply SameMode.ite
    | with_reducible apply SameMode.refl

theorem applySeverity_SameMode {z : Chip} (v : BoxView) (e : BoxEntry) (s : Chip) (hz : SameMode z s) : SameMode z (applySeverity v e s) := by
  refine hz.trans ?_
  clear hz
  unfold applySeverity
  repeat' first
    | with_reducible apply boxDenied_SameMode
    | with_reducible apply formReply_SameMode
    | with_reducible assumption
    | fail_if_no_progress beta_reduce
    | (extract_lets +onlyGivenNames x; refine SameMode.bind (x := x) (fun hx => ?_) ?_; rotate_left; subst x; rotate_right; clear_value x)
    | (extract_lets +onlyGivenNames x; subst x)
    | with_reducible apply SameMode.ite
    | with_reducible apply SameMode.refl
    | fail_if_no_progress (with_reducible refine SameMode.lit ?_ rfl)

theorem applyBoxEntry_SameMode {z : Chip} (v : BoxView) (s : Chip) (e : BoxEntry) (hz : SameMode z s) : SameMode z (applyBoxEntry v s e) := by
  refine hz.trans ?_
  clear hz
  unfold applyBoxEntry
  repeat' first
    | with_reducible apply applySeverity_SameMode
    | with_reducible apply applyClearLatch_SameMode
    | with_reducible apply applyClearLockout_SameMode
    | with_reducible apply applyActivate_SameMode
    | with_reducible assumption
    | fail_if_no_progress beta_reduce
    | with_reducible apply SameMode.ite
    | with_reducible apply SameMode.refl
    | fail_if_no_progress (with_reducible refine SameMode.lit ?_ rfl)
    | split

theorem applyBox_SameMode {z : Chip} (s : Chip) (hz : SameMode z s) : SameMode z (applyBox s) := by
  refine hz.trans ?_
  clear hz
  unfold applyBox
  repeat' first
    | with_reducible apply applyBoxEntry_SameMode
    | with_reducible assumption
    | (with_reducible apply SameMode.foldl; intro _ _)
    | fail_if_no_progress beta_reduce
    | with_reducible apply SameMode.ite
    | with_reducible apply SameMode.refl
    | fail_if_no_progress (with_reducible refine SameMode.lit ?_ rfl)

theorem keepView_SameMode {z : Chip} (s : Chip) (hz : SameMode z s) : SameMode z (keepView s) := by
  refine hz.trans ?_
  clear hz
  unfold keepView
  repeat' first
    | with_reducible assumption
    | fail_if_no_progress beta_reduce
    | with_reducible apply SameMode.ite
    | with_reducible apply SameMode.refl
    | fail_if_no_progress (with_reducible refine SameMode.lit ?_ rfl)

theorem applyQueues_SameMode {z : Chip} (s : Chip) (hz : SameMode z s) : SameMode z (applyQueues s) := by
  refine hz.trans ?_
  clear hz
  unfold applyQueues
  repeat' first
    | with_reducible apply applyBox_SameMode
    | with_reducible apply applyChQueue_SameMode
    | with_reducible apply applyEnergyQueue_SameMode
    | with_reducible apply applyRailQueue_SameMode
    | with_reducible assumption
    | fail_if_no_progress beta_reduce
    | with_reducible apply SameMode.ite
    | with_reducible apply SameMode.refl

end Sys2Proof.Machine
end

