-- ==== Sys2Proof/Laws/State.lean ====
section
/-! SUPPORT. One lemma for each field of the state and each update of it: what the update leaves there. -/

namespace Sys2Proof.Machine

@[simp] theorem on_pending (s : State) (f : Chip → Chip) : (s.on f).pending = s.pending := rfl
@[simp] theorem on_chip (s : State) (f : Chip → Chip) : (s.on f).chip = f s.chip := rfl

/-! ### setCh -/

section
variable (s : Chip) (n : Nat) (c : Ch)

@[simp] theorem setCh_clk : (s.setCh n c).clk = s.clk := rfl
@[simp] theorem setCh_strap : (s.setCh n c).strap = s.strap := rfl
@[simp] theorem setCh_mode : (s.setCh n c).mode = s.mode := rfl
@[simp] theorem setCh_img : (s.setCh n c).img = s.img := rfl
@[simp] theorem setCh_imgValid : (s.setCh n c).imgValid = s.imgValid := rfl
@[simp] theorem setCh_chQueue : (s.setCh n c).chQueue = s.chQueue := rfl
@[simp] theorem setCh_rails : (s.setCh n c).rails = s.rails := rfl
@[simp] theorem setCh_railQueue : (s.setCh n c).railQueue = s.railQueue := rfl
@[simp] theorem setCh_terms : (s.setCh n c).terms = s.terms := rfl
@[simp] theorem setCh_bats : (s.setCh n c).bats = s.bats := rfl
@[simp] theorem setCh_batRecs : (s.setCh n c).batRecs = s.batRecs := rfl
@[simp] theorem setCh_hk : (s.setCh n c).hk = s.hk := rfl
@[simp] theorem setCh_sram : (s.setCh n c).sram = s.sram := rfl
@[simp] theorem setCh_seqs : (s.setCh n c).seqs = s.seqs := rfl
@[simp] theorem setCh_mons : (s.setCh n c).mons = s.mons := rfl
@[simp] theorem setCh_caps : (s.setCh n c).caps = s.caps := rfl
@[simp] theorem setCh_sense : (s.setCh n c).sense = s.sense := rfl
@[simp] theorem setCh_ds : (s.setCh n c).ds = s.ds := rfl
@[simp] theorem setCh_dsPoll : (s.setCh n c).dsPoll = s.dsPoll := rfl
@[simp] theorem setCh_throttled : (s.setCh n c).throttled = s.throttled := rfl
@[simp] theorem setCh_energy : (s.setCh n c).energy = s.energy := rfl
@[simp] theorem setCh_book : (s.setCh n c).book = s.book := rfl
@[simp] theorem setCh_rects : (s.setCh n c).rects = s.rects := rfl
@[simp] theorem setCh_links : (s.setCh n c).links = s.links := rfl
@[simp] theorem setCh_bursts : (s.setCh n c).bursts = s.bursts := rfl
@[simp] theorem setCh_meters : (s.setCh n c).meters = s.meters := rfl
@[simp] theorem setCh_meterBook : (s.setCh n c).meterBook = s.meterBook := rfl
@[simp] theorem setCh_ledger : (s.setCh n c).ledger = s.ledger := rfl
@[simp] theorem setCh_tw : (s.setCh n c).tw = s.tw := rfl
@[simp] theorem setCh_spi : (s.setCh n c).spi = s.spi := rfl
@[simp] theorem setCh_addr : (s.setCh n c).addr = s.addr := rfl
@[simp] theorem setCh_spiStatus : (s.setCh n c).spiStatus = s.spiStatus := rfl
@[simp] theorem setCh_receipts : (s.setCh n c).receipts = s.receipts := rfl
@[simp] theorem setCh_deadBelow : (s.setCh n c).deadBelow = s.deadBelow := rfl
@[simp] theorem setCh_events : (s.setCh n c).events = s.events := rfl
@[simp] theorem setCh_svc : (s.setCh n c).svc = s.svc := rfl
@[simp] theorem setCh_faults : (s.setCh n c).faults = s.faults := rfl
@[simp] theorem setCh_dogs : (s.setCh n c).dogs = s.dogs := rfl
@[simp] theorem setCh_retained : (s.setCh n c).retained = s.retained := rfl
@[simp] theorem setCh_pair : (s.setCh n c).pair = s.pair := rfl
@[simp] theorem setCh_net : (s.setCh n c).net = s.net := rfl
@[simp] theorem setCh_sketch : (s.setCh n c).sketch = s.sketch := rfl
@[simp] theorem setCh_box : (s.setCh n c).box = s.box := rfl
@[simp] theorem setCh_boxSeen : (s.setCh n c).boxSeen = s.boxSeen := rfl
@[simp] theorem setCh_boxWait : (s.setCh n c).boxWait = s.boxWait := rfl
@[simp] theorem setCh_boxDue : (s.setCh n c).boxDue = s.boxDue := rfl
@[simp] theorem setCh_fw : (s.setCh n c).fw = s.fw := rfl
@[simp] theorem setCh_otp : (s.setCh n c).otp = s.otp := rfl
@[simp] theorem setCh_mram : (s.setCh n c).mram = s.mram := rfl
@[simp] theorem setCh_cfg : (s.setCh n c).cfg = s.cfg := rfl
@[simp] theorem setCh_ostler : (s.setCh n c).ostler = s.ostler := rfl
@[simp] theorem setCh_heat : (s.setCh n c).heat = s.heat := rfl
@[simp] theorem setCh_chs : (s.setCh n c).chs = tset s.chs n c := rfl
end

/-! ### modCh -/

section
variable (s : Chip) (n : Nat) (f : Ch → Ch)

@[simp] theorem modCh_clk : (s.modCh n f).clk = s.clk := rfl
@[simp] theorem modCh_strap : (s.modCh n f).strap = s.strap := rfl
@[simp] theorem modCh_mode : (s.modCh n f).mode = s.mode := rfl
@[simp] theorem modCh_img : (s.modCh n f).img = s.img := rfl
@[simp] theorem modCh_imgValid : (s.modCh n f).imgValid = s.imgValid := rfl
@[simp] theorem modCh_chQueue : (s.modCh n f).chQueue = s.chQueue := rfl
@[simp] theorem modCh_rails : (s.modCh n f).rails = s.rails := rfl
@[simp] theorem modCh_railQueue : (s.modCh n f).railQueue = s.railQueue := rfl
@[simp] theorem modCh_terms : (s.modCh n f).terms = s.terms := rfl
@[simp] theorem modCh_bats : (s.modCh n f).bats = s.bats := rfl
@[simp] theorem modCh_batRecs : (s.modCh n f).batRecs = s.batRecs := rfl
@[simp] theorem modCh_hk : (s.modCh n f).hk = s.hk := rfl
@[simp] theorem modCh_sram : (s.modCh n f).sram = s.sram := rfl
@[simp] theorem modCh_seqs : (s.modCh n f).seqs = s.seqs := rfl
@[simp] theorem modCh_mons : (s.modCh n f).mons = s.mons := rfl
@[simp] theorem modCh_caps : (s.modCh n f).caps = s.caps := rfl
@[simp] theorem modCh_sense : (s.modCh n f).sense = s.sense := rfl
@[simp] theorem modCh_ds : (s.modCh n f).ds = s.ds := rfl
@[simp] theorem modCh_dsPoll : (s.modCh n f).dsPoll = s.dsPoll := rfl
@[simp] theorem modCh_throttled : (s.modCh n f).throttled = s.throttled := rfl
@[simp] theorem modCh_energy : (s.modCh n f).energy = s.energy := rfl
@[simp] theorem modCh_book : (s.modCh n f).book = s.book := rfl
@[simp] theorem modCh_rects : (s.modCh n f).rects = s.rects := rfl
@[simp] theorem modCh_links : (s.modCh n f).links = s.links := rfl
@[simp] theorem modCh_bursts : (s.modCh n f).bursts = s.bursts := rfl
@[simp] theorem modCh_meters : (s.modCh n f).meters = s.meters := rfl
@[simp] theorem modCh_meterBook : (s.modCh n f).meterBook = s.meterBook := rfl
@[simp] theorem modCh_ledger : (s.modCh n f).ledger = s.ledger := rfl
@[simp] theorem modCh_tw : (s.modCh n f).tw = s.tw := rfl
@[simp] theorem modCh_spi : (s.modCh n f).spi = s.spi := rfl
@[simp] theorem modCh_addr : (s.modCh n f).addr = s.addr := rfl
@[simp] theorem modCh_spiStatus : (s.modCh n f).spiStatus = s.spiStatus := rfl
@[simp] theorem modCh_receipts : (s.modCh n f).receipts = s.receipts := rfl
@[simp] theorem modCh_deadBelow : (s.modCh n f).deadBelow = s.deadBelow := rfl
@[simp] theorem modCh_events : (s.modCh n f).events = s.events := rfl
@[simp] theorem modCh_svc : (s.modCh n f).svc = s.svc := rfl
@[simp] theorem modCh_faults : (s.modCh n f).faults = s.faults := rfl
@[simp] theorem modCh_dogs : (s.modCh n f).dogs = s.dogs := rfl
@[simp] theorem modCh_retained : (s.modCh n f).retained = s.retained := rfl
@[simp] theorem modCh_pair : (s.modCh n f).pair = s.pair := rfl
@[simp] theorem modCh_net : (s.modCh n f).net = s.net := rfl
@[simp] theorem modCh_sketch : (s.modCh n f).sketch = s.sketch := rfl
@[simp] theorem modCh_box : (s.modCh n f).box = s.box := rfl
@[simp] theorem modCh_boxSeen : (s.modCh n f).boxSeen = s.boxSeen := rfl
@[simp] theorem modCh_boxWait : (s.modCh n f).boxWait = s.boxWait := rfl
@[simp] theorem modCh_boxDue : (s.modCh n f).boxDue = s.boxDue := rfl
@[simp] theorem modCh_fw : (s.modCh n f).fw = s.fw := rfl
@[simp] theorem modCh_otp : (s.modCh n f).otp = s.otp := rfl
@[simp] theorem modCh_mram : (s.modCh n f).mram = s.mram := rfl
@[simp] theorem modCh_cfg : (s.modCh n f).cfg = s.cfg := rfl
@[simp] theorem modCh_ostler : (s.modCh n f).ostler = s.ostler := rfl
@[simp] theorem modCh_heat : (s.modCh n f).heat = s.heat := rfl
@[simp] theorem modCh_chs : (s.modCh n f).chs = tset s.chs n (f (s.ch n)) := rfl
end

/-! ### setRail -/

section
variable (s : Chip) (n : Nat) (r : Rail)

@[simp] theorem setRail_clk : (s.setRail n r).clk = s.clk := rfl
@[simp] theorem setRail_strap : (s.setRail n r).strap = s.strap := rfl
@[simp] theorem setRail_mode : (s.setRail n r).mode = s.mode := rfl
@[simp] theorem setRail_img : (s.setRail n r).img = s.img := rfl
@[simp] theorem setRail_imgValid : (s.setRail n r).imgValid = s.imgValid := rfl
@[simp] theorem setRail_chs : (s.setRail n r).chs = s.chs := rfl
@[simp] theorem setRail_chQueue : (s.setRail n r).chQueue = s.chQueue := rfl
@[simp] theorem setRail_railQueue : (s.setRail n r).railQueue = s.railQueue := rfl
@[simp] theorem setRail_terms : (s.setRail n r).terms = s.terms := rfl
@[simp] theorem setRail_bats : (s.setRail n r).bats = s.bats := rfl
@[simp] theorem setRail_batRecs : (s.setRail n r).batRecs = s.batRecs := rfl
@[simp] theorem setRail_hk : (s.setRail n r).hk = s.hk := rfl
@[simp] theorem setRail_sram : (s.setRail n r).sram = s.sram := rfl
@[simp] theorem setRail_seqs : (s.setRail n r).seqs = s.seqs := rfl
@[simp] theorem setRail_mons : (s.setRail n r).mons = s.mons := rfl
@[simp] theorem setRail_caps : (s.setRail n r).caps = s.caps := rfl
@[simp] theorem setRail_sense : (s.setRail n r).sense = s.sense := rfl
@[simp] theorem setRail_ds : (s.setRail n r).ds = s.ds := rfl
@[simp] theorem setRail_dsPoll : (s.setRail n r).dsPoll = s.dsPoll := rfl
@[simp] theorem setRail_throttled : (s.setRail n r).throttled = s.throttled := rfl
@[simp] theorem setRail_energy : (s.setRail n r).energy = s.energy := rfl
@[simp] theorem setRail_book : (s.setRail n r).book = s.book := rfl
@[simp] theorem setRail_rects : (s.setRail n r).rects = s.rects := rfl
@[simp] theorem setRail_links : (s.setRail n r).links = s.links := rfl
@[simp] theorem setRail_bursts : (s.setRail n r).bursts = s.bursts := rfl
@[simp] theorem setRail_meters : (s.setRail n r).meters = s.meters := rfl
@[simp] theorem setRail_meterBook : (s.setRail n r).meterBook = s.meterBook := rfl
@[simp] theorem setRail_ledger : (s.setRail n r).ledger = s.ledger := rfl
@[simp] theorem setRail_tw : (s.setRail n r).tw = s.tw := rfl
@[simp] theorem setRail_spi : (s.setRail n r).spi = s.spi := rfl
@[simp] theorem setRail_addr : (s.setRail n r).addr = s.addr := rfl
@[simp] theorem setRail_spiStatus : (s.setRail n r).spiStatus = s.spiStatus := rfl
@[simp] theorem setRail_receipts : (s.setRail n r).receipts = s.receipts := rfl
@[simp] theorem setRail_deadBelow : (s.setRail n r).deadBelow = s.deadBelow := rfl
@[simp] theorem setRail_events : (s.setRail n r).events = s.events := rfl
@[simp] theorem setRail_svc : (s.setRail n r).svc = s.svc := rfl
@[simp] theorem setRail_faults : (s.setRail n r).faults = s.faults := rfl
@[simp] theorem setRail_dogs : (s.setRail n r).dogs = s.dogs := rfl
@[simp] theorem setRail_retained : (s.setRail n r).retained = s.retained := rfl
@[simp] theorem setRail_pair : (s.setRail n r).pair = s.pair := rfl
@[simp] theorem setRail_net : (s.setRail n r).net = s.net := rfl
@[simp] theorem setRail_sketch : (s.setRail n r).sketch = s.sketch := rfl
@[simp] theorem setRail_box : (s.setRail n r).box = s.box := rfl
@[simp] theorem setRail_boxSeen : (s.setRail n r).boxSeen = s.boxSeen := rfl
@[simp] theorem setRail_boxWait : (s.setRail n r).boxWait = s.boxWait := rfl
@[simp] theorem setRail_boxDue : (s.setRail n r).boxDue = s.boxDue := rfl
@[simp] theorem setRail_fw : (s.setRail n r).fw = s.fw := rfl
@[simp] theorem setRail_otp : (s.setRail n r).otp = s.otp := rfl
@[simp] theorem setRail_mram : (s.setRail n r).mram = s.mram := rfl
@[simp] theorem setRail_cfg : (s.setRail n r).cfg = s.cfg := rfl
@[simp] theorem setRail_ostler : (s.setRail n r).ostler = s.ostler := rfl
@[simp] theorem setRail_heat : (s.setRail n r).heat = s.heat := rfl
@[simp] theorem setRail_rails : (s.setRail n r).rails = tset s.rails n r := rfl
end

/-! ### modRail -/

section
variable (s : Chip) (n : Nat) (f : Rail → Rail)

@[simp] theorem modRail_clk : (s.modRail n f).clk = s.clk := rfl
@[simp] theorem modRail_strap : (s.modRail n f).strap = s.strap := rfl
@[simp] theorem modRail_mode : (s.modRail n f).mode = s.mode := rfl
@[simp] theorem modRail_img : (s.modRail n f).img = s.img := rfl
@[simp] theorem modRail_imgValid : (s.modRail n f).imgValid = s.imgValid := rfl
@[simp] theorem modRail_chs : (s.modRail n f).chs = s.chs := rfl
@[simp] theorem modRail_chQueue : (s.modRail n f).chQueue = s.chQueue := rfl
@[simp] theorem modRail_railQueue : (s.modRail n f).railQueue = s.railQueue := rfl
@[simp] theorem modRail_terms : (s.modRail n f).terms = s.terms := rfl
@[simp] theorem modRail_bats : (s.modRail n f).bats = s.bats := rfl
@[simp] theorem modRail_batRecs : (s.modRail n f).batRecs = s.batRecs := rfl
@[simp] theorem modRail_hk : (s.modRail n f).hk = s.hk := rfl
@[simp] theorem modRail_sram : (s.modRail n f).sram = s.sram := rfl
@[simp] theorem modRail_seqs : (s.modRail n f).seqs = s.seqs := rfl
@[simp] theorem modRail_mons : (s.modRail n f).mons = s.mons := rfl
@[simp] theorem modRail_caps : (s.modRail n f).caps = s.caps := rfl
@[simp] theorem modRail_sense : (s.modRail n f).sense = s.sense := rfl
@[simp] theorem modRail_ds : (s.modRail n f).ds = s.ds := rfl
@[simp] theorem modRail_dsPoll : (s.modRail n f).dsPoll = s.dsPoll := rfl
@[simp] theorem modRail_throttled : (s.modRail n f).throttled = s.throttled := rfl
@[simp] theorem modRail_energy : (s.modRail n f).energy = s.energy := rfl
@[simp] theorem modRail_book : (s.modRail n f).book = s.book := rfl
@[simp] theorem modRail_rects : (s.modRail n f).rects = s.rects := rfl
@[simp] theorem modRail_links : (s.modRail n f).links = s.links := rfl
@[simp] theorem modRail_bursts : (s.modRail n f).bursts = s.bursts := rfl
@[simp] theorem modRail_meters : (s.modRail n f).meters = s.meters := rfl
@[simp] theorem modRail_meterBook : (s.modRail n f).meterBook = s.meterBook := rfl
@[simp] theorem modRail_ledger : (s.modRail n f).ledger = s.ledger := rfl
@[simp] theorem modRail_tw : (s.modRail n f).tw = s.tw := rfl
@[simp] theorem modRail_spi : (s.modRail n f).spi = s.spi := rfl
@[simp] theorem modRail_addr : (s.modRail n f).addr = s.addr := rfl
@[simp] theorem modRail_spiStatus : (s.modRail n f).spiStatus = s.spiStatus := rfl
@[simp] theorem modRail_receipts : (s.modRail n f).receipts = s.receipts := rfl
@[simp] theorem modRail_deadBelow : (s.modRail n f).deadBelow = s.deadBelow := rfl
@[simp] theorem modRail_events : (s.modRail n f).events = s.events := rfl
@[simp] theorem modRail_svc : (s.modRail n f).svc = s.svc := rfl
@[simp] theorem modRail_faults : (s.modRail n f).faults = s.faults := rfl
@[simp] theorem modRail_dogs : (s.modRail n f).dogs = s.dogs := rfl
@[simp] theorem modRail_retained : (s.modRail n f).retained = s.retained := rfl
@[simp] theorem modRail_pair : (s.modRail n f).pair = s.pair := rfl
@[simp] theorem modRail_net : (s.modRail n f).net = s.net := rfl
@[simp] theorem modRail_sketch : (s.modRail n f).sketch = s.sketch := rfl
@[simp] theorem modRail_box : (s.modRail n f).box = s.box := rfl
@[simp] theorem modRail_boxSeen : (s.modRail n f).boxSeen = s.boxSeen := rfl
@[simp] theorem modRail_boxWait : (s.modRail n f).boxWait = s.boxWait := rfl
@[simp] theorem modRail_boxDue : (s.modRail n f).boxDue = s.boxDue := rfl
@[simp] theorem modRail_fw : (s.modRail n f).fw = s.fw := rfl
@[simp] theorem modRail_otp : (s.modRail n f).otp = s.otp := rfl
@[simp] theorem modRail_mram : (s.modRail n f).mram = s.mram := rfl
@[simp] theorem modRail_cfg : (s.modRail n f).cfg = s.cfg := rfl
@[simp] theorem modRail_ostler : (s.modRail n f).ostler = s.ostler := rfl
@[simp] theorem modRail_heat : (s.modRail n f).heat = s.heat := rfl
@[simp] theorem modRail_rails : (s.modRail n f).rails = tset s.rails n (f (s.rail n)) := rfl
end

/-! ### setRect -/

section
variable (s : Chip) (n : Nat) (r : Rect)

@[simp] theorem setRect_clk : (s.setRect n r).clk = s.clk := rfl
@[simp] theorem setRect_strap : (s.setRect n r).strap = s.strap := rfl
@[simp] theorem setRect_mode : (s.setRect n r).mode = s.mode := rfl
@[simp] theorem setRect_img : (s.setRect n r).img = s.img := rfl
@[simp] theorem setRect_imgValid : (s.setRect n r).imgValid = s.imgValid := rfl
@[simp] theorem setRect_chs : (s.setRect n r).chs = s.chs := rfl
@[simp] theorem setRect_chQueue : (s.setRect n r).chQueue = s.chQueue := rfl
@[simp] theorem setRect_rails : (s.setRect n r).rails = s.rails := rfl
@[simp] theorem setRect_railQueue : (s.setRect n r).railQueue = s.railQueue := rfl
@[simp] theorem setRect_terms : (s.setRect n r).terms = s.terms := rfl
@[simp] theorem setRect_bats : (s.setRect n r).bats = s.bats := rfl
@[simp] theorem setRect_batRecs : (s.setRect n r).batRecs = s.batRecs := rfl
@[simp] theorem setRect_hk : (s.setRect n r).hk = s.hk := rfl
@[simp] theorem setRect_sram : (s.setRect n r).sram = s.sram := rfl
@[simp] theorem setRect_seqs : (s.setRect n r).seqs = s.seqs := rfl
@[simp] theorem setRect_mons : (s.setRect n r).mons = s.mons := rfl
@[simp] theorem setRect_caps : (s.setRect n r).caps = s.caps := rfl
@[simp] theorem setRect_sense : (s.setRect n r).sense = s.sense := rfl
@[simp] theorem setRect_ds : (s.setRect n r).ds = s.ds := rfl
@[simp] theorem setRect_dsPoll : (s.setRect n r).dsPoll = s.dsPoll := rfl
@[simp] theorem setRect_throttled : (s.setRect n r).throttled = s.throttled := rfl
@[simp] theorem setRect_energy : (s.setRect n r).energy = s.energy := rfl
@[simp] theorem setRect_book : (s.setRect n r).book = s.book := rfl
@[simp] theorem setRect_links : (s.setRect n r).links = s.links := rfl
@[simp] theorem setRect_bursts : (s.setRect n r).bursts = s.bursts := rfl
@[simp] theorem setRect_meters : (s.setRect n r).meters = s.meters := rfl
@[simp] theorem setRect_meterBook : (s.setRect n r).meterBook = s.meterBook := rfl
@[simp] theorem setRect_ledger : (s.setRect n r).ledger = s.ledger := rfl
@[simp] theorem setRect_tw : (s.setRect n r).tw = s.tw := rfl
@[simp] theorem setRect_spi : (s.setRect n r).spi = s.spi := rfl
@[simp] theorem setRect_addr : (s.setRect n r).addr = s.addr := rfl
@[simp] theorem setRect_spiStatus : (s.setRect n r).spiStatus = s.spiStatus := rfl
@[simp] theorem setRect_receipts : (s.setRect n r).receipts = s.receipts := rfl
@[simp] theorem setRect_deadBelow : (s.setRect n r).deadBelow = s.deadBelow := rfl
@[simp] theorem setRect_events : (s.setRect n r).events = s.events := rfl
@[simp] theorem setRect_svc : (s.setRect n r).svc = s.svc := rfl
@[simp] theorem setRect_faults : (s.setRect n r).faults = s.faults := rfl
@[simp] theorem setRect_dogs : (s.setRect n r).dogs = s.dogs := rfl
@[simp] theorem setRect_retained : (s.setRect n r).retained = s.retained := rfl
@[simp] theorem setRect_pair : (s.setRect n r).pair = s.pair := rfl
@[simp] theorem setRect_net : (s.setRect n r).net = s.net := rfl
@[simp] theorem setRect_sketch : (s.setRect n r).sketch = s.sketch := rfl
@[simp] theorem setRect_box : (s.setRect n r).box = s.box := rfl
@[simp] theorem setRect_boxSeen : (s.setRect n r).boxSeen = s.boxSeen := rfl
@[simp] theorem setRect_boxWait : (s.setRect n r).boxWait = s.boxWait := rfl
@[simp] theorem setRect_boxDue : (s.setRect n r).boxDue = s.boxDue := rfl
@[simp] theorem setRect_fw : (s.setRect n r).fw = s.fw := rfl
@[simp] theorem setRect_otp : (s.setRect n r).otp = s.otp := rfl
@[simp] theorem setRect_mram : (s.setRect n r).mram = s.mram := rfl
@[simp] theorem setRect_cfg : (s.setRect n r).cfg = s.cfg := rfl
@[simp] theorem setRect_ostler : (s.setRect n r).ostler = s.ostler := rfl
@[simp] theorem setRect_heat : (s.setRect n r).heat = s.heat := rfl
@[simp] theorem setRect_rects : (s.setRect n r).rects = tset s.rects n r := rfl
end

/-! ### modRect -/

section
variable (s : Chip) (n : Nat) (f : Rect → Rect)

@[simp] theorem modRect_clk : (s.modRect n f).clk = s.clk := rfl
@[simp] theorem modRect_strap : (s.modRect n f).strap = s.strap := rfl
@[simp] theorem modRect_mode : (s.modRect n f).mode = s.mode := rfl
@[simp] theorem modRect_img : (s.modRect n f).img = s.img := rfl
@[simp] theorem modRect_imgValid : (s.modRect n f).imgValid = s.imgValid := rfl
@[simp] theorem modRect_chs : (s.modRect n f).chs = s.chs := rfl
@[simp] theorem modRect_chQueue : (s.modRect n f).chQueue = s.chQueue := rfl
@[simp] theorem modRect_rails : (s.modRect n f).rails = s.rails := rfl
@[simp] theorem modRect_railQueue : (s.modRect n f).railQueue = s.railQueue := rfl
@[simp] theorem modRect_terms : (s.modRect n f).terms = s.terms := rfl
@[simp] theorem modRect_bats : (s.modRect n f).bats = s.bats := rfl
@[simp] theorem modRect_batRecs : (s.modRect n f).batRecs = s.batRecs := rfl
@[simp] theorem modRect_hk : (s.modRect n f).hk = s.hk := rfl
@[simp] theorem modRect_sram : (s.modRect n f).sram = s.sram := rfl
@[simp] theorem modRect_seqs : (s.modRect n f).seqs = s.seqs := rfl
@[simp] theorem modRect_mons : (s.modRect n f).mons = s.mons := rfl
@[simp] theorem modRect_caps : (s.modRect n f).caps = s.caps := rfl
@[simp] theorem modRect_sense : (s.modRect n f).sense = s.sense := rfl
@[simp] theorem modRect_ds : (s.modRect n f).ds = s.ds := rfl
@[simp] theorem modRect_dsPoll : (s.modRect n f).dsPoll = s.dsPoll := rfl
@[simp] theorem modRect_throttled : (s.modRect n f).throttled = s.throttled := rfl
@[simp] theorem modRect_energy : (s.modRect n f).energy = s.energy := rfl
@[simp] theorem modRect_book : (s.modRect n f).book = s.book := rfl
@[simp] theorem modRect_links : (s.modRect n f).links = s.links := rfl
@[simp] theorem modRect_bursts : (s.modRect n f).bursts = s.bursts := rfl
@[simp] theorem modRect_meters : (s.modRect n f).meters = s.meters := rfl
@[simp] theorem modRect_meterBook : (s.modRect n f).meterBook = s.meterBook := rfl
@[simp] theorem modRect_ledger : (s.modRect n f).ledger = s.ledger := rfl
@[simp] theorem modRect_tw : (s.modRect n f).tw = s.tw := rfl
@[simp] theorem modRect_spi : (s.modRect n f).spi = s.spi := rfl
@[simp] theorem modRect_addr : (s.modRect n f).addr = s.addr := rfl
@[simp] theorem modRect_spiStatus : (s.modRect n f).spiStatus = s.spiStatus := rfl
@[simp] theorem modRect_receipts : (s.modRect n f).receipts = s.receipts := rfl
@[simp] theorem modRect_deadBelow : (s.modRect n f).deadBelow = s.deadBelow := rfl
@[simp] theorem modRect_events : (s.modRect n f).events = s.events := rfl
@[simp] theorem modRect_svc : (s.modRect n f).svc = s.svc := rfl
@[simp] theorem modRect_faults : (s.modRect n f).faults = s.faults := rfl
@[simp] theorem modRect_dogs : (s.modRect n f).dogs = s.dogs := rfl
@[simp] theorem modRect_retained : (s.modRect n f).retained = s.retained := rfl
@[simp] theorem modRect_pair : (s.modRect n f).pair = s.pair := rfl
@[simp] theorem modRect_net : (s.modRect n f).net = s.net := rfl
@[simp] theorem modRect_sketch : (s.modRect n f).sketch = s.sketch := rfl
@[simp] theorem modRect_box : (s.modRect n f).box = s.box := rfl
@[simp] theorem modRect_boxSeen : (s.modRect n f).boxSeen = s.boxSeen := rfl
@[simp] theorem modRect_boxWait : (s.modRect n f).boxWait = s.boxWait := rfl
@[simp] theorem modRect_boxDue : (s.modRect n f).boxDue = s.boxDue := rfl
@[simp] theorem modRect_fw : (s.modRect n f).fw = s.fw := rfl
@[simp] theorem modRect_otp : (s.modRect n f).otp = s.otp := rfl
@[simp] theorem modRect_mram : (s.modRect n f).mram = s.mram := rfl
@[simp] theorem modRect_cfg : (s.modRect n f).cfg = s.cfg := rfl
@[simp] theorem modRect_ostler : (s.modRect n f).ostler = s.ostler := rfl
@[simp] theorem modRect_heat : (s.modRect n f).heat = s.heat := rfl
@[simp] theorem modRect_rects : (s.modRect n f).rects = tset s.rects n (f (s.rect n)) := rfl
end

/-! ### setLink -/

section
variable (s : Chip) (n : Nat) (l : Link)

@[simp] theorem setLink_clk : (s.setLink n l).clk = s.clk := rfl
@[simp] theorem setLink_strap : (s.setLink n l).strap = s.strap := rfl
@[simp] theorem setLink_mode : (s.setLink n l).mode = s.mode := rfl
@[simp] theorem setLink_img : (s.setLink n l).img = s.img := rfl
@[simp] theorem setLink_imgValid : (s.setLink n l).imgValid = s.imgValid := rfl
@[simp] theorem setLink_chs : (s.setLink n l).chs = s.chs := rfl
@[simp] theorem setLink_chQueue : (s.setLink n l).chQueue = s.chQueue := rfl
@[simp] theorem setLink_rails : (s.setLink n l).rails = s.rails := rfl
@[simp] theorem setLink_railQueue : (s.setLink n l).railQueue = s.railQueue := rfl
@[simp] theorem setLink_terms : (s.setLink n l).terms = s.terms := rfl
@[simp] theorem setLink_bats : (s.setLink n l).bats = s.bats := rfl
@[simp] theorem setLink_batRecs : (s.setLink n l).batRecs = s.batRecs := rfl
@[simp] theorem setLink_hk : (s.setLink n l).hk = s.hk := rfl
@[simp] theorem setLink_sram : (s.setLink n l).sram = s.sram := rfl
@[simp] theorem setLink_seqs : (s.setLink n l).seqs = s.seqs := rfl
@[simp] theorem setLink_mons : (s.setLink n l).mons = s.mons := rfl
@[simp] theorem setLink_caps : (s.setLink n l).caps = s.caps := rfl
@[simp] theorem setLink_sense : (s.setLink n l).sense = s.sense := rfl
@[simp] theorem setLink_ds : (s.setLink n l).ds = s.ds := rfl
@[simp] theorem setLink_dsPoll : (s.setLink n l).dsPoll = s.dsPoll := rfl
@[simp] theorem setLink_throttled : (s.setLink n l).throttled = s.throttled := rfl
@[simp] theorem setLink_energy : (s.setLink n l).energy = s.energy := rfl
@[simp] theorem setLink_book : (s.setLink n l).book = s.book := rfl
@[simp] theorem setLink_rects : (s.setLink n l).rects = s.rects := rfl
@[simp] theorem setLink_bursts : (s.setLink n l).bursts = s.bursts := rfl
@[simp] theorem setLink_meters : (s.setLink n l).meters = s.meters := rfl
@[simp] theorem setLink_meterBook : (s.setLink n l).meterBook = s.meterBook := rfl
@[simp] theorem setLink_ledger : (s.setLink n l).ledger = s.ledger := rfl
@[simp] theorem setLink_tw : (s.setLink n l).tw = s.tw := rfl
@[simp] theorem setLink_spi : (s.setLink n l).spi = s.spi := rfl
@[simp] theorem setLink_addr : (s.setLink n l).addr = s.addr := rfl
@[simp] theorem setLink_spiStatus : (s.setLink n l).spiStatus = s.spiStatus := rfl
@[simp] theorem setLink_receipts : (s.setLink n l).receipts = s.receipts := rfl
@[simp] theorem setLink_deadBelow : (s.setLink n l).deadBelow = s.deadBelow := rfl
@[simp] theorem setLink_events : (s.setLink n l).events = s.events := rfl
@[simp] theorem setLink_svc : (s.setLink n l).svc = s.svc := rfl
@[simp] theorem setLink_faults : (s.setLink n l).faults = s.faults := rfl
@[simp] theorem setLink_dogs : (s.setLink n l).dogs = s.dogs := rfl
@[simp] theorem setLink_retained : (s.setLink n l).retained = s.retained := rfl
@[simp] theorem setLink_pair : (s.setLink n l).pair = s.pair := rfl
@[simp] theorem setLink_net : (s.setLink n l).net = s.net := rfl
@[simp] theorem setLink_sketch : (s.setLink n l).sketch = s.sketch := rfl
@[simp] theorem setLink_box : (s.setLink n l).box = s.box := rfl
@[simp] theorem setLink_boxSeen : (s.setLink n l).boxSeen = s.boxSeen := rfl
@[simp] theorem setLink_boxWait : (s.setLink n l).boxWait = s.boxWait := rfl
@[simp] theorem setLink_boxDue : (s.setLink n l).boxDue = s.boxDue := rfl
@[simp] theorem setLink_fw : (s.setLink n l).fw = s.fw := rfl
@[simp] theorem setLink_otp : (s.setLink n l).otp = s.otp := rfl
@[simp] theorem setLink_mram : (s.setLink n l).mram = s.mram := rfl
@[simp] theorem setLink_cfg : (s.setLink n l).cfg = s.cfg := rfl
@[simp] theorem setLink_ostler : (s.setLink n l).ostler = s.ostler := rfl
@[simp] theorem setLink_heat : (s.setLink n l).heat = s.heat := rfl
@[simp] theorem setLink_links : (s.setLink n l).links = tset s.links n l := rfl
end

/-! ### modLink -/

section
variable (s : Chip) (n : Nat) (f : Link → Link)

@[simp] theorem modLink_clk : (s.modLink n f).clk = s.clk := rfl
@[simp] theorem modLink_strap : (s.modLink n f).strap = s.strap := rfl
@[simp] theorem modLink_mode : (s.modLink n f).mode = s.mode := rfl
@[simp] theorem modLink_img : (s.modLink n f).img = s.img := rfl
@[simp] theorem modLink_imgValid : (s.modLink n f).imgValid = s.imgValid := rfl
@[simp] theorem modLink_chs : (s.modLink n f).chs = s.chs := rfl
@[simp] theorem modLink_chQueue : (s.modLink n f).chQueue = s.chQueue := rfl
@[simp] theorem modLink_rails : (s.modLink n f).rails = s.rails := rfl
@[simp] theorem modLink_railQueue : (s.modLink n f).railQueue = s.railQueue := rfl
@[simp] theorem modLink_terms : (s.modLink n f).terms = s.terms := rfl
@[simp] theorem modLink_bats : (s.modLink n f).bats = s.bats := rfl
@[simp] theorem modLink_batRecs : (s.modLink n f).batRecs = s.batRecs := rfl
@[simp] theorem modLink_hk : (s.modLink n f).hk = s.hk := rfl
@[simp] theorem modLink_sram : (s.modLink n f).sram = s.sram := rfl
@[simp] theorem modLink_seqs : (s.modLink n f).seqs = s.seqs := rfl
@[simp] theorem modLink_mons : (s.modLink n f).mons = s.mons := rfl
@[simp] theorem modLink_caps : (s.modLink n f).caps = s.caps := rfl
@[simp] theorem modLink_sense : (s.modLink n f).sense = s.sense := rfl
@[simp] theorem modLink_ds : (s.modLink n f).ds = s.ds := rfl
@[simp] theorem modLink_dsPoll : (s.modLink n f).dsPoll = s.dsPoll := rfl
@[simp] theorem modLink_throttled : (s.modLink n f).throttled = s.throttled := rfl
@[simp] theorem modLink_energy : (s.modLink n f).energy = s.energy := rfl
@[simp] theorem modLink_book : (s.modLink n f).book = s.book := rfl
@[simp] theorem modLink_rects : (s.modLink n f).rects = s.rects := rfl
@[simp] theorem modLink_bursts : (s.modLink n f).bursts = s.bursts := rfl
@[simp] theorem modLink_meters : (s.modLink n f).meters = s.meters := rfl
@[simp] theorem modLink_meterBook : (s.modLink n f).meterBook = s.meterBook := rfl
@[simp] theorem modLink_ledger : (s.modLink n f).ledger = s.ledger := rfl
@[simp] theorem modLink_tw : (s.modLink n f).tw = s.tw := rfl
@[simp] theorem modLink_spi : (s.modLink n f).spi = s.spi := rfl
@[simp] theorem modLink_addr : (s.modLink n f).addr = s.addr := rfl
@[simp] theorem modLink_spiStatus : (s.modLink n f).spiStatus = s.spiStatus := rfl
@[simp] theorem modLink_receipts : (s.modLink n f).receipts = s.receipts := rfl
@[simp] theorem modLink_deadBelow : (s.modLink n f).deadBelow = s.deadBelow := rfl
@[simp] theorem modLink_events : (s.modLink n f).events = s.events := rfl
@[simp] theorem modLink_svc : (s.modLink n f).svc = s.svc := rfl
@[simp] theorem modLink_faults : (s.modLink n f).faults = s.faults := rfl
@[simp] theorem modLink_dogs : (s.modLink n f).dogs = s.dogs := rfl
@[simp] theorem modLink_retained : (s.modLink n f).retained = s.retained := rfl
@[simp] theorem modLink_pair : (s.modLink n f).pair = s.pair := rfl
@[simp] theorem modLink_net : (s.modLink n f).net = s.net := rfl
@[simp] theorem modLink_sketch : (s.modLink n f).sketch = s.sketch := rfl
@[simp] theorem modLink_box : (s.modLink n f).box = s.box := rfl
@[simp] theorem modLink_boxSeen : (s.modLink n f).boxSeen = s.boxSeen := rfl
@[simp] theorem modLink_boxWait : (s.modLink n f).boxWait = s.boxWait := rfl
@[simp] theorem modLink_boxDue : (s.modLink n f).boxDue = s.boxDue := rfl
@[simp] theorem modLink_fw : (s.modLink n f).fw = s.fw := rfl
@[simp] theorem modLink_otp : (s.modLink n f).otp = s.otp := rfl
@[simp] theorem modLink_mram : (s.modLink n f).mram = s.mram := rfl
@[simp] theorem modLink_cfg : (s.modLink n f).cfg = s.cfg := rfl
@[simp] theorem modLink_ostler : (s.modLink n f).ostler = s.ostler := rfl
@[simp] theorem modLink_heat : (s.modLink n f).heat = s.heat := rfl
@[simp] theorem modLink_links : (s.modLink n f).links = tset s.links n (f (s.link n)) := rfl
end

/-! ### setBurst -/

section
variable (s : Chip) (n : Nat) (b : Burst)

@[simp] theorem setBurst_clk : (s.setBurst n b).clk = s.clk := rfl
@[simp] theorem setBurst_strap : (s.setBurst n b).strap = s.strap := rfl
@[simp] theorem setBurst_mode : (s.setBurst n b).mode = s.mode := rfl
@[simp] theorem setBurst_img : (s.setBurst n b).img = s.img := rfl
@[simp] theorem setBurst_imgValid : (s.setBurst n b).imgValid = s.imgValid := rfl
@[simp] theorem setBurst_chs : (s.setBurst n b).chs = s.chs := rfl
@[simp] theorem setBurst_chQueue : (s.setBurst n b).chQueue = s.chQueue := rfl
@[simp] theorem setBurst_rails : (s.setBurst n b).rails = s.rails := rfl
@[simp] theorem setBurst_railQueue : (s.setBurst n b).railQueue = s.railQueue := rfl
@[simp] theorem setBurst_terms : (s.setBurst n b).terms = s.terms := rfl
@[simp] theorem setBurst_bats : (s.setBurst n b).bats = s.bats := rfl
@[simp] theorem setBurst_batRecs : (s.setBurst n b).batRecs = s.batRecs := rfl
@[simp] theorem setBurst_hk : (s.setBurst n b).hk = s.hk := rfl
@[simp] theorem setBurst_sram : (s.setBurst n b).sram = s.sram := rfl
@[simp] theorem setBurst_seqs : (s.setBurst n b).seqs = s.seqs := rfl
@[simp] theorem setBurst_mons : (s.setBurst n b).mons = s.mons := rfl
@[simp] theorem setBurst_caps : (s.setBurst n b).caps = s.caps := rfl
@[simp] theorem setBurst_sense : (s.setBurst n b).sense = s.sense := rfl
@[simp] theorem setBurst_ds : (s.setBurst n b).ds = s.ds := rfl
@[simp] theorem setBurst_dsPoll : (s.setBurst n b).dsPoll = s.dsPoll := rfl
@[simp] theorem setBurst_throttled : (s.setBurst n b).throttled = s.throttled := rfl
@[simp] theorem setBurst_energy : (s.setBurst n b).energy = s.energy := rfl
@[simp] theorem setBurst_book : (s.setBurst n b).book = s.book := rfl
@[simp] theorem setBurst_rects : (s.setBurst n b).rects = s.rects := rfl
@[simp] theorem setBurst_links : (s.setBurst n b).links = s.links := rfl
@[simp] theorem setBurst_meters : (s.setBurst n b).meters = s.meters := rfl
@[simp] theorem setBurst_meterBook : (s.setBurst n b).meterBook = s.meterBook := rfl
@[simp] theorem setBurst_ledger : (s.setBurst n b).ledger = s.ledger := rfl
@[simp] theorem setBurst_tw : (s.setBurst n b).tw = s.tw := rfl
@[simp] theorem setBurst_spi : (s.setBurst n b).spi = s.spi := rfl
@[simp] theorem setBurst_addr : (s.setBurst n b).addr = s.addr := rfl
@[simp] theorem setBurst_spiStatus : (s.setBurst n b).spiStatus = s.spiStatus := rfl
@[simp] theorem setBurst_receipts : (s.setBurst n b).receipts = s.receipts := rfl
@[simp] theorem setBurst_deadBelow : (s.setBurst n b).deadBelow = s.deadBelow := rfl
@[simp] theorem setBurst_events : (s.setBurst n b).events = s.events := rfl
@[simp] theorem setBurst_svc : (s.setBurst n b).svc = s.svc := rfl
@[simp] theorem setBurst_faults : (s.setBurst n b).faults = s.faults := rfl
@[simp] theorem setBurst_dogs : (s.setBurst n b).dogs = s.dogs := rfl
@[simp] theorem setBurst_retained : (s.setBurst n b).retained = s.retained := rfl
@[simp] theorem setBurst_pair : (s.setBurst n b).pair = s.pair := rfl
@[simp] theorem setBurst_net : (s.setBurst n b).net = s.net := rfl
@[simp] theorem setBurst_sketch : (s.setBurst n b).sketch = s.sketch := rfl
@[simp] theorem setBurst_box : (s.setBurst n b).box = s.box := rfl
@[simp] theorem setBurst_boxSeen : (s.setBurst n b).boxSeen = s.boxSeen := rfl
@[simp] theorem setBurst_boxWait : (s.setBurst n b).boxWait = s.boxWait := rfl
@[simp] theorem setBurst_boxDue : (s.setBurst n b).boxDue = s.boxDue := rfl
@[simp] theorem setBurst_fw : (s.setBurst n b).fw = s.fw := rfl
@[simp] theorem setBurst_otp : (s.setBurst n b).otp = s.otp := rfl
@[simp] theorem setBurst_mram : (s.setBurst n b).mram = s.mram := rfl
@[simp] theorem setBurst_cfg : (s.setBurst n b).cfg = s.cfg := rfl
@[simp] theorem setBurst_ostler : (s.setBurst n b).ostler = s.ostler := rfl
@[simp] theorem setBurst_heat : (s.setBurst n b).heat = s.heat := rfl
@[simp] theorem setBurst_bursts : (s.setBurst n b).bursts = tset s.bursts n b := rfl
end

/-! ### modBurst -/

section
variable (s : Chip) (n : Nat) (f : Burst → Burst)

@[simp] theorem modBurst_clk : (s.modBurst n f).clk = s.clk := rfl
@[simp] theorem modBurst_strap : (s.modBurst n f).strap = s.strap := rfl
@[simp] theorem modBurst_mode : (s.modBurst n f).mode = s.mode := rfl
@[simp] theorem modBurst_img : (s.modBurst n f).img = s.img := rfl
@[simp] theorem modBurst_imgValid : (s.modBurst n f).imgValid = s.imgValid := rfl
@[simp] theorem modBurst_chs : (s.modBurst n f).chs = s.chs := rfl
@[simp] theorem modBurst_chQueue : (s.modBurst n f).chQueue = s.chQueue := rfl
@[simp] theorem modBurst_rails : (s.modBurst n f).rails = s.rails := rfl
@[simp] theorem modBurst_railQueue : (s.modBurst n f).railQueue = s.railQueue := rfl
@[simp] theorem modBurst_terms : (s.modBurst n f).terms = s.terms := rfl
@[simp] theorem modBurst_bats : (s.modBurst n f).bats = s.bats := rfl
@[simp] theorem modBurst_batRecs : (s.modBurst n f).batRecs = s.batRecs := rfl
@[simp] theorem modBurst_hk : (s.modBurst n f).hk = s.hk := rfl
@[simp] theorem modBurst_sram : (s.modBurst n f).sram = s.sram := rfl
@[simp] theorem modBurst_seqs : (s.modBurst n f).seqs = s.seqs := rfl
@[simp] theorem modBurst_mons : (s.modBurst n f).mons = s.mons := rfl
@[simp] theorem modBurst_caps : (s.modBurst n f).caps = s.caps := rfl
@[simp] theorem modBurst_sense : (s.modBurst n f).sense = s.sense := rfl
@[simp] theorem modBurst_ds : (s.modBurst n f).ds = s.ds := rfl
@[simp] theorem modBurst_dsPoll : (s.modBurst n f).dsPoll = s.dsPoll := rfl
@[simp] theorem modBurst_throttled : (s.modBurst n f).throttled = s.throttled := rfl
@[simp] theorem modBurst_energy : (s.modBurst n f).energy = s.energy := rfl
@[simp] theorem modBurst_book : (s.modBurst n f).book = s.book := rfl
@[simp] theorem modBurst_rects : (s.modBurst n f).rects = s.rects := rfl
@[simp] theorem modBurst_links : (s.modBurst n f).links = s.links := rfl
@[simp] theorem modBurst_meters : (s.modBurst n f).meters = s.meters := rfl
@[simp] theorem modBurst_meterBook : (s.modBurst n f).meterBook = s.meterBook := rfl
@[simp] theorem modBurst_ledger : (s.modBurst n f).ledger = s.ledger := rfl
@[simp] theorem modBurst_tw : (s.modBurst n f).tw = s.tw := rfl
@[simp] theorem modBurst_spi : (s.modBurst n f).spi = s.spi := rfl
@[simp] theorem modBurst_addr : (s.modBurst n f).addr = s.addr := rfl
@[simp] theorem modBurst_spiStatus : (s.modBurst n f).spiStatus = s.spiStatus := rfl
@[simp] theorem modBurst_receipts : (s.modBurst n f).receipts = s.receipts := rfl
@[simp] theorem modBurst_deadBelow : (s.modBurst n f).deadBelow = s.deadBelow := rfl
@[simp] theorem modBurst_events : (s.modBurst n f).events = s.events := rfl
@[simp] theorem modBurst_svc : (s.modBurst n f).svc = s.svc := rfl
@[simp] theorem modBurst_faults : (s.modBurst n f).faults = s.faults := rfl
@[simp] theorem modBurst_dogs : (s.modBurst n f).dogs = s.dogs := rfl
@[simp] theorem modBurst_retained : (s.modBurst n f).retained = s.retained := rfl
@[simp] theorem modBurst_pair : (s.modBurst n f).pair = s.pair := rfl
@[simp] theorem modBurst_net : (s.modBurst n f).net = s.net := rfl
@[simp] theorem modBurst_sketch : (s.modBurst n f).sketch = s.sketch := rfl
@[simp] theorem modBurst_box : (s.modBurst n f).box = s.box := rfl
@[simp] theorem modBurst_boxSeen : (s.modBurst n f).boxSeen = s.boxSeen := rfl
@[simp] theorem modBurst_boxWait : (s.modBurst n f).boxWait = s.boxWait := rfl
@[simp] theorem modBurst_boxDue : (s.modBurst n f).boxDue = s.boxDue := rfl
@[simp] theorem modBurst_fw : (s.modBurst n f).fw = s.fw := rfl
@[simp] theorem modBurst_otp : (s.modBurst n f).otp = s.otp := rfl
@[simp] theorem modBurst_mram : (s.modBurst n f).mram = s.mram := rfl
@[simp] theorem modBurst_cfg : (s.modBurst n f).cfg = s.cfg := rfl
@[simp] theorem modBurst_ostler : (s.modBurst n f).ostler = s.ostler := rfl
@[simp] theorem modBurst_heat : (s.modBurst n f).heat = s.heat := rfl
@[simp] theorem modBurst_bursts : (s.modBurst n f).bursts = tset s.bursts n (f (s.burst n)) := rfl
end

/-! ### setBat -/

section
variable (s : Chip) (j : Nat) (b : Bat)

@[simp] theorem setBat_clk : (s.setBat j b).clk = s.clk := rfl
@[simp] theorem setBat_strap : (s.setBat j b).strap = s.strap := rfl
@[simp] theorem setBat_mode : (s.setBat j b).mode = s.mode := rfl
@[simp] theorem setBat_img : (s.setBat j b).img = s.img := rfl
@[simp] theorem setBat_imgValid : (s.setBat j b).imgValid = s.imgValid := rfl
@[simp] theorem setBat_chs : (s.setBat j b).chs = s.chs := rfl
@[simp] theorem setBat_chQueue : (s.setBat j b).chQueue = s.chQueue := rfl
@[simp] theorem setBat_rails : (s.setBat j b).rails = s.rails := rfl
@[simp] theorem setBat_railQueue : (s.setBat j b).railQueue = s.railQueue := rfl
@[simp] theorem setBat_terms : (s.setBat j b).terms = s.terms := rfl
@[simp] theorem setBat_batRecs : (s.setBat j b).batRecs = s.batRecs := rfl
@[simp] theorem setBat_hk : (s.setBat j b).hk = s.hk := rfl
@[simp] theorem setBat_sram : (s.setBat j b).sram = s.sram := rfl
@[simp] theorem setBat_seqs : (s.setBat j b).seqs = s.seqs := rfl
@[simp] theorem setBat_mons : (s.setBat j b).mons = s.mons := rfl
@[simp] theorem setBat_caps : (s.setBat j b).caps = s.caps := rfl
@[simp] theorem setBat_sense : (s.setBat j b).sense = s.sense := rfl
@[simp] theorem setBat_ds : (s.setBat j b).ds = s.ds := rfl
@[simp] theorem setBat_dsPoll : (s.setBat j b).dsPoll = s.dsPoll := rfl
@[simp] theorem setBat_throttled : (s.setBat j b).throttled = s.throttled := rfl
@[simp] theorem setBat_energy : (s.setBat j b).energy = s.energy := rfl
@[simp] theorem setBat_book : (s.setBat j b).book = s.book := rfl
@[simp] theorem setBat_rects : (s.setBat j b).rects = s.rects := rfl
@[simp] theorem setBat_links : (s.setBat j b).links = s.links := rfl
@[simp] theorem setBat_bursts : (s.setBat j b).bursts = s.bursts := rfl
@[simp] theorem setBat_meters : (s.setBat j b).meters = s.meters := rfl
@[simp] theorem setBat_meterBook : (s.setBat j b).meterBook = s.meterBook := rfl
@[simp] theorem setBat_ledger : (s.setBat j b).ledger = s.ledger := rfl
@[simp] theorem setBat_tw : (s.setBat j b).tw = s.tw := rfl
@[simp] theorem setBat_spi : (s.setBat j b).spi = s.spi := rfl
@[simp] theorem setBat_addr : (s.setBat j b).addr = s.addr := rfl
@[simp] theorem setBat_spiStatus : (s.setBat j b).spiStatus = s.spiStatus := rfl
@[simp] theorem setBat_receipts : (s.setBat j b).receipts = s.receipts := rfl
@[simp] theorem setBat_deadBelow : (s.setBat j b).deadBelow = s.deadBelow := rfl
@[simp] theorem setBat_events : (s.setBat j b).events = s.events := rfl
@[simp] theorem setBat_svc : (s.setBat j b).svc = s.svc := rfl
@[simp] theorem setBat_faults : (s.setBat j b).faults = s.faults := rfl
@[simp] theorem setBat_dogs : (s.setBat j b).dogs = s.dogs := rfl
@[simp] theorem setBat_retained : (s.setBat j b).retained = s.retained := rfl
@[simp] theorem setBat_pair : (s.setBat j b).pair = s.pair := rfl
@[simp] theorem setBat_net : (s.setBat j b).net = s.net := rfl
@[simp] theorem setBat_sketch : (s.setBat j b).sketch = s.sketch := rfl
@[simp] theorem setBat_box : (s.setBat j b).box = s.box := rfl
@[simp] theorem setBat_boxSeen : (s.setBat j b).boxSeen = s.boxSeen := rfl
@[simp] theorem setBat_boxWait : (s.setBat j b).boxWait = s.boxWait := rfl
@[simp] theorem setBat_boxDue : (s.setBat j b).boxDue = s.boxDue := rfl
@[simp] theorem setBat_fw : (s.setBat j b).fw = s.fw := rfl
@[simp] theorem setBat_otp : (s.setBat j b).otp = s.otp := rfl
@[simp] theorem setBat_mram : (s.setBat j b).mram = s.mram := rfl
@[simp] theorem setBat_cfg : (s.setBat j b).cfg = s.cfg := rfl
@[simp] theorem setBat_ostler : (s.setBat j b).ostler = s.ostler := rfl
@[simp] theorem setBat_heat : (s.setBat j b).heat = s.heat := rfl
@[simp] theorem setBat_bats : (s.setBat j b).bats = tset s.bats j b := rfl
end

/-! ### modBat -/

section
variable (s : Chip) (j : Nat) (f : Bat → Bat)

@[simp] theorem modBat_clk : (s.modBat j f).clk = s.clk := rfl
@[simp] theorem modBat_strap : (s.modBat j f).strap = s.strap := rfl
@[simp] theorem modBat_mode : (s.modBat j f).mode = s.mode := rfl
@[simp] theorem modBat_img : (s.modBat j f).img = s.img := rfl
@[simp] theorem modBat_imgValid : (s.modBat j f).imgValid = s.imgValid := rfl
@[simp] theorem modBat_chs : (s.modBat j f).chs = s.chs := rfl
@[simp] theorem modBat_chQueue : (s.modBat j f).chQueue = s.chQueue := rfl
@[simp] theorem modBat_rails : (s.modBat j f).rails = s.rails := rfl
@[simp] theorem modBat_railQueue : (s.modBat j f).railQueue = s.railQueue := rfl
@[simp] theorem modBat_terms : (s.modBat j f).terms = s.terms := rfl
@[simp] theorem modBat_batRecs : (s.modBat j f).batRecs = s.batRecs := rfl
@[simp] theorem modBat_hk : (s.modBat j f).hk = s.hk := rfl
@[simp] theorem modBat_sram : (s.modBat j f).sram = s.sram := rfl
@[simp] theorem modBat_seqs : (s.modBat j f).seqs = s.seqs := rfl
@[simp] theorem modBat_mons : (s.modBat j f).mons = s.mons := rfl
@[simp] theorem modBat_caps : (s.modBat j f).caps = s.caps := rfl
@[simp] theorem modBat_sense : (s.modBat j f).sense = s.sense := rfl
@[simp] theorem modBat_ds : (s.modBat j f).ds = s.ds := rfl
@[simp] theorem modBat_dsPoll : (s.modBat j f).dsPoll = s.dsPoll := rfl
@[simp] theorem modBat_throttled : (s.modBat j f).throttled = s.throttled := rfl
@[simp] theorem modBat_energy : (s.modBat j f).energy = s.energy := rfl
@[simp] theorem modBat_book : (s.modBat j f).book = s.book := rfl
@[simp] theorem modBat_rects : (s.modBat j f).rects = s.rects := rfl
@[simp] theorem modBat_links : (s.modBat j f).links = s.links := rfl
@[simp] theorem modBat_bursts : (s.modBat j f).bursts = s.bursts := rfl
@[simp] theorem modBat_meters : (s.modBat j f).meters = s.meters := rfl
@[simp] theorem modBat_meterBook : (s.modBat j f).meterBook = s.meterBook := rfl
@[simp] theorem modBat_ledger : (s.modBat j f).ledger = s.ledger := rfl
@[simp] theorem modBat_tw : (s.modBat j f).tw = s.tw := rfl
@[simp] theorem modBat_spi : (s.modBat j f).spi = s.spi := rfl
@[simp] theorem modBat_addr : (s.modBat j f).addr = s.addr := rfl
@[simp] theorem modBat_spiStatus : (s.modBat j f).spiStatus = s.spiStatus := rfl
@[simp] theorem modBat_receipts : (s.modBat j f).receipts = s.receipts := rfl
@[simp] theorem modBat_deadBelow : (s.modBat j f).deadBelow = s.deadBelow := rfl
@[simp] theorem modBat_events : (s.modBat j f).events = s.events := rfl
@[simp] theorem modBat_svc : (s.modBat j f).svc = s.svc := rfl
@[simp] theorem modBat_faults : (s.modBat j f).faults = s.faults := rfl
@[simp] theorem modBat_dogs : (s.modBat j f).dogs = s.dogs := rfl
@[simp] theorem modBat_retained : (s.modBat j f).retained = s.retained := rfl
@[simp] theorem modBat_pair : (s.modBat j f).pair = s.pair := rfl
@[simp] theorem modBat_net : (s.modBat j f).net = s.net := rfl
@[simp] theorem modBat_sketch : (s.modBat j f).sketch = s.sketch := rfl
@[simp] theorem modBat_box : (s.modBat j f).box = s.box := rfl
@[simp] theorem modBat_boxSeen : (s.modBat j f).boxSeen = s.boxSeen := rfl
@[simp] theorem modBat_boxWait : (s.modBat j f).boxWait = s.boxWait := rfl
@[simp] theorem modBat_boxDue : (s.modBat j f).boxDue = s.boxDue := rfl
@[simp] theorem modBat_fw : (s.modBat j f).fw = s.fw := rfl
@[simp] theorem modBat_otp : (s.modBat j f).otp = s.otp := rfl
@[simp] theorem modBat_mram : (s.modBat j f).mram = s.mram := rfl
@[simp] theorem modBat_cfg : (s.modBat j f).cfg = s.cfg := rfl
@[simp] theorem modBat_ostler : (s.modBat j f).ostler = s.ostler := rfl
@[simp] theorem modBat_heat : (s.modBat j f).heat = s.heat := rfl
@[simp] theorem modBat_bats : (s.modBat j f).bats = tset s.bats j (f (s.bat j)) := rfl
end

/-! ### setPort -/

section
variable (s : Chip) (p : Port) (q : PortState)

@[simp] theorem setPort_clk : (s.setPort p q).clk = s.clk := by cases p <;> rfl
@[simp] theorem setPort_strap : (s.setPort p q).strap = s.strap := by cases p <;> rfl
@[simp] theorem setPort_mode : (s.setPort p q).mode = s.mode := by cases p <;> rfl
@[simp] theorem setPort_img : (s.setPort p q).img = s.img := by cases p <;> rfl
@[simp] theorem setPort_imgValid : (s.setPort p q).imgValid = s.imgValid := by cases p <;> rfl
@[simp] theorem setPort_chs : (s.setPort p q).chs = s.chs := by cases p <;> rfl
@[simp] theorem setPort_chQueue : (s.setPort p q).chQueue = s.chQueue := by cases p <;> rfl
@[simp] theorem setPort_rails : (s.setPort p q).rails = s.rails := by cases p <;> rfl
@[simp] theorem setPort_railQueue : (s.setPort p q).railQueue = s.railQueue := by cases p <;> rfl
@[simp] theorem setPort_terms : (s.setPort p q).terms = s.terms := by cases p <;> rfl
@[simp] theorem setPort_bats : (s.setPort p q).bats = s.bats := by cases p <;> rfl
@[simp] theorem setPort_batRecs : (s.setPort p q).batRecs = s.batRecs := by cases p <;> rfl
@[simp] theorem setPort_hk : (s.setPort p q).hk = s.hk := by cases p <;> rfl
@[simp] theorem setPort_sram : (s.setPort p q).sram = s.sram := by cases p <;> rfl
@[simp] theorem setPort_seqs : (s.setPort p q).seqs = s.seqs := by cases p <;> rfl
@[simp] theorem setPort_mons : (s.setPort p q).mons = s.mons := by cases p <;> rfl
@[simp] theorem setPort_caps : (s.setPort p q).caps = s.caps := by cases p <;> rfl
@[simp] theorem setPort_sense : (s.setPort p q).sense = s.sense := by cases p <;> rfl
@[simp] theorem setPort_ds : (s.setPort p q).ds = s.ds := by cases p <;> rfl
@[simp] theorem setPort_dsPoll : (s.setPort p q).dsPoll = s.dsPoll := by cases p <;> rfl
@[simp] theorem setPort_throttled : (s.setPort p q).throttled = s.throttled := by cases p <;> rfl
@[simp] theorem setPort_energy : (s.setPort p q).energy = s.energy := by cases p <;> rfl
@[simp] theorem setPort_book : (s.setPort p q).book = s.book := by cases p <;> rfl
@[simp] theorem setPort_rects : (s.setPort p q).rects = s.rects := by cases p <;> rfl
@[simp] theorem setPort_links : (s.setPort p q).links = s.links := by cases p <;> rfl
@[simp] theorem setPort_bursts : (s.setPort p q).bursts = s.bursts := by cases p <;> rfl
@[simp] theorem setPort_meters : (s.setPort p q).meters = s.meters := by cases p <;> rfl
@[simp] theorem setPort_meterBook : (s.setPort p q).meterBook = s.meterBook := by cases p <;> rfl
@[simp] theorem setPort_ledger : (s.setPort p q).ledger = s.ledger := by cases p <;> rfl
@[simp] theorem setPort_addr : (s.setPort p q).addr = s.addr := by cases p <;> rfl
@[simp] theorem setPort_spiStatus : (s.setPort p q).spiStatus = s.spiStatus := by cases p <;> rfl
@[simp] theorem setPort_receipts : (s.setPort p q).receipts = s.receipts := by cases p <;> rfl
@[simp] theorem setPort_deadBelow : (s.setPort p q).deadBelow = s.deadBelow := by cases p <;> rfl
@[simp] theorem setPort_events : (s.setPort p q).events = s.events := by cases p <;> rfl
@[simp] theorem setPort_svc : (s.setPort p q).svc = s.svc := by cases p <;> rfl
@[simp] theorem setPort_faults : (s.setPort p q).faults = s.faults := by cases p <;> rfl
@[simp] theorem setPort_dogs : (s.setPort p q).dogs = s.dogs := by cases p <;> rfl
@[simp] theorem setPort_retained : (s.setPort p q).retained = s.retained := by cases p <;> rfl
@[simp] theorem setPort_pair : (s.setPort p q).pair = s.pair := by cases p <;> rfl
@[simp] theorem setPort_net : (s.setPort p q).net = s.net := by cases p <;> rfl
@[simp] theorem setPort_sketch : (s.setPort p q).sketch = s.sketch := by cases p <;> rfl
@[simp] theorem setPort_box : (s.setPort p q).box = s.box := by cases p <;> rfl
@[simp] theorem setPort_boxSeen : (s.setPort p q).boxSeen = s.boxSeen := by cases p <;> rfl
@[simp] theorem setPort_boxWait : (s.setPort p q).boxWait = s.boxWait := by cases p <;> rfl
@[simp] theorem setPort_boxDue : (s.setPort p q).boxDue = s.boxDue := by cases p <;> rfl
@[simp] theorem setPort_fw : (s.setPort p q).fw = s.fw := by cases p <;> rfl
@[simp] theorem setPort_otp : (s.setPort p q).otp = s.otp := by cases p <;> rfl
@[simp] theorem setPort_mram : (s.setPort p q).mram = s.mram := by cases p <;> rfl
@[simp] theorem setPort_cfg : (s.setPort p q).cfg = s.cfg := by cases p <;> rfl
@[simp] theorem setPort_ostler : (s.setPort p q).ostler = s.ostler := by cases p <;> rfl
@[simp] theorem setPort_heat : (s.setPort p q).heat = s.heat := by cases p <;> rfl
end

/-! ### modPort -/

section
variable (s : Chip) (p : Port) (f : PortState → PortState)

@[simp] theorem modPort_clk : (s.modPort p f).clk = s.clk := by cases p <;> rfl
@[simp] theorem modPort_strap : (s.modPort p f).strap = s.strap := by cases p <;> rfl
@[simp] theorem modPort_mode : (s.modPort p f).mode = s.mode := by cases p <;> rfl
@[simp] theorem modPort_img : (s.modPort p f).img = s.img := by cases p <;> rfl
@[simp] theorem modPort_imgValid : (s.modPort p f).imgValid = s.imgValid := by cases p <;> rfl
@[simp] theorem modPort_chs : (s.modPort p f).chs = s.chs := by cases p <;> rfl
@[simp] theorem modPort_chQueue : (s.modPort p f).chQueue = s.chQueue := by cases p <;> rfl
@[simp] theorem modPort_rails : (s.modPort p f).rails = s.rails := by cases p <;> rfl
@[simp] theorem modPort_railQueue : (s.modPort p f).railQueue = s.railQueue := by cases p <;> rfl
@[simp] theorem modPort_terms : (s.modPort p f).terms = s.terms := by cases p <;> rfl
@[simp] theorem modPort_bats : (s.modPort p f).bats = s.bats := by cases p <;> rfl
@[simp] theorem modPort_batRecs : (s.modPort p f).batRecs = s.batRecs := by cases p <;> rfl
@[simp] theorem modPort_hk : (s.modPort p f).hk = s.hk := by cases p <;> rfl
@[simp] theorem modPort_sram : (s.modPort p f).sram = s.sram := by cases p <;> rfl
@[simp] theorem modPort_seqs : (s.modPort p f).seqs = s.seqs := by cases p <;> rfl
@[simp] theorem modPort_mons : (s.modPort p f).mons = s.mons := by cases p <;> rfl
@[simp] theorem modPort_caps : (s.modPort p f).caps = s.caps := by cases p <;> rfl
@[simp] theorem modPort_sense : (s.modPort p f).sense = s.sense := by cases p <;> rfl
@[simp] theorem modPort_ds : (s.modPort p f).ds = s.ds := by cases p <;> rfl
@[simp] theorem modPort_dsPoll : (s.modPort p f).dsPoll = s.dsPoll := by cases p <;> rfl
@[simp] theorem modPort_throttled : (s.modPort p f).throttled = s.throttled := by cases p <;> rfl
@[simp] theorem modPort_energy : (s.modPort p f).energy = s.energy := by cases p <;> rfl
@[simp] theorem modPort_book : (s.modPort p f).book = s.book := by cases p <;> rfl
@[simp] theorem modPort_rects : (s.modPort p f).rects = s.rects := by cases p <;> rfl
@[simp] theorem modPort_links : (s.modPort p f).links = s.links := by cases p <;> rfl
@[simp] theorem modPort_bursts : (s.modPort p f).bursts = s.bursts := by cases p <;> rfl
@[simp] theorem modPort_meters : (s.modPort p f).meters = s.meters := by cases p <;> rfl
@[simp] theorem modPort_meterBook : (s.modPort p f).meterBook = s.meterBook := by cases p <;> rfl
@[simp] theorem modPort_ledger : (s.modPort p f).ledger = s.ledger := by cases p <;> rfl
@[simp] theorem modPort_addr : (s.modPort p f).addr = s.addr := by cases p <;> rfl
@[simp] theorem modPort_spiStatus : (s.modPort p f).spiStatus = s.spiStatus := by cases p <;> rfl
@[simp] theorem modPort_receipts : (s.modPort p f).receipts = s.receipts := by cases p <;> rfl
@[simp] theorem modPort_deadBelow : (s.modPort p f).deadBelow = s.deadBelow := by cases p <;> rfl
@[simp] theorem modPort_events : (s.modPort p f).events = s.events := by cases p <;> rfl
@[simp] theorem modPort_svc : (s.modPort p f).svc = s.svc := by cases p <;> rfl
@[simp] theorem modPort_faults : (s.modPort p f).faults = s.faults := by cases p <;> rfl
@[simp] theorem modPort_dogs : (s.modPort p f).dogs = s.dogs := by cases p <;> rfl
@[simp] theorem modPort_retained : (s.modPort p f).retained = s.retained := by cases p <;> rfl
@[simp] theorem modPort_pair : (s.modPort p f).pair = s.pair := by cases p <;> rfl
@[simp] theorem modPort_net : (s.modPort p f).net = s.net := by cases p <;> rfl
@[simp] theorem modPort_sketch : (s.modPort p f).sketch = s.sketch := by cases p <;> rfl
@[simp] theorem modPort_box : (s.modPort p f).box = s.box := by cases p <;> rfl
@[simp] theorem modPort_boxSeen : (s.modPort p f).boxSeen = s.boxSeen := by cases p <;> rfl
@[simp] theorem modPort_boxWait : (s.modPort p f).boxWait = s.boxWait := by cases p <;> rfl
@[simp] theorem modPort_boxDue : (s.modPort p f).boxDue = s.boxDue := by cases p <;> rfl
@[simp] theorem modPort_fw : (s.modPort p f).fw = s.fw := by cases p <;> rfl
@[simp] theorem modPort_otp : (s.modPort p f).otp = s.otp := by cases p <;> rfl
@[simp] theorem modPort_mram : (s.modPort p f).mram = s.mram := by cases p <;> rfl
@[simp] theorem modPort_cfg : (s.modPort p f).cfg = s.cfg := by cases p <;> rfl
@[simp] theorem modPort_ostler : (s.modPort p f).ostler = s.ostler := by cases p <;> rfl
@[simp] theorem modPort_heat : (s.modPort p f).heat = s.heat := by cases p <;> rfl
end

/-! ### modSeq -/

section
variable (s : Chip) (k : Nat) (f : Seq → Seq)

@[simp] theorem modSeq_clk : (s.modSeq k f).clk = s.clk := rfl
@[simp] theorem modSeq_strap : (s.modSeq k f).strap = s.strap := rfl
@[simp] theorem modSeq_mode : (s.modSeq k f).mode = s.mode := rfl
@[simp] theorem modSeq_img : (s.modSeq k f).img = s.img := rfl
@[simp] theorem modSeq_imgValid : (s.modSeq k f).imgValid = s.imgValid := rfl
@[simp] theorem modSeq_chs : (s.modSeq k f).chs = s.chs := rfl
@[simp] theorem modSeq_chQueue : (s.modSeq k f).chQueue = s.chQueue := rfl
@[simp] theorem modSeq_rails : (s.modSeq k f).rails = s.rails := rfl
@[simp] theorem modSeq_railQueue : (s.modSeq k f).railQueue = s.railQueue := rfl
@[simp] theorem modSeq_terms : (s.modSeq k f).terms = s.terms := rfl
@[simp] theorem modSeq_bats : (s.modSeq k f).bats = s.bats := rfl
@[simp] theorem modSeq_batRecs : (s.modSeq k f).batRecs = s.batRecs := rfl
@[simp] theorem modSeq_hk : (s.modSeq k f).hk = s.hk := rfl
@[simp] theorem modSeq_sram : (s.modSeq k f).sram = s.sram := rfl
@[simp] theorem modSeq_mons : (s.modSeq k f).mons = s.mons := rfl
@[simp] theorem modSeq_caps : (s.modSeq k f).caps = s.caps := rfl
@[simp] theorem modSeq_sense : (s.modSeq k f).sense = s.sense := rfl
@[simp] theorem modSeq_ds : (s.modSeq k f).ds = s.ds := rfl
@[simp] theorem modSeq_dsPoll : (s.modSeq k f).dsPoll = s.dsPoll := rfl
@[simp] theorem modSeq_throttled : (s.modSeq k f).throttled = s.throttled := rfl
@[simp] theorem modSeq_energy : (s.modSeq k f).energy = s.energy := rfl
@[simp] theorem modSeq_book : (s.modSeq k f).book = s.book := rfl
@[simp] theorem modSeq_rects : (s.modSeq k f).rects = s.rects := rfl
@[simp] theorem modSeq_links : (s.modSeq k f).links = s.links := rfl
@[simp] theorem modSeq_bursts : (s.modSeq k f).bursts = s.bursts := rfl
@[simp] theorem modSeq_meters : (s.modSeq k f).meters = s.meters := rfl
@[simp] theorem modSeq_meterBook : (s.modSeq k f).meterBook = s.meterBook := rfl
@[simp] theorem modSeq_ledger : (s.modSeq k f).ledger = s.ledger := rfl
@[simp] theorem modSeq_tw : (s.modSeq k f).tw = s.tw := rfl
@[simp] theorem modSeq_spi : (s.modSeq k f).spi = s.spi := rfl
@[simp] theorem modSeq_addr : (s.modSeq k f).addr = s.addr := rfl
@[simp] theorem modSeq_spiStatus : (s.modSeq k f).spiStatus = s.spiStatus := rfl
@[simp] theorem modSeq_receipts : (s.modSeq k f).receipts = s.receipts := rfl
@[simp] theorem modSeq_deadBelow : (s.modSeq k f).deadBelow = s.deadBelow := rfl
@[simp] theorem modSeq_events : (s.modSeq k f).events = s.events := rfl
@[simp] theorem modSeq_svc : (s.modSeq k f).svc = s.svc := rfl
@[simp] theorem modSeq_faults : (s.modSeq k f).faults = s.faults := rfl
@[simp] theorem modSeq_dogs : (s.modSeq k f).dogs = s.dogs := rfl
@[simp] theorem modSeq_retained : (s.modSeq k f).retained = s.retained := rfl
@[simp] theorem modSeq_pair : (s.modSeq k f).pair = s.pair := rfl
@[simp] theorem modSeq_net : (s.modSeq k f).net = s.net := rfl
@[simp] theorem modSeq_sketch : (s.modSeq k f).sketch = s.sketch := rfl
@[simp] theorem modSeq_box : (s.modSeq k f).box = s.box := rfl
@[simp] theorem modSeq_boxSeen : (s.modSeq k f).boxSeen = s.boxSeen := rfl
@[simp] theorem modSeq_boxWait : (s.modSeq k f).boxWait = s.boxWait := rfl
@[simp] theorem modSeq_boxDue : (s.modSeq k f).boxDue = s.boxDue := rfl
@[simp] theorem modSeq_fw : (s.modSeq k f).fw = s.fw := rfl
@[simp] theorem modSeq_otp : (s.modSeq k f).otp = s.otp := rfl
@[simp] theorem modSeq_mram : (s.modSeq k f).mram = s.mram := rfl
@[simp] theorem modSeq_cfg : (s.modSeq k f).cfg = s.cfg := rfl
@[simp] theorem modSeq_ostler : (s.modSeq k f).ostler = s.ostler := rfl
@[simp] theorem modSeq_heat : (s.modSeq k f).heat = s.heat := rfl
@[simp] theorem modSeq_seqs : (s.modSeq k f).seqs = tset s.seqs k (f (s.seq k)) := rfl
end

/-! ### modMon -/

section
variable (s : Chip) (m : Nat) (f : Mon → Mon)

@[simp] theorem modMon_clk : (s.modMon m f).clk = s.clk := rfl
@[simp] theorem modMon_strap : (s.modMon m f).strap = s.strap := rfl
@[simp] theorem modMon_mode : (s.modMon m f).mode = s.mode := rfl
@[simp] theorem modMon_img : (s.modMon m f).img = s.img := rfl
@[simp] theorem modMon_imgValid : (s.modMon m f).imgValid = s.imgValid := rfl
@[simp] theorem modMon_chs : (s.modMon m f).chs = s.chs := rfl
@[simp] theorem modMon_chQueue : (s.modMon m f).chQueue = s.chQueue := rfl
@[simp] theorem modMon_rails : (s.modMon m f).rails = s.rails := rfl
@[simp] theorem modMon_railQueue : (s.modMon m f).railQueue = s.railQueue := rfl
@[simp] theorem modMon_terms : (s.modMon m f).terms = s.terms := rfl
@[simp] theorem modMon_bats : (s.modMon m f).bats = s.bats := rfl
@[simp] theorem modMon_batRecs : (s.modMon m f).batRecs = s.batRecs := rfl
@[simp] theorem modMon_hk : (s.modMon m f).hk = s.hk := rfl
@[simp] theorem modMon_sram : (s.modMon m f).sram = s.sram := rfl
@[simp] theorem modMon_seqs : (s.modMon m f).seqs = s.seqs := rfl
@[simp] theorem modMon_caps : (s.modMon m f).caps = s.caps := rfl
@[simp] theorem modMon_sense : (s.modMon m f).sense = s.sense := rfl
@[simp] theorem modMon_ds : (s.modMon m f).ds = s.ds := rfl
@[simp] theorem modMon_dsPoll : (s.modMon m f).dsPoll = s.dsPoll := rfl
@[simp] theorem modMon_throttled : (s.modMon m f).throttled = s.throttled := rfl
@[simp] theorem modMon_energy : (s.modMon m f).energy = s.energy := rfl
@[simp] theorem modMon_book : (s.modMon m f).book = s.book := rfl
@[simp] theorem modMon_rects : (s.modMon m f).rects = s.rects := rfl
@[simp] theorem modMon_links : (s.modMon m f).links = s.links := rfl
@[simp] theorem modMon_bursts : (s.modMon m f).bursts = s.bursts := rfl
@[simp] theorem modMon_meters : (s.modMon m f).meters = s.meters := rfl
@[simp] theorem modMon_meterBook : (s.modMon m f).meterBook = s.meterBook := rfl
@[simp] theorem modMon_ledger : (s.modMon m f).ledger = s.ledger := rfl
@[simp] theorem modMon_tw : (s.modMon m f).tw = s.tw := rfl
@[simp] theorem modMon_spi : (s.modMon m f).spi = s.spi := rfl
@[simp] theorem modMon_addr : (s.modMon m f).addr = s.addr := rfl
@[simp] theorem modMon_spiStatus : (s.modMon m f).spiStatus = s.spiStatus := rfl
@[simp] theorem modMon_receipts : (s.modMon m f).receipts = s.receipts := rfl
@[simp] theorem modMon_deadBelow : (s.modMon m f).deadBelow = s.deadBelow := rfl
@[simp] theorem modMon_events : (s.modMon m f).events = s.events := rfl
@[simp] theorem modMon_svc : (s.modMon m f).svc = s.svc := rfl
@[simp] theorem modMon_faults : (s.modMon m f).faults = s.faults := rfl
@[simp] theorem modMon_dogs : (s.modMon m f).dogs = s.dogs := rfl
@[simp] theorem modMon_retained : (s.modMon m f).retained = s.retained := rfl
@[simp] theorem modMon_pair : (s.modMon m f).pair = s.pair := rfl
@[simp] theorem modMon_net : (s.modMon m f).net = s.net := rfl
@[simp] theorem modMon_sketch : (s.modMon m f).sketch = s.sketch := rfl
@[simp] theorem modMon_box : (s.modMon m f).box = s.box := rfl
@[simp] theorem modMon_boxSeen : (s.modMon m f).boxSeen = s.boxSeen := rfl
@[simp] theorem modMon_boxWait : (s.modMon m f).boxWait = s.boxWait := rfl
@[simp] theorem modMon_boxDue : (s.modMon m f).boxDue = s.boxDue := rfl
@[simp] theorem modMon_fw : (s.modMon m f).fw = s.fw := rfl
@[simp] theorem modMon_otp : (s.modMon m f).otp = s.otp := rfl
@[simp] theorem modMon_mram : (s.modMon m f).mram = s.mram := rfl
@[simp] theorem modMon_cfg : (s.modMon m f).cfg = s.cfg := rfl
@[simp] theorem modMon_ostler : (s.modMon m f).ostler = s.ostler := rfl
@[simp] theorem modMon_heat : (s.modMon m f).heat = s.heat := rfl
@[simp] theorem modMon_mons : (s.modMon m f).mons = tset s.mons m (f (s.mon m)) := rfl
end

/-! ### modCap -/

section
variable (s : Chip) (t : Nat) (f : CapTimer → CapTimer)

@[simp] theorem modCap_clk : (s.modCap t f).clk = s.clk := rfl
@[simp] theorem modCap_strap : (s.modCap t f).strap = s.strap := rfl
@[simp] theorem modCap_mode : (s.modCap t f).mode = s.mode := rfl
@[simp] theorem modCap_img : (s.modCap t f).img = s.img := rfl
@[simp] theorem modCap_imgValid : (s.modCap t f).imgValid = s.imgValid := rfl
@[simp] theorem modCap_chs : (s.modCap t f).chs = s.chs := rfl
@[simp] theorem modCap_chQueue : (s.modCap t f).chQueue = s.chQueue := rfl
@[simp] theorem modCap_rails : (s.modCap t f).rails = s.rails := rfl
@[simp] theorem modCap_railQueue : (s.modCap t f).railQueue = s.railQueue := rfl
@[simp] theorem modCap_terms : (s.modCap t f).terms = s.terms := rfl
@[simp] theorem modCap_bats : (s.modCap t f).bats = s.bats := rfl
@[simp] theorem modCap_batRecs : (s.modCap t f).batRecs = s.batRecs := rfl
@[simp] theorem modCap_hk : (s.modCap t f).hk = s.hk := rfl
@[simp] theorem modCap_sram : (s.modCap t f).sram = s.sram := rfl
@[simp] theorem modCap_seqs : (s.modCap t f).seqs = s.seqs := rfl
@[simp] theorem modCap_mons : (s.modCap t f).mons = s.mons := rfl
@[simp] theorem modCap_sense : (s.modCap t f).sense = s.sense := rfl
@[simp] theorem modCap_ds : (s.modCap t f).ds = s.ds := rfl
@[simp] theorem modCap_dsPoll : (s.modCap t f).dsPoll = s.dsPoll := rfl
@[simp] theorem modCap_throttled : (s.modCap t f).throttled = s.throttled := rfl
@[simp] theorem modCap_energy : (s.modCap t f).energy = s.energy := rfl
@[simp] theorem modCap_book : (s.modCap t f).book = s.book := rfl
@[simp] theorem modCap_rects : (s.modCap t f).rects = s.rects := rfl
@[simp] theorem modCap_links : (s.modCap t f).links = s.links := rfl
@[simp] theorem modCap_bursts : (s.modCap t f).bursts = s.bursts := rfl
@[simp] theorem modCap_meters : (s.modCap t f).meters = s.meters := rfl
@[simp] theorem modCap_meterBook : (s.modCap t f).meterBook = s.meterBook := rfl
@[simp] theorem modCap_ledger : (s.modCap t f).ledger = s.ledger := rfl
@[simp] theorem modCap_tw : (s.modCap t f).tw = s.tw := rfl
@[simp] theorem modCap_spi : (s.modCap t f).spi = s.spi := rfl
@[simp] theorem modCap_addr : (s.modCap t f).addr = s.addr := rfl
@[simp] theorem modCap_spiStatus : (s.modCap t f).spiStatus = s.spiStatus := rfl
@[simp] theorem modCap_receipts : (s.modCap t f).receipts = s.receipts := rfl
@[simp] theorem modCap_deadBelow : (s.modCap t f).deadBelow = s.deadBelow := rfl
@[simp] theorem modCap_events : (s.modCap t f).events = s.events := rfl
@[simp] theorem modCap_svc : (s.modCap t f).svc = s.svc := rfl
@[simp] theorem modCap_faults : (s.modCap t f).faults = s.faults := rfl
@[simp] theorem modCap_dogs : (s.modCap t f).dogs = s.dogs := rfl
@[simp] theorem modCap_retained : (s.modCap t f).retained = s.retained := rfl
@[simp] theorem modCap_pair : (s.modCap t f).pair = s.pair := rfl
@[simp] theorem modCap_net : (s.modCap t f).net = s.net := rfl
@[simp] theorem modCap_sketch : (s.modCap t f).sketch = s.sketch := rfl
@[simp] theorem modCap_box : (s.modCap t f).box = s.box := rfl
@[simp] theorem modCap_boxSeen : (s.modCap t f).boxSeen = s.boxSeen := rfl
@[simp] theorem modCap_boxWait : (s.modCap t f).boxWait = s.boxWait := rfl
@[simp] theorem modCap_boxDue : (s.modCap t f).boxDue = s.boxDue := rfl
@[simp] theorem modCap_fw : (s.modCap t f).fw = s.fw := rfl
@[simp] theorem modCap_otp : (s.modCap t f).otp = s.otp := rfl
@[simp] theorem modCap_mram : (s.modCap t f).mram = s.mram := rfl
@[simp] theorem modCap_cfg : (s.modCap t f).cfg = s.cfg := rfl
@[simp] theorem modCap_ostler : (s.modCap t f).ostler = s.ostler := rfl
@[simp] theorem modCap_heat : (s.modCap t f).heat = s.heat := rfl
@[simp] theorem modCap_caps : (s.modCap t f).caps = tset s.caps t (f (s.cap t)) := rfl
end

/-! ### setMeter -/

section
variable (s : Chip) (o : Nat) (m : Meter)

@[simp] theorem setMeter_clk : (s.setMeter o m).clk = s.clk := rfl
@[simp] theorem setMeter_strap : (s.setMeter o m).strap = s.strap := rfl
@[simp] theorem setMeter_mode : (s.setMeter o m).mode = s.mode := rfl
@[simp] theorem setMeter_img : (s.setMeter o m).img = s.img := rfl
@[simp] theorem setMeter_imgValid : (s.setMeter o m).imgValid = s.imgValid := rfl
@[simp] theorem setMeter_chs : (s.setMeter o m).chs = s.chs := rfl
@[simp] theorem setMeter_chQueue : (s.setMeter o m).chQueue = s.chQueue := rfl
@[simp] theorem setMeter_rails : (s.setMeter o m).rails = s.rails := rfl
@[simp] theorem setMeter_railQueue : (s.setMeter o m).railQueue = s.railQueue := rfl
@[simp] theorem setMeter_terms : (s.setMeter o m).terms = s.terms := rfl
@[simp] theorem setMeter_bats : (s.setMeter o m).bats = s.bats := rfl
@[simp] theorem setMeter_batRecs : (s.setMeter o m).batRecs = s.batRecs := rfl
@[simp] theorem setMeter_hk : (s.setMeter o m).hk = s.hk := rfl
@[simp] theorem setMeter_sram : (s.setMeter o m).sram = s.sram := rfl
@[simp] theorem setMeter_seqs : (s.setMeter o m).seqs = s.seqs := rfl
@[simp] theorem setMeter_mons : (s.setMeter o m).mons = s.mons := rfl
@[simp] theorem setMeter_caps : (s.setMeter o m).caps = s.caps := rfl
@[simp] theorem setMeter_sense : (s.setMeter o m).sense = s.sense := rfl
@[simp] theorem setMeter_ds : (s.setMeter o m).ds = s.ds := rfl
@[simp] theorem setMeter_dsPoll : (s.setMeter o m).dsPoll = s.dsPoll := rfl
@[simp] theorem setMeter_throttled : (s.setMeter o m).throttled = s.throttled := rfl
@[simp] theorem setMeter_energy : (s.setMeter o m).energy = s.energy := rfl
@[simp] theorem setMeter_book : (s.setMeter o m).book = s.book := rfl
@[simp] theorem setMeter_rects : (s.setMeter o m).rects = s.rects := rfl
@[simp] theorem setMeter_links : (s.setMeter o m).links = s.links := rfl
@[simp] theorem setMeter_bursts : (s.setMeter o m).bursts = s.bursts := rfl
@[simp] theorem setMeter_meterBook : (s.setMeter o m).meterBook = s.meterBook := rfl
@[simp] theorem setMeter_ledger : (s.setMeter o m).ledger = s.ledger := rfl
@[simp] theorem setMeter_tw : (s.setMeter o m).tw = s.tw := rfl
@[simp] theorem setMeter_spi : (s.setMeter o m).spi = s.spi := rfl
@[simp] theorem setMeter_addr : (s.setMeter o m).addr = s.addr := rfl
@[simp] theorem setMeter_spiStatus : (s.setMeter o m).spiStatus = s.spiStatus := rfl
@[simp] theorem setMeter_receipts : (s.setMeter o m).receipts = s.receipts := rfl
@[simp] theorem setMeter_deadBelow : (s.setMeter o m).deadBelow = s.deadBelow := rfl
@[simp] theorem setMeter_events : (s.setMeter o m).events = s.events := rfl
@[simp] theorem setMeter_svc : (s.setMeter o m).svc = s.svc := rfl
@[simp] theorem setMeter_faults : (s.setMeter o m).faults = s.faults := rfl
@[simp] theorem setMeter_dogs : (s.setMeter o m).dogs = s.dogs := rfl
@[simp] theorem setMeter_retained : (s.setMeter o m).retained = s.retained := rfl
@[simp] theorem setMeter_pair : (s.setMeter o m).pair = s.pair := rfl
@[simp] theorem setMeter_net : (s.setMeter o m).net = s.net := rfl
@[simp] theorem setMeter_sketch : (s.setMeter o m).sketch = s.sketch := rfl
@[simp] theorem setMeter_box : (s.setMeter o m).box = s.box := rfl
@[simp] theorem setMeter_boxSeen : (s.setMeter o m).boxSeen = s.boxSeen := rfl
@[simp] theorem setMeter_boxWait : (s.setMeter o m).boxWait = s.boxWait := rfl
@[simp] theorem setMeter_boxDue : (s.setMeter o m).boxDue = s.boxDue := rfl
@[simp] theorem setMeter_fw : (s.setMeter o m).fw = s.fw := rfl
@[simp] theorem setMeter_otp : (s.setMeter o m).otp = s.otp := rfl
@[simp] theorem setMeter_mram : (s.setMeter o m).mram = s.mram := rfl
@[simp] theorem setMeter_cfg : (s.setMeter o m).cfg = s.cfg := rfl
@[simp] theorem setMeter_ostler : (s.setMeter o m).ostler = s.ostler := rfl
@[simp] theorem setMeter_heat : (s.setMeter o m).heat = s.heat := rfl
@[simp] theorem setMeter_meters : (s.setMeter o m).meters = tset s.meters o m := rfl
end

/-! ### modMeter -/

section
variable (s : Chip) (o : Nat) (f : Meter → Meter)

@[simp] theorem modMeter_clk : (s.modMeter o f).clk = s.clk := rfl
@[simp] theorem modMeter_strap : (s.modMeter o f).strap = s.strap := rfl
@[simp] theorem modMeter_mode : (s.modMeter o f).mode = s.mode := rfl
@[simp] theorem modMeter_img : (s.modMeter o f).img = s.img := rfl
@[simp] theorem modMeter_imgValid : (s.modMeter o f).imgValid = s.imgValid := rfl
@[simp] theorem modMeter_chs : (s.modMeter o f).chs = s.chs := rfl
@[simp] theorem modMeter_chQueue : (s.modMeter o f).chQueue = s.chQueue := rfl
@[simp] theorem modMeter_rails : (s.modMeter o f).rails = s.rails := rfl
@[simp] theorem modMeter_railQueue : (s.modMeter o f).railQueue = s.railQueue := rfl
@[simp] theorem modMeter_terms : (s.modMeter o f).terms = s.terms := rfl
@[simp] theorem modMeter_bats : (s.modMeter o f).bats = s.bats := rfl
@[simp] theorem modMeter_batRecs : (s.modMeter o f).batRecs = s.batRecs := rfl
@[simp] theorem modMeter_hk : (s.modMeter o f).hk = s.hk := rfl
@[simp] theorem modMeter_sram : (s.modMeter o f).sram = s.sram := rfl
@[simp] theorem modMeter_seqs : (s.modMeter o f).seqs = s.seqs := rfl
@[simp] theorem modMeter_mons : (s.modMeter o f).mons = s.mons := rfl
@[simp] theorem modMeter_caps : (s.modMeter o f).caps = s.caps := rfl
@[simp] theorem modMeter_sense : (s.modMeter o f).sense = s.sense := rfl
@[simp] theorem modMeter_ds : (s.modMeter o f).ds = s.ds := rfl
@[simp] theorem modMeter_dsPoll : (s.modMeter o f).dsPoll = s.dsPoll := rfl
@[simp] theorem modMeter_throttled : (s.modMeter o f).throttled = s.throttled := rfl
@[simp] theorem modMeter_energy : (s.modMeter o f).energy = s.energy := rfl
@[simp] theorem modMeter_book : (s.modMeter o f).book = s.book := rfl
@[simp] theorem modMeter_rects : (s.modMeter o f).rects = s.rects := rfl
@[simp] theorem modMeter_links : (s.modMeter o f).links = s.links := rfl
@[simp] theorem modMeter_bursts : (s.modMeter o f).bursts = s.bursts := rfl
@[simp] theorem modMeter_meterBook : (s.modMeter o f).meterBook = s.meterBook := rfl
@[simp] theorem modMeter_ledger : (s.modMeter o f).ledger = s.ledger := rfl
@[simp] theorem modMeter_tw : (s.modMeter o f).tw = s.tw := rfl
@[simp] theorem modMeter_spi : (s.modMeter o f).spi = s.spi := rfl
@[simp] theorem modMeter_addr : (s.modMeter o f).addr = s.addr := rfl
@[simp] theorem modMeter_spiStatus : (s.modMeter o f).spiStatus = s.spiStatus := rfl
@[simp] theorem modMeter_receipts : (s.modMeter o f).receipts = s.receipts := rfl
@[simp] theorem modMeter_deadBelow : (s.modMeter o f).deadBelow = s.deadBelow := rfl
@[simp] theorem modMeter_events : (s.modMeter o f).events = s.events := rfl
@[simp] theorem modMeter_svc : (s.modMeter o f).svc = s.svc := rfl
@[simp] theorem modMeter_faults : (s.modMeter o f).faults = s.faults := rfl
@[simp] theorem modMeter_dogs : (s.modMeter o f).dogs = s.dogs := rfl
@[simp] theorem modMeter_retained : (s.modMeter o f).retained = s.retained := rfl
@[simp] theorem modMeter_pair : (s.modMeter o f).pair = s.pair := rfl
@[simp] theorem modMeter_net : (s.modMeter o f).net = s.net := rfl
@[simp] theorem modMeter_sketch : (s.modMeter o f).sketch = s.sketch := rfl
@[simp] theorem modMeter_box : (s.modMeter o f).box = s.box := rfl
@[simp] theorem modMeter_boxSeen : (s.modMeter o f).boxSeen = s.boxSeen := rfl
@[simp] theorem modMeter_boxWait : (s.modMeter o f).boxWait = s.boxWait := rfl
@[simp] theorem modMeter_boxDue : (s.modMeter o f).boxDue = s.boxDue := rfl
@[simp] theorem modMeter_fw : (s.modMeter o f).fw = s.fw := rfl
@[simp] theorem modMeter_otp : (s.modMeter o f).otp = s.otp := rfl
@[simp] theorem modMeter_mram : (s.modMeter o f).mram = s.mram := rfl
@[simp] theorem modMeter_cfg : (s.modMeter o f).cfg = s.cfg := rfl
@[simp] theorem modMeter_ostler : (s.modMeter o f).ostler = s.ostler := rfl
@[simp] theorem modMeter_heat : (s.modMeter o f).heat = s.heat := rfl
@[simp] theorem modMeter_meters : (s.modMeter o f).meters = tset s.meters o (f (s.meter o)) := rfl
end

/-! ### setLedger -/

section
variable (s : Chip) (f : Ledger → Ledger)

@[simp] theorem setLedger_clk : (s.setLedger f).clk = s.clk := rfl
@[simp] theorem setLedger_strap : (s.setLedger f).strap = s.strap := rfl
@[simp] theorem setLedger_mode : (s.setLedger f).mode = s.mode := rfl
@[simp] theorem setLedger_img : (s.setLedger f).img = s.img := rfl
@[simp] theorem setLedger_imgValid : (s.setLedger f).imgValid = s.imgValid := rfl
@[simp] theorem setLedger_chs : (s.setLedger f).chs = s.chs := rfl
@[simp] theorem setLedger_chQueue : (s.setLedger f).chQueue = s.chQueue := rfl
@[simp] theorem setLedger_rails : (s.setLedger f).rails = s.rails := rfl
@[simp] theorem setLedger_railQueue : (s.setLedger f).railQueue = s.railQueue := rfl
@[simp] theorem setLedger_terms : (s.setLedger f).terms = s.terms := rfl
@[simp] theorem setLedger_bats : (s.setLedger f).bats = s.bats := rfl
@[simp] theorem setLedger_batRecs : (s.setLedger f).batRecs = s.batRecs := rfl
@[simp] theorem setLedger_hk : (s.setLedger f).hk = s.hk := rfl
@[simp] theorem setLedger_sram : (s.setLedger f).sram = s.sram := rfl
@[simp] theorem setLedger_seqs : (s.setLedger f).seqs = s.seqs := rfl
@[simp] theorem setLedger_mons : (s.setLedger f).mons = s.mons := rfl
@[simp] theorem setLedger_caps : (s.setLedger f).caps = s.caps := rfl
@[simp] theorem setLedger_sense : (s.setLedger f).sense = s.sense := rfl
@[simp] theorem setLedger_ds : (s.setLedger f).ds = s.ds := rfl
@[simp] theorem setLedger_dsPoll : (s.setLedger f).dsPoll = s.dsPoll := rfl
@[simp] theorem setLedger_throttled : (s.setLedger f).throttled = s.throttled := rfl
@[simp] theorem setLedger_energy : (s.setLedger f).energy = s.energy := rfl
@[simp] theorem setLedger_book : (s.setLedger f).book = s.book := rfl
@[simp] theorem setLedger_rects : (s.setLedger f).rects = s.rects := rfl
@[simp] theorem setLedger_links : (s.setLedger f).links = s.links := rfl
@[simp] theorem setLedger_bursts : (s.setLedger f).bursts = s.bursts := rfl
@[simp] theorem setLedger_meters : (s.setLedger f).meters = s.meters := rfl
@[simp] theorem setLedger_meterBook : (s.setLedger f).meterBook = s.meterBook := rfl
@[simp] theorem setLedger_tw : (s.setLedger f).tw = s.tw := rfl
@[simp] theorem setLedger_spi : (s.setLedger f).spi = s.spi := rfl
@[simp] theorem setLedger_addr : (s.setLedger f).addr = s.addr := rfl
@[simp] theorem setLedger_spiStatus : (s.setLedger f).spiStatus = s.spiStatus := rfl
@[simp] theorem setLedger_receipts : (s.setLedger f).receipts = s.receipts := rfl
@[simp] theorem setLedger_deadBelow : (s.setLedger f).deadBelow = s.deadBelow := rfl
@[simp] theorem setLedger_events : (s.setLedger f).events = s.events := rfl
@[simp] theorem setLedger_svc : (s.setLedger f).svc = s.svc := rfl
@[simp] theorem setLedger_faults : (s.setLedger f).faults = s.faults := rfl
@[simp] theorem setLedger_dogs : (s.setLedger f).dogs = s.dogs := rfl
@[simp] theorem setLedger_retained : (s.setLedger f).retained = s.retained := rfl
@[simp] theorem setLedger_pair : (s.setLedger f).pair = s.pair := rfl
@[simp] theorem setLedger_net : (s.setLedger f).net = s.net := rfl
@[simp] theorem setLedger_sketch : (s.setLedger f).sketch = s.sketch := rfl
@[simp] theorem setLedger_box : (s.setLedger f).box = s.box := rfl
@[simp] theorem setLedger_boxSeen : (s.setLedger f).boxSeen = s.boxSeen := rfl
@[simp] theorem setLedger_boxWait : (s.setLedger f).boxWait = s.boxWait := rfl
@[simp] theorem setLedger_boxDue : (s.setLedger f).boxDue = s.boxDue := rfl
@[simp] theorem setLedger_fw : (s.setLedger f).fw = s.fw := rfl
@[simp] theorem setLedger_otp : (s.setLedger f).otp = s.otp := rfl
@[simp] theorem setLedger_mram : (s.setLedger f).mram = s.mram := rfl
@[simp] theorem setLedger_cfg : (s.setLedger f).cfg = s.cfg := rfl
@[simp] theorem setLedger_ostler : (s.setLedger f).ostler = s.ostler := rfl
@[simp] theorem setLedger_heat : (s.setLedger f).heat = s.heat := rfl
@[simp] theorem setLedger_ledger : (s.setLedger f).ledger = f s.ledger := rfl
end

/-! ### modBus -/

section
variable (s : Chip) (k : Nat) (f : DsBus → DsBus)

@[simp] theorem modBus_clk : (s.modBus k f).clk = s.clk := rfl
@[simp] theorem modBus_strap : (s.modBus k f).strap = s.strap := rfl
@[simp] theorem modBus_mode : (s.modBus k f).mode = s.mode := rfl
@[simp] theorem modBus_img : (s.modBus k f).img = s.img := rfl
@[simp] theorem modBus_imgValid : (s.modBus k f).imgValid = s.imgValid := rfl
@[simp] theorem modBus_chs : (s.modBus k f).chs = s.chs := rfl
@[simp] theorem modBus_chQueue : (s.modBus k f).chQueue = s.chQueue := rfl
@[simp] theorem modBus_rails : (s.modBus k f).rails = s.rails := rfl
@[simp] theorem modBus_railQueue : (s.modBus k f).railQueue = s.railQueue := rfl
@[simp] theorem modBus_terms : (s.modBus k f).terms = s.terms := rfl
@[simp] theorem modBus_bats : (s.modBus k f).bats = s.bats := rfl
@[simp] theorem modBus_batRecs : (s.modBus k f).batRecs = s.batRecs := rfl
@[simp] theorem modBus_hk : (s.modBus k f).hk = s.hk := rfl
@[simp] theorem modBus_sram : (s.modBus k f).sram = s.sram := rfl
@[simp] theorem modBus_seqs : (s.modBus k f).seqs = s.seqs := rfl
@[simp] theorem modBus_mons : (s.modBus k f).mons = s.mons := rfl
@[simp] theorem modBus_caps : (s.modBus k f).caps = s.caps := rfl
@[simp] theorem modBus_sense : (s.modBus k f).sense = s.sense := rfl
@[simp] theorem modBus_dsPoll : (s.modBus k f).dsPoll = s.dsPoll := rfl
@[simp] theorem modBus_throttled : (s.modBus k f).throttled = s.throttled := rfl
@[simp] theorem modBus_energy : (s.modBus k f).energy = s.energy := rfl
@[simp] theorem modBus_book : (s.modBus k f).book = s.book := rfl
@[simp] theorem modBus_rects : (s.modBus k f).rects = s.rects := rfl
@[simp] theorem modBus_links : (s.modBus k f).links = s.links := rfl
@[simp] theorem modBus_bursts : (s.modBus k f).bursts = s.bursts := rfl
@[simp] theorem modBus_meters : (s.modBus k f).meters = s.meters := rfl
@[simp] theorem modBus_meterBook : (s.modBus k f).meterBook = s.meterBook := rfl
@[simp] theorem modBus_ledger : (s.modBus k f).ledger = s.ledger := rfl
@[simp] theorem modBus_tw : (s.modBus k f).tw = s.tw := rfl
@[simp] theorem modBus_spi : (s.modBus k f).spi = s.spi := rfl
@[simp] theorem modBus_addr : (s.modBus k f).addr = s.addr := rfl
@[simp] theorem modBus_spiStatus : (s.modBus k f).spiStatus = s.spiStatus := rfl
@[simp] theorem modBus_receipts : (s.modBus k f).receipts = s.receipts := rfl
@[simp] theorem modBus_deadBelow : (s.modBus k f).deadBelow = s.deadBelow := rfl
@[simp] theorem modBus_events : (s.modBus k f).events = s.events := rfl
@[simp] theorem modBus_svc : (s.modBus k f).svc = s.svc := rfl
@[simp] theorem modBus_faults : (s.modBus k f).faults = s.faults := rfl
@[simp] theorem modBus_dogs : (s.modBus k f).dogs = s.dogs := rfl
@[simp] theorem modBus_retained : (s.modBus k f).retained = s.retained := rfl
@[simp] theorem modBus_pair : (s.modBus k f).pair = s.pair := rfl
@[simp] theorem modBus_net : (s.modBus k f).net = s.net := rfl
@[simp] theorem modBus_sketch : (s.modBus k f).sketch = s.sketch := rfl
@[simp] theorem modBus_box : (s.modBus k f).box = s.box := rfl
@[simp] theorem modBus_boxSeen : (s.modBus k f).boxSeen = s.boxSeen := rfl
@[simp] theorem modBus_boxWait : (s.modBus k f).boxWait = s.boxWait := rfl
@[simp] theorem modBus_boxDue : (s.modBus k f).boxDue = s.boxDue := rfl
@[simp] theorem modBus_fw : (s.modBus k f).fw = s.fw := rfl
@[simp] theorem modBus_otp : (s.modBus k f).otp = s.otp := rfl
@[simp] theorem modBus_mram : (s.modBus k f).mram = s.mram := rfl
@[simp] theorem modBus_cfg : (s.modBus k f).cfg = s.cfg := rfl
@[simp] theorem modBus_ostler : (s.modBus k f).ostler = s.ostler := rfl
@[simp] theorem modBus_heat : (s.modBus k f).heat = s.heat := rfl
@[simp] theorem modBus_ds : (s.modBus k f).ds = tset s.ds k (f (s.bus k)) := rfl
end

/-! ### modDog -/

section
variable (s : Chip) (d : Dog) (f : Wd → Wd)

@[simp] theorem modDog_clk : (s.modDog d f).clk = s.clk := by cases d <;> rfl
@[simp] theorem modDog_strap : (s.modDog d f).strap = s.strap := by cases d <;> rfl
@[simp] theorem modDog_mode : (s.modDog d f).mode = s.mode := by cases d <;> rfl
@[simp] theorem modDog_img : (s.modDog d f).img = s.img := by cases d <;> rfl
@[simp] theorem modDog_imgValid : (s.modDog d f).imgValid = s.imgValid := by cases d <;> rfl
@[simp] theorem modDog_chs : (s.modDog d f).chs = s.chs := by cases d <;> rfl
@[simp] theorem modDog_chQueue : (s.modDog d f).chQueue = s.chQueue := by cases d <;> rfl
@[simp] theorem modDog_rails : (s.modDog d f).rails = s.rails := by cases d <;> rfl
@[simp] theorem modDog_railQueue : (s.modDog d f).railQueue = s.railQueue := by cases d <;> rfl
@[simp] theorem modDog_terms : (s.modDog d f).terms = s.terms := by cases d <;> rfl
@[simp] theorem modDog_bats : (s.modDog d f).bats = s.bats := by cases d <;> rfl
@[simp] theorem modDog_batRecs : (s.modDog d f).batRecs = s.batRecs := by cases d <;> rfl
@[simp] theorem modDog_hk : (s.modDog d f).hk = s.hk := by cases d <;> rfl
@[simp] theorem modDog_sram : (s.modDog d f).sram = s.sram := by cases d <;> rfl
@[simp] theorem modDog_seqs : (s.modDog d f).seqs = s.seqs := by cases d <;> rfl
@[simp] theorem modDog_mons : (s.modDog d f).mons = s.mons := by cases d <;> rfl
@[simp] theorem modDog_caps : (s.modDog d f).caps = s.caps := by cases d <;> rfl
@[simp] theorem modDog_sense : (s.modDog d f).sense = s.sense := by cases d <;> rfl
@[simp] theorem modDog_ds : (s.modDog d f).ds = s.ds := by cases d <;> rfl
@[simp] theorem modDog_dsPoll : (s.modDog d f).dsPoll = s.dsPoll := by cases d <;> rfl
@[simp] theorem modDog_throttled : (s.modDog d f).throttled = s.throttled := by cases d <;> rfl
@[simp] theorem modDog_energy : (s.modDog d f).energy = s.energy := by cases d <;> rfl
@[simp] theorem modDog_book : (s.modDog d f).book = s.book := by cases d <;> rfl
@[simp] theorem modDog_rects : (s.modDog d f).rects = s.rects := by cases d <;> rfl
@[simp] theorem modDog_links : (s.modDog d f).links = s.links := by cases d <;> rfl
@[simp] theorem modDog_bursts : (s.modDog d f).bursts = s.bursts := by cases d <;> rfl
@[simp] theorem modDog_meters : (s.modDog d f).meters = s.meters := by cases d <;> rfl
@[simp] theorem modDog_meterBook : (s.modDog d f).meterBook = s.meterBook := by cases d <;> rfl
@[simp] theorem modDog_ledger : (s.modDog d f).ledger = s.ledger := by cases d <;> rfl
@[simp] theorem modDog_tw : (s.modDog d f).tw = s.tw := by cases d <;> rfl
@[simp] theorem modDog_spi : (s.modDog d f).spi = s.spi := by cases d <;> rfl
@[simp] theorem modDog_addr : (s.modDog d f).addr = s.addr := by cases d <;> rfl
@[simp] theorem modDog_spiStatus : (s.modDog d f).spiStatus = s.spiStatus := by cases d <;> rfl
@[simp] theorem modDog_receipts : (s.modDog d f).receipts = s.receipts := by cases d <;> rfl
@[simp] theorem modDog_deadBelow : (s.modDog d f).deadBelow = s.deadBelow := by cases d <;> rfl
@[simp] theorem modDog_events : (s.modDog d f).events = s.events := by cases d <;> rfl
@[simp] theorem modDog_svc : (s.modDog d f).svc = s.svc := by cases d <;> rfl
@[simp] theorem modDog_faults : (s.modDog d f).faults = s.faults := by cases d <;> rfl
@[simp] theorem modDog_retained : (s.modDog d f).retained = s.retained := by cases d <;> rfl
@[simp] theorem modDog_pair : (s.modDog d f).pair = s.pair := by cases d <;> rfl
@[simp] theorem modDog_net : (s.modDog d f).net = s.net := by cases d <;> rfl
@[simp] theorem modDog_sketch : (s.modDog d f).sketch = s.sketch := by cases d <;> rfl
@[simp] theorem modDog_box : (s.modDog d f).box = s.box := by cases d <;> rfl
@[simp] theorem modDog_boxSeen : (s.modDog d f).boxSeen = s.boxSeen := by cases d <;> rfl
@[simp] theorem modDog_boxWait : (s.modDog d f).boxWait = s.boxWait := by cases d <;> rfl
@[simp] theorem modDog_boxDue : (s.modDog d f).boxDue = s.boxDue := by cases d <;> rfl
@[simp] theorem modDog_fw : (s.modDog d f).fw = s.fw := by cases d <;> rfl
@[simp] theorem modDog_otp : (s.modDog d f).otp = s.otp := by cases d <;> rfl
@[simp] theorem modDog_mram : (s.modDog d f).mram = s.mram := by cases d <;> rfl
@[simp] theorem modDog_cfg : (s.modDog d f).cfg = s.cfg := by cases d <;> rfl
@[simp] theorem modDog_ostler : (s.modDog d f).ostler = s.ostler := by cases d <;> rfl
@[simp] theorem modDog_heat : (s.modDog d f).heat = s.heat := by cases d <;> rfl
end

/-! ### modMe -/

section
variable (s : Chip) (f : Pair → Pair)

@[simp] theorem modMe_clk : (s.modMe f).clk = s.clk := rfl
@[simp] theorem modMe_strap : (s.modMe f).strap = s.strap := rfl
@[simp] theorem modMe_mode : (s.modMe f).mode = s.mode := rfl
@[simp] theorem modMe_img : (s.modMe f).img = s.img := rfl
@[simp] theorem modMe_imgValid : (s.modMe f).imgValid = s.imgValid := rfl
@[simp] theorem modMe_chs : (s.modMe f).chs = s.chs := rfl
@[simp] theorem modMe_chQueue : (s.modMe f).chQueue = s.chQueue := rfl
@[simp] theorem modMe_rails : (s.modMe f).rails = s.rails := rfl
@[simp] theorem modMe_railQueue : (s.modMe f).railQueue = s.railQueue := rfl
@[simp] theorem modMe_terms : (s.modMe f).terms = s.terms := rfl
@[simp] theorem modMe_bats : (s.modMe f).bats = s.bats := rfl
@[simp] theorem modMe_batRecs : (s.modMe f).batRecs = s.batRecs := rfl
@[simp] theorem modMe_hk : (s.modMe f).hk = s.hk := rfl
@[simp] theorem modMe_sram : (s.modMe f).sram = s.sram := rfl
@[simp] theorem modMe_seqs : (s.modMe f).seqs = s.seqs := rfl
@[simp] theorem modMe_mons : (s.modMe f).mons = s.mons := rfl
@[simp] theorem modMe_caps : (s.modMe f).caps = s.caps := rfl
@[simp] theorem modMe_sense : (s.modMe f).sense = s.sense := rfl
@[simp] theorem modMe_ds : (s.modMe f).ds = s.ds := rfl
@[simp] theorem modMe_dsPoll : (s.modMe f).dsPoll = s.dsPoll := rfl
@[simp] theorem modMe_throttled : (s.modMe f).throttled = s.throttled := rfl
@[simp] theorem modMe_energy : (s.modMe f).energy = s.energy := rfl
@[simp] theorem modMe_book : (s.modMe f).book = s.book := rfl
@[simp] theorem modMe_rects : (s.modMe f).rects = s.rects := rfl
@[simp] theorem modMe_links : (s.modMe f).links = s.links := rfl
@[simp] theorem modMe_bursts : (s.modMe f).bursts = s.bursts := rfl
@[simp] theorem modMe_meters : (s.modMe f).meters = s.meters := rfl
@[simp] theorem modMe_meterBook : (s.modMe f).meterBook = s.meterBook := rfl
@[simp] theorem modMe_ledger : (s.modMe f).ledger = s.ledger := rfl
@[simp] theorem modMe_tw : (s.modMe f).tw = s.tw := rfl
@[simp] theorem modMe_spi : (s.modMe f).spi = s.spi := rfl
@[simp] theorem modMe_addr : (s.modMe f).addr = s.addr := rfl
@[simp] theorem modMe_spiStatus : (s.modMe f).spiStatus = s.spiStatus := rfl
@[simp] theorem modMe_receipts : (s.modMe f).receipts = s.receipts := rfl
@[simp] theorem modMe_deadBelow : (s.modMe f).deadBelow = s.deadBelow := rfl
@[simp] theorem modMe_events : (s.modMe f).events = s.events := rfl
@[simp] theorem modMe_svc : (s.modMe f).svc = s.svc := rfl
@[simp] theorem modMe_faults : (s.modMe f).faults = s.faults := rfl
@[simp] theorem modMe_dogs : (s.modMe f).dogs = s.dogs := rfl
@[simp] theorem modMe_retained : (s.modMe f).retained = s.retained := rfl
@[simp] theorem modMe_net : (s.modMe f).net = s.net := rfl
@[simp] theorem modMe_sketch : (s.modMe f).sketch = s.sketch := rfl
@[simp] theorem modMe_box : (s.modMe f).box = s.box := rfl
@[simp] theorem modMe_boxSeen : (s.modMe f).boxSeen = s.boxSeen := rfl
@[simp] theorem modMe_boxWait : (s.modMe f).boxWait = s.boxWait := rfl
@[simp] theorem modMe_boxDue : (s.modMe f).boxDue = s.boxDue := rfl
@[simp] theorem modMe_fw : (s.modMe f).fw = s.fw := rfl
@[simp] theorem modMe_otp : (s.modMe f).otp = s.otp := rfl
@[simp] theorem modMe_mram : (s.modMe f).mram = s.mram := rfl
@[simp] theorem modMe_cfg : (s.modMe f).cfg = s.cfg := rfl
@[simp] theorem modMe_ostler : (s.modMe f).ostler = s.ostler := rfl
@[simp] theorem modMe_heat : (s.modMe f).heat = s.heat := rfl
end

/-! ### modPartner -/

section
variable (s : Chip) (f : Partner → Partner)

@[simp] theorem modPartner_clk : (s.modPartner f).clk = s.clk := rfl
@[simp] theorem modPartner_strap : (s.modPartner f).strap = s.strap := rfl
@[simp] theorem modPartner_mode : (s.modPartner f).mode = s.mode := rfl
@[simp] theorem modPartner_img : (s.modPartner f).img = s.img := rfl
@[simp] theorem modPartner_imgValid : (s.modPartner f).imgValid = s.imgValid := rfl
@[simp] theorem modPartner_chs : (s.modPartner f).chs = s.chs := rfl
@[simp] theorem modPartner_chQueue : (s.modPartner f).chQueue = s.chQueue := rfl
@[simp] theorem modPartner_rails : (s.modPartner f).rails = s.rails := rfl
@[simp] theorem modPartner_railQueue : (s.modPartner f).railQueue = s.railQueue := rfl
@[simp] theorem modPartner_terms : (s.modPartner f).terms = s.terms := rfl
@[simp] theorem modPartner_bats : (s.modPartner f).bats = s.bats := rfl
@[simp] theorem modPartner_batRecs : (s.modPartner f).batRecs = s.batRecs := rfl
@[simp] theorem modPartner_hk : (s.modPartner f).hk = s.hk := rfl
@[simp] theorem modPartner_sram : (s.modPartner f).sram = s.sram := rfl
@[simp] theorem modPartner_seqs : (s.modPartner f).seqs = s.seqs := rfl
@[simp] theorem modPartner_mons : (s.modPartner f).mons = s.mons := rfl
@[simp] theorem modPartner_caps : (s.modPartner f).caps = s.caps := rfl
@[simp] theorem modPartner_sense : (s.modPartner f).sense = s.sense := rfl
@[simp] theorem modPartner_ds : (s.modPartner f).ds = s.ds := rfl
@[simp] theorem modPartner_dsPoll : (s.modPartner f).dsPoll = s.dsPoll := rfl
@[simp] theorem modPartner_throttled : (s.modPartner f).throttled = s.throttled := rfl
@[simp] theorem modPartner_energy : (s.modPartner f).energy = s.energy := rfl
@[simp] theorem modPartner_book : (s.modPartner f).book = s.book := rfl
@[simp] theorem modPartner_rects : (s.modPartner f).rects = s.rects := rfl
@[simp] theorem modPartner_links : (s.modPartner f).links = s.links := rfl
@[simp] theorem modPartner_bursts : (s.modPartner f).bursts = s.bursts := rfl
@[simp] theorem modPartner_meters : (s.modPartner f).meters = s.meters := rfl
@[simp] theorem modPartner_meterBook : (s.modPartner f).meterBook = s.meterBook := rfl
@[simp] theorem modPartner_ledger : (s.modPartner f).ledger = s.ledger := rfl
@[simp] theorem modPartner_tw : (s.modPartner f).tw = s.tw := rfl
@[simp] theorem modPartner_spi : (s.modPartner f).spi = s.spi := rfl
@[simp] theorem modPartner_addr : (s.modPartner f).addr = s.addr := rfl
@[simp] theorem modPartner_spiStatus : (s.modPartner f).spiStatus = s.spiStatus := rfl
@[simp] theorem modPartner_receipts : (s.modPartner f).receipts = s.receipts := rfl
@[simp] theorem modPartner_deadBelow : (s.modPartner f).deadBelow = s.deadBelow := rfl
@[simp] theorem modPartner_events : (s.modPartner f).events = s.events := rfl
@[simp] theorem modPartner_svc : (s.modPartner f).svc = s.svc := rfl
@[simp] theorem modPartner_faults : (s.modPartner f).faults = s.faults := rfl
@[simp] theorem modPartner_dogs : (s.modPartner f).dogs = s.dogs := rfl
@[simp] theorem modPartner_retained : (s.modPartner f).retained = s.retained := rfl
@[simp] theorem modPartner_net : (s.modPartner f).net = s.net := rfl
@[simp] theorem modPartner_sketch : (s.modPartner f).sketch = s.sketch := rfl
@[simp] theorem modPartner_box : (s.modPartner f).box = s.box := rfl
@[simp] theorem modPartner_boxSeen : (s.modPartner f).boxSeen = s.boxSeen := rfl
@[simp] theorem modPartner_boxWait : (s.modPartner f).boxWait = s.boxWait := rfl
@[simp] theorem modPartner_boxDue : (s.modPartner f).boxDue = s.boxDue := rfl
@[simp] theorem modPartner_fw : (s.modPartner f).fw = s.fw := rfl
@[simp] theorem modPartner_otp : (s.modPartner f).otp = s.otp := rfl
@[simp] theorem modPartner_mram : (s.modPartner f).mram = s.mram := rfl
@[simp] theorem modPartner_cfg : (s.modPartner f).cfg = s.cfg := rfl
@[simp] theorem modPartner_ostler : (s.modPartner f).ostler = s.ostler := rfl
@[simp] theorem modPartner_heat : (s.modPartner f).heat = s.heat := rfl
end

/-! ### modShadow -/

section
variable (s : Chip) (f : Shadow → Shadow)

@[simp] theorem modShadow_clk : (s.modShadow f).clk = s.clk := rfl
@[simp] theorem modShadow_strap : (s.modShadow f).strap = s.strap := rfl
@[simp] theorem modShadow_mode : (s.modShadow f).mode = s.mode := rfl
@[simp] theorem modShadow_img : (s.modShadow f).img = s.img := rfl
@[simp] theorem modShadow_imgValid : (s.modShadow f).imgValid = s.imgValid := rfl
@[simp] theorem modShadow_chs : (s.modShadow f).chs = s.chs := rfl
@[simp] theorem modShadow_chQueue : (s.modShadow f).chQueue = s.chQueue := rfl
@[simp] theorem modShadow_rails : (s.modShadow f).rails = s.rails := rfl
@[simp] theorem modShadow_railQueue : (s.modShadow f).railQueue = s.railQueue := rfl
@[simp] theorem modShadow_terms : (s.modShadow f).terms = s.terms := rfl
@[simp] theorem modShadow_bats : (s.modShadow f).bats = s.bats := rfl
@[simp] theorem modShadow_batRecs : (s.modShadow f).batRecs = s.batRecs := rfl
@[simp] theorem modShadow_hk : (s.modShadow f).hk = s.hk := rfl
@[simp] theorem modShadow_sram : (s.modShadow f).sram = s.sram := rfl
@[simp] theorem modShadow_seqs : (s.modShadow f).seqs = s.seqs := rfl
@[simp] theorem modShadow_mons : (s.modShadow f).mons = s.mons := rfl
@[simp] theorem modShadow_caps : (s.modShadow f).caps = s.caps := rfl
@[simp] theorem modShadow_sense : (s.modShadow f).sense = s.sense := rfl
@[simp] theorem modShadow_ds : (s.modShadow f).ds = s.ds := rfl
@[simp] theorem modShadow_dsPoll : (s.modShadow f).dsPoll = s.dsPoll := rfl
@[simp] theorem modShadow_throttled : (s.modShadow f).throttled = s.throttled := rfl
@[simp] theorem modShadow_energy : (s.modShadow f).energy = s.energy := rfl
@[simp] theorem modShadow_book : (s.modShadow f).book = s.book := rfl
@[simp] theorem modShadow_rects : (s.modShadow f).rects = s.rects := rfl
@[simp] theorem modShadow_links : (s.modShadow f).links = s.links := rfl
@[simp] theorem modShadow_bursts : (s.modShadow f).bursts = s.bursts := rfl
@[simp] theorem modShadow_meters : (s.modShadow f).meters = s.meters := rfl
@[simp] theorem modShadow_meterBook : (s.modShadow f).meterBook = s.meterBook := rfl
@[simp] theorem modShadow_ledger : (s.modShadow f).ledger = s.ledger := rfl
@[simp] theorem modShadow_tw : (s.modShadow f).tw = s.tw := rfl
@[simp] theorem modShadow_spi : (s.modShadow f).spi = s.spi := rfl
@[simp] theorem modShadow_addr : (s.modShadow f).addr = s.addr := rfl
@[simp] theorem modShadow_spiStatus : (s.modShadow f).spiStatus = s.spiStatus := rfl
@[simp] theorem modShadow_receipts : (s.modShadow f).receipts = s.receipts := rfl
@[simp] theorem modShadow_deadBelow : (s.modShadow f).deadBelow = s.deadBelow := rfl
@[simp] theorem modShadow_events : (s.modShadow f).events = s.events := rfl
@[simp] theorem modShadow_svc : (s.modShadow f).svc = s.svc := rfl
@[simp] theorem modShadow_faults : (s.modShadow f).faults = s.faults := rfl
@[simp] theorem modShadow_dogs : (s.modShadow f).dogs = s.dogs := rfl
@[simp] theorem modShadow_retained : (s.modShadow f).retained = s.retained := rfl
@[simp] theorem modShadow_net : (s.modShadow f).net = s.net := rfl
@[simp] theorem modShadow_sketch : (s.modShadow f).sketch = s.sketch := rfl
@[simp] theorem modShadow_box : (s.modShadow f).box = s.box := rfl
@[simp] theorem modShadow_boxSeen : (s.modShadow f).boxSeen = s.boxSeen := rfl
@[simp] theorem modShadow_boxWait : (s.modShadow f).boxWait = s.boxWait := rfl
@[simp] theorem modShadow_boxDue : (s.modShadow f).boxDue = s.boxDue := rfl
@[simp] theorem modShadow_fw : (s.modShadow f).fw = s.fw := rfl
@[simp] theorem modShadow_otp : (s.modShadow f).otp = s.otp := rfl
@[simp] theorem modShadow_mram : (s.modShadow f).mram = s.mram := rfl
@[simp] theorem modShadow_cfg : (s.modShadow f).cfg = s.cfg := rfl
@[simp] theorem modShadow_ostler : (s.modShadow f).ostler = s.ostler := rfl
@[simp] theorem modShadow_heat : (s.modShadow f).heat = s.heat := rfl
end

/-! ### modOut -/

section
variable (s : Chip) (f : MirrorOut → MirrorOut)

@[simp] theorem modOut_clk : (s.modOut f).clk = s.clk := rfl
@[simp] theorem modOut_strap : (s.modOut f).strap = s.strap := rfl
@[simp] theorem modOut_mode : (s.modOut f).mode = s.mode := rfl
@[simp] theorem modOut_img : (s.modOut f).img = s.img := rfl
@[simp] theorem modOut_imgValid : (s.modOut f).imgValid = s.imgValid := rfl
@[simp] theorem modOut_chs : (s.modOut f).chs = s.chs := rfl
@[simp] theorem modOut_chQueue : (s.modOut f).chQueue = s.chQueue := rfl
@[simp] theorem modOut_rails : (s.modOut f).rails = s.rails := rfl
@[simp] theorem modOut_railQueue : (s.modOut f).railQueue = s.railQueue := rfl
@[simp] theorem modOut_terms : (s.modOut f).terms = s.terms := rfl
@[simp] theorem modOut_bats : (s.modOut f).bats = s.bats := rfl
@[simp] theorem modOut_batRecs : (s.modOut f).batRecs = s.batRecs := rfl
@[simp] theorem modOut_hk : (s.modOut f).hk = s.hk := rfl
@[simp] theorem modOut_sram : (s.modOut f).sram = s.sram := rfl
@[simp] theorem modOut_seqs : (s.modOut f).seqs = s.seqs := rfl
@[simp] theorem modOut_mons : (s.modOut f).mons = s.mons := rfl
@[simp] theorem modOut_caps : (s.modOut f).caps = s.caps := rfl
@[simp] theorem modOut_sense : (s.modOut f).sense = s.sense := rfl
@[simp] theorem modOut_ds : (s.modOut f).ds = s.ds := rfl
@[simp] theorem modOut_dsPoll : (s.modOut f).dsPoll = s.dsPoll := rfl
@[simp] theorem modOut_throttled : (s.modOut f).throttled = s.throttled := rfl
@[simp] theorem modOut_energy : (s.modOut f).energy = s.energy := rfl
@[simp] theorem modOut_book : (s.modOut f).book = s.book := rfl
@[simp] theorem modOut_rects : (s.modOut f).rects = s.rects := rfl
@[simp] theorem modOut_links : (s.modOut f).links = s.links := rfl
@[simp] theorem modOut_bursts : (s.modOut f).bursts = s.bursts := rfl
@[simp] theorem modOut_meters : (s.modOut f).meters = s.meters := rfl
@[simp] theorem modOut_meterBook : (s.modOut f).meterBook = s.meterBook := rfl
@[simp] theorem modOut_ledger : (s.modOut f).ledger = s.ledger := rfl
@[simp] theorem modOut_tw : (s.modOut f).tw = s.tw := rfl
@[simp] theorem modOut_spi : (s.modOut f).spi = s.spi := rfl
@[simp] theorem modOut_addr : (s.modOut f).addr = s.addr := rfl
@[simp] theorem modOut_spiStatus : (s.modOut f).spiStatus = s.spiStatus := rfl
@[simp] theorem modOut_receipts : (s.modOut f).receipts = s.receipts := rfl
@[simp] theorem modOut_deadBelow : (s.modOut f).deadBelow = s.deadBelow := rfl
@[simp] theorem modOut_events : (s.modOut f).events = s.events := rfl
@[simp] theorem modOut_svc : (s.modOut f).svc = s.svc := rfl
@[simp] theorem modOut_faults : (s.modOut f).faults = s.faults := rfl
@[simp] theorem modOut_dogs : (s.modOut f).dogs = s.dogs := rfl
@[simp] theorem modOut_retained : (s.modOut f).retained = s.retained := rfl
@[simp] theorem modOut_net : (s.modOut f).net = s.net := rfl
@[simp] theorem modOut_sketch : (s.modOut f).sketch = s.sketch := rfl
@[simp] theorem modOut_box : (s.modOut f).box = s.box := rfl
@[simp] theorem modOut_boxSeen : (s.modOut f).boxSeen = s.boxSeen := rfl
@[simp] theorem modOut_boxWait : (s.modOut f).boxWait = s.boxWait := rfl
@[simp] theorem modOut_boxDue : (s.modOut f).boxDue = s.boxDue := rfl
@[simp] theorem modOut_fw : (s.modOut f).fw = s.fw := rfl
@[simp] theorem modOut_otp : (s.modOut f).otp = s.otp := rfl
@[simp] theorem modOut_mram : (s.modOut f).mram = s.mram := rfl
@[simp] theorem modOut_cfg : (s.modOut f).cfg = s.cfg := rfl
@[simp] theorem modOut_ostler : (s.modOut f).ostler = s.ostler := rfl
@[simp] theorem modOut_heat : (s.modOut f).heat = s.heat := rfl
end

/-! ### modNet -/

section
variable (s : Chip) (f : Hall → Hall)

@[simp] theorem modNet_clk : (s.modNet f).clk = s.clk := rfl
@[simp] theorem modNet_strap : (s.modNet f).strap = s.strap := rfl
@[simp] theorem modNet_mode : (s.modNet f).mode = s.mode := rfl
@[simp] theorem modNet_img : (s.modNet f).img = s.img := rfl
@[simp] theorem modNet_imgValid : (s.modNet f).imgValid = s.imgValid := rfl
@[simp] theorem modNet_chs : (s.modNet f).chs = s.chs := rfl
@[simp] theorem modNet_chQueue : (s.modNet f).chQueue = s.chQueue := rfl
@[simp] theorem modNet_rails : (s.modNet f).rails = s.rails := rfl
@[simp] theorem modNet_railQueue : (s.modNet f).railQueue = s.railQueue := rfl
@[simp] theorem modNet_terms : (s.modNet f).terms = s.terms := rfl
@[simp] theorem modNet_bats : (s.modNet f).bats = s.bats := rfl
@[simp] theorem modNet_batRecs : (s.modNet f).batRecs = s.batRecs := rfl
@[simp] theorem modNet_hk : (s.modNet f).hk = s.hk := rfl
@[simp] theorem modNet_sram : (s.modNet f).sram = s.sram := rfl
@[simp] theorem modNet_seqs : (s.modNet f).seqs = s.seqs := rfl
@[simp] theorem modNet_mons : (s.modNet f).mons = s.mons := rfl
@[simp] theorem modNet_caps : (s.modNet f).caps = s.caps := rfl
@[simp] theorem modNet_sense : (s.modNet f).sense = s.sense := rfl
@[simp] theorem modNet_ds : (s.modNet f).ds = s.ds := rfl
@[simp] theorem modNet_dsPoll : (s.modNet f).dsPoll = s.dsPoll := rfl
@[simp] theorem modNet_throttled : (s.modNet f).throttled = s.throttled := rfl
@[simp] theorem modNet_energy : (s.modNet f).energy = s.energy := rfl
@[simp] theorem modNet_book : (s.modNet f).book = s.book := rfl
@[simp] theorem modNet_rects : (s.modNet f).rects = s.rects := rfl
@[simp] theorem modNet_links : (s.modNet f).links = s.links := rfl
@[simp] theorem modNet_bursts : (s.modNet f).bursts = s.bursts := rfl
@[simp] theorem modNet_meters : (s.modNet f).meters = s.meters := rfl
@[simp] theorem modNet_meterBook : (s.modNet f).meterBook = s.meterBook := rfl
@[simp] theorem modNet_ledger : (s.modNet f).ledger = s.ledger := rfl
@[simp] theorem modNet_tw : (s.modNet f).tw = s.tw := rfl
@[simp] theorem modNet_spi : (s.modNet f).spi = s.spi := rfl
@[simp] theorem modNet_addr : (s.modNet f).addr = s.addr := rfl
@[simp] theorem modNet_spiStatus : (s.modNet f).spiStatus = s.spiStatus := rfl
@[simp] theorem modNet_receipts : (s.modNet f).receipts = s.receipts := rfl
@[simp] theorem modNet_deadBelow : (s.modNet f).deadBelow = s.deadBelow := rfl
@[simp] theorem modNet_events : (s.modNet f).events = s.events := rfl
@[simp] theorem modNet_svc : (s.modNet f).svc = s.svc := rfl
@[simp] theorem modNet_faults : (s.modNet f).faults = s.faults := rfl
@[simp] theorem modNet_dogs : (s.modNet f).dogs = s.dogs := rfl
@[simp] theorem modNet_retained : (s.modNet f).retained = s.retained := rfl
@[simp] theorem modNet_pair : (s.modNet f).pair = s.pair := rfl
@[simp] theorem modNet_sketch : (s.modNet f).sketch = s.sketch := rfl
@[simp] theorem modNet_box : (s.modNet f).box = s.box := rfl
@[simp] theorem modNet_boxSeen : (s.modNet f).boxSeen = s.boxSeen := rfl
@[simp] theorem modNet_boxWait : (s.modNet f).boxWait = s.boxWait := rfl
@[simp] theorem modNet_boxDue : (s.modNet f).boxDue = s.boxDue := rfl
@[simp] theorem modNet_fw : (s.modNet f).fw = s.fw := rfl
@[simp] theorem modNet_otp : (s.modNet f).otp = s.otp := rfl
@[simp] theorem modNet_mram : (s.modNet f).mram = s.mram := rfl
@[simp] theorem modNet_cfg : (s.modNet f).cfg = s.cfg := rfl
@[simp] theorem modNet_ostler : (s.modNet f).ostler = s.ostler := rfl
@[simp] theorem modNet_heat : (s.modNet f).heat = s.heat := rfl
@[simp] theorem modNet_net : (s.modNet f).net = f s.net := rfl
end

/-! ### modTime -/

section
variable (s : Chip) (f : TimeSync → TimeSync)

@[simp] theorem modTime_clk : (s.modTime f).clk = s.clk := rfl
@[simp] theorem modTime_strap : (s.modTime f).strap = s.strap := rfl
@[simp] theorem modTime_mode : (s.modTime f).mode = s.mode := rfl
@[simp] theorem modTime_img : (s.modTime f).img = s.img := rfl
@[simp] theorem modTime_imgValid : (s.modTime f).imgValid = s.imgValid := rfl
@[simp] theorem modTime_chs : (s.modTime f).chs = s.chs := rfl
@[simp] theorem modTime_chQueue : (s.modTime f).chQueue = s.chQueue := rfl
@[simp] theorem modTime_rails : (s.modTime f).rails = s.rails := rfl
@[simp] theorem modTime_railQueue : (s.modTime f).railQueue = s.railQueue := rfl
@[simp] theorem modTime_terms : (s.modTime f).terms = s.terms := rfl
@[simp] theorem modTime_bats : (s.modTime f).bats = s.bats := rfl
@[simp] theorem modTime_batRecs : (s.modTime f).batRecs = s.batRecs := rfl
@[simp] theorem modTime_hk : (s.modTime f).hk = s.hk := rfl
@[simp] theorem modTime_sram : (s.modTime f).sram = s.sram := rfl
@[simp] theorem modTime_seqs : (s.modTime f).seqs = s.seqs := rfl
@[simp] theorem modTime_mons : (s.modTime f).mons = s.mons := rfl
@[simp] theorem modTime_caps : (s.modTime f).caps = s.caps := rfl
@[simp] theorem modTime_sense : (s.modTime f).sense = s.sense := rfl
@[simp] theorem modTime_ds : (s.modTime f).ds = s.ds := rfl
@[simp] theorem modTime_dsPoll : (s.modTime f).dsPoll = s.dsPoll := rfl
@[simp] theorem modTime_throttled : (s.modTime f).throttled = s.throttled := rfl
@[simp] theorem modTime_energy : (s.modTime f).energy = s.energy := rfl
@[simp] theorem modTime_book : (s.modTime f).book = s.book := rfl
@[simp] theorem modTime_rects : (s.modTime f).rects = s.rects := rfl
@[simp] theorem modTime_links : (s.modTime f).links = s.links := rfl
@[simp] theorem modTime_bursts : (s.modTime f).bursts = s.bursts := rfl
@[simp] theorem modTime_meters : (s.modTime f).meters = s.meters := rfl
@[simp] theorem modTime_meterBook : (s.modTime f).meterBook = s.meterBook := rfl
@[simp] theorem modTime_ledger : (s.modTime f).ledger = s.ledger := rfl
@[simp] theorem modTime_tw : (s.modTime f).tw = s.tw := rfl
@[simp] theorem modTime_spi : (s.modTime f).spi = s.spi := rfl
@[simp] theorem modTime_addr : (s.modTime f).addr = s.addr := rfl
@[simp] theorem modTime_spiStatus : (s.modTime f).spiStatus = s.spiStatus := rfl
@[simp] theorem modTime_receipts : (s.modTime f).receipts = s.receipts := rfl
@[simp] theorem modTime_deadBelow : (s.modTime f).deadBelow = s.deadBelow := rfl
@[simp] theorem modTime_events : (s.modTime f).events = s.events := rfl
@[simp] theorem modTime_svc : (s.modTime f).svc = s.svc := rfl
@[simp] theorem modTime_faults : (s.modTime f).faults = s.faults := rfl
@[simp] theorem modTime_dogs : (s.modTime f).dogs = s.dogs := rfl
@[simp] theorem modTime_retained : (s.modTime f).retained = s.retained := rfl
@[simp] theorem modTime_pair : (s.modTime f).pair = s.pair := rfl
@[simp] theorem modTime_sketch : (s.modTime f).sketch = s.sketch := rfl
@[simp] theorem modTime_box : (s.modTime f).box = s.box := rfl
@[simp] theorem modTime_boxSeen : (s.modTime f).boxSeen = s.boxSeen := rfl
@[simp] theorem modTime_boxWait : (s.modTime f).boxWait = s.boxWait := rfl
@[simp] theorem modTime_boxDue : (s.modTime f).boxDue = s.boxDue := rfl
@[simp] theorem modTime_fw : (s.modTime f).fw = s.fw := rfl
@[simp] theorem modTime_otp : (s.modTime f).otp = s.otp := rfl
@[simp] theorem modTime_mram : (s.modTime f).mram = s.mram := rfl
@[simp] theorem modTime_cfg : (s.modTime f).cfg = s.cfg := rfl
@[simp] theorem modTime_ostler : (s.modTime f).ostler = s.ostler := rfl
@[simp] theorem modTime_heat : (s.modTime f).heat = s.heat := rfl
end

/-! ### modNp -/

section
variable (s : Chip) (p : Nat) (f : NpPort → NpPort)

@[simp] theorem modNp_clk : (s.modNp p f).clk = s.clk := rfl
@[simp] theorem modNp_strap : (s.modNp p f).strap = s.strap := rfl
@[simp] theorem modNp_mode : (s.modNp p f).mode = s.mode := rfl
@[simp] theorem modNp_img : (s.modNp p f).img = s.img := rfl
@[simp] theorem modNp_imgValid : (s.modNp p f).imgValid = s.imgValid := rfl
@[simp] theorem modNp_chs : (s.modNp p f).chs = s.chs := rfl
@[simp] theorem modNp_chQueue : (s.modNp p f).chQueue = s.chQueue := rfl
@[simp] theorem modNp_rails : (s.modNp p f).rails = s.rails := rfl
@[simp] theorem modNp_railQueue : (s.modNp p f).railQueue = s.railQueue := rfl
@[simp] theorem modNp_terms : (s.modNp p f).terms = s.terms := rfl
@[simp] theorem modNp_bats : (s.modNp p f).bats = s.bats := rfl
@[simp] theorem modNp_batRecs : (s.modNp p f).batRecs = s.batRecs := rfl
@[simp] theorem modNp_hk : (s.modNp p f).hk = s.hk := rfl
@[simp] theorem modNp_sram : (s.modNp p f).sram = s.sram := rfl
@[simp] theorem modNp_seqs : (s.modNp p f).seqs = s.seqs := rfl
@[simp] theorem modNp_mons : (s.modNp p f).mons = s.mons := rfl
@[simp] theorem modNp_caps : (s.modNp p f).caps = s.caps := rfl
@[simp] theorem modNp_sense : (s.modNp p f).sense = s.sense := rfl
@[simp] theorem modNp_ds : (s.modNp p f).ds = s.ds := rfl
@[simp] theorem modNp_dsPoll : (s.modNp p f).dsPoll = s.dsPoll := rfl
@[simp] theorem modNp_throttled : (s.modNp p f).throttled = s.throttled := rfl
@[simp] theorem modNp_energy : (s.modNp p f).energy = s.energy := rfl
@[simp] theorem modNp_book : (s.modNp p f).book = s.book := rfl
@[simp] theorem modNp_rects : (s.modNp p f).rects = s.rects := rfl
@[simp] theorem modNp_links : (s.modNp p f).links = s.links := rfl
@[simp] theorem modNp_bursts : (s.modNp p f).bursts = s.bursts := rfl
@[simp] theorem modNp_meters : (s.modNp p f).meters = s.meters := rfl
@[simp] theorem modNp_meterBook : (s.modNp p f).meterBook = s.meterBook := rfl
@[simp] theorem modNp_ledger : (s.modNp p f).ledger = s.ledger := rfl
@[simp] theorem modNp_tw : (s.modNp p f).tw = s.tw := rfl
@[simp] theorem modNp_spi : (s.modNp p f).spi = s.spi := rfl
@[simp] theorem modNp_addr : (s.modNp p f).addr = s.addr := rfl
@[simp] theorem modNp_spiStatus : (s.modNp p f).spiStatus = s.spiStatus := rfl
@[simp] theorem modNp_receipts : (s.modNp p f).receipts = s.receipts := rfl
@[simp] theorem modNp_deadBelow : (s.modNp p f).deadBelow = s.deadBelow := rfl
@[simp] theorem modNp_events : (s.modNp p f).events = s.events := rfl
@[simp] theorem modNp_svc : (s.modNp p f).svc = s.svc := rfl
@[simp] theorem modNp_faults : (s.modNp p f).faults = s.faults := rfl
@[simp] theorem modNp_dogs : (s.modNp p f).dogs = s.dogs := rfl
@[simp] theorem modNp_retained : (s.modNp p f).retained = s.retained := rfl
@[simp] theorem modNp_pair : (s.modNp p f).pair = s.pair := rfl
@[simp] theorem modNp_sketch : (s.modNp p f).sketch = s.sketch := rfl
@[simp] theorem modNp_box : (s.modNp p f).box = s.box := rfl
@[simp] theorem modNp_boxSeen : (s.modNp p f).boxSeen = s.boxSeen := rfl
@[simp] theorem modNp_boxWait : (s.modNp p f).boxWait = s.boxWait := rfl
@[simp] theorem modNp_boxDue : (s.modNp p f).boxDue = s.boxDue := rfl
@[simp] theorem modNp_fw : (s.modNp p f).fw = s.fw := rfl
@[simp] theorem modNp_otp : (s.modNp p f).otp = s.otp := rfl
@[simp] theorem modNp_mram : (s.modNp p f).mram = s.mram := rfl
@[simp] theorem modNp_cfg : (s.modNp p f).cfg = s.cfg := rfl
@[simp] theorem modNp_ostler : (s.modNp p f).ostler = s.ostler := rfl
@[simp] theorem modNp_heat : (s.modNp p f).heat = s.heat := rfl
end

/-! ### modColl -/

section
variable (s : Chip) (f : Collect → Collect)

@[simp] theorem modColl_clk : (s.modColl f).clk = s.clk := rfl
@[simp] theorem modColl_strap : (s.modColl f).strap = s.strap := rfl
@[simp] theorem modColl_mode : (s.modColl f).mode = s.mode := rfl
@[simp] theorem modColl_img : (s.modColl f).img = s.img := rfl
@[simp] theorem modColl_imgValid : (s.modColl f).imgValid = s.imgValid := rfl
@[simp] theorem modColl_chs : (s.modColl f).chs = s.chs := rfl
@[simp] theorem modColl_chQueue : (s.modColl f).chQueue = s.chQueue := rfl
@[simp] theorem modColl_rails : (s.modColl f).rails = s.rails := rfl
@[simp] theorem modColl_railQueue : (s.modColl f).railQueue = s.railQueue := rfl
@[simp] theorem modColl_terms : (s.modColl f).terms = s.terms := rfl
@[simp] theorem modColl_bats : (s.modColl f).bats = s.bats := rfl
@[simp] theorem modColl_batRecs : (s.modColl f).batRecs = s.batRecs := rfl
@[simp] theorem modColl_hk : (s.modColl f).hk = s.hk := rfl
@[simp] theorem modColl_sram : (s.modColl f).sram = s.sram := rfl
@[simp] theorem modColl_seqs : (s.modColl f).seqs = s.seqs := rfl
@[simp] theorem modColl_mons : (s.modColl f).mons = s.mons := rfl
@[simp] theorem modColl_caps : (s.modColl f).caps = s.caps := rfl
@[simp] theorem modColl_sense : (s.modColl f).sense = s.sense := rfl
@[simp] theorem modColl_ds : (s.modColl f).ds = s.ds := rfl
@[simp] theorem modColl_dsPoll : (s.modColl f).dsPoll = s.dsPoll := rfl
@[simp] theorem modColl_throttled : (s.modColl f).throttled = s.throttled := rfl
@[simp] theorem modColl_energy : (s.modColl f).energy = s.energy := rfl
@[simp] theorem modColl_book : (s.modColl f).book = s.book := rfl
@[simp] theorem modColl_rects : (s.modColl f).rects = s.rects := rfl
@[simp] theorem modColl_links : (s.modColl f).links = s.links := rfl
@[simp] theorem modColl_bursts : (s.modColl f).bursts = s.bursts := rfl
@[simp] theorem modColl_meters : (s.modColl f).meters = s.meters := rfl
@[simp] theorem modColl_meterBook : (s.modColl f).meterBook = s.meterBook := rfl
@[simp] theorem modColl_ledger : (s.modColl f).ledger = s.ledger := rfl
@[simp] theorem modColl_tw : (s.modColl f).tw = s.tw := rfl
@[simp] theorem modColl_spi : (s.modColl f).spi = s.spi := rfl
@[simp] theorem modColl_addr : (s.modColl f).addr = s.addr := rfl
@[simp] theorem modColl_spiStatus : (s.modColl f).spiStatus = s.spiStatus := rfl
@[simp] theorem modColl_receipts : (s.modColl f).receipts = s.receipts := rfl
@[simp] theorem modColl_deadBelow : (s.modColl f).deadBelow = s.deadBelow := rfl
@[simp] theorem modColl_events : (s.modColl f).events = s.events := rfl
@[simp] theorem modColl_svc : (s.modColl f).svc = s.svc := rfl
@[simp] theorem modColl_faults : (s.modColl f).faults = s.faults := rfl
@[simp] theorem modColl_dogs : (s.modColl f).dogs = s.dogs := rfl
@[simp] theorem modColl_retained : (s.modColl f).retained = s.retained := rfl
@[simp] theorem modColl_pair : (s.modColl f).pair = s.pair := rfl
@[simp] theorem modColl_sketch : (s.modColl f).sketch = s.sketch := rfl
@[simp] theorem modColl_box : (s.modColl f).box = s.box := rfl
@[simp] theorem modColl_boxSeen : (s.modColl f).boxSeen = s.boxSeen := rfl
@[simp] theorem modColl_boxWait : (s.modColl f).boxWait = s.boxWait := rfl
@[simp] theorem modColl_boxDue : (s.modColl f).boxDue = s.boxDue := rfl
@[simp] theorem modColl_fw : (s.modColl f).fw = s.fw := rfl
@[simp] theorem modColl_otp : (s.modColl f).otp = s.otp := rfl
@[simp] theorem modColl_mram : (s.modColl f).mram = s.mram := rfl
@[simp] theorem modColl_cfg : (s.modColl f).cfg = s.cfg := rfl
@[simp] theorem modColl_ostler : (s.modColl f).ostler = s.ostler := rfl
@[simp] theorem modColl_heat : (s.modColl f).heat = s.heat := rfl
end

/-! ### modSketch -/

section
variable (s : Chip) (f : Sketch → Sketch)

@[simp] theorem modSketch_clk : (s.modSketch f).clk = s.clk := rfl
@[simp] theorem modSketch_strap : (s.modSketch f).strap = s.strap := rfl
@[simp] theorem modSketch_mode : (s.modSketch f).mode = s.mode := rfl
@[simp] theorem modSketch_img : (s.modSketch f).img = s.img := rfl
@[simp] theorem modSketch_imgValid : (s.modSketch f).imgValid = s.imgValid := rfl
@[simp] theorem modSketch_chs : (s.modSketch f).chs = s.chs := rfl
@[simp] theorem modSketch_chQueue : (s.modSketch f).chQueue = s.chQueue := rfl
@[simp] theorem modSketch_rails : (s.modSketch f).rails = s.rails := rfl
@[simp] theorem modSketch_railQueue : (s.modSketch f).railQueue = s.railQueue := rfl
@[simp] theorem modSketch_terms : (s.modSketch f).terms = s.terms := rfl
@[simp] theorem modSketch_bats : (s.modSketch f).bats = s.bats := rfl
@[simp] theorem modSketch_batRecs : (s.modSketch f).batRecs = s.batRecs := rfl
@[simp] theorem modSketch_hk : (s.modSketch f).hk = s.hk := rfl
@[simp] theorem modSketch_sram : (s.modSketch f).sram = s.sram := rfl
@[simp] theorem modSketch_seqs : (s.modSketch f).seqs = s.seqs := rfl
@[simp] theorem modSketch_mons : (s.modSketch f).mons = s.mons := rfl
@[simp] theorem modSketch_caps : (s.modSketch f).caps = s.caps := rfl
@[simp] theorem modSketch_sense : (s.modSketch f).sense = s.sense := rfl
@[simp] theorem modSketch_ds : (s.modSketch f).ds = s.ds := rfl
@[simp] theorem modSketch_dsPoll : (s.modSketch f).dsPoll = s.dsPoll := rfl
@[simp] theorem modSketch_throttled : (s.modSketch f).throttled = s.throttled := rfl
@[simp] theorem modSketch_energy : (s.modSketch f).energy = s.energy := rfl
@[simp] theorem modSketch_book : (s.modSketch f).book = s.book := rfl
@[simp] theorem modSketch_rects : (s.modSketch f).rects = s.rects := rfl
@[simp] theorem modSketch_links : (s.modSketch f).links = s.links := rfl
@[simp] theorem modSketch_bursts : (s.modSketch f).bursts = s.bursts := rfl
@[simp] theorem modSketch_meters : (s.modSketch f).meters = s.meters := rfl
@[simp] theorem modSketch_meterBook : (s.modSketch f).meterBook = s.meterBook := rfl
@[simp] theorem modSketch_ledger : (s.modSketch f).ledger = s.ledger := rfl
@[simp] theorem modSketch_tw : (s.modSketch f).tw = s.tw := rfl
@[simp] theorem modSketch_spi : (s.modSketch f).spi = s.spi := rfl
@[simp] theorem modSketch_addr : (s.modSketch f).addr = s.addr := rfl
@[simp] theorem modSketch_spiStatus : (s.modSketch f).spiStatus = s.spiStatus := rfl
@[simp] theorem modSketch_receipts : (s.modSketch f).receipts = s.receipts := rfl
@[simp] theorem modSketch_deadBelow : (s.modSketch f).deadBelow = s.deadBelow := rfl
@[simp] theorem modSketch_events : (s.modSketch f).events = s.events := rfl
@[simp] theorem modSketch_svc : (s.modSketch f).svc = s.svc := rfl
@[simp] theorem modSketch_faults : (s.modSketch f).faults = s.faults := rfl
@[simp] theorem modSketch_dogs : (s.modSketch f).dogs = s.dogs := rfl
@[simp] theorem modSketch_retained : (s.modSketch f).retained = s.retained := rfl
@[simp] theorem modSketch_pair : (s.modSketch f).pair = s.pair := rfl
@[simp] theorem modSketch_net : (s.modSketch f).net = s.net := rfl
@[simp] theorem modSketch_box : (s.modSketch f).box = s.box := rfl
@[simp] theorem modSketch_boxSeen : (s.modSketch f).boxSeen = s.boxSeen := rfl
@[simp] theorem modSketch_boxWait : (s.modSketch f).boxWait = s.boxWait := rfl
@[simp] theorem modSketch_boxDue : (s.modSketch f).boxDue = s.boxDue := rfl
@[simp] theorem modSketch_fw : (s.modSketch f).fw = s.fw := rfl
@[simp] theorem modSketch_otp : (s.modSketch f).otp = s.otp := rfl
@[simp] theorem modSketch_mram : (s.modSketch f).mram = s.mram := rfl
@[simp] theorem modSketch_cfg : (s.modSketch f).cfg = s.cfg := rfl
@[simp] theorem modSketch_ostler : (s.modSketch f).ostler = s.ostler := rfl
@[simp] theorem modSketch_heat : (s.modSketch f).heat = s.heat := rfl
@[simp] theorem modSketch_sketch : (s.modSketch f).sketch = f s.sketch := rfl
end

/-! ### modFw -/

section
variable (s : Chip) (f : Fw → Fw)

@[simp] theorem modFw_clk : (s.modFw f).clk = s.clk := rfl
@[simp] theorem modFw_strap : (s.modFw f).strap = s.strap := rfl
@[simp] theorem modFw_mode : (s.modFw f).mode = s.mode := rfl
@[simp] theorem modFw_img : (s.modFw f).img = s.img := rfl
@[simp] theorem modFw_imgValid : (s.modFw f).imgValid = s.imgValid := rfl
@[simp] theorem modFw_chs : (s.modFw f).chs = s.chs := rfl
@[simp] theorem modFw_chQueue : (s.modFw f).chQueue = s.chQueue := rfl
@[simp] theorem modFw_rails : (s.modFw f).rails = s.rails := rfl
@[simp] theorem modFw_railQueue : (s.modFw f).railQueue = s.railQueue := rfl
@[simp] theorem modFw_terms : (s.modFw f).terms = s.terms := rfl
@[simp] theorem modFw_bats : (s.modFw f).bats = s.bats := rfl
@[simp] theorem modFw_batRecs : (s.modFw f).batRecs = s.batRecs := rfl
@[simp] theorem modFw_hk : (s.modFw f).hk = s.hk := rfl
@[simp] theorem modFw_sram : (s.modFw f).sram = s.sram := rfl
@[simp] theorem modFw_seqs : (s.modFw f).seqs = s.seqs := rfl
@[simp] theorem modFw_mons : (s.modFw f).mons = s.mons := rfl
@[simp] theorem modFw_caps : (s.modFw f).caps = s.caps := rfl
@[simp] theorem modFw_sense : (s.modFw f).sense = s.sense := rfl
@[simp] theorem modFw_ds : (s.modFw f).ds = s.ds := rfl
@[simp] theorem modFw_dsPoll : (s.modFw f).dsPoll = s.dsPoll := rfl
@[simp] theorem modFw_throttled : (s.modFw f).throttled = s.throttled := rfl
@[simp] theorem modFw_energy : (s.modFw f).energy = s.energy := rfl
@[simp] theorem modFw_book : (s.modFw f).book = s.book := rfl
@[simp] theorem modFw_rects : (s.modFw f).rects = s.rects := rfl
@[simp] theorem modFw_links : (s.modFw f).links = s.links := rfl
@[simp] theorem modFw_bursts : (s.modFw f).bursts = s.bursts := rfl
@[simp] theorem modFw_meters : (s.modFw f).meters = s.meters := rfl
@[simp] theorem modFw_meterBook : (s.modFw f).meterBook = s.meterBook := rfl
@[simp] theorem modFw_ledger : (s.modFw f).ledger = s.ledger := rfl
@[simp] theorem modFw_tw : (s.modFw f).tw = s.tw := rfl
@[simp] theorem modFw_spi : (s.modFw f).spi = s.spi := rfl
@[simp] theorem modFw_addr : (s.modFw f).addr = s.addr := rfl
@[simp] theorem modFw_spiStatus : (s.modFw f).spiStatus = s.spiStatus := rfl
@[simp] theorem modFw_receipts : (s.modFw f).receipts = s.receipts := rfl
@[simp] theorem modFw_deadBelow : (s.modFw f).deadBelow = s.deadBelow := rfl
@[simp] theorem modFw_events : (s.modFw f).events = s.events := rfl
@[simp] theorem modFw_svc : (s.modFw f).svc = s.svc := rfl
@[simp] theorem modFw_faults : (s.modFw f).faults = s.faults := rfl
@[simp] theorem modFw_dogs : (s.modFw f).dogs = s.dogs := rfl
@[simp] theorem modFw_retained : (s.modFw f).retained = s.retained := rfl
@[simp] theorem modFw_pair : (s.modFw f).pair = s.pair := rfl
@[simp] theorem modFw_net : (s.modFw f).net = s.net := rfl
@[simp] theorem modFw_sketch : (s.modFw f).sketch = s.sketch := rfl
@[simp] theorem modFw_box : (s.modFw f).box = s.box := rfl
@[simp] theorem modFw_boxSeen : (s.modFw f).boxSeen = s.boxSeen := rfl
@[simp] theorem modFw_boxWait : (s.modFw f).boxWait = s.boxWait := rfl
@[simp] theorem modFw_boxDue : (s.modFw f).boxDue = s.boxDue := rfl
@[simp] theorem modFw_otp : (s.modFw f).otp = s.otp := rfl
@[simp] theorem modFw_mram : (s.modFw f).mram = s.mram := rfl
@[simp] theorem modFw_cfg : (s.modFw f).cfg = s.cfg := rfl
@[simp] theorem modFw_ostler : (s.modFw f).ostler = s.ostler := rfl
@[simp] theorem modFw_heat : (s.modFw f).heat = s.heat := rfl
@[simp] theorem modFw_fw : (s.modFw f).fw = f s.fw := rfl
end

/-! ### modCfg -/

section
variable (s : Chip) (f : Cfg → Cfg)

@[simp] theorem modCfg_clk : (s.modCfg f).clk = s.clk := rfl
@[simp] theorem modCfg_strap : (s.modCfg f).strap = s.strap := rfl
@[simp] theorem modCfg_mode : (s.modCfg f).mode = s.mode := rfl
@[simp] theorem modCfg_img : (s.modCfg f).img = s.img := rfl
@[simp] theorem modCfg_imgValid : (s.modCfg f).imgValid = s.imgValid := rfl
@[simp] theorem modCfg_chs : (s.modCfg f).chs = s.chs := rfl
@[simp] theorem modCfg_chQueue : (s.modCfg f).chQueue = s.chQueue := rfl
@[simp] theorem modCfg_rails : (s.modCfg f).rails = s.rails := rfl
@[simp] theorem modCfg_railQueue : (s.modCfg f).railQueue = s.railQueue := rfl
@[simp] theorem modCfg_terms : (s.modCfg f).terms = s.terms := rfl
@[simp] theorem modCfg_bats : (s.modCfg f).bats = s.bats := rfl
@[simp] theorem modCfg_batRecs : (s.modCfg f).batRecs = s.batRecs := rfl
@[simp] theorem modCfg_hk : (s.modCfg f).hk = s.hk := rfl
@[simp] theorem modCfg_sram : (s.modCfg f).sram = s.sram := rfl
@[simp] theorem modCfg_seqs : (s.modCfg f).seqs = s.seqs := rfl
@[simp] theorem modCfg_mons : (s.modCfg f).mons = s.mons := rfl
@[simp] theorem modCfg_caps : (s.modCfg f).caps = s.caps := rfl
@[simp] theorem modCfg_sense : (s.modCfg f).sense = s.sense := rfl
@[simp] theorem modCfg_ds : (s.modCfg f).ds = s.ds := rfl
@[simp] theorem modCfg_dsPoll : (s.modCfg f).dsPoll = s.dsPoll := rfl
@[simp] theorem modCfg_throttled : (s.modCfg f).throttled = s.throttled := rfl
@[simp] theorem modCfg_energy : (s.modCfg f).energy = s.energy := rfl
@[simp] theorem modCfg_book : (s.modCfg f).book = s.book := rfl
@[simp] theorem modCfg_rects : (s.modCfg f).rects = s.rects := rfl
@[simp] theorem modCfg_links : (s.modCfg f).links = s.links := rfl
@[simp] theorem modCfg_bursts : (s.modCfg f).bursts = s.bursts := rfl
@[simp] theorem modCfg_meters : (s.modCfg f).meters = s.meters := rfl
@[simp] theorem modCfg_meterBook : (s.modCfg f).meterBook = s.meterBook := rfl
@[simp] theorem modCfg_ledger : (s.modCfg f).ledger = s.ledger := rfl
@[simp] theorem modCfg_tw : (s.modCfg f).tw = s.tw := rfl
@[simp] theorem modCfg_spi : (s.modCfg f).spi = s.spi := rfl
@[simp] theorem modCfg_addr : (s.modCfg f).addr = s.addr := rfl
@[simp] theorem modCfg_spiStatus : (s.modCfg f).spiStatus = s.spiStatus := rfl
@[simp] theorem modCfg_receipts : (s.modCfg f).receipts = s.receipts := rfl
@[simp] theorem modCfg_deadBelow : (s.modCfg f).deadBelow = s.deadBelow := rfl
@[simp] theorem modCfg_events : (s.modCfg f).events = s.events := rfl
@[simp] theorem modCfg_svc : (s.modCfg f).svc = s.svc := rfl
@[simp] theorem modCfg_faults : (s.modCfg f).faults = s.faults := rfl
@[simp] theorem modCfg_dogs : (s.modCfg f).dogs = s.dogs := rfl
@[simp] theorem modCfg_retained : (s.modCfg f).retained = s.retained := rfl
@[simp] theorem modCfg_pair : (s.modCfg f).pair = s.pair := rfl
@[simp] theorem modCfg_net : (s.modCfg f).net = s.net := rfl
@[simp] theorem modCfg_sketch : (s.modCfg f).sketch = s.sketch := rfl
@[simp] theorem modCfg_box : (s.modCfg f).box = s.box := rfl
@[simp] theorem modCfg_boxSeen : (s.modCfg f).boxSeen = s.boxSeen := rfl
@[simp] theorem modCfg_boxWait : (s.modCfg f).boxWait = s.boxWait := rfl
@[simp] theorem modCfg_boxDue : (s.modCfg f).boxDue = s.boxDue := rfl
@[simp] theorem modCfg_fw : (s.modCfg f).fw = s.fw := rfl
@[simp] theorem modCfg_otp : (s.modCfg f).otp = s.otp := rfl
@[simp] theorem modCfg_mram : (s.modCfg f).mram = s.mram := rfl
@[simp] theorem modCfg_ostler : (s.modCfg f).ostler = s.ostler := rfl
@[simp] theorem modCfg_heat : (s.modCfg f).heat = s.heat := rfl
@[simp] theorem modCfg_cfg : (s.modCfg f).cfg = f s.cfg := rfl
end

/-! ### modHeat -/

section
variable (s : Chip) (f : Heat → Heat)

@[simp] theorem modHeat_clk : (s.modHeat f).clk = s.clk := rfl
@[simp] theorem modHeat_strap : (s.modHeat f).strap = s.strap := rfl
@[simp] theorem modHeat_mode : (s.modHeat f).mode = s.mode := rfl
@[simp] theorem modHeat_img : (s.modHeat f).img = s.img := rfl
@[simp] theorem modHeat_imgValid : (s.modHeat f).imgValid = s.imgValid := rfl
@[simp] theorem modHeat_chs : (s.modHeat f).chs = s.chs := rfl
@[simp] theorem modHeat_chQueue : (s.modHeat f).chQueue = s.chQueue := rfl
@[simp] theorem modHeat_rails : (s.modHeat f).rails = s.rails := rfl
@[simp] theorem modHeat_railQueue : (s.modHeat f).railQueue = s.railQueue := rfl
@[simp] theorem modHeat_terms : (s.modHeat f).terms = s.terms := rfl
@[simp] theorem modHeat_bats : (s.modHeat f).bats = s.bats := rfl
@[simp] theorem modHeat_batRecs : (s.modHeat f).batRecs = s.batRecs := rfl
@[simp] theorem modHeat_hk : (s.modHeat f).hk = s.hk := rfl
@[simp] theorem modHeat_sram : (s.modHeat f).sram = s.sram := rfl
@[simp] theorem modHeat_seqs : (s.modHeat f).seqs = s.seqs := rfl
@[simp] theorem modHeat_mons : (s.modHeat f).mons = s.mons := rfl
@[simp] theorem modHeat_caps : (s.modHeat f).caps = s.caps := rfl
@[simp] theorem modHeat_sense : (s.modHeat f).sense = s.sense := rfl
@[simp] theorem modHeat_ds : (s.modHeat f).ds = s.ds := rfl
@[simp] theorem modHeat_dsPoll : (s.modHeat f).dsPoll = s.dsPoll := rfl
@[simp] theorem modHeat_throttled : (s.modHeat f).throttled = s.throttled := rfl
@[simp] theorem modHeat_energy : (s.modHeat f).energy = s.energy := rfl
@[simp] theorem modHeat_book : (s.modHeat f).book = s.book := rfl
@[simp] theorem modHeat_rects : (s.modHeat f).rects = s.rects := rfl
@[simp] theorem modHeat_links : (s.modHeat f).links = s.links := rfl
@[simp] theorem modHeat_bursts : (s.modHeat f).bursts = s.bursts := rfl
@[simp] theorem modHeat_meters : (s.modHeat f).meters = s.meters := rfl
@[simp] theorem modHeat_meterBook : (s.modHeat f).meterBook = s.meterBook := rfl
@[simp] theorem modHeat_ledger : (s.modHeat f).ledger = s.ledger := rfl
@[simp] theorem modHeat_tw : (s.modHeat f).tw = s.tw := rfl
@[simp] theorem modHeat_spi : (s.modHeat f).spi = s.spi := rfl
@[simp] theorem modHeat_addr : (s.modHeat f).addr = s.addr := rfl
@[simp] theorem modHeat_spiStatus : (s.modHeat f).spiStatus = s.spiStatus := rfl
@[simp] theorem modHeat_receipts : (s.modHeat f).receipts = s.receipts := rfl
@[simp] theorem modHeat_deadBelow : (s.modHeat f).deadBelow = s.deadBelow := rfl
@[simp] theorem modHeat_events : (s.modHeat f).events = s.events := rfl
@[simp] theorem modHeat_svc : (s.modHeat f).svc = s.svc := rfl
@[simp] theorem modHeat_faults : (s.modHeat f).faults = s.faults := rfl
@[simp] theorem modHeat_dogs : (s.modHeat f).dogs = s.dogs := rfl
@[simp] theorem modHeat_retained : (s.modHeat f).retained = s.retained := rfl
@[simp] theorem modHeat_pair : (s.modHeat f).pair = s.pair := rfl
@[simp] theorem modHeat_net : (s.modHeat f).net = s.net := rfl
@[simp] theorem modHeat_sketch : (s.modHeat f).sketch = s.sketch := rfl
@[simp] theorem modHeat_box : (s.modHeat f).box = s.box := rfl
@[simp] theorem modHeat_boxSeen : (s.modHeat f).boxSeen = s.boxSeen := rfl
@[simp] theorem modHeat_boxWait : (s.modHeat f).boxWait = s.boxWait := rfl
@[simp] theorem modHeat_boxDue : (s.modHeat f).boxDue = s.boxDue := rfl
@[simp] theorem modHeat_fw : (s.modHeat f).fw = s.fw := rfl
@[simp] theorem modHeat_otp : (s.modHeat f).otp = s.otp := rfl
@[simp] theorem modHeat_mram : (s.modHeat f).mram = s.mram := rfl
@[simp] theorem modHeat_cfg : (s.modHeat f).cfg = s.cfg := rfl
@[simp] theorem modHeat_ostler : (s.modHeat f).ostler = s.ostler := rfl
@[simp] theorem modHeat_heat : (s.modHeat f).heat = f s.heat := rfl
end

/-! ### modOst -/

section
variable (s : Chip) (f : Ostler → Ostler)

@[simp] theorem modOst_clk : (s.modOst f).clk = s.clk := rfl
@[simp] theorem modOst_strap : (s.modOst f).strap = s.strap := rfl
@[simp] theorem modOst_mode : (s.modOst f).mode = s.mode := rfl
@[simp] theorem modOst_img : (s.modOst f).img = s.img := rfl
@[simp] theorem modOst_imgValid : (s.modOst f).imgValid = s.imgValid := rfl
@[simp] theorem modOst_chs : (s.modOst f).chs = s.chs := rfl
@[simp] theorem modOst_chQueue : (s.modOst f).chQueue = s.chQueue := rfl
@[simp] theorem modOst_rails : (s.modOst f).rails = s.rails := rfl
@[simp] theorem modOst_railQueue : (s.modOst f).railQueue = s.railQueue := rfl
@[simp] theorem modOst_terms : (s.modOst f).terms = s.terms := rfl
@[simp] theorem modOst_bats : (s.modOst f).bats = s.bats := rfl
@[simp] theorem modOst_batRecs : (s.modOst f).batRecs = s.batRecs := rfl
@[simp] theorem modOst_hk : (s.modOst f).hk = s.hk := rfl
@[simp] theorem modOst_sram : (s.modOst f).sram = s.sram := rfl
@[simp] theorem modOst_seqs : (s.modOst f).seqs = s.seqs := rfl
@[simp] theorem modOst_mons : (s.modOst f).mons = s.mons := rfl
@[simp] theorem modOst_caps : (s.modOst f).caps = s.caps := rfl
@[simp] theorem modOst_sense : (s.modOst f).sense = s.sense := rfl
@[simp] theorem modOst_ds : (s.modOst f).ds = s.ds := rfl
@[simp] theorem modOst_dsPoll : (s.modOst f).dsPoll = s.dsPoll := rfl
@[simp] theorem modOst_throttled : (s.modOst f).throttled = s.throttled := rfl
@[simp] theorem modOst_energy : (s.modOst f).energy = s.energy := rfl
@[simp] theorem modOst_book : (s.modOst f).book = s.book := rfl
@[simp] theorem modOst_rects : (s.modOst f).rects = s.rects := rfl
@[simp] theorem modOst_links : (s.modOst f).links = s.links := rfl
@[simp] theorem modOst_bursts : (s.modOst f).bursts = s.bursts := rfl
@[simp] theorem modOst_meters : (s.modOst f).meters = s.meters := rfl
@[simp] theorem modOst_meterBook : (s.modOst f).meterBook = s.meterBook := rfl
@[simp] theorem modOst_ledger : (s.modOst f).ledger = s.ledger := rfl
@[simp] theorem modOst_tw : (s.modOst f).tw = s.tw := rfl
@[simp] theorem modOst_spi : (s.modOst f).spi = s.spi := rfl
@[simp] theorem modOst_addr : (s.modOst f).addr = s.addr := rfl
@[simp] theorem modOst_spiStatus : (s.modOst f).spiStatus = s.spiStatus := rfl
@[simp] theorem modOst_receipts : (s.modOst f).receipts = s.receipts := rfl
@[simp] theorem modOst_deadBelow : (s.modOst f).deadBelow = s.deadBelow := rfl
@[simp] theorem modOst_events : (s.modOst f).events = s.events := rfl
@[simp] theorem modOst_svc : (s.modOst f).svc = s.svc := rfl
@[simp] theorem modOst_faults : (s.modOst f).faults = s.faults := rfl
@[simp] theorem modOst_dogs : (s.modOst f).dogs = s.dogs := rfl
@[simp] theorem modOst_retained : (s.modOst f).retained = s.retained := rfl
@[simp] theorem modOst_pair : (s.modOst f).pair = s.pair := rfl
@[simp] theorem modOst_net : (s.modOst f).net = s.net := rfl
@[simp] theorem modOst_sketch : (s.modOst f).sketch = s.sketch := rfl
@[simp] theorem modOst_box : (s.modOst f).box = s.box := rfl
@[simp] theorem modOst_boxSeen : (s.modOst f).boxSeen = s.boxSeen := rfl
@[simp] theorem modOst_boxWait : (s.modOst f).boxWait = s.boxWait := rfl
@[simp] theorem modOst_boxDue : (s.modOst f).boxDue = s.boxDue := rfl
@[simp] theorem modOst_fw : (s.modOst f).fw = s.fw := rfl
@[simp] theorem modOst_otp : (s.modOst f).otp = s.otp := rfl
@[simp] theorem modOst_mram : (s.modOst f).mram = s.mram := rfl
@[simp] theorem modOst_cfg : (s.modOst f).cfg = s.cfg := rfl
@[simp] theorem modOst_heat : (s.modOst f).heat = s.heat := rfl
@[simp] theorem modOst_ostler : (s.modOst f).ostler = f s.ostler := rfl
end

/-! ### drawn -/

section
variable (s : Chip)

@[simp] theorem drawn_strap : (s.drawn).strap = s.strap := rfl
@[simp] theorem drawn_mode : (s.drawn).mode = s.mode := rfl
@[simp] theorem drawn_img : (s.drawn).img = s.img := rfl
@[simp] theorem drawn_imgValid : (s.drawn).imgValid = s.imgValid := rfl
@[simp] theorem drawn_chs : (s.drawn).chs = s.chs := rfl
@[simp] theorem drawn_chQueue : (s.drawn).chQueue = s.chQueue := rfl
@[simp] theorem drawn_rails : (s.drawn).rails = s.rails := rfl
@[simp] theorem drawn_railQueue : (s.drawn).railQueue = s.railQueue := rfl
@[simp] theorem drawn_terms : (s.drawn).terms = s.terms := rfl
@[simp] theorem drawn_bats : (s.drawn).bats = s.bats := rfl
@[simp] theorem drawn_batRecs : (s.drawn).batRecs = s.batRecs := rfl
@[simp] theorem drawn_hk : (s.drawn).hk = s.hk := rfl
@[simp] theorem drawn_sram : (s.drawn).sram = s.sram := rfl
@[simp] theorem drawn_seqs : (s.drawn).seqs = s.seqs := rfl
@[simp] theorem drawn_mons : (s.drawn).mons = s.mons := rfl
@[simp] theorem drawn_caps : (s.drawn).caps = s.caps := rfl
@[simp] theorem drawn_sense : (s.drawn).sense = s.sense := rfl
@[simp] theorem drawn_ds : (s.drawn).ds = s.ds := rfl
@[simp] theorem drawn_dsPoll : (s.drawn).dsPoll = s.dsPoll := rfl
@[simp] theorem drawn_throttled : (s.drawn).throttled = s.throttled := rfl
@[simp] theorem drawn_energy : (s.drawn).energy = s.energy := rfl
@[simp] theorem drawn_book : (s.drawn).book = s.book := rfl
@[simp] theorem drawn_rects : (s.drawn).rects = s.rects := rfl
@[simp] theorem drawn_links : (s.drawn).links = s.links := rfl
@[simp] theorem drawn_bursts : (s.drawn).bursts = s.bursts := rfl
@[simp] theorem drawn_meters : (s.drawn).meters = s.meters := rfl
@[simp] theorem drawn_meterBook : (s.drawn).meterBook = s.meterBook := rfl
@[simp] theorem drawn_ledger : (s.drawn).ledger = s.ledger := rfl
@[simp] theorem drawn_tw : (s.drawn).tw = s.tw := rfl
@[simp] theorem drawn_spi : (s.drawn).spi = s.spi := rfl
@[simp] theorem drawn_addr : (s.drawn).addr = s.addr := rfl
@[simp] theorem drawn_spiStatus : (s.drawn).spiStatus = s.spiStatus := rfl
@[simp] theorem drawn_receipts : (s.drawn).receipts = s.receipts := rfl
@[simp] theorem drawn_deadBelow : (s.drawn).deadBelow = s.deadBelow := rfl
@[simp] theorem drawn_events : (s.drawn).events = s.events := rfl
@[simp] theorem drawn_svc : (s.drawn).svc = s.svc := rfl
@[simp] theorem drawn_faults : (s.drawn).faults = s.faults := rfl
@[simp] theorem drawn_dogs : (s.drawn).dogs = s.dogs := rfl
@[simp] theorem drawn_retained : (s.drawn).retained = s.retained := rfl
@[simp] theorem drawn_pair : (s.drawn).pair = s.pair := rfl
@[simp] theorem drawn_net : (s.drawn).net = s.net := rfl
@[simp] theorem drawn_sketch : (s.drawn).sketch = s.sketch := rfl
@[simp] theorem drawn_box : (s.drawn).box = s.box := rfl
@[simp] theorem drawn_boxSeen : (s.drawn).boxSeen = s.boxSeen := rfl
@[simp] theorem drawn_boxWait : (s.drawn).boxWait = s.boxWait := rfl
@[simp] theorem drawn_boxDue : (s.drawn).boxDue = s.boxDue := rfl
@[simp] theorem drawn_fw : (s.drawn).fw = s.fw := rfl
@[simp] theorem drawn_otp : (s.drawn).otp = s.otp := rfl
@[simp] theorem drawn_mram : (s.drawn).mram = s.mram := rfl
@[simp] theorem drawn_cfg : (s.drawn).cfg = s.cfg := rfl
@[simp] theorem drawn_ostler : (s.drawn).ostler = s.ostler := rfl
@[simp] theorem drawn_heat : (s.drawn).heat = s.heat := rfl
end

/-! ### Reading back a table entry or a port -/

section
variable (s : Chip)
@[simp] theorem modCh_ch (n : Nat) (f : Ch → Ch) : (s.modCh n f).ch n = f (s.ch n) := tget_tset_self ..
theorem modCh_ch_other (n m : Nat) (f : Ch → Ch) (h : m ≠ n) : (s.modCh n f).ch m = s.ch m := tget_tset_other _ _ _ _ h
@[simp] theorem modRail_rail (n : Nat) (f : Rail → Rail) : (s.modRail n f).rail n = f (s.rail n) := tget_tset_self ..
theorem modRail_rail_other (n m : Nat) (f : Rail → Rail) (h : m ≠ n) : (s.modRail n f).rail m = s.rail m := tget_tset_other _ _ _ _ h
@[simp] theorem modRect_rect (n : Nat) (f : Rect → Rect) : (s.modRect n f).rect n = f (s.rect n) := tget_tset_self ..
theorem modRect_rect_other (n m : Nat) (f : Rect → Rect) (h : m ≠ n) : (s.modRect n f).rect m = s.rect m := tget_tset_other _ _ _ _ h
@[simp] theorem modLink_link (n : Nat) (f : Link → Link) : (s.modLink n f).link n = f (s.link n) := tget_tset_self ..
theorem modLink_link_other (n m : Nat) (f : Link → Link) (h : m ≠ n) : (s.modLink n f).link m = s.link m := tget_tset_other _ _ _ _ h
@[simp] theorem modBurst_burst (n : Nat) (f : Burst → Burst) : (s.modBurst n f).burst n = f (s.burst n) := tget_tset_self ..
theorem modBurst_burst_other (n m : Nat) (f : Burst → Burst) (h : m ≠ n) : (s.modBurst n f).burst m = s.burst m := tget_tset_other _ _ _ _ h
@[simp] theorem modBat_bat (n : Nat) (f : Bat → Bat) : (s.modBat n f).bat n = f (s.bat n) := tget_tset_self ..
theorem modBat_bat_other (n m : Nat) (f : Bat → Bat) (h : m ≠ n) : (s.modBat n f).bat m = s.bat m := tget_tset_other _ _ _ _ h
@[simp] theorem modSeq_seq (n : Nat) (f : Seq → Seq) : (s.modSeq n f).seq n = f (s.seq n) := tget_tset_self ..
theorem modSeq_seq_other (n m : Nat) (f : Seq → Seq) (h : m ≠ n) : (s.modSeq n f).seq m = s.seq m := tget_tset_other _ _ _ _ h
@[simp] theorem modMon_mon (n : Nat) (f : Mon → Mon) : (s.modMon n f).mon n = f (s.mon n) := tget_tset_self ..
theorem modMon_mon_other (n m : Nat) (f : Mon → Mon) (h : m ≠ n) : (s.modMon n f).mon m = s.mon m := tget_tset_other _ _ _ _ h
@[simp] theorem modCap_cap (n : Nat) (f : CapTimer → CapTimer) : (s.modCap n f).cap n = f (s.cap n) := tget_tset_self ..
theorem modCap_cap_other (n m : Nat) (f : CapTimer → CapTimer) (h : m ≠ n) : (s.modCap n f).cap m = s.cap m := tget_tset_other _ _ _ _ h
@[simp] theorem modMeter_meter (n : Nat) (f : Meter → Meter) : (s.modMeter n f).meter n = f (s.meter n) := tget_tset_self ..
theorem modMeter_meter_other (n m : Nat) (f : Meter → Meter) (h : m ≠ n) : (s.modMeter n f).meter m = s.meter m := tget_tset_other _ _ _ _ h
@[simp] theorem modBus_bus (n : Nat) (f : DsBus → DsBus) : (s.modBus n f).bus n = f (s.bus n) := tget_tset_self ..
theorem modBus_bus_other (n m : Nat) (f : DsBus → DsBus) (h : m ≠ n) : (s.modBus n f).bus m = s.bus m := tget_tset_other _ _ _ _ h
@[simp] theorem setPort_port (p : Port) (q : PortState) : (s.setPort p q).port p = q := by cases p <;> rfl
@[simp] theorem modPort_port (p : Port) (f : PortState → PortState) : (s.modPort p f).port p = f (s.port p) := by cases p <;> rfl
theorem modPort_port_other (p q : Port) (f : PortState → PortState) (h : q ≠ p) : (s.modPort p f).port q = s.port q := by
  cases p <;> cases q <;> first | rfl | exact absurd rfl h
end

end Sys2Proof.Machine
end

