-- ==== Sys2Proof/Laws/Serve.lean ====
section
/-! SUPPORT. What serving a request does, once (R288, R291, R296): a request that is taken and checked is answered by its
opcode's body; the reply it gets stands in the newest place of its port's reply queue. -/

namespace Sys2Proof.Machine

/-- The request as its body meets it. -/
theorem takes_of {opcode : Nat} {row : OpRow} {rq : Request} {s : Chip} (h : Taken opcode row rq s) :
    (takes s rq.port && queueRoom s row.queue && isNext s rq.port (requestBytes opcode rq)) = true := by
  obtain ⟨a, b, c, d, e, f, g⟩ := h
  simp [takes, a, b, c, d, e, f, g]

theorem firstChecks_of {row : OpRow} {rq : Request} {s : Chip} (h : Checked row rq s) : firstChecks row rq s = none := by
  obtain ⟨a, b, c, d, e, u, f, g, h, i⟩ := h
  unfold firstChecks
  rw [if_neg (by omega), if_neg (by rcases b with b | b <;> simp [b]), if_neg (by simpa using c), if_neg (by simp; omega),
    if_neg (by rcases f with f | f <;> simp [f]), if_neg (by simpa using g), if_neg ?_]
  simp only [Bool.or_eq_true, Bool.and_eq_true, beq_iff_eq, Bool.not_eq_true', not_or, not_and, Bool.not_eq_false]
  exact ⟨h, i⟩

theorem taken_ref (opcode : Nat) (rq : Request) (s : Chip) :
    (takeRequest s rq.port rq.tag (requestBytes opcode rq)).1 = refOf rq s := rfl

theorem Checked.taken {row : OpRow} {rq : Request} {s : Chip} (opcode : Nat) (h : Checked row rq s) :
    Checked row rq (taken opcode rq s) := by
  obtain ⟨a, b, rest⟩ := h
  refine ⟨a, ?_, ?_⟩
  · rcases b with b | b
    · exact .inl b
    · right
      rw [b]
      cases hp : rq.port <;> simp [Machine.taken, takeRequest, Chip.modPort, Chip.port, Chip.setPort, hp]
  · cases hp : rq.port <;> simpa [Machine.taken, takeRequest, Chip.modPort, Chip.port, Chip.setPort, hp] using rest

/-- A request that is taken and checked gets what its body answers. -/
theorem serve_of {row : OpRow} {rq : Request} {s : Chip} (opcode : Nat) (body : Body) (h : Admitted opcode row rq s) :
    serve opcode row body rq s = answer (refOf rq s) (body rq (refOf rq s) (taken opcode rq s)) := by
  unfold serve
  rw [if_pos (takes_of h.1)]
  have k := firstChecks_of (h.2.taken opcode)
  unfold taken at k
  simp only [k]
  rfl

/-- The place that the taken request holds is open. -/
theorem taken_awaiting (opcode : Nat) (rq : Request) (s : Chip) : awaiting (taken opcode rq s) (refOf rq s) = true := by
  obtain ⟨p, ver, tag, epoch, params⟩ := rq
  cases p <;> simp [awaiting, taken, takeRequest, refOf, Chip.modPort, Chip.port, Chip.setPort]

/-- A reply formed for the request whose place is the newest one. -/
theorem formReply_newest {s : Chip} {r : ReqRef} {l : List Slot} (st : Status) (data : List Byte) (more : Bool)
    (h : (s.port r.port).replies = l ++ [{ receipt := r.receipt, reply := none }]) :
    ∃ rep : Reply, ((formReply s r st data more).port r.port).replies.getLast? = some { receipt := r.receipt, reply := some rep }
      ∧ rep.tag = r.tag ∧ rep.status = st ∧ rep.data = data ∧ rep.more = more
      ∧ rep.ver = ((formReply s r st data more).port r.port).ver := by
  have ha : awaiting s r = true := by simp [awaiting, h]
  refine ⟨newReply s r.port r.tag st data more, ?_, rfl, rfl, rfl, rfl, ?_⟩
  · unfold formReply
    rw [if_pos ha]
    obtain ⟨p, tag, n⟩ := r
    cases p <;>
      simp_all [clearFlags, Chip.modPort, Chip.port, Chip.setPort, List.getLast?_append]
  · unfold formReply
    rw [if_pos ha]
    obtain ⟨p, tag, n⟩ := r
    cases p <;> rfl

/-- Forming a reply changes nothing but its port. -/
theorem formReply_only (s : Chip) (r : ReqRef) (st : Status) (data : List Byte) (more : Bool) :
    Only [portPart r.port] s (formReply s r st data more) := by
  intro p hp
  unfold formReply
  split
  · obtain ⟨q, tag, n⟩ := r
    cases q <;> cases p <;> first | rfl | exact absurd (.head _) hp
  · cases p <;> rfl

theorem taken_only (opcode : Nat) (rq : Request) (s : Chip) : Only [portPart rq.port, .receipts] s (taken opcode rq s) := by
  obtain ⟨q, ver, tag, epoch, params⟩ := rq
  intro p hp
  cases q <;> cases p <;> first | rfl | exact absurd (.head _) hp | exact absurd (.tail _ (.head _)) hp

theorem Only.trans {ps qs : List Part} {s t u : Chip} (h : Only ps s t) (k : Only qs t u) (hs : ∀ p ∈ qs, p ∈ ps) :
    Only ps s u := by
  intro p hp
  have a := h p hp
  have b := k p fun hq => hp (hs p hq)
  cases p <;> exact b.trans a

theorem Only.refl (ps : List Part) (s : Chip) : Only ps s s := by intro p _; cases p <;> rfl

theorem taken_replies (opcode : Nat) (rq : Request) (s : Chip) :
    ((taken opcode rq s).port rq.port).replies = (s.port rq.port).replies ++ [{ receipt := s.receipts, reply := none }] := by
  obtain ⟨q, ver, tag, epoch, params⟩ := rq
  cases q <;> rfl

/-- A request whose body answers at once and changes nothing. -/
theorem serve_answers {row : OpRow} {rq : Request} {s : Chip} (opcode : Nat) (body : Body) (st : Status) (data : List Byte)
    (more : Bool) (h : Admitted opcode row rq s)
    (hb : body rq (refOf rq s) (taken opcode rq s) = (.reply st data more, taken opcode rq s)) :
    Replied rq st data s (serve opcode row body rq s) ∧ Only [portPart rq.port, .receipts] s (serve opcode row body rq s) := by
  rw [serve_of opcode body h, hb]
  refine ⟨?_, (taken_only opcode rq s).trans (formReply_only _ _ _ _ _) ?_⟩
  · obtain ⟨rep, h1, h2, h3, h4, -, h6⟩ := formReply_newest (r := refOf rq s) st data more (taken_replies opcode rq s)
    exact ⟨rep, h1, h2, h3, h4, h6⟩
  · intro p hp
    rcases List.mem_singleton.mp hp with rfl
    exact .head _

/-- A request whose body answers at once, leaving the state `u`, in which its place is still open. -/
theorem serve_does {row : OpRow} {rq : Request} {s u : Chip} (opcode : Nat) (body : Body) (st : Status) (data : List Byte)
    (more : Bool) (h : Admitted opcode row rq s) (hb : body rq (refOf rq s) (taken opcode rq s) = (.reply st data more, u))
    (hu : (u.port rq.port).replies = (s.port rq.port).replies ++ [{ receipt := s.receipts, reply := none }]) :
    Replied rq st data s (serve opcode row body rq s) ∧ Only [portPart rq.port] u (serve opcode row body rq s) := by
  rw [serve_of opcode body h, hb]
  obtain ⟨rep, h1, h2, h3, h4, -, h6⟩ := formReply_newest (r := refOf rq s) st data more hu
  exact ⟨⟨rep, h1, h2, h3, h4, h6⟩, formReply_only u (refOf rq s) st data more⟩

/-- A request whose body answers later, leaving the state `u`. -/
theorem serve_later {row : OpRow} {rq : Request} {s u : Chip} (opcode : Nat) (body : Body) (h : Admitted opcode row rq s)
    (hb : body rq (refOf rq s) (taken opcode rq s) = (.later, u)) : serve opcode row body rq s = u := by
  rw [serve_of opcode body h, hb]
  rfl

/-- What forming a reply leaves of the port's agreed version and station. -/
theorem formReply_session (s : Chip) (r : ReqRef) (st : Status) (data : List Byte) (more : Bool) :
    ((formReply s r st data more).port r.port).ver = (s.port r.port).ver
      ∧ ((formReply s r st data more).port r.port).station = (s.port r.port).station
      ∧ ((formReply s r st data more).port r.port).fence = (s.port r.port).fence := by
  obtain ⟨q, tag, n⟩ := r
  unfold formReply
  split
  · cases q <;> exact ⟨rfl, rfl, rfl⟩
  · exact ⟨rfl, rfl, rfl⟩

/-- What a part that is the same says, for every part: the parts of `Only` one by one. -/
theorem Only.of {ps : List Part} {s t : Chip} (h : Only ps s t) (p : Part) (hp : p ∉ ps) : p.same s t := h p hp

end Sys2Proof.Machine
end

