-- ==== Sys2Proof/WellFormed.lean ====
section
/-! DEFINITION. Which operands the outside world can present with a command: the sizes and ranges that the spec gives packets,
frames, latched values and measurements.  The machine is total on any operand; a claim that needs a proper one says so with
these checks. -/

namespace Sys2Proof

/-- LEN of a packet is a 16-bit field (R287). -/
def Request.wf (rq : Request) : Bool := decide (rq.params.length < 65536)

/-- A rail's latched values: a saturation mark of -1, 0 or 1, and at most 12 phases (R110, R111). -/
def RailLatch.wf (l : RailLatch) : Bool := decide (-1 ≤ l.sat) && decide (l.sat ≤ 1) && decide (l.phases.length ≤ 12)

/-- What is latched at a boundary: 32 channels, 16 rails, 12 terminals, the lanes LN0 to LN59, 4 downstream buses (R26). -/
def Latch.wf (l : Latch) : Bool :=
  decide (l.chs.length ≤ 32) && decide (l.rails.length ≤ 16) && l.rails.all RailLatch.wf && decide (l.terms.length ≤ 12)
    && l.lanes.all (fun m => decide (m.lane < 60)) && decide (l.dsLow.length ≤ 4)
    && decide (l.dsClockLow.length ≤ 4) && decide (l.supplyOut.length ≤ 3)

/-- A frame's HOPS has not reached its limit of 32, and its payload has at most 64 bytes (R372, R373). -/
def Frame.wf (f : Frame) : Bool := decide (f.hops.toNat < 32) && decide (f.payload.length ≤ 64)

/-- A transaction ends on the wires with one of the results 0x00 to 0x02 or 0x06; the controller itself decides the others
(R334). -/
def BusOutcome.wf (o : BusOutcome) : Bool := o.result == 0#8 || o.result == 1#8 || o.result == 2#8 || o.result == 6#8

/-- A strap pin shows no voltage below zero (R514). -/
def Straps.wf (s : Straps) : Bool := [s.role, s.addr0, s.addr1, s.addr2].all fun v => decide (0 ≤ v)

/-- The cause that fires a capture names a source of one of the 19 fault blocks (R403). -/
def TrigCause.wf : TrigCause → Bool
  | .source id => decide (id.toNat / 256 ≤ 0x13)
  | .critical id => decide (id.toNat / 256 ≤ 0x13)
  | .timer _ => true
  | .host => true

/-- The operands of a command that have no such bound are left out: every value of theirs can be presented. -/
def Instr.frame? : Instr → Option Frame
  | .linkHello _ f => some f
  | .timeReq _ f _ _ => some f
  | .timeResp _ f _ => some f
  | .broadcast _ f => some f
  | .barrierArrive _ f => some f
  | .barrierOpen _ f => some f
  | .barrierRelease _ f => some f
  | .schedule _ f => some f
  | .scheduleReq _ f => some f
  | .scheduleAns _ f => some f
  | .message _ f => some f
  | .messageAck _ f => some f
  | .capReport _ f => some f
  | .capAlloc _ f => some f
  | .collectReq _ f => some f
  | .collectData _ f => some f
  | _ => none

def Instr.request? : Instr → Option Request
  | .responderHello rq => some rq
  | .responderPing rq => some rq
  | .responderModeGet rq => some rq
  | .responderModeRequest rq _ => some rq
  | .responderFaultBlockGet rq => some rq
  | .responderOther rq _ => some rq
  | .hello rq => some rq
  | .summary rq => some rq
  | .ping rq => some rq
  | .wdChallenge rq => some rq
  | .wdServe rq _ => some rq
  | .fence rq => some rq
  | .goodbye rq => some rq
  | .eventRead rq => some rq
  | .modeGet rq => some rq
  | .modeRequest rq => some rq
  | .serviceSelect rq => some rq
  | .chGet rq => some rq
  | .chOn rq => some rq
  | .chOff rq => some rq
  | .chDisable rq => some rq
  | .chEnable rq => some rq
  | .chStateAll rq => some rq
  | .brkGet rq => some rq
  | .brkClearLockout rq => some rq
  | .brkCurveGet rq => some rq
  | .brkEval rq => some rq
  | .railGet rq => some rq
  | .railOn rq => some rq
  | .railOff rq => some rq
  | .railDisable rq => some rq
  | .railEnable rq => some rq
  | .railSet rq => some rq
  | .railClearLatch rq => some rq
  | .railStateAll rq => some rq
  | .railPhasesGet rq => some rq
  | .energyGet rq => some rq
  | .capSet rq => some rq
  | .chargeSet rq => some rq
  | .bridgeGet rq => some rq
  | .rectGet rq => some rq
  | .llGet rq => some rq
  | .llStateAll rq => some rq
  | .llDisable rq => some rq
  | .llEnable rq => some rq
  | .batGet rq => some rq
  | .batStateAll rq => some rq
  | .batAdmit rq => some rq
  | .batRelease rq => some rq
  | .batRestGet rq => some rq
  | .batProfileGet rq => some rq
  | .meterGet rq => some rq
  | .meterAll rq => some rq
  | .shelfTotalsGet rq => some rq
  | .ledgerInfo rq => some rq
  | .ledgerRead rq => some rq
  | .ledgerAck rq => some rq
  | .ledgerAttest rq => some rq
  | .ledgerSnapshot rq => some rq
  | .cfgInfo rq => some rq
  | .cfgRead rq => some rq
  | .cfgStageBegin rq => some rq
  | .cfgStageWrite rq => some rq
  | .cfgStageEnd rq => some rq
  | .cfgCommit rq => some rq
  | .faultScan rq => some rq
  | .faultBlockGet rq => some rq
  | .faultClear rq => some rq
  | .faultSeveritySet rq => some rq
  | .wdGet rq => some rq
  | .countsGet rq => some rq
  | .recInfo rq => some rq
  | .recRead rq => some rq
  | .recFreeze rq => some rq
  | .recThaw rq => some rq
  | .recTrigger rq => some rq
  | .fwInfo rq => some rq
  | .fwStageBegin rq => some rq
  | .fwStageWrite rq => some rq
  | .fwStageEnd rq => some rq
  | .fwActivateTrial rq => some rq
  | .fwActivateConfirm rq => some rq
  | .fwActivateRevert rq => some rq
  | .pairHealth rq => some rq
  | .pairGet rq => some rq
  | .pairHandover rq => some rq
  | .hallGet rq => some rq
  | .hallTimeGet rq => some rq
  | .hallBroadcast rq => some rq
  | .hallBarrier rq => some rq
  | .stillLifeSchedule rq => some rq
  | .hallResetSchedule rq => some rq
  | .snapshotCollectStart rq => some rq
  | .snapshotCollectRead rq => some rq
  | .snapshotCollectStatus rq => some rq
  | .snapshotCollectCancel rq => some rq
  | .hallSend rq => some rq
  | .measStatus rq => some rq
  | .sarReading rq => some rq
  | .seqStart rq => some rq
  | .seqStop rq => some rq
  | .seqGet rq => some rq
  | .measRingRead rq => some rq
  | .wmGetAll rq => some rq
  | .wmSet rq => some rq
  | .capArm rq => some rq
  | .capRead rq => some rq
  | .svcCalRead rq => some rq
  | .svcFetExercise rq => some rq
  | .dsTransact rq => some rq
  | .dsStatus rq => some rq
  | _ => none

def Instr.straps? : Instr → Option Straps
  | .vinReturn _ st => some st
  | .studioAbsentRewake st => some st
  | .wmLevelChange _ _ st => some st
  | .responderModeRequest _ st => some st
  | .wakenPulse _ st => some st
  | .keepalivePowerOn st => some st
  | .deadStopRetry st => some st
  | .ostlerTs0Read _ st => some st
  | .powerDownFlushEnd st _ => some st
  | .rstnRelease st => some st
  | _ => none

/-- The command has operands that the outside world can present. -/
def Instr.wf (i : Instr) : Bool :=
  let own : Bool := match i with
    | .tick l => l.wf
    | .bridgeEvent _ codes => codes.all fun c => decide (-256 ≤ c) && decide (c ≤ 255)
    | .captureTrigger _ c => c.wf
    | .dsTransaction _ o => o.wf
    | .tempSample counts => decide (counts.length = 12)
    | .mirror p => decide (p.length = 64)
    | .twReadTransfer _ n => decide (0 < n)
    | .spiRead n => decide (0 < n)
    | _ => true
  own && i.frame?.all Frame.wf && i.request?.all Request.wf && i.straps?.all Straps.wf

end Sys2Proof
end

