-- ==== Sys2Proof/Tests/Slice0.lean ====
section
/-! SUPPORT. Small tests of the model, and for each statement a state and operands that meet its hypotheses. -/

namespace Sys2Proof.Tests

open Sys2Proof.Machine

set_option maxRecDepth 8000

/-! ## Small states -/

/-- A request on the two-wire port with the given parameter bytes. -/
def rq (params : List Nat) : Request := { params := params.map (BitVec.ofNat 8) }

/-- A SOLO member that holds the active role, in a mode. -/
def up (m : Mode) : Chip := { Chip.blank with mode := { mode := m, target := m, role := .active } }

/-- The member at a time, in a stage of a sequence or handover. -/
def upAt (m : Mode) (stage : Stage := .none) : Chip :=
  { up m with mode := { mode := m, target := m, role := .active, stage := stage }, imgValid := true, clk := { tick := 10000000000 } }

/-- A member whose Ostler is as given, at that time. -/
def kept (m : Mode) (o : Ostler) : Chip := { up m with ostler := o, clk := { tick := 10000000000 } }

/-- The root's active member of a hall of three pairs, a while after reset. -/
def rootChip : Chip :=
  { up .run with imgValid := true, img := { hall := { enable := true, pairs := 3 } }, clk := { tick := 10000000000, hall := 1000000000000 } }

/-- The active member of pair 1 of that hall. -/
def childChip : Chip := { rootChip with img := { hall := { enable := true, pairs := 3, pairId := 1 } } }

def st (c : Chip) : State := { pending := [], chip := c }

/-- Bytes from numbers. -/
def bytes (l : List Nat) : List Byte := l.map (BitVec.ofNat 8)

/-! ## Ill-formed operands: one for each check of WellFormed -/

theorem test_wf_request : Request.wf { params := List.replicate 65536 0#8 } = false := by
  show decide ((List.replicate 65536 0#8).length < 65536) = false
  rw [List.length_replicate]; decide
theorem test_wf_rail_sat : RailLatch.wf { sat := 2 } = false := by decide
theorem test_wf_rail_sat_low : RailLatch.wf { sat := -2 } = false := by decide
theorem test_wf_rail_phases : RailLatch.wf { phases := List.replicate 13 0 } = false := by decide
theorem test_wf_latch_channels : Latch.wf { chs := List.replicate 33 {} } = false := by decide
theorem test_wf_latch_rails : Latch.wf { rails := List.replicate 17 {} } = false := by decide
theorem test_wf_latch_rail : Latch.wf { rails := [{ sat := 2 }] } = false := by decide
theorem test_wf_latch_terms : Latch.wf { terms := List.replicate 13 {} } = false := by decide
theorem test_wf_latch_lane : Latch.wf { lanes := [{ lane := 60 }] } = false := by decide
theorem test_wf_latch_buses : Latch.wf { dsLow := List.replicate 5 false } = false := by decide
theorem test_wf_frame_hops : Frame.wf { hops := 32#8 } = false := by decide
theorem test_wf_frame_payload : Frame.wf { payload := List.replicate 65 0#8 } = false := by decide
theorem test_wf_bus_outcome : BusOutcome.wf { result := 3#8 } = false := by decide
theorem test_wf_straps : Straps.wf { addr1 := -1 } = false := by decide
theorem test_wf_trig_source : TrigCause.wf (.source 0x1400#16) = false := by decide
theorem test_wf_trig_critical : TrigCause.wf (.critical 0x1400#16) = false := by decide
theorem test_wf_tick : Instr.wf (.tick { chs := List.replicate 33 {} }) = false := by decide
theorem test_wf_latch_bus_clocks : Latch.wf { dsClockLow := List.replicate 5 false } = false := by decide
theorem test_wf_bridge_low : Instr.wf (.bridgeEvent 0 [-257]) = false := by decide
theorem test_wf_bridge_high : Instr.wf (.bridgeEvent 0 [256]) = false := by decide
theorem test_wf_capture_trigger : Instr.wf (.captureTrigger 0 (.source 0x1400#16)) = false := by decide
theorem test_wf_ds_transaction : Instr.wf (.dsTransaction 0 { result := 3#8 }) = false := by decide
theorem test_wf_temp_sample : Instr.wf (.tempSample []) = false := by decide
theorem test_wf_mirror : Instr.wf (.mirror []) = false := by decide
theorem test_wf_tw_read : Instr.wf (.twReadTransfer 0x48#7 0) = false := by decide
theorem test_wf_spi_read : Instr.wf (.spiRead 0) = false := by decide
theorem test_wf_hall_frame : Instr.wf (.linkHello 0 { hops := 32#8 }) = false := by decide
theorem test_wf_straps_of_wake : Instr.wf (.keepalivePowerOn { role := -1 }) = false := by decide
theorem test_wf_ping : Instr.wf (.ping (rq [1, 2, 3])) = true := by decide

/-! ## The table gives no row any bits -/

theorem test_no_word : decodeTableWord 16 0 = none := rfl

/-! ## Numbers that the spec's examples work out -/

/-- The CRC of the SUMMARY request after R319. -/
theorem test_crc16_summary : crc16 (bytes [0x10, 1, 2, 0, 4, 0, 0xFF, 0xFF, 0, 0, 0, 0]) = 0xB417#16 := by decide

/-- The idle reply of the example after R328 ends 23 85. -/
theorem test_crc16_idle : crc16 (bytes [0x10, 0, 0, 0, 0, 0, 8, 0]) = 0x8523#16 := by decide

/-- R289: the check value over "123456789". -/
theorem test_crc16_check : crc16 (bytes [49, 50, 51, 52, 53, 54, 55, 56, 57]) = 0x29B1#16 := by decide

/-- The WD1 token's CRC-32C after R422. -/
theorem test_crc32c_token : crc32c (bytes [0xE7, 0x91, 0x3C, 0x5A, 7, 0, 0x42, 0]) = 0x0F29CF94#32 := by decide

/-- The three words of the differential ring after R276. -/
theorem test_dma_full : dmaWord false false 0x40 6 0 (sarFormat 1 8191) = 0x20607FFC := by decide
theorem test_dma_over : dmaWord true false 0x40 6 0 (sarFormat 1 8191) = 0xA0607FFC := by decide
theorem test_dma_negative : dmaWord false false 0x40 6 0 (sarFormat 1 (-3277)) = 0x2060CCCC := by decide

/-- CH24 of the Primer example is ON: 0x0314_0006. -/
def ch24 : Chip :=
  { up .run with img := { chs := [{ role := 3 }], brks := [{ rating := 60000 }] },
                 chs := [{ present := true, intentOn := true, state := .on }] }
theorem test_word_channel_on : chWord ch24 0 = 0x03140006 := by decide

/-- CH25 of the curve example has tripped: 0x0314_B007. -/
theorem test_word_channel_tripped :
    chWord { ch24 with chs := [{ present := true, intentOn := true, state := .tripped, lastStop := .curve }] } 0 = 0x0314B007 := by
  decide

/-- RAIL12 of the six-phase example: in RAMP_DOWN 0x0060_0004, and at the end 0x0060_8002. -/
def rail12 : Chip := { up .run with img := { rails := [some { lanes := 6 }] }, rails := [{ state := .rampDown }] }
theorem test_word_rail_ramp_down : railWord rail12 0 = 0x00600004 := by decide
theorem test_word_rail_on : railWord { rail12 with rails := [{ state := .on, intentOn := true }] } 0 = 0x00608002 := by decide

/-- The recorder of the freeze example: 0x0002_8006. -/
theorem test_word_recorder :
    recWord { up .run with sketch := { frozen := true, cause := 1, slots := List.replicate 6 (some {}) ++ List.replicate 26 none } }
      = 0x00028006 := by decide

/-- The mode words of the outage example and of the wake example. -/
theorem test_word_bridge : modeWord { mode := .bridge, target := .bridge, cause := .busSag, role := .active } = 0x04050305 := by decide
theorem test_word_run : modeWord { mode := .run, target := .run, cause := .acReturn, role := .active } = 0x04040504 := by decide
theorem test_word_ready : modeWord { mode := .ready, target := .ready, cause := .powerOn, role := .active } = 0x04030003 := by decide

/-- Member B's pair word in the fail-over example: 0x609C_0012. -/
theorem test_word_pair :
    pairWord { up .run with strap := .b, mode := { mode := .run, role := .active, epoch := 0x12 },
                            pair := { me := { forceOut := true } }, ostler := { vinA := true, vinB := true, vka := true } }
      = 0x609C0012 := by decide

/-! ## Each statement has a state and operands that meet its hypotheses -/

theorem test_admitted : Admitted 0x0008 {} (rq [0, 0, 0, 0]) (up .run) := by decide

theorem witness_SessionOpcodesAnswer :
    (∃ rq : Request, ∃ s : State, Admitted 0x0001 { lenLo := 8, lenHi := 8, anyVer := true, inRecovery := true } rq s.chip ∧
        arg rq 1 1 ≤ 0x10 ∧ 0x10 ≤ arg rq 0 1) ∧
    (∃ rq : Request, ∃ s : State, Admitted 0x0003 { lenLo := 0, lenHi := 4096, inRecovery := true } rq s.chip) ∧
    (∃ rq : Request, ∃ s : State, Admitted 0x0002 { inPowerDown := true, inRecovery := true } rq s.chip ∧
        s.chip.fw.recovery = false ∧ arg rq 0 1 < 4 ∧ arg rq 1 1 = 0) ∧
    (∃ rq : Request, ∃ s : State, Admitted 0x0008 {} rq s.chip ∧ (arg rq 3 1).testBit 0 = false ∧ 1 ≤ arg rq 2 1 ∧
        arg rq 2 1 ≤ 10) ∧
    (∃ rq : Request, ∃ s : State, Admitted 0x0101 { lenLo := 0, lenHi := 0, inPowerDown := true, inRecovery := true } rq s.chip) :=
  ⟨⟨rq [0x10, 0x10, 5, 0, 0, 0, 0, 0], st (up .run), by decide, by decide, by decide⟩,
   ⟨rq [0, 0, 0, 0], st (up .run), by decide⟩,
   ⟨rq [0, 0, 0, 0], st (up .run), by decide, by decide, by decide, by decide⟩,
   ⟨rq [0, 0, 1, 0], st (up .run), by decide, by decide, by decide, by decide⟩,
   ⟨rq [], st (up .run), by decide⟩⟩

theorem witness_FenceAndGoodbyeComplete :
    (∃ rq : Request, ∃ s : State, Admitted 0x0006 {} rq s.chip ∧ arg rq 2 2 ≤ 60000) ∧
    (∃ p : Port, ∃ f : Fence, ∃ s : State, (s.chip.port p).fence = some f ∧ fenceHolds s.chip f = true ∧
        s.chip.fw.yardStop = false) ∧
    (∃ p : Port, ∃ f : Fence, ∃ s : State, (s.chip.port p).fence = some f ∧ f.deadline ≤ s.chip.now ∧
        s.chip.fw.yardStop = false ∧ fenceHolds s.chip f = false) ∧
    (∃ rq : Request, ∃ s : State, Admitted 0x0007 {} rq s.chip ∧ leavesDog s.chip rq.port = false) ∧
    (∃ p : Port, ∃ b : List Byte, ∃ st : Status, ∃ s : State, takes s.chip p = true ∧ isNext s.chip p b = true ∧
        framing p (s.chip.port p).ver b = some st ∧ st ≠ .badCrc) ∧
    (∃ p : Port, ∃ b : List Byte, ∃ s : State, takes s.chip p = true ∧ isNext s.chip p b = true ∧
        framing p (s.chip.port p).ver b = some .badCrc) :=
  ⟨⟨rq [0, 0, 10, 0], st (up .run), by decide, by decide⟩,
   ⟨.tw, {}, st { up .run with tw := { fence := some {} } }, by decide, by decide, by decide⟩,
   ⟨.tw, { ledger := some 0 }, st { up .run with tw := { fence := some { ledger := some 0 } }, ledger := { queue := [{}] } }, by decide, by decide, by decide, by decide⟩,
   ⟨rq [0, 0, 0, 0], st (up .run), by decide, by decide⟩,
   ⟨.tw, [0x10#8], .badLength, st (up .run), by decide, by decide, by decide, by decide⟩,
   ⟨.tw, [0x10#8, 1#8, 0#8, 0#8, 0#8, 0#8, 0#8, 0#8, 0#8, 0#8], st (up .run), by decide, by decide, by decide⟩⟩

theorem witness_WireTransfers :
    (∃ adr : BitVec 7, ∃ b : Byte, ∃ bs : List Byte, ∃ s : State, answers s.chip adr.toNat = true ∧
        s.chip.fw.yardStop = false ∧ moving s.chip .tw = false ∧ s.chip.tw.queue.length < 8 ∧ bs.length ≤ 257) ∧
    (∃ adr : BitVec 7, ∃ n : Nat, ∃ r : Reply, ∃ s : State, answers s.chip adr.toNat = true ∧
        waitingReply s.chip .tw = some r ∧ (replyBytes r).length ≤ n) ∧
    (∃ s : State, yardAlive s.chip = true) ∧
    (∃ b : Byte, ∃ bs : List Byte, ∃ s : State, yardAlive s.chip = true ∧ s.chip.fw.yardStop = false ∧
        moving s.chip .spi = false ∧ s.chip.spi.queue.length < 8 ∧ bs.length ≤ 4105) ∧
    (∃ n : Nat, ∃ r : Reply, ∃ s : State, yardAlive s.chip = true ∧ waitingReply s.chip .spi = some r ∧
        (replyBytes r).length ≤ n) ∧
    (∃ cmd : Byte, ∃ s : State, yardAlive s.chip = true ∧ cmd ≠ 0#8 ∧ cmd ≠ 0x80#8) :=
  ⟨⟨0x48#7, 0#8, [], st (up .run), by decide, by decide, by decide, by decide, by decide⟩,
   ⟨0x48#7, 300, {}, st { up .run with tw := { replies := [{ reply := some {} }] } }, by decide, by decide, by decide⟩,
   ⟨st (up .run), by decide⟩,
   ⟨0#8, default, st (up .run), by decide, by decide, by decide, by decide, by decide⟩,
   ⟨300, {}, st { up .run with spi := { replies := [{ reply := some {} }] } }, by decide, by decide, by decide⟩,
   ⟨1#8, st (up .run), by decide, by decide, by decide⟩⟩

theorem witness_ModeOpcodesComplete :
    (∃ rq : Request, ∃ s : State, Admitted 0x0102 { inPowerDown := true } rq s.chip ∧ arg rq 0 1 = 4 ∧
        s.chip.mode.role = .active ∧ s.chip.mode.mode = .ready ∧ s.chip.mode.stage = .none ∧ s.chip.mode.pend = none ∧
        ∃ p : PendMode, p = { mode := .run, cause := .hostRequest, since := s.chip.now, asked := [refOf rq s.chip], refs := [refOf rq s.chip] }) ∧
    (∃ rq : Request, ∃ s : State, Admitted 0x0103 { activeOnly := true } rq s.chip ∧ s.chip.mode.mode = .service ∧
        s.chip.mode.svcStop = none ∧ svcOff s.chip = true ∧ (arg rq 0 1 = 0 ∨ (arg rq 0 1 = 1 ∧ arg rq 1 1 ≤ 31 ∧
        arg rq 2 2 = 0xFFFF ∧ followsLeader s.chip (arg rq 1 1) = false))) :=
  ⟨⟨rq [4, 0, 0, 0], st (up .ready), by decide, by decide, by decide, by decide, by decide, by decide, _, rfl⟩,
   ⟨rq [0, 0, 0, 0], st (up .service), by decide, by decide, by decide, by decide, by decide⟩⟩

theorem witness_ModeChangesCommit :
    (∃ p : PendMode, ∃ s : State, s.chip.mode.pend = some p ∧ yardAlive s.chip = true ∧ isActive s.chip = true ∧
        rolesWait s.chip = false ∧ handFrozen s.chip = false ∧ p.since < s.chip.now ∧ ∃ u, u = commitPend s.chip p) ∧
    (∃ c : Cause, ∃ s : State, s.chip.mode.lockout = some c ∧ mayLock s.chip = true ∧ s.chip.pair.me.resumeAt = none ∧
        s.chip.mode.lockoutAt < s.chip.now ∧ ∃ u, u = commitLockout s.chip c) ∧
    (∃ s : State, s.chip.mode.mode = .hold ∧ isActive s.chip = true ∧ s.chip.mode.hostHold = false ∧
        s.chip.imgValid = true ∧ s.chip.fw.recovery = false ∧ critical s.chip = false ∧ s.chip.mode.stage = .none ∧
        s.chip.mode.pend = none ∧ s.chip.mode.lockout = none ∧ handFrozen s.chip = false) ∧
    (∃ k : Fin 16, ∃ convs : List Int, ∃ s : State, yardAlive s.chip = true ∧ s.chip.mode.mode = .run ∧
        isActive s.chip = true ∧ s.chip.mode.stage ≠ .handover ∧ watchesBus s.chip k = true ∧
        confirmed s.chip k convs = true ∧ s.chip.mode.pend = none) ∧
    (∃ s : State, sequences s.chip = true ∧ s.chip.mode.mode = .run ∧ s.chip.mode.pend = none ∧
        (s.chip.mode.shortSince.any fun t => t + s.chip.img.modes.shortfallTime * 1000 ≤ s.chip.now) = true ∧
        s.chip.energy.rectBlind = false ∧
        ((railsOf s.chip true).any fun k => (s.chip.rail k).state == .armed && !railFloor s.chip k) = true) ∧
    (∃ s : State, sequences s.chip = true ∧ s.chip.mode.mode = .bridge ∧ s.chip.mode.stage = .none ∧
        s.chip.mode.pend = none ∧ (s.chip.mode.dwellSince.any fun t => t + dwellTicks s.chip ≤ s.chip.now) = true) ∧
    (∃ s : State, sequences s.chip = true ∧ s.chip.mode.mode = .bridge ∧ s.chip.mode.stage = .handover ∧
        s.chip.mode.pend = none ∧ s.chip.book.queue = [] ∧ (railsOf s.chip true).all (handed s.chip) = true) ∧
    (∃ t0 : Nat, ∃ c : Cause, ∃ s : State, s.chip.mode.svcStop = some (t0, c) ∧ isActive s.chip = true ∧
        handFrozen s.chip = false ∧ svcOff s.chip = false ∧ t0 + s.chip.img.modes.stopTimeout * 1000 ≤ s.chip.now) :=
  ⟨⟨{}, st { upAt .ready with mode := { (upAt .ready).mode with pend := some {} } }, by decide, by decide, by decide, by decide, by decide, by decide, _, rfl⟩,
   ⟨.powerOn, st { upAt .run with mode := { (upAt .run).mode with lockout := some .powerOn } }, by decide, by decide, by decide, by decide, _, rfl⟩,
   ⟨st (upAt .hold), by decide, by decide, by decide, by decide, by decide, by decide, by decide, by decide, by decide, by decide⟩,
   ⟨0, [], st { up .run with img := { rails := [some { bus := true }], energy := { bridgeConfirm := 0 } }, rails := [{ state := .armed }] }, by decide, by decide, by decide, by decide, by decide, by decide, by decide⟩,
   ⟨st { upAt .run with mode := { mode := .run, target := .run, role := .active, shortSince := some 0 }, img := { rails := [some { bus := true }] }, rails := [{ state := .armed }] }, by decide, by decide, by decide, by decide, by decide, by decide⟩,
   ⟨st { upAt .bridge with mode := { mode := .bridge, target := .bridge, role := .active, dwellSince := some 0 } }, by decide, by decide, by decide, by decide, by decide⟩,
   ⟨st (upAt .bridge .handover), by decide, by decide, by decide, by decide, by decide, by decide⟩,
   ⟨0, .hostRequest, st { upAt .service with mode := { mode := .service, target := .service, role := .active, svcKind := 1, svcStop := some (0, .hostRequest) }, img := { chs := [{ role := 3 }] }, chs := [{ state := .on, main := .on }] }, by decide, by decide, by decide, by decide, by decide⟩⟩

theorem witness_SequenceStagesMoveOn :
    (∃ s : State, sequences s.chip = true ∧ stageDone s.chip = true) ∧
    (∃ s : State, sequences s.chip = true ∧ sourcesLeft s.chip = true ∧ s.chip.mode.srcDue ≤ s.chip.now) ∧
    (∃ s : State, sequences s.chip = true ∧ s.chip.mode.stage = .startSources ∧
        s.chip.mode.stageStart + s.chip.img.modes.startTimeout * 1000 ≤ s.chip.now ∧ stageDone s.chip = false) ∧
    (∃ s : State, sequences s.chip = true ∧
        s.chip.mode.stage ∈ [Stage.startStore, .startLoads, .stopLoads, .stopStore, .stopSources] ∧
        s.chip.mode.stageStart + stageBound s.chip ≤ s.chip.now ∧ stageDone s.chip = false) ∧
    (∃ st : Straps, ∃ good : Bool, ∃ s : State, yardAlive s.chip = true ∧ s.chip.mode.stage = .powerDown ∧
        flushed s.chip = true ∧ ∃ c : Chip, c = writeSummary good (writeCheckpoint s.chip) ∧ c.ostler.thermal = false) :=
  ⟨⟨st (upAt .run .startStore), by decide, by decide⟩,
   ⟨st { upAt .ready .startSources with img := { chs := [{ role := 1, autoOn := true }] } }, by decide, by decide, by decide⟩,
   ⟨st (upAt .ready .startSources), by decide, by decide, by decide, by decide⟩,
   ⟨st (upAt .run .startLoads), by decide, by decide, by decide, by decide⟩,
   ⟨{}, true, st (upAt .hold .powerDown), by decide, by decide, by decide, _, rfl, by decide⟩⟩

theorem witness_SuppliesAct :
    (∃ s : State, s.chip.mode.mode ≠ .off) ∧
    (∃ f : Feed, ∃ s : State, yardAlive s.chip = true ∧ bothLow (s.chip.modOst (setFeed f false)) = false) ∧
    (∃ f : Feed, ∃ s : State, s.chip.mode.mode ≠ .off ∧ bothLow (s.chip.modOst (setFeed f false)) = true) ∧
    (∃ f : Feed, ∃ st : Straps, ∃ s : State, s.chip.mode.mode = .off ∧ s.chip.ostler.waiting = true) ∧
    (∃ f : Feed, ∃ st : Straps, ∃ s : State, s.chip.mode.mode = .off ∧ s.chip.ostler.waiting = false ∧
        bothLow s.chip = true ∧ f ≠ .vka ∧ s.chip.ostler.rstn = false ∧
        (s.chip.ostler.offCause = .supplyLoss ∨ s.chip.ostler.deadStop = true)) ∧
    (∃ f : Feed, ∃ st : Straps, ∃ s : State, yardAlive s.chip = true) ∧
    (∃ st : Straps, ∃ s : State, s.chip.mode.mode = .off ∧ s.chip.ostler.alive = false) ∧
    (∃ s : State, yardAlive s.chip = true ∧ 3 ≤ s.chip.pair.me.noLink) ∧
    (∃ st : Straps, ∃ t0 : Nat, ∃ s : State, s.chip.mode.mode = .off ∧ s.chip.ostler.rewakeAt = some t0 ∧
        t0 ≤ s.chip.now ∧ s.chip.ostler.absences = []) ∧
    (∃ st : Straps, ∃ t0 : Nat, ∃ a : Nat, ∃ b : Nat, ∃ s : State, s.chip.mode.mode = .off ∧
        s.chip.ostler.rewakeAt = some t0 ∧ t0 ≤ s.chip.now ∧ s.chip.ostler.absences = [a, b] ∧
        s.chip.now < a + 600000000 ∧ s.chip.now < b + 600000000) ∧
    (∃ s : State, isPaired s.chip = true ∧ 1 ≤ s.chip.pair.me.noLink) ∧
    (∃ s : State, (isPaired s.chip = false ∨ s.chip.pair.me.noLink = 0)) :=
  ⟨⟨st (up .run), by decide⟩,
   ⟨.vina, st { up .run with ostler := { vinA := true, vinB := true } }, by decide, by decide⟩,
   ⟨.vina, st { up .run with ostler := { vinA := true } }, by decide, by decide⟩,
   ⟨.vina, {}, st (kept .off { alive := true, waiting := true }), by decide, by decide⟩,
   ⟨.vina, {}, st (kept .off { alive := true, offCause := .supplyLoss }), by decide, by decide, by decide, by decide, by decide, by decide⟩,
   ⟨.vina, {}, st (up .run), by decide⟩,
   ⟨{}, st (up .off), by decide, by decide⟩,
   ⟨st { up .run with pair := { me := { noLink := 3 } } }, by decide, by decide⟩,
   ⟨{}, 0, st (kept .off { rewakeAt := some 0 }), by decide, by decide, by decide, by decide⟩,
   ⟨{}, 0, 9999999999, 9999999999, st (kept .off { rewakeAt := some 0, absences := [9999999999, 9999999999] }), by decide, by decide, by decide, by decide, by decide, by decide⟩,
   ⟨st { up .run with strap := .a, pair := { me := { noLink := 3 } } }, by decide, by decide⟩,
   ⟨st (up .run), by decide⟩⟩

theorem witness_WakeStepsAdvance :
    (∃ s : State, s.chip.mode.mode ≠ .off) ∧
    (∃ st : Straps, ∃ s : State, s.chip.ostler.rstn = true) ∧
    (∃ lowNs : Nat, ∃ st : Straps, ∃ s : State, s.chip.ostler.alive = true ∧ 10000 ≤ lowNs ∧ lowNs < 2000000000) ∧
    (∃ s : State, s.chip.mode.mode = .wake ∧ s.chip.ostler.wakeTick ≠ some s.chip.now) ∧
    (∃ s : State, s.chip.mode.mode = .wake ∧ s.chip.ostler.wakeTick = some s.chip.now) ∧
    (∃ s : State, stepRuns s.chip = true ∧ s.chip.ostler.step ≤ 4 ∧ s.chip.ostler.offAsked = false ∧
        s.chip.now ≤ stepDeadline s.chip) ∧
    (∃ rc : Bool, ∃ s : State, stepRuns s.chip = true ∧ s.chip.ostler.step ≤ 3 ∧ s.chip.ostler.tries ≤ 3 ∧
        stepDeadline s.chip ≤ s.chip.now) ∧
    (∃ t0 : Nat, ∃ s : State, s.chip.mode.mode = .wake ∧ s.chip.ostler.discharge = some t0 ∧ t0 ≤ s.chip.now) ∧
    (∃ s : State, stepRuns s.chip = true ∧ s.chip.ostler.step = 7 ∧ s.chip.now ≤ stepDeadline s.chip ∧
        s.chip.ostler.offAsked = false) ∧
    (∃ st : Straps, ∃ t0 : Nat, ∃ s : State, s.chip.mode.mode = .off ∧ s.chip.ostler.deadStop = true ∧
        s.chip.ostler.retryDue = some t0 ∧ t0 ≤ s.chip.now ∧ s.chip.ostler.series < 5 ∧ canWake s.chip = true) :=
  ⟨⟨st (up .run), by decide⟩,
   ⟨{}, st (kept .off { rstn := true }), by decide⟩,
   ⟨10000, {}, st (kept .off { alive := true }), by decide, by decide, by decide⟩,
   ⟨st (up .wake), by decide, by decide⟩,
   ⟨st { up .wake with ostler := { wakeTick := some 0 } }, by decide, by decide⟩,
   ⟨st { up .wake with ostler := { step := 1 } }, by decide, by decide, by decide, by decide⟩,
   ⟨true, st (kept .wake { step := 2, tries := 1 }), by decide, by decide, by decide, by decide⟩,
   ⟨0, st (kept .wake { discharge := some 0 }), by decide, by decide, by decide⟩,
   ⟨st (kept .wake { step := 7, stepAt := 10000000000 }), by decide, by decide, by decide, by decide⟩,
   ⟨{}, 0, st (kept .off { alive := true, vinA := true, deadStop := true, retryDue := some 0 }), by decide, by decide, by decide, by decide, by decide, by decide⟩⟩

theorem witness_ResponderAnswersInOff :
    (∃ rq : Request, ∃ s : State, s.chip.mode.mode = .off ∧ s.chip.ostler.rxAwake = true ∧ rq.port = .tw ∧
        rq.params.length ≤ 248 ∧ rq.ver = 0x10#8) ∧
    (∃ rq : Request, ∃ s : State, s.chip.mode.mode = .off ∧ s.chip.ostler.rxAwake = true ∧ rq.port = .tw ∧
        rq.params.length ≤ 248 ∧ arg rq 1 1 ≤ 0x10 ∧ 0x10 ≤ arg rq 0 1) ∧
    (∃ rq : Request, ∃ s : State, s.chip.mode.mode = .off ∧ s.chip.ostler.rxAwake = true ∧ rq.port = .tw ∧
        rq.params.length ≤ 248 ∧ rq.ver = 0x10#8) ∧
    (∃ rq : Request, ∃ st : Straps, ∃ s : State, s.chip.mode.mode = .off ∧ s.chip.ostler.rxAwake = true ∧
        rq.port = .tw ∧ rq.params.length ≤ 248 ∧ rq.ver = 0x10#8 ∧ arg rq 0 1 = 0) ∧
    (∃ rq : Request, ∃ st : Straps, ∃ s : State, ∃ u : Chip, ∃ w : Chip, s.chip.mode.mode = .off ∧
        s.chip.ostler.rxAwake = true ∧ rq.port = .tw ∧ rq.params.length ≤ 248 ∧ rq.ver = 0x10#8 ∧
        (arg rq 0 1 = 2 ∨ arg rq 0 1 = 3) ∧ u = respondWith 0x10#8 rq.tag .accepted (le 4 (offWord s.chip)) s.chip ∧
        w = requestWake st (u.modOst fun o => { o with wakeTag := some rq.tag })) ∧
    (∃ rq : Request, ∃ st : Straps, ∃ s : State, s.chip.mode.mode = .off ∧ s.chip.ostler.rxAwake = true ∧
        rq.port = .tw ∧ rq.params.length ≤ 248 ∧ rq.ver = 0x10#8 ∧ arg rq 0 1 ≠ 0 ∧ arg rq 0 1 ≠ 2 ∧ arg rq 0 1 ≠ 3) ∧
    (∃ rq : Request, ∃ s : State, s.chip.mode.mode = .off ∧ s.chip.ostler.rxAwake = true ∧ rq.port = .tw ∧
        rq.params.length ≤ 248 ∧ rq.ver = 0x10#8 ∧ arg rq 0 1 = 0x0F ∧ arg rq 1 1 = 0) ∧
    (∃ rq : Request, ∃ op : Half, ∃ s : State, s.chip.mode.mode = .off ∧ s.chip.ostler.rxAwake = true ∧
        rq.port = .tw ∧ rq.params.length ≤ 248 ∧ rq.ver = 0x10#8 ∧ respTable op.toNat = false ∧
        inIndex op.toNat = true) ∧
    (∃ s : State, s.chip.mode.mode = .off ∧ s.chip.ostler.alive = true ∧ s.chip.ostler.rxAwake = false) ∧
    (∃ s : State, s.chip.mode.mode = .off ∧ s.chip.ostler.rxLast + 100000 ≤ s.chip.now) :=
  ⟨⟨rq [0, 0, 0, 0], st (kept .off { rxAwake := true }), by decide, by decide, by decide, by decide, by decide⟩,
   ⟨rq [0x10, 0x10, 0, 0], st (kept .off { rxAwake := true }), by decide, by decide, by decide, by decide, by decide, by decide⟩,
   ⟨rq [0, 0, 0, 0], st (kept .off { rxAwake := true }), by decide, by decide, by decide, by decide, by decide⟩,
   ⟨rq [0, 0, 0, 0], {}, st (kept .off { rxAwake := true }), by decide, by decide, by decide, by decide, by decide, by decide⟩,
   ⟨rq [2, 0, 0, 0], {}, st (kept .off { rxAwake := true }), _, _, by decide, by decide, by decide, by decide, by decide, by decide, rfl, rfl⟩,
   ⟨rq [4, 0, 0, 0], {}, st (kept .off { rxAwake := true }), by decide, by decide, by decide, by decide, by decide, by decide, by decide, by decide⟩,
   ⟨rq [0x0F, 0, 0, 0], st (kept .off { rxAwake := true }), by decide, by decide, by decide, by decide, by decide, by decide, by decide⟩,
   ⟨rq [0, 0, 0, 0], 4#16, st (kept .off { rxAwake := true }), by decide, by decide, by decide, by decide, by decide, by decide, by decide⟩,
   ⟨st (kept .off { alive := true }), by decide, by decide, by decide⟩,
   ⟨st (kept .off { rxAwake := true }), by decide, by decide⟩⟩

theorem witness_ClocksAndHeatAct :
    (∃ s : State, yardAlive s.chip = true ∧ s.chip.clk.degraded = false) ∧
    (∃ s : State, yardAlive s.chip = true ∧ s.chip.clk.degraded = true ∧ s.chip.ostler.xtalOk = none ∧
        s.chip.ostler.xtalNext ≤ s.chip.now) ∧
    (∃ t0 : Nat, ∃ s : State, yardAlive s.chip = true ∧ s.chip.clk.degraded = true ∧ s.chip.ostler.xtalOk = some t0 ∧
        t0 + 1000000 ≤ s.chip.now) ∧
    (∃ s : State, yardAlive s.chip = true ∧ s.chip.clk.degraded = false) ∧
    (∃ s : State, yardAlive s.chip = true ∧ s.chip.clk.degraded = true) ∧
    (∃ counts : List Nat, ∃ x : Sample, ∃ s : State, yardAlive s.chip = true ∧ s.chip.heat.next ≤ s.chip.now ∧
        ((List.range 8).all fun k => !(sensor s.chip k).top) = true ∧
        x = ((List.range 12).map fun k => (counts.getD k 0, sensorTemp k (counts.getD k 0)))) ∧
    (∃ s : State, yardAlive s.chip = true ∧ s.chip.heat.trimDue ≤ s.chip.now) ∧
    (∃ v : Int, ∃ st : Straps, ∃ s : State, s.chip.ostler.alive = true ∧ yardAlive s.chip = false ∧
        (v < 15000 ∨ s.chip.ostler.ts0 < 15000 ∨ (s.chip.mode.mode = .off ∧ s.chip.ostler.deadStop = true))) ∧
    (∃ v : Int, ∃ st : Straps, ∃ s : State, s.chip.ostler.alive = true ∧ yardAlive s.chip = false ∧
        ¬(s.chip.mode.mode = .off ∧ s.chip.ostler.deadStop = true) ∧ 15000 ≤ v ∧ 15000 ≤ s.chip.ostler.ts0) :=
  ⟨⟨st (up .run), by decide, by decide⟩,
   ⟨st { upAt .run with clk := { tick := 10000000000, degraded := true } }, by decide, by decide, by decide, by decide⟩,
   ⟨0, st { upAt .run with clk := { tick := 10000000000, degraded := true }, ostler := { xtalOk := some 0 } }, by decide, by decide, by decide, by decide⟩,
   ⟨st (up .run), by decide, by decide⟩,
   ⟨st { upAt .run with clk := { tick := 10000000000, degraded := true } }, by decide, by decide⟩,
   ⟨default, _, st (up .run), by decide, by decide, by decide, rfl⟩,
   ⟨st (up .run), by decide, by decide⟩,
   ⟨0, {}, st (kept .off { alive := true }), by decide, by decide, by decide⟩,
   ⟨15000, {}, st { up .wake with ostler := { alive := true, ts0 := 15000 } }, by decide, by decide, by decide, by decide, by decide⟩⟩

theorem witness_ChannelOpcodesRead :
    (∃ rq : Request, ∃ s : State, Admitted 0x0201 {} rq s.chip ∧ chChecks rq s.chip = none) ∧
    (∃ rq : Request, ∃ s : State, Admitted 0x0206 {} rq s.chip) ∧
    (∃ rq : Request, ∃ s : State, Admitted 0x0210 {} rq s.chip ∧ chChecks rq s.chip = none) ∧
    (∃ rq : Request, ∃ s : State, Admitted 0x0212 {} rq s.chip ∧ chChecks rq s.chip = none ∧
        hasCurve s.chip (arg rq 0 1) = true) ∧
    (∃ rq : Request, ∃ s : State, Admitted 0x0213 { lenLo := 8, lenHi := 8 } rq s.chip ∧ chChecks rq s.chip = none ∧
        hasCurve s.chip (arg rq 0 1) = true) :=
  ⟨⟨rq [0, 0, 0xFF, 0xFF], st { upAt .run with img := { chs := [{ role := 3 }] } }, by decide, by decide⟩,
   ⟨rq [0, 0, 0, 0], st (up .run), by decide⟩,
   ⟨rq [0, 0, 0xFF, 0xFF], st { upAt .run with img := { chs := [{ role := 3 }] } }, by decide, by decide⟩,
   ⟨rq [0, 0, 0xFF, 0xFF], st { upAt .run with img := { chs := [{ role := 3 }], brks := [{ rating := 1000 }] } }, by decide, by decide, by decide⟩,
   ⟨rq [0, 0, 0xFF, 0xFF, 0, 0, 0, 0], st { upAt .run with img := { chs := [{ role := 3 }], brks := [{ rating := 1000 }] } }, by decide, by decide, by decide⟩⟩

theorem witness_ChannelCommandsQueue :
    (∃ rq : Request, ∃ s : State, Admitted 0x0202 { activeOnly := true, queue := 1 } rq s.chip ∧
        inStop s.chip = false ∧ modeAdmitsOn s.chip = true ∧ chCmdChecks rq s.chip = none ∧
        (s.chip.chCfg (arg rq 0 1)).role ≠ 0 ∧ (s.chip.ch (arg rq 0 1)).disabled = false ∧
        (s.chip.ch (arg rq 0 1)).state = .off ∧ (s.chip.chQueue.any fun e => e.ch == arg rq 0 1) = false) ∧
    (∃ rq : Request, ∃ s : State, Admitted 0x0203 { activeOnly := true, queue := 1 } rq s.chip ∧
        chCmdChecks rq s.chip = none) ∧
    (∃ rq : Request, ∃ s : State, Admitted 0x0204 { activeOnly := true, queue := 1 } rq s.chip ∧
        chCmdChecks rq s.chip = none) ∧
    (∃ rq : Request, ∃ s : State, Admitted 0x0205 { activeOnly := true, queue := 1 } rq s.chip ∧
        chCmdChecks rq s.chip = none) ∧
    (∃ rq : Request, ∃ s : State, Admitted 0x0211 { activeOnly := true } rq s.chip ∧ chCmdChecks rq s.chip = none ∧
        boxRoom s.chip = true) :=
  ⟨⟨rq [0, 0, 0xFF, 0xFF], st { upAt .run with img := { chs := [{ role := 3 }] } }, by decide, by decide, by decide, by decide, by decide, by decide, by decide, by decide⟩,
   ⟨rq [0, 0, 0xFF, 0xFF], st { upAt .run with img := { chs := [{ role := 3 }] } }, by decide, by decide⟩,
   ⟨rq [0, 0, 0xFF, 0xFF], st { upAt .run with img := { chs := [{ role := 3 }] } }, by decide, by decide⟩,
   ⟨rq [0, 0, 0xFF, 0xFF], st { upAt .run with img := { chs := [{ role := 3 }] } }, by decide, by decide⟩,
   ⟨rq [0, 0, 0xFF, 0xFF], st { upAt .run with img := { chs := [{ role := 3 }] } }, by decide, by decide, by decide⟩⟩

theorem witness_RailOpcodesRead :
    (∃ rq : Request, ∃ s : State, Admitted 0x0301 {} rq s.chip ∧ arg rq 0 1 ≤ 15) ∧
    (∃ rq : Request, ∃ s : State, Admitted 0x0308 {} rq s.chip) ∧
    (∃ rq : Request, ∃ s : State, Admitted 0x0309 {} rq s.chip ∧ railChecks rq s.chip = none) :=
  ⟨⟨rq [15, 0, 0, 0], st (up .run), by decide, by decide⟩,
   ⟨rq [0, 0, 0, 0], st (up .run), by decide⟩,
   ⟨rq [0, 0, 0, 0], st { upAt .run with img := { rails := [some {}] } }, by decide, by decide⟩⟩

theorem witness_RailCommandsQueue :
    (∃ rq : Request, ∃ s : State, Admitted 0x0302 { activeOnly := true, queue := 2 } rq s.chip ∧
        inStop s.chip = false ∧ modeAdmitsOn s.chip = true ∧ railCmdChecks rq s.chip = none ∧
        (s.chip.rail (arg rq 0 1)).disabled = false ∧ (s.chip.rail (arg rq 0 1)).state = .off ∧
        (s.chip.railQueue.any fun e => e.rail == arg rq 0 1) = false) ∧
    (∃ rq : Request, ∃ s : State, Admitted 0x0303 { activeOnly := true, queue := 2 } rq s.chip ∧
        railCmdChecks rq s.chip = none) ∧
    (∃ rq : Request, ∃ s : State, Admitted 0x0304 { activeOnly := true, queue := 2 } rq s.chip ∧
        railCmdChecks rq s.chip = none) ∧
    (∃ rq : Request, ∃ s : State, Admitted 0x0305 { activeOnly := true, queue := 2 } rq s.chip ∧
        railCmdChecks rq s.chip = none) ∧
    (∃ rq : Request, ∃ s : State, Admitted 0x0306 { lenLo := 8, lenHi := 8, activeOnly := true, queue := 2 } rq s.chip ∧
        svcOtherRail s.chip (arg rq 0 1) = false ∧ 1 ≤ arg rq 1 1 ∧ arg rq 1 1 ≤ 3 ∧ railChecks rq s.chip = none ∧
        railSetInRange s.chip (arg rq 0 1) (arg rq 1 1) (fieldI rq.params 4 4) = true ∧
        railSetAdmits s.chip (arg rq 0 1) (arg rq 1 1) = true ∧ (s.chip.rail (arg rq 0 1)).disabled = false) ∧
    (∃ rq : Request, ∃ s : State, Admitted 0x0307 { activeOnly := true } rq s.chip ∧ railCmdChecks rq s.chip = none ∧
        boxRoom s.chip = true) :=
  ⟨⟨rq [0, 0, 0, 0], st { upAt .run with img := { rails := [some {}] } }, by decide, by decide, by decide, by decide, by decide, by decide, by decide⟩,
   ⟨rq [0, 0, 0, 0], st { upAt .run with img := { rails := [some {}] } }, by decide, by decide⟩,
   ⟨rq [0, 0, 0, 0], st { upAt .run with img := { rails := [some {}] } }, by decide, by decide⟩,
   ⟨rq [0, 0, 0, 0], st { upAt .run with img := { rails := [some {}] } }, by decide, by decide⟩,
   ⟨rq [0, 1, 0, 0, 0, 4, 0, 0], st { upAt .run with img := { rails := [some {}] } }, by decide, by decide, by decide, by decide, by decide, by decide, by decide, by decide⟩,
   ⟨rq [0, 0, 0, 0], st { upAt .run with img := { rails := [some {}] } }, by decide, by decide, by decide⟩⟩

theorem witness_EnergyOpcodesComplete :
    (∃ rq : Request, ∃ s : State, Admitted 0x0401 {} rq s.chip) ∧
    (∃ rq : Request, ∃ s : State, Admitted 0x0404 {} rq s.chip) ∧
    (∃ rq : Request, ∃ s : State, Admitted 0x0405 {} rq s.chip ∧ (s.chip.chCfg (arg rq 0 1)).role = 1 ∧
        chChecks rq s.chip = none) ∧
    (∃ rq : Request, ∃ s : State, Admitted 0x0402 { lenLo := 8, lenHi := 8, activeOnly := true, queue := 3 } rq s.chip ∧
        arg rq 0 1 = 0 ∧ capInRange (arg rq 4 4) = true ∧
        ∃ u, u = (queueEnergy (taken 0x0402 rq s.chip) (.cap false (arg rq 4 4) (refOf rq s.chip)))) ∧
    (∃ rq : Request, ∃ s : State, Admitted 0x0402 { lenLo := 8, lenHi := 8, activeOnly := true, queue := 3 } rq s.chip ∧
        arg rq 0 1 = 1 ∧ capInRange (arg rq 4 4) = true ∧ isRoot s.chip = true ∧
        ∃ u, u = (queueEnergy (taken 0x0402 rq s.chip) (.cap true (arg rq 4 4) (refOf rq s.chip)))) ∧
    (∃ rq : Request, ∃ m : ChargeMode, ∃ s : State, Admitted 0x0403 { lenLo := 8, lenHi := 8, activeOnly := true, queue := 3 } rq s.chip ∧
        arg rq 0 1 = m.code ∧ (m = ChargeMode.limit → arg rq 4 4 ≤ s.chip.img.caps.chargePMax) ∧
        ∃ u, u = (queueEnergy (taken 0x0403 rq s.chip) (.chargeMode m (if m = ChargeMode.limit then some (arg rq 4 4) else none) (refOf rq s.chip)))) :=
  ⟨⟨rq [0, 0, 0, 0], st (up .run), by decide⟩,
   ⟨rq [0, 0, 0, 0], st (up .run), by decide⟩,
   ⟨rq [0, 0, 0xFF, 0xFF], st { upAt .run with img := { chs := [{ role := 1 }] } }, by decide, by decide, by decide⟩,
   ⟨rq [0, 0, 0, 0, 0, 0, 0, 0], st (up .run), by decide, by decide, by decide, _, rfl⟩,
   ⟨rq [1, 0, 0, 0, 0, 0, 0, 0], st rootChip, by decide, by decide, by decide, by decide, _, rfl⟩,
   ⟨rq [2, 0, 0, 0, 0, 0, 0, 0], ChargeMode.limit, st (up .run), by decide, by decide, by decide, _, rfl⟩⟩

theorem witness_LinkOpcodesComplete :
    (∃ rq : Request, ∃ s : State, Admitted 0x0410 {} rq s.chip ∧ linkChecks rq s.chip = none) ∧
    (∃ rq : Request, ∃ s : State, Admitted 0x0411 {} rq s.chip) ∧
    (∃ rq : Request, ∃ s : State, Admitted 0x0412 { activeOnly := true } rq s.chip ∧ linkChecks rq s.chip = none ∧
        ∃ u, u = (llDisable (taken 0x0412 rq s.chip) (arg rq 0 1))) ∧
    (∃ rq : Request, ∃ s : State, Admitted 0x0413 { activeOnly := true } rq s.chip ∧ linkChecks rq s.chip = none ∧
        ∃ u, u = (linkDown ((taken 0x0413 rq s.chip).modLink (arg rq 0 1) fun l => { l with disabled := false }) (arg rq 0 1))) :=
  ⟨⟨rq [0, 0, 0, 0], st { upAt .run with img := { links := [some {}] } }, by decide, by decide⟩,
   ⟨rq [0, 0, 0, 0], st (up .run), by decide⟩,
   ⟨rq [0, 0, 0, 0], st { upAt .run with img := { links := [some {}] } }, by decide, by decide, _, rfl⟩,
   ⟨rq [0, 0, 0, 0], st { upAt .run with img := { links := [some {}] } }, by decide, by decide, _, rfl⟩⟩

theorem witness_BatteryOpcodesComplete :
    (∃ rq : Request, ∃ s : State, Admitted 0x0501 {} rq s.chip ∧ batChecks rq s.chip = none) ∧
    (∃ rq : Request, ∃ s : State, Admitted 0x0502 {} rq s.chip) ∧
    (∃ rq : Request, ∃ s : State, Admitted 0x0503 { activeOnly := true } rq s.chip ∧ batChecks rq s.chip = none ∧
        (s.chip.bat (arg rq 0 1)).admState = .admitted ∧ ∃ u, u = (taken 0x0503 rq s.chip)) ∧
    (∃ rq : Request, ∃ s : State, Admitted 0x0503 { activeOnly := true } rq s.chip ∧ batChecks rq s.chip = none ∧
        (s.chip.bat (arg rq 0 1)).admState ≠ .admitted ∧ (s.chip.bat (arg rq 0 1)).admState ≠ .identifying ∧
        ∃ u, u = ((startAdmission (reseat (taken 0x0503 rq s.chip) (arg rq 0 1)) (arg rq 0 1)).modBat (arg rq 0 1) fun b => { b with admitRefs := b.admitRefs ++ [refOf rq s.chip] })) ∧
    (∃ rq : Request, ∃ s : State, Admitted 0x0504 { activeOnly := true } rq s.chip ∧ batChecks rq s.chip = none ∧
        slotAdmitted s.chip (arg rq 0 1) = true ∧ slotBridging s.chip (arg rq 0 1) = false ∧
        ∃ u, u = ((releaseRail (taken 0x0504 rq s.chip) (railOf s.chip (arg rq 0 1))).modBat (arg rq 0 1) fun b => { b with releasing := true, releaseRefs := b.releaseRefs ++ [refOf rq s.chip] })) ∧
    (∃ rq : Request, ∃ s : State, Admitted 0x0505 {} rq s.chip ∧ batChecks rq s.chip = none) ∧
    (∃ rq : Request, ∃ p : Profile, ∃ s : State, Admitted 0x0506 {} rq s.chip ∧
        profileOf s.chip (arg rq 0 2) = some p ∧ arg rq 2 1 = 0) :=
  ⟨⟨rq [0, 0, 0, 0], st { upAt .run with img := { bats := [some {}] } }, by decide, by decide⟩,
   ⟨rq [0, 0, 0, 0], st (up .run), by decide⟩,
   ⟨rq [0, 0, 0, 0], st { upAt .run with img := { bats := [some {}] }, bats := [{ admState := .admitted }] }, by decide, by decide, by decide, _, rfl⟩,
   ⟨rq [0, 0, 0, 0], st { upAt .run with img := { bats := [some {}] } }, by decide, by decide, by decide, by decide, _, rfl⟩,
   ⟨rq [0, 0, 0, 0], st { upAt .run with img := { bats := [some {}] }, bats := [{ admState := .admitted }] }, by decide, by decide, by decide, by decide, _, rfl⟩,
   ⟨rq [0, 0, 0, 0], st { upAt .run with img := { bats := [some {}] } }, by decide, by decide⟩,
   ⟨rq [0, 0, 0, 0], {}, st { upAt .run with img := { profiles := [{}] } }, by decide, by decide, by decide⟩⟩

theorem witness_MeterAndLedgerOpcodesRead :
    (∃ rq : Request, ∃ s : State, Admitted 0x0601 {} rq s.chip ∧ isObject (arg rq 0 1) = true ∧ arg rq 1 1 ≤ 1) ∧
    (∃ rq : Request, ∃ s : State, Admitted 0x0602 {} rq s.chip ∧ isObject (arg rq 0 1) = true ∧ 1 ≤ arg rq 1 1 ∧
        arg rq 0 1 + arg rq 1 1 ≤ 44 ∧ arg rq 1 1 ≤ unitsThatFit rq.port 0 16) ∧
    (∃ rq : Request, ∃ s : State, Admitted 0x0603 {} rq s.chip) ∧
    (∃ rq : Request, ∃ s : State, Admitted 0x0610 {} rq s.chip) ∧
    (∃ rq : Request, ∃ last : Nat, ∃ s : State, Admitted 0x0611 { lenLo := 8, lenHi := 8 } rq s.chip ∧
        lastCommitted s.chip.ledger = some last ∧ arg rq 0 4 ≤ last ∧ arg rq 4 2 ≠ 0 ∧
        ∃ es, es = entriesThatFit (s.chip.ledger.entries.filter fun e => arg rq 0 4 ≤ e.seq) (portLimit rq.port - 4) (arg rq 4 2) ∧
        entriesBad s.chip (s.chip.ledger.entries.filter fun e => arg rq 0 4 ≤ e.seq) es.length = false) ∧
    (∃ rq : Request, ∃ last : Nat, ∃ s : State, Admitted 0x0612 {} rq s.chip ∧
        lastCommitted s.chip.ledger = some last ∧ arg rq 0 4 ≤ last ∧ isAcked s.chip.ledger (arg rq 0 4) = true) ∧
    (∃ rq : Request, ∃ last : Nat, ∃ s : State, Admitted 0x0612 {} rq s.chip ∧
        lastCommitted s.chip.ledger = some last ∧ arg rq 0 4 ≤ last ∧ isAcked s.chip.ledger (arg rq 0 4) = false ∧
        ∃ u, u = nearFullStep (writePos (taken 0x0612 rq s.chip) { s.chip.ledger.pos with ack := some (arg rq 0 4) })) ∧
    (∃ rq : Request, ∃ s : State, Admitted 0x0612 {} rq s.chip ∧
        ((lastCommitted s.chip.ledger).all fun last => last < arg rq 0 4) = true) ∧
    (∃ rq : Request, ∃ s : State, Admitted 0x0613 { lenLo := 16, lenHi := 16 } rq s.chip) ∧
    (∃ (a : AttestReq) (rest : List AttestReq) (s : Chip), s.ledger.attests = a :: rest) ∧
    (∃ rq : Request, ∃ s : State, Admitted 0x0614 { activeOnly := true } rq s.chip ∧ meteringRuns s.chip = true) :=
  ⟨⟨rq [43, 0, 0, 0], st (up .run), by decide, by decide, by decide⟩,
   ⟨rq [43, 1, 0, 0], st (up .run), by decide, by decide, by decide, by decide, by decide⟩,
   ⟨rq [0, 0, 0, 0], st (up .run), by decide⟩,
   ⟨rq [0, 0, 0, 0], st (up .run), by decide⟩,
   ⟨rq [0, 0, 0, 0, 1, 0, 0, 0], 0, st { up .run with ledger := { entries := [{}] } }, by decide, by decide, by decide, by decide, _, rfl, by decide⟩,
   ⟨rq [0, 0, 0, 0], 0, st { up .run with ledger := { entries := [{}], pos := { ack := some 0 } } }, by decide, by decide, by decide, by decide⟩,
   ⟨rq [0, 0, 0, 0], 0, st { up .run with ledger := { entries := [{}] } }, by decide, by decide, by decide, by decide, _, rfl⟩,
   ⟨rq [0, 0, 0, 0], st (up .run), by decide, by decide⟩,
   ⟨rq (List.replicate 16 0), st (up .run), by decide⟩,
   ⟨{ ref := {} }, [], { up .run with ledger := { attests := [{ ref := {} }] } }, rfl⟩,
   ⟨rq [0, 0, 0, 0], st (upAt .run), by decide, by decide⟩⟩

theorem witness_ChannelPresenceAndTimers :
    (∃ v : Chip, ∃ w : Chip, ∃ ch : Fin 32, ∃ s : State, v = s.chip.modCh ch (fun c => { c with present := true, cut := false }) ∧
        w = ((slotOfCh v ch).map fun j => v.modBat j fun b => { b with closed := false }).getD v ∧
        presenceIgnored s.chip ch = false ∧ studioRuns w = false) ∧
    (∃ v : Chip, ∃ w : Chip, ∃ u : Chip, ∃ ch : Fin 32, ∃ s : State, v = s.chip.modCh ch (fun c => { c with present := true, cut := false }) ∧
        w = ((slotOfCh v ch).map fun j => v.modBat j fun b => { b with closed := false }).getD v ∧
        presenceIgnored s.chip ch = false ∧ studioRuns w = true ∧ u = insertStart (post w 0x02 (chBody w ch 2) []) ch) ∧
    (∃ u : Chip, ∃ v : Chip, ∃ ch : Fin 32, ∃ s : State, u = (members s.chip ch).foldl (fun u m => u.modCh m fun c => { c with present := false, main := .off, pre := .off, pull := .strong }) s.chip ∧
        v = (if stableActs u then u.modCh ch fun c => { c with cut := true } else u) ∧
        presenceIgnored s.chip ch = false ∧ studioRuns v = false) ∧
    (∃ u : Chip, ∃ v : Chip, ∃ w : Chip, ∃ ch : Fin 32, ∃ s : State, u = (members s.chip ch).foldl (fun u m => u.modCh m fun c => { c with present := false, main := .off, pre := .off, pull := .strong }) s.chip ∧
        v = (if stableActs u then u.modCh ch fun c => { c with cut := true } else u) ∧
        presenceIgnored s.chip ch = false ∧ studioRuns v = true ∧
        w = post (removeChannel v ch) 0x02 (chBody (removeChannel v ch) ch 3) []) ∧
    (∃ ch : Fin 32, ∃ s : State, (s.chip.ch ch).insertDue.any (fun d => decide (d ≤ s.chip.now)) = true ∧
        (s.chip.ch ch).state = .waitPresent ∧ (s.chip.ch ch).stageWait = false ∧ isPresent s.chip ch = true ∧
        admitsCh s.chip ch = true ∧ rolesWait s.chip = false) ∧
    (∃ ch : Fin 32, ∃ s : State, (s.chip.ch ch).state = .cooling ∧ heatRearmed s.chip ch = true ∧
        rolesWait s.chip = false) ∧
    (∃ ch : Fin 32, ∃ s : State, (s.chip.ch ch).state = .precharge ∧
        (s.chip.chCfg ch).primerTimeout * 1000 ≤ s.chip.now - (s.chip.ch ch).t0) ∧
    (∃ ch : Fin 32, ∃ s : State, (s.chip.ch ch).state = .closing ∧
        (s.chip.chCfg ch).closeTimeout ≤ s.chip.now - (s.chip.ch ch).t1) ∧
    (∃ ch : Fin 32, ∃ s : State, (s.chip.ch ch).overlapEnd.any (fun d => decide (d ≤ s.chip.now)) = true) ∧
    (∃ ch : Fin 32, ∃ s : State, (s.chip.ch ch).state = .limiting ∧
        (s.chip.chCfg ch).ksFaultTime * 1000 ≤ (s.chip.ch ch).ksTimer) :=
  ⟨⟨_, _, 0, st { up .off with img := { chs := [{ role := 3 }] } }, rfl, rfl, by decide, by decide⟩,
   ⟨_, _, _, 0, st { up .run with img := { chs := [{ role := 3 }] } }, rfl, rfl, by decide, by decide, rfl⟩,
   ⟨_, _, 0, st { up .off with img := { chs := [{ role := 3 }] } }, rfl, rfl, by decide, by decide⟩,
   ⟨_, _, _, 0, st { up .run with img := { chs := [{ role := 3 }] } }, rfl, rfl, by decide, by decide, rfl⟩,
   ⟨0, st { up .run with imgValid := true, img := { chs := [{ role := 3 }] }, chs := [{ state := .waitPresent, insertDue := some 0, present := true }] }, by decide, by decide, by decide, by decide, by decide, by decide⟩,
   ⟨0, st { up .run with imgValid := true, img := { chs := [{ role := 3 }] }, chs := [{ state := .cooling }] }, by decide, by decide, by decide⟩,
   ⟨0, st { up .run with imgValid := true, img := { chs := [{ role := 3 }] }, chs := [{ state := .precharge }], clk := { tick := 10000000000 } }, by decide, by decide⟩,
   ⟨0, st { up .run with imgValid := true, img := { chs := [{ role := 3 }] }, chs := [{ state := .closing }], clk := { tick := 10000000000 } }, by decide, by decide⟩,
   ⟨0, st { up .run with imgValid := true, img := { chs := [{ role := 3 }] }, chs := [{ state := .on, overlapEnd := some 0 }] }, by decide⟩,
   ⟨0, st { up .run with imgValid := true, img := { chs := [{ role := 3 }] }, chs := [{ state := .limiting, ksTimer := 1000000000000 }] }, by decide, by decide⟩⟩

theorem witness_BreakerEventsAct :
    (∃ k : Nat, ∃ ch : Fin 32, ∃ s : State, k = leaderOf s.chip ch ∧ stableActs s.chip = true) ∧
    (∃ k : Nat, ∃ ch : Fin 32, ∃ s : State, k = leaderOf s.chip ch ∧ studioRuns s.chip = true ∧
        driverOn (s.chip.ch k) = true) ∧
    (∃ k : Nat, ∃ ch : Fin 32, ∃ s : State, k = leaderOf s.chip ch ∧ studioRuns s.chip = true ∧
        driverOn (s.chip.ch k) = true) ∧
    (∃ ch : Fin 32, ∃ s : State, (s.chip.ch ch).state = .tripped ∧
        (s.chip.ch ch).brk.due.any (fun d => decide (d ≤ s.chip.now)) = true ∧ (s.chip.ch ch).intentOn = true ∧
        admitsCh s.chip ch = true ∧ isPresent s.chip ch = true ∧ rolesWait s.chip = false) ∧
    (∃ ch : Fin 32, ∃ s : State, (s.chip.ch ch).state = .on ∧
        (s.chip.ch ch).brk.onSince.any (fun t => decide (t + (s.chip.brkCfg ch).retryReset * 1000000 ≤ s.chip.now)) = true) :=
  ⟨⟨_, 0, st (up .run), rfl, by decide⟩,
   ⟨_, 0, st { up .run with imgValid := true, img := { chs := [{ role := 3 }] }, chs := [{ state := .on, main := .on }] }, rfl, by decide, by decide⟩,
   ⟨_, 0, st { up .run with imgValid := true, img := { chs := [{ role := 3 }] }, chs := [{ state := .on, main := .on }] }, rfl, by decide, by decide⟩,
   ⟨0, st { up .run with imgValid := true, img := { chs := [{ role := 3 }] }, chs := [{ state := .tripped, brk := { due := some 0 }, intentOn := true, present := true }] }, by decide, by decide, by decide, by decide, by decide, by decide⟩,
   ⟨0, st { up .run with imgValid := true, img := { chs := [{ role := 3 }] }, chs := [{ state := .on, brk := { onSince := some 0 } }], clk := { tick := 10000000000 } }, by decide, by decide⟩⟩

theorem witness_RailEventsAct :
    (∃ v : Chip, ∃ r : Fin 16, ∃ s : State, (s.chip.rail r).state = .wait ∧ railMayStart s.chip r = true ∧
        v = s.chip.modRail r (fun x => { x with stageWait := false, lp := { x.lp with ref := if (s.chip.railCfg r).bus then 0 else x.lp.vRail, eI1 := 0, trims := List.replicate (phases (s.chip.railCfg r)) 0, trimSat := List.replicate (phases (s.chip.railCfg r)) 0, balNext := s.chip.now + (s.chip.prot r).balPeriod } })) ∧
    (∃ r : Fin 16, ∃ s : State, 10 ≤ (s.chip.rail r).uvTicks ∧ railLive (s.chip.rail r) = true) ∧
    (∃ r : Fin 16, ∃ s : State, (s.chip.railCfg r).bus = false ∧ railLive (s.chip.rail r) = true ∧
        (s.chip.rail r).limSince.any (fun t => decide (t + (s.chip.prot r).ocLatch ≤ s.chip.now)) = true) ∧
    (∃ r : Fin 16, ∃ phase : Fin 12, ∃ a : Int, ∃ b : Int, ∃ s : State, (s.chip.railCfg? r).isSome = true ∧
        phase.val < phases (s.chip.railCfg r) ∧ railLive (s.chip.rail r) = true ∧
        (s.chip.prot r).phOc < (phaseCurrent (s.chip.railCfg r) a).natAbs ∧
        (s.chip.prot r).phOc < (phaseCurrent (s.chip.railCfg r) b).natAbs) ∧
    (∃ r : Fin 16, ∃ s : State, 2 ≤ (s.chip.rail r).ovTicks ∧ railLive (s.chip.rail r) = true) ∧
    (∃ tr : List Int, ∃ sat : List Nat, ∃ r : Fin 16, ∃ s : State, tr = (List.range (phases (s.chip.railCfg r))).map (fun i => trimStep (s.chip.prot r) (phases (s.chip.railCfg r)) ((s.chip.rail r).lp.iRail - phases (s.chip.railCfg r) * tget (s.chip.rail r).lp.iPh i) (tget (s.chip.rail r).lp.trims i)) ∧
        sat = (List.range (phases (s.chip.railCfg r))).map (fun i => if (tget tr i).natAbs = (s.chip.prot r).balTrimMax then tget (s.chip.rail r).lp.trimSat i + 1 else 0) ∧
        balances s.chip r = true ∧ (s.chip.rail r).lp.balNext ≤ s.chip.now ∧
        (sat.any fun c => decide (1000 ≤ c)) = true) ∧
    (∃ tr : List Int, ∃ sat : List Nat, ∃ r : Fin 16, ∃ s : State, tr = (List.range (phases (s.chip.railCfg r))).map (fun i => trimStep (s.chip.prot r) (phases (s.chip.railCfg r)) ((s.chip.rail r).lp.iRail - phases (s.chip.railCfg r) * tget (s.chip.rail r).lp.iPh i) (tget (s.chip.rail r).lp.trims i)) ∧
        sat = (List.range (phases (s.chip.railCfg r))).map (fun i => if (tget tr i).natAbs = (s.chip.prot r).balTrimMax then tget (s.chip.rail r).lp.trimSat i + 1 else 0) ∧
        balances s.chip r = true ∧ (s.chip.rail r).lp.balNext ≤ s.chip.now ∧
        (sat.any fun c => decide (1000 ≤ c)) = false) ∧
    (∃ r : Fin 16, ∃ s : State, (s.chip.rail r).state = .on ∧ (s.chip.aux r).burstEnable = true ∧
        (s.chip.railCfg r).bus = false ∧
        (s.chip.rail r).lowSince.any (fun t => decide (t + (s.chip.aux r).burstDwell * 1000 ≤ s.chip.now)) = true) ∧
    (∃ r : Fin 16, ∃ t : Nat, ∃ s : State, (s.chip.rail r).sleepSince = some t ∧ (s.chip.rail r).state = .burst ∧
        ((s.chip.rail r).lp.vRail ≤ ((s.chip.rail r).vTarget : Int) * 1000 - 1000 * (s.chip.aux r).burstLow ∨ t + (s.chip.aux r).burstSleep ≤ s.chip.now)) ∧
    (∃ t : Int, ∃ w : Chip, ∃ x : Chip, ∃ r : Fin 16, ∃ s : State, (s.chip.railCfg? r).isSome = true ∧
        (s.chip.aux r).tempIn ≠ 0xFF ∧ (tget s.chip.hk (s.chip.aux r).tempIn).taken = true ∧
        t = rdiv (((tget s.chip.hk (s.chip.aux r).tempIn).uV - (s.chip.aux r).tempOffset) * 100) (s.chip.aux r).tempSlope ∧
        (t < -4000 ∨ 17500 < t) ∧ railLive (s.chip.rail r) = true ∧ (s.chip.rail r).tempNext ≤ s.chip.now ∧
        w = (evalFault (s.chip.modRail r fun y => { y with tempNext := s.chip.now + 1000 }) (railSource 7 r) true).modRail r (fun y => { y with temp := some t, tempBad := true, tempOk := none, otWarn := true, otSd := true }) ∧
        x = evalFault (evalFault w (railSource 5 r) true) (railSource 6 r) true) ∧
    (∃ t : Int, ∃ w : Chip, ∃ x : Chip, ∃ r : Fin 16, ∃ s : State, (s.chip.railCfg? r).isSome = true ∧
        (s.chip.aux r).tempIn ≠ 0xFF ∧ (tget s.chip.hk (s.chip.aux r).tempIn).taken = true ∧
        t = rdiv (((tget s.chip.hk (s.chip.aux r).tempIn).uV - (s.chip.aux r).tempOffset) * 100) (s.chip.aux r).tempSlope ∧
        ¬ (t < -4000) ∧ ¬ (17500 < t) ∧ (s.chip.rail r).otWarn = false ∧ (s.chip.rail r).otSd = false ∧
        (s.chip.rail r).tempBad = false ∧ t < (s.chip.aux r).otWarnSet ∧ t < (s.chip.aux r).otSdSet ∧
        (s.chip.rail r).state ≠ .otStop ∧ (s.chip.rail r).tempNext ≤ s.chip.now ∧
        w = (evalFault (s.chip.modRail r fun y => { y with tempNext := s.chip.now + 1000 }) (railSource 7 r) false).modRail r (fun y => { y with temp := some t, tempBad := false, tempOk := some ((s.chip.rail r).tempOk.getD s.chip.now), otWarn := false, otSd := false }) ∧
        x = evalFault (evalFault w (railSource 5 r) false) (railSource 6 r) false) :=
  ⟨⟨_, 0, st { up .run with imgValid := true, img := { rails := [some { autoOn := true }], prots := [{ inUv := 0, inUvHyst := 0 }] }, rails := [{ state := .wait, intentOn := true }] }, by decide, by decide, rfl⟩,
   ⟨0, st { up .run with imgValid := true, img := { rails := [some {}] }, rails := [{ state := .on, uvTicks := 10 }] }, by decide, by decide⟩,
   ⟨0, st { up .run with imgValid := true, img := { rails := [some {}] }, rails := [{ state := .on, limSince := some 0 }], clk := { tick := 10000000000 } }, by decide, by decide, by decide⟩,
   ⟨0, 0, 10000000, 10000000, st { up .run with imgValid := true, img := { rails := [some { lanes := 2 }] }, rails := [{ state := .on }] }, by decide, by decide, by decide, by decide, by decide⟩,
   ⟨0, st { up .run with imgValid := true, img := { rails := [some {}] }, rails := [{ state := .on, ovTicks := 2 }] }, by decide, by decide⟩,
   ⟨_, _, 0, st { up .run with imgValid := true, img := { rails := [some { lanes := 2 }], prots := [{ balMinI := 0, balTrimMax := 0 }] }, rails := [{ state := .on, lp := { switching := true, trimSat := [999] } }] }, rfl, rfl, by decide, by decide, by decide⟩,
   ⟨_, _, 0, st { up .run with imgValid := true, img := { rails := [some { lanes := 2 }], prots := [{ balMinI := 0, balTrimMax := 0 }] }, rails := [{ state := .on, lp := { switching := true, trimSat := [0] } }] }, rfl, rfl, by decide, by decide, by decide⟩,
   ⟨0, st { up .run with imgValid := true, img := { rails := [some {}], auxs := [{ burstEnable := true }] }, rails := [{ state := .on, lowSince := some 0 }], clk := { tick := 10000000 } }, by decide, by decide, by decide, by decide⟩,
   ⟨0, 0, st { up .run with imgValid := true, img := { rails := [some {}] }, rails := [{ state := .burst, sleepSince := some 0 }], clk := { tick := 10000000000 } }, by decide, by decide, by decide⟩,
   ⟨_, _, _, 0, st { up .run with imgValid := true, img := { rails := [some {}], auxs := [{ tempIn := 0, tempSlope := 1 }] }, rails := [{ state := .on }], hk := [{ taken := true, uV := 1000000 }] }, by decide, by decide, by decide, rfl, by decide, by decide, by decide, rfl, rfl⟩,
   ⟨_, _, _, 0, st { up .run with imgValid := true, img := { rails := [some {}], auxs := [{ tempIn := 0, tempSlope := 1, otWarnSet := 9000, otSdSet := 12000 }] }, rails := [{ state := .on }], hk := [{ taken := true, uV := 600000 }] }, by decide, by decide, by decide, rfl, by decide, by decide, by decide, by decide, by decide, by decide, by decide, by decide, by decide, rfl, rfl⟩⟩

theorem witness_EnergyEventsAct :
    (∃ u : Chip, ∃ s : State, yardWorks s.chip = true ∧ s.chip.imgValid = true ∧ handFrozen s.chip = false ∧
        s.chip.book.nextStep ≤ s.chip.now ∧
        u = capCounts (storeMarks (energyFaults (rectAvail (formQuantities { s.chip with book := { s.chip.book with nextStep := s.chip.now + 1000 } }))))) ∧
    (∃ u : Chip, ∃ s : State, yardWorks s.chip = true ∧ s.chip.imgValid = true ∧ s.chip.book.nextWeight ≤ s.chip.now ∧
        u = formPools (forEach 12 (fun j c => applyEUse c j) { s.chip with book := { s.chip.book with nextWeight := s.chip.now + s.chip.img.energy.weightPeriod * 1000 } })) ∧
    (∃ s : State, s.chip.book.capOver = false ∧
        s.chip.book.overSince.any (fun t => decide (t + s.chip.img.caps.capGrace * 1000 ≤ s.chip.now)) = true) ∧
    (∃ s : State, s.chip.book.capOver = true ∧
        s.chip.book.underSince.any (fun t => decide (t + s.chip.img.caps.capGrace * 1000 ≤ s.chip.now)) = true) ∧
    (∃ u : Chip, ∃ s : State, polls s.chip = true ∧ s.chip.dsPoll.statusNext ≤ s.chip.now ∧
        u = { s.chip with dsPoll := { s.chip.dsPoll with statusNext := s.chip.now + s.chip.img.energy.rectStatusPeriod * 1000 } }) ∧
    (∃ u : Chip, ∃ s : State, polls s.chip = true ∧ s.chip.dsPoll.modeNext ≤ s.chip.now ∧
        u = { s.chip with dsPoll := { s.chip.dsPoll with modeNext := s.chip.now + 1000000 } }) ∧
    (∃ u : Chip, ∃ w : Chip, ∃ ch : Fin 32, ∃ s : State, (s.chip.chCfg ch).role = 1 ∧ (s.chip.ch ch).state = .on ∧
        ageOut s.chip ch = true ∧ (s.chip.rect ch).aged = false ∧
        u = evalFault (s.chip.modRect ch fun r => { r with aged := true }) (0x0520 + ch) true ∧
        w = energyEvent (u.modRect ch fun r => { r with avail := false, sharing := false }) ((u.rect ch).avail) 4 ch) ∧
    (∃ u : Chip, ∃ n : Nat, ∃ s : State, u = clearSent s.chip ∧ capMember u = true ∧ n = u.hall / capPeriod ∧
        (u.net.cap.open_ && u.net.cap.round == n) = false) ∧
    (∃ u : Chip, ∃ s : State, u = clearSent s.chip ∧ capMember u = true ∧ u.net.cap.open_ = true ∧
        u.net.cap.sent = false ∧ u.net.cap.start + capReportBy ≤ u.hall) ∧
    (∃ u : Chip, ∃ a : Nat × Nat, ∃ s : State, capMember s.chip = true ∧ s.chip.net.cap.open_ = true ∧
        s.chip.net.cap.settled = false ∧ s.chip.net.cap.start + capAllocBy ≤ s.chip.hall ∧
        s.chip.energy.allocNext = some a ∧
        u = s.chip.modNet (fun n => { n with cap := { n.cap with settled := true } })) ∧
    (∃ u : Chip, ∃ s : State, capMember s.chip = true ∧ s.chip.net.cap.open_ = true ∧ s.chip.net.cap.settled = false ∧
        s.chip.net.cap.start + capAllocBy ≤ s.chip.hall ∧ s.chip.energy.allocNext = none ∧
        u = s.chip.modNet (fun n => { n with cap := { n.cap with settled := true } })) ∧
    (∃ b : Nat, ∃ s : State, capMember s.chip = true ∧ 3 ≤ s.chip.energy.roundsMissed ∧
        b = s.chip.img.caps.hallCapFallback) :=
  ⟨⟨_, st { up .run with imgValid := true }, by decide, by decide, by decide, by decide, rfl⟩,
   ⟨_, st { up .run with imgValid := true }, by decide, by decide, by decide, rfl⟩,
   ⟨st { up .run with imgValid := true, book := { overSince := some 0 }, clk := { tick := 10000000000 } }, by decide, by decide⟩,
   ⟨st { up .run with imgValid := true, book := { capOver := true, underSince := some 0 }, clk := { tick := 10000000000 } }, by decide, by decide⟩,
   ⟨_, st { up .run with imgValid := true }, by decide, by decide, rfl⟩,
   ⟨_, st { up .run with imgValid := true }, by decide, by decide, rfl⟩,
   ⟨_, _, 0, st { up .run with imgValid := true, img := { chs := [{ role := 1 }] }, chs := [{ state := .on }], clk := { tick := 10000000000 } }, by decide, by decide, by decide, by decide, rfl, rfl⟩,
   ⟨_, _, st rootChip, rfl, by decide, rfl, by decide⟩,
   ⟨_, st { rootChip with net := { cap := { open_ := true } } }, rfl, by decide, by decide, by decide, by decide⟩,
   ⟨_, (5, 6), st { rootChip with net := { cap := { open_ := true } }, energy := { allocNext := some (5, 6) } }, by decide, by decide, by decide, by decide, by decide, rfl⟩,
   ⟨_, st { rootChip with net := { cap := { open_ := true } } }, by decide, by decide, by decide, by decide, by decide, rfl⟩,
   ⟨_, st { rootChip with energy := { roundsMissed := 3 } }, by decide, by decide, rfl⟩⟩

theorem witness_LoadLinkFramesAct :
    (∃ v : Nat, ∃ u : Chip, ∃ n : Fin 8, ∃ f : LlFrame, ∃ s : State, (s.chip.linkCfg? n).isSome = true ∧
        studioRuns s.chip = true ∧ u = s.chip.modLink n (fun l => { l with lastFrame := s.chip.now }) ∧
        (u.link n).disabled = false ∧ agree (f.arg.toNat / 65536 % 256) (f.arg.toNat / 256 % 256) 0x10 0x10 = some v) ∧
    (∃ k : Nat, ∃ u : Chip, ∃ n : Fin 8, ∃ f : LlFrame, ∃ s : State, (s.chip.linkCfg? n).isSome = true ∧
        studioRuns s.chip = true ∧ u = s.chip.modLink n (fun l => { l with lastFrame := s.chip.now }) ∧
        (u.link n).disabled = false ∧ llNoVersion (u.link n) = false ∧
        (u.link n).lastReq ≠ some (2, f.seq.toNat % 8, f.arg.toNat) ∧ (u.link n).llak = false ∧
        linkRail u n = some k ∧ railSetInRange u k 1 (f.arg.toNat * 5) = true ∧ railRuns u k = true ∧
        queueRoom u 2 = true) ∧
    (∃ k : Nat, ∃ u : Chip, ∃ n : Fin 8, ∃ f : LlFrame, ∃ s : State, (s.chip.linkCfg? n).isSome = true ∧
        studioRuns s.chip = true ∧ u = s.chip.modLink n (fun l => { l with lastFrame := s.chip.now }) ∧
        (u.link n).disabled = false ∧ llNoVersion (u.link n) = false ∧ linkRail u n = some k ∧
        railSetInRange u k 3 f.arg.toNat = true ∧ queueRoom u 2 = true) ∧
    (∃ u : Chip, ∃ n : Fin 8, ∃ f : LlFrame, ∃ s : State, (s.chip.linkCfg? n).isSome = true ∧
        studioRuns s.chip = true ∧ u = s.chip.modLink n (fun l => { l with lastFrame := s.chip.now }) ∧
        (u.link n).disabled = false ∧ llNoVersion (u.link n) = false ∧
        (u.link n).lastReq ≠ some (4, f.seq.toNat % 8, f.arg.toNat) ∧ (u.link n).llak = false ∧
        f.arg.toNat / 4096 % 4096 * 10000 ≠ 0 ∧ f.arg.toNat % 4096 * 10 ≠ 0 ∧
        f.arg.toNat / 4096 % 4096 * 10000 ≤ (u.linkCfg n).burstPMax ∧
        f.arg.toNat % 4096 * 10 ≤ (u.linkCfg n).burstDMax ∧ (u.burst n).grant ≠ .full ∧ (u.burst n).grant ≠ .partial_) ∧
    (∃ u : Chip, ∃ n : Fin 8, ∃ f : LlFrame, ∃ s : State, (s.chip.linkCfg? n).isSome = true ∧
        studioRuns s.chip = true ∧ u = s.chip.modLink n (fun l => { l with lastFrame := s.chip.now }) ∧
        llNoVersion (u.link n) = false ∧ (u.burst n).running = true) ∧
    (∃ v : Nat, ∃ u : Chip, ∃ w : Chip, ∃ n : Fin 8, ∃ f : LlFrame, ∃ s : State, (s.chip.linkCfg? n).isSome = true ∧
        studioRuns s.chip = true ∧ u = s.chip.modLink n (fun l => { l with lastFrame := s.chip.now }) ∧
        llReadValue u n (f.arg.toNat / 65536 % 256) = some v ∧
        w = llRespond (llAccept u n f.seq.toNat) n 6 f.seq.toNat v) ∧
    (∃ u : Chip, ∃ n : Fin 8, ∃ f : LlFrame, ∃ s : State, (s.chip.linkCfg? n).isSome = true ∧
        studioRuns s.chip = true ∧ u = s.chip.modLink n (fun l => { l with lastFrame := s.chip.now })) ∧
    (∃ v : Nat, ∃ n : Fin 8, ∃ bits : BitVec 40, ∃ s : State, (s.chip.linkCfg? n).isSome = true ∧
        studioRuns s.chip = true ∧ v = bits.toNat ∧ (llCrc (v / 256) != v % 256) = true) ∧
    (∃ u : Chip, ∃ v : Nat, ∃ n : Fin 8, ∃ bits : BitVec 40, ∃ s : State, (s.chip.linkCfg? n).isSome = true ∧
        studioRuns s.chip = true ∧ u = s.chip.modLink n (fun l => { l with lastFrame := s.chip.now }) ∧
        v = bits.toNat ∧ llCrc (v / 256) = v % 256 ∧ (v / 2 ^ 35 % 16 = 0 ∨ 7 < v / 2 ^ 35 % 16)) ∧
    (∃ w : Chip, ∃ n : Fin 8, ∃ s : State, (s.chip.linkCfg? n).isSome = true ∧ studioRuns s.chip = true ∧
        w = setFault s.chip (0x0608 + n)) :=
  ⟨⟨0x10, _, 0, { seq := 1, arg := 0x101000 }, st { up .run with imgValid := true, img := { links := [some { rail := 0 }], rails := [some {}], prots := [{}] }, terms := [], energy := {}, links := [{}] }, by decide, by decide, rfl, by decide, by decide⟩,
   ⟨0, _, 0, { seq := 1, arg := 200 }, st { up .run with imgValid := true, img := { links := [some { rail := 0 }], rails := [some {}], prots := [{}] }, terms := [], energy := {}, links := [{version := 16, link := .up}], rails := [{ state := .on }] }, by decide, by decide, rfl, by decide, by decide, by decide, by decide, by decide, by decide, by decide, by decide⟩,
   ⟨0, _, 0, { seq := 1, arg := 1000 }, st { up .run with imgValid := true, img := { links := [some { rail := 0 }], rails := [some {}], prots := [{}] }, terms := [], energy := {}, links := [{version := 16, link := .up}] }, by decide, by decide, rfl, by decide, by decide, by decide, by decide, by decide⟩,
   ⟨_, 0, { seq := 1, arg := 4097 }, st { up .run with imgValid := true, img := { links := [some { rail := 0, burstPMax := 1000000, burstDMax := 1000 }], rails := [some {}], prots := [{}] }, terms := [], energy := {}, links := [{version := 16, link := .up}] }, by decide, by decide, rfl, by decide, by decide, by decide, by decide, by decide, by decide, by decide, by decide, by decide, by decide⟩,
   ⟨_, 0, { seq := 1, arg := 1 }, st { up .run with imgValid := true, img := { links := [some { rail := 0 }], rails := [some {}], prots := [{}] }, terms := [], energy := {}, links := [{version := 16, link := .up}], bursts := [{ running := true }] }, by decide, by decide, rfl, by decide, by decide⟩,
   ⟨0x1010, _, _, 0, { seq := 1, arg := 0x070000 }, st { up .run with imgValid := true, img := { links := [some { rail := 0 }], rails := [some {}], prots := [{}] }, terms := [], energy := {}, links := [{}] }, by decide, by decide, rfl, by decide, rfl⟩,
   ⟨_, 0, { seq := 1, arg := 1 }, st { up .run with imgValid := true, img := { links := [some { rail := 0 }], rails := [some {}], prots := [{}] }, terms := [], energy := {}, links := [{}] }, by decide, by decide, rfl⟩,
   ⟨_, 0, 1, st { up .run with imgValid := true, img := { links := [some { rail := 0 }], rails := [some {}], prots := [{}] }, terms := [], energy := {}, links := [{}] }, by decide, by decide, rfl, by decide⟩,
   ⟨_, _, 0, 0, st { up .run with imgValid := true, img := { links := [some { rail := 0 }], rails := [some {}], prots := [{}] }, terms := [], energy := {}, links := [{}] }, by decide, by decide, rfl, rfl, by decide, by decide⟩,
   ⟨_, 0, st { up .run with imgValid := true, img := { links := [some { rail := 0 }], rails := [some {}], prots := [{}] }, terms := [], energy := {}, links := [{}] }, by decide, by decide, rfl⟩⟩

theorem witness_LoadLinkTimersAct :
    (∃ n : Fin 8, ∃ s : State, refArrived s.chip n = true ∧
        (s.chip.link n).setv.any (fun t => decide ((s.chip.linkCfg n).settleTime ≤ t.2)) = true) ∧
    (∃ b : Bool, ∃ n : Fin 8, ∃ s : State, b = (linkRail s.chip n).any (railRuns s.chip) ∧
        (s.chip.link n).setv.any (fun t => decide (t.1 + (s.chip.linkCfg n).settleMax * 1000 ≤ s.chip.now) || !b) = true) ∧
    (∃ n : Fin 8, ∃ s : State, (s.chip.burst n).running = true ∧
        (s.chip.burst n).start + (s.chip.burst n).dur * 1000 ≤ s.chip.now) ∧
    (∃ n : Fin 8, ∃ s : State, (s.chip.linkCfg? n).isSome = true ∧ (s.chip.link n).link = .up ∧
        (s.chip.linkCfg n).timeout ≠ 0 ∧ (s.chip.link n).lastFrame + (s.chip.linkCfg n).timeout * 1000 ≤ s.chip.now) ∧
    (∃ n : Fin 8, ∃ s : State, (s.chip.burst n).overSince.any (fun t => decide (t + 2 * (s.chip.linkCfg n).pollMax * 1000 ≤ s.chip.now)) = true) :=
  ⟨⟨0, st { up .run with imgValid := true, img := { links := [some { rail := 0 }], rails := [some {}], prots := [{}] }, terms := [], energy := {}, links := [{setv := some (0, 1000000)}] }, by decide, by decide⟩,
   ⟨_, 0, st { up .run with imgValid := true, img := { links := [some { rail := 0 }], rails := [some {}], prots := [{}] }, terms := [], energy := {}, links := [{setv := some (0, 0)}] }, rfl, by decide⟩,
   ⟨0, st { up .run with imgValid := true, img := { links := [some { rail := 0 }], rails := [some {}], prots := [{}] }, terms := [], energy := {}, links := [{}], bursts := [{ running := true }] }, by decide, by decide⟩,
   ⟨0, st { up .run with imgValid := true, img := { links := [some { rail := 0, timeout := 1 }], rails := [some {}], prots := [{}] }, terms := [], energy := {}, links := [{link := .up}], clk := { tick := 1000000 } }, by decide, by decide, by decide, by decide⟩,
   ⟨0, st { up .run with imgValid := true, img := { links := [some { rail := 0 }], rails := [some {}], prots := [{}] }, terms := [], energy := {}, links := [{}], bursts := [{ overSince := some 0 }], clk := { tick := 100000000 } }, by decide⟩⟩

theorem witness_BatteryEventsAct :
    (∃ sn : Option (List Byte), ∃ pr : Option Nat, ∃ t : Option Int, ∃ j : Fin 12, ∃ s : State, seeksValues s.chip j = true ∧
        yardWorks s.chip = true ∧ handFrozen s.chip = false ∧ (s.chip.bat j).read = none ∧
        (s.chip.bat j).attemptDue ≤ s.chip.now) ∧
    (∃ u : Chip, ∃ v : Chip, ∃ sn : List Byte, ∃ pr : Nat, ∃ t : Int, ∃ r : BmsRead, ∃ j : Fin 12, ∃ s : State, seeksValues s.chip j = true ∧
        (s.chip.bat j).admState = .identifying ∧ isActive s.chip = true ∧ yardWorks s.chip = true ∧
        handFrozen s.chip = false ∧ (s.chip.bat j).read = some r ∧ r.left = 0 ∧ r.poll = false ∧ r.serial = some sn ∧
        r.profile = some pr ∧ r.temp = some t ∧ u = s.chip.modBat j (fun b => { b with read := none }) ∧
        v = u.modBat j (fun b => { b with profile := pr, temp := t, serial := sn })) ∧
    (∃ u : Chip, ∃ r : BmsRead, ∃ j : Fin 12, ∃ s : State, seeksValues s.chip j = true ∧
        (s.chip.bat j).admState = .identifying ∧ isActive s.chip = true ∧ yardWorks s.chip = true ∧
        handFrozen s.chip = false ∧ (s.chip.bat j).read = some r ∧ r.left = 0 ∧ r.poll = false ∧
        (r.serial = none ∨ r.profile = none ∨ r.temp = none) ∧ 3 ≤ (s.chip.bat j).attempts + 1 ∧
        u = s.chip.modBat j (fun b => { b with read := none })) ∧
    (∃ u : Chip, ∃ r : BmsRead, ∃ j : Fin 12, ∃ s : State, seeksValues s.chip j = true ∧ yardWorks s.chip = true ∧
        handFrozen s.chip = false ∧ (s.chip.bat j).read = some r ∧ r.left = 0 ∧ r.poll = false ∧
        (r.serial = none ∨ r.profile = none ∨ r.temp = none) ∧ ¬ 3 ≤ (s.chip.bat j).attempts + 1 ∧
        u = s.chip.modBat j (fun b => { b with read := none })) ∧
    (∃ j : Fin 12, ∃ s : State, (s.chip.bat j).admState = .refused ∧ (s.chip.bat j).refuse = .temperature ∧
        feedPresent s.chip j = true ∧ (s.chip.bat j).tempRetry.any (fun t => decide (t ≤ s.chip.now)) = true) ∧
    (∃ sn : Option (List Byte), ∃ t : Option Int, ∃ c : BatCfg, ∃ j : Fin 12, ∃ s : State, batBind s.chip j = some c ∧
        slotAdmitted s.chip j = true ∧ (s.chip.bat j).known = true ∧ yardWorks s.chip = true ∧
        (s.chip.bat j).read = none ∧ (s.chip.bat j).pollNext ≤ s.chip.now) ∧
    (∃ u : Chip, ∃ v : Chip, ∃ w : Chip, ∃ sn : List Byte, ∃ t : Int, ∃ r : BmsRead, ∃ c : BatCfg, ∃ j : Fin 12, ∃ s : State, batBind s.chip j = some c ∧
        slotAdmitted s.chip j = true ∧ (s.chip.bat j).known = true ∧ yardWorks s.chip = true ∧
        (s.chip.bat j).read = some r ∧ r.left = 0 ∧ r.poll = true ∧ r.profile = none ∧ r.serial = some sn ∧
        r.temp = some t ∧ u = s.chip.modBat j (fun b => { b with read := none }) ∧
        v = setLive (u.modBat j fun b => { b with lastGood := u.now, temp := t, bmsLost := false }) (batSource 1 j) false ∧
        w = (if (u.bat j).bmsLost then postBat v j 5 [] else v)) ∧
    (∃ r : BmsRead, ∃ c : BatCfg, ∃ j : Fin 12, ∃ s : State, batBind s.chip j = some c ∧
        slotAdmitted s.chip j = true ∧ (s.chip.bat j).known = true ∧ yardWorks s.chip = true ∧
        (s.chip.bat j).read = some r ∧ r.left = 0 ∧ r.poll = true ∧ r.profile = none ∧
        (r.serial = none ∨ r.temp = none)) ∧
    (∃ c : BatCfg, ∃ j : Fin 12, ∃ s : State, batBind s.chip j = some c ∧ slotAdmitted s.chip j = true ∧
        (s.chip.bat j).known = true ∧ (s.chip.bat j).bmsLost = false ∧
        (s.chip.bat j).lastGood + c.bmsLoss * 1000000 ≤ s.chip.now) ∧
    (∃ j : Fin 12, ∃ s : State, slotAdmitted s.chip j = true ∧ meteringRuns s.chip = true ∧ yardWorks s.chip = true ∧
        stepDue (s.chip.bat j) ≤ s.chip.now ∧ firstDue s.chip j = true) ∧
    (∃ k : Nat, ∃ u : Chip, ∃ c : BatCfg, ∃ j : Fin 12, ∃ vMean : Int, ∃ s : State, batBind s.chip j = some c ∧
        slotAdmitted s.chip j = true ∧ yardWorks s.chip = true ∧ (s.chip.bat j).resting = true ∧
        k = (s.chip.bat j).est.rest.samples.length ∧ k < 10 ∧
        (s.chip.bat j).est.rest.start + 2 ^ k * 1000000 ≤ s.chip.now ∧
        u = s.chip.modBat j (fun b => { b with est := { b.est with rest := { b.est.rest with samples := b.est.rest.samples ++ [vMean] } } })) ∧
    (∃ j : Fin 12, ∃ s : State, slotAdmitted s.chip j = true ∧ (s.chip.bat j).ceiling = false ∧
        10 ≤ (s.chip.bat j).ceilTicks) ∧
    (∃ u : Chip, ∃ c : BatCfg, ∃ j : Fin 12, ∃ s : State, batBind s.chip j = some c ∧ slotAdmitted s.chip j = true ∧
        (s.chip.bat j).floor = false ∧ 10 ≤ (s.chip.bat j).floorTicks ∧
        u = postBat (evalFault (s.chip.modBat j fun b => { b with floor := true, soc := 0, floorTicks := 0 }) (batSource 6 j) true) j 3 [] ∧
        (u.rail c.rail).state ≠ .bridging) ∧
    (∃ u : Chip, ∃ c : BatCfg, ∃ j : Fin 12, ∃ s : State, batBind s.chip j = some c ∧ slotAdmitted s.chip j = true ∧
        (s.chip.bat j).floor = false ∧ 10 ≤ (s.chip.bat j).floorTicks ∧
        u = postBat (evalFault (s.chip.modBat j fun b => { b with floor := true, soc := 0, floorTicks := 0 }) (batSource 6 j) true) j 3 [] ∧
        (u.rail c.rail).state = .bridging) ∧
    (∃ j : Fin 12, ∃ s : State, slotAdmitted s.chip j = true ∧
        (4 ≤ (s.chip.bat j).lowTicks ∨ 2 ≤ (s.chip.bat j).badTicks)) :=
  ⟨⟨none, none, none, 0, st { up .run with imgValid := true, img := { bats := [some { rail := 0 }], rails := [some { bus := true }] }, bats := [{admState := .identifying}] }, by decide, by decide, by decide, by decide, by decide⟩,
   ⟨_, _, List.replicate 16 65, 1, 2500, { poll := false, left := 0, serial := some (List.replicate 16 65), profile := some 1, temp := some 2500 }, 0, st { up .run with imgValid := true, img := { bats := [some { rail := 0 }], rails := [some { bus := true }] }, bats := [{admState := .identifying, read := some { poll := false, left := 0, serial := some (List.replicate 16 65), profile := some 1, temp := some 2500 }}] }, by decide, by decide, by decide, by decide, by decide, by decide, by decide, by decide, by decide, by decide, by decide, rfl, rfl⟩,
   ⟨_, { poll := false, left := 0 }, 0, st { up .run with imgValid := true, img := { bats := [some { rail := 0 }], rails := [some { bus := true }] }, bats := [{admState := .identifying, attempts := 2, read := some { poll := false, left := 0 }}] }, by decide, by decide, by decide, by decide, by decide, by decide, by decide, by decide, by decide, by decide, rfl⟩,
   ⟨_, { poll := false, left := 0 }, 0, st { up .run with imgValid := true, img := { bats := [some { rail := 0 }], rails := [some { bus := true }] }, bats := [{admState := .identifying, read := some { poll := false, left := 0 }}] }, by decide, by decide, by decide, by decide, by decide, by decide, by decide, by decide, rfl⟩,
   ⟨0, st { up .run with imgValid := true, img := { bats := [some { rail := 0 }], rails := [some { bus := true }] }, bats := [{admState := .refused, refuse := .temperature, tempRetry := some 0}] }, by decide, by decide, by decide, by decide⟩,
   ⟨none, none, { rail := 0 }, 0, st { up .run with imgValid := true, img := { bats := [some { rail := 0 }], rails := [some { bus := true }] }, bats := [{admState := .admitted, known := true}] }, by decide, by decide, by decide, by decide, by decide, by decide⟩,
   ⟨_, _, _, List.replicate 16 65, 2500, { poll := true, left := 0, serial := some (List.replicate 16 65), temp := some 2500 }, { rail := 0 }, 0, st { up .run with imgValid := true, img := { bats := [some { rail := 0 }], rails := [some { bus := true }] }, bats := [{admState := .admitted, known := true, read := some { poll := true, left := 0, serial := some (List.replicate 16 65), temp := some 2500 }}] }, by decide, by decide, by decide, by decide, by decide, by decide, by decide, by decide, by decide, by decide, rfl, rfl, rfl⟩,
   ⟨{ poll := true, left := 0 }, { rail := 0 }, 0, st { up .run with imgValid := true, img := { bats := [some { rail := 0 }], rails := [some { bus := true }] }, bats := [{admState := .admitted, known := true, read := some { poll := true, left := 0 }}] }, by decide, by decide, by decide, by decide, by decide, by decide, by decide, by decide, by decide⟩,
   ⟨{ rail := 0 }, 0, st { up .run with imgValid := true, img := { bats := [some { rail := 0 }], rails := [some { bus := true }] }, bats := [{admState := .admitted, known := true}], clk := { tick := 10000000000 } }, by decide, by decide, by decide, by decide, by decide⟩,
   ⟨0, st { up .run with imgValid := true, img := { bats := [some { rail := 0 }], rails := [some { bus := true }] }, bats := [{admState := .admitted}], clk := { tick := 10000000000 } }, by decide, by decide, by decide, by decide, by decide⟩,
   ⟨_, _, { rail := 0 }, 0, 0, st { up .run with imgValid := true, img := { bats := [some { rail := 0 }], rails := [some { bus := true }] }, bats := [{admState := .admitted, resting := true}], clk := { tick := 10000000000 } }, by decide, by decide, by decide, by decide, rfl, by decide, by decide, rfl⟩,
   ⟨0, st { up .run with imgValid := true, img := { bats := [some { rail := 0 }], rails := [some { bus := true }] }, bats := [{admState := .admitted, ceilTicks := 10}] }, by decide, by decide, by decide⟩,
   ⟨_, { rail := 0 }, 0, st { up .run with imgValid := true, img := { bats := [some { rail := 0 }], rails := [some { bus := true }] }, bats := [{admState := .admitted, floorTicks := 10}] }, by decide, by decide, by decide, by decide, rfl, by decide⟩,
   ⟨_, { rail := 0 }, 0, st { up .run with imgValid := true, img := { bats := [some { rail := 0 }], rails := [some { bus := true }] }, bats := [{admState := .admitted, floorTicks := 10}], rails := [{ state := .bridging }] }, by decide, by decide, by decide, by decide, rfl, by decide⟩,
   ⟨0, st { up .run with imgValid := true, img := { bats := [some { rail := 0 }], rails := [some { bus := true }] }, bats := [{admState := .admitted, lowTicks := 4}] }, by decide, by decide⟩⟩

theorem witness_MeteringEventsAct :
    (∃ u : Chip, ∃ i0 : Int, ∃ i : Int, ∃ p : Int, ∃ c : MeterCfg, ∃ o : Fin 44, ∃ vs : Int, ∃ vm : Int, ∃ s : State, meterCfg s.chip o = some c ∧
        meteringRuns s.chip = true ∧ s.chip.hall % 800 = 0 ∧ (s.chip.meter o).sampled ≠ some s.chip.now ∧
        u = calSample (overrange s.chip o (atEnd (-160000000) 160000000 vs) (atEnd (-1000000000) 88000000000 vm)) o (clampCurrent vs) (clampVoltage vm) ∧
        i0 = sampleCurrent c (shuntTemp c (u.meter o)) (clampCurrent vs) ∧
        i = (if i0.natAbs < 1000 * c.creepI then 0 else i0) ∧
        p = roundAway (sampleVoltage c (clampVoltage vm) * i) 1000000) ∧
    (∃ c : MeterCfg, ∃ q : Int, ∃ o : Fin 44, ∃ s : State, meterCfg s.chip o = some c ∧ meteringRuns s.chip = true ∧
        (c.shuntTherm != 0xFF) = true ∧ (tget s.chip.hk c.shuntTherm).taken = true ∧
        (s.chip.meter o).nextRead ≤ s.chip.now ∧
        (thermTemp s.chip c.shuntTherm (tget s.chip.hk c.shuntTherm).uV).filter (fun t => decide (-4000 ≤ t) && decide (t ≤ 15000)) = some q ∧
        (s.chip.meter o).compLost = false) ∧
    (∃ c : MeterCfg, ∃ o : Fin 44, ∃ s : State, meterCfg s.chip o = some c ∧ meteringRuns s.chip = true ∧
        (c.shuntTherm != 0xFF) = true ∧ (tget s.chip.hk c.shuntTherm).taken = true ∧
        (s.chip.meter o).nextRead ≤ s.chip.now ∧
        (thermTemp s.chip c.shuntTherm (tget s.chip.hk c.shuntTherm).uV).filter (fun t => decide (-4000 ≤ t) && decide (t ≤ 15000)) = none) ∧
    (∃ s : State, yardAlive s.chip = true ∧ s.chip.meterBook.ckNext ≤ s.chip.now) ∧
    (∃ s : State, periodDue s.chip = true ∧ stillDue s.chip = false ∧ takeoverDue s.chip = false) ∧
    (∃ signGood : Bool, ∃ s : State, yardAlive s.chip = true) :=
  ⟨⟨_, _, _, _, {}, 0, 0, 0, st { up .run with imgValid := true, img := { meters := [some {}] } }, by decide, by decide, by decide, by decide, rfl, rfl, rfl, rfl⟩,
   ⟨{ shuntTherm := 0 }, 5000, 0, st { up .run with imgValid := true, img := { therms := [some { points := [(0, 0), (1000000, 10000)] }], meters := [some {shuntTherm := 0}] }, hk := [{ taken := true, uV := 500000 }] }, by decide, by decide, by decide, by decide, by decide, by decide, by decide⟩,
   ⟨{ shuntTherm := 0 }, 0, st { up .run with imgValid := true, img := { meters := [some {shuntTherm := 0}] }, hk := [{ taken := true, uV := 500000 }] }, by decide, by decide, by decide, by decide, by decide, by decide⟩,
   ⟨st (up .run), by decide, by decide⟩,
   ⟨st { up .run with imgValid := true, clk := { hall := 100000000000000 } }, by decide, by decide, by decide⟩,
   ⟨true, st (up .run), by decide⟩⟩

theorem witness_SenseOpcodesComplete :
    (∃ rq : Request, ∃ s : State, Admitted 0x0C01 {} rq s.chip) ∧
    (∃ rq : Request, ∃ s : State, Admitted 0x0C02 {} rq s.chip ∧ inScan s.chip (arg rq 0 1) = true) ∧
    (∃ rq : Request, ∃ s : State, Admitted 0x0C03 {} rq s.chip ∧ arg rq 0 1 ≤ 7 ∧
        (seqCfg s.chip (arg rq 0 1)).isNone = false) ∧
    (∃ rq : Request, ∃ s : State, Admitted 0x0C04 {} rq s.chip ∧ arg rq 0 1 ≤ 7 ∧
        (s.chip.seq (arg rq 0 1)).state = .stopped ∧ (s.chip.sense.queue.any fun e => e.seq == arg rq 0 1) = false ∧
        ∃ u, u = (taken 0x0C04 rq s.chip)) ∧
    (∃ rq : Request, ∃ s : State, Admitted 0x0C04 {} rq s.chip ∧ arg rq 0 1 ≤ 7 ∧
        (s.chip.seq (arg rq 0 1)).state ≠ .stopped ∧
        ∃ u, u = (queueSeq (taken 0x0C04 rq s.chip) (arg rq 0 1) false (refOf rq s.chip))) ∧
    (∃ rq : Request, ∃ s : State, Admitted 0x0C05 {} rq s.chip ∧ arg rq 0 1 ≤ 7) ∧
    (∃ rq : Request, ∃ g : SeqCfg, ∃ k : Nat, ∃ run : Nat × Nat, ∃ s : State, Admitted 0x0C06 { lenLo := 8, lenHi := 8 } rq s.chip ∧
        k = arg rq 0 1 ∧ k ≤ 7 ∧ seqInForce s.chip k = some g ∧ ringBeyond (s.chip.seq k) (arg rq 4 4) = false ∧
        run = ringRun rq.port (s.chip.seq k) (arg rq 2 2) (arg rq 4 4) ∧
        ∃ u, u = (if arg rq 1 1 % 2 = 1 then ringAdvance (taken 0x0C06 rq s.chip) k g (ringLast run) else taken 0x0C06 rq s.chip)) ∧
    (∃ rq : Request, ∃ s : State, Admitted 0x0C10 {} rq s.chip) ∧
    (∃ rq : Request, ∃ s : State, Admitted 0x0C11 { lenLo := 8, lenHi := 8 } rq s.chip ∧ arg rq 4 2 ≤ arg rq 6 2 ∧
        arg rq 0 1 ≤ 23 ∧ arg rq 6 2 ≤ 1023 ∧ (monCfg s.chip (arg rq 0 1)).isNone = false ∧
        ∃ u, u = ((taken 0x0C11 rq s.chip).modMon (arg rq 0 1) fun w => { w with deglitch := arg rq 1 1, low := arg rq 4 2, high := arg rq 6 2, setTick := s.chip.now })) ∧
    (∃ rq : Request, ∃ s : State, Admitted 0x0C20 {} rq s.chip ∧ isCapSource (arg rq 1 1) = true ∧
        (isMonSource (arg rq 1 1) = true → arg rq 2 1 ≤ 4) ∧ arg rq 0 1 ≤ 15 ∧
        ∃ u, u = ((taken 0x0C20 rq s.chip).modCap (arg rq 0 1) fun c => if arg rq 3 1 % 2 = 1 then { c with source := BitVec.ofNat 8 (arg rq 1 1), seen := captureMark s.chip (arg rq 1 1), edge := BitVec.ofNat 8 (arg rq 2 1), armed := true } else { c with source := BitVec.ofNat 8 (arg rq 1 1), seen := captureMark s.chip (arg rq 1 1), edge := BitVec.ofNat 8 (arg rq 2 1), armed := false, fifo := [], count := 0 })) ∧
    (∃ rq : Request, ∃ s : State, Admitted 0x0C21 {} rq s.chip ∧ arg rq 0 1 ≤ 15 ∧
        ∃ u, u = ((taken 0x0C21 rq s.chip).modCap (arg rq 0 1) fun c => { c with fifo := c.fifo.drop ((s.chip.cap (arg rq 0 1)).fifo.take (unitsThatFit rq.port 4 12)).length })) :=
  ⟨⟨rq [0, 0, 0, 0], st (up .run), by decide⟩,
   ⟨rq [0x60, 0, 0, 0], st (up .run), by decide, by decide⟩,
   ⟨rq [0, 0, 0, 0], st { up .run with imgValid := true, img := { seqs := [some {}] } }, by decide, by decide, by decide⟩,
   ⟨rq [0, 0, 0, 0], st (up .run), by decide, by decide, by decide, by decide, _, rfl⟩,
   ⟨rq [0, 0, 0, 0], st { up .run with seqs := [{ state := .running }] }, by decide, by decide, by decide, _, rfl⟩,
   ⟨rq [0, 0, 0, 0], st (up .run), by decide, by decide⟩,
   ⟨rq [0, 0, 0, 0, 0, 0, 0, 0], {}, _, _, st { up .run with imgValid := true, img := { seqs := [some {}] } }, by decide, rfl, by decide, by decide, by decide, rfl, _, rfl⟩,
   ⟨rq [0, 0, 0, 0], st (up .run), by decide⟩,
   ⟨rq [0, 0, 0, 0, 0, 0, 255, 3], st { up .run with imgValid := true, img := { mons := [some {}] } }, by decide, by decide, by decide, by decide, by decide, _, rfl⟩,
   ⟨rq [0, 0, 0, 0], st (up .run), by decide, by decide, by decide, by decide, _, rfl⟩,
   ⟨rq [0, 0, 0, 0], st (up .run), by decide, by decide, _, rfl⟩⟩

theorem witness_SenseEventsAct :
    (∃ d : SeqStep, ∃ o : Bool × Chip, ∃ z : Nat, ∃ w : Chip, ∃ g : SeqCfg, ∃ k : Fin 8, ∃ pos : Fin 20, ∃ nv : Int, ∃ s : State, seqInForce s.chip k = some g ∧
        ((s.chip.seq k).state = .running ∨ inProgress s.chip (s.chip.seq k) pos = true) ∧
        takesSlot s.chip k g pos = true ∧ d = tget g.steps (s.chip.seq k).step ∧ o = sarOvr s.chip d.diff nv ∧
        z = dmaWord o.1 (sarUnder d.diff nv) d.input (k + pos % 2) (s.chip.seq k).step (sarFormat d.format (sarCode d.diff nv)) ∧
        w = captureWord (ringWrite o.2 k g z) k g z) ∧
    (∃ u : Chip, ∃ v : Chip, ∃ k : Fin 8, ∃ s : State, (s.chip.seq k).state = .stopping ∧
        awaitsWord s.chip k = false ∧ u = s.chip.modSeq k (fun q => { q with state := .stopped, refs := [], old := none, zero := false }) ∧
        v = (if (s.chip.seq k).zero then seqZero (post u 0x07 (measBody u 1 k 0 0 (s.chip.seq k).wptr) (allWith (s.chip.seq k).refs .ok)) k else post u 0x07 (measBody u 1 k 0 0 (s.chip.seq k).wptr) (allWith (s.chip.seq k).refs .ok))) ∧
    (∃ sum : Int, ∃ o : Bool × Chip, ∃ inp : BitVec 7, ∃ c0 : Int, ∃ c1 : Int, ∃ c2 : Int, ∃ c3 : Int, ∃ s : State, s.chip.mode.mode ≠ .off ∧
        scanNext s.chip = some inp.toNat ∧ scanReady s.chip = true ∧
        sum = 0 + sarCode false c0 + sarCode false c1 + sarCode false c2 + sarCode false c3 ∧
        o = [c0, c1, c2, c3].foldl (fun (a : Bool × Chip) x => (a.1 || (sarOvr a.2 false x).1, (sarOvr a.2 false x).2)) (false, s.chip)) ∧
    (∃ c : MonCfg, ∃ set : MonCfg, ∃ lvl : Level, ∃ m : Fin 24, ∃ held : HeldInput, ∃ st : Straps, ∃ s : State, yardAlive s.chip = true ∧
        s.chip.ostler.alive = true ∧ monCfg s.chip m = some c ∧ set = monSettings s.chip m ∧
        lvl = compareLevel (s.chip.mon m).level set.low set.high held.uV ∧ (s.chip.mon m).level ≠ lvl ∧
        settles s.chip m = false ∧ set.deglitch ≤ heldFor s.chip m held.cycles) ∧
    (∃ set : MonCfg, ∃ lvl : Level, ∃ m : Fin 24, ∃ held : HeldInput, ∃ st : Straps, ∃ s : State, s.chip.mode.mode = .off ∧
        s.chip.ostler.alive = true ∧ m.val < 4 ∧ set = monSettings s.chip m ∧
        lvl = compareLevel (s.chip.mon m).level set.low set.high held.uV ∧ (s.chip.mon m).level ≠ lvl ∧
        settles s.chip m = false ∧ set.deglitch ≤ held.cycles / 50 ∧ ∃ u, u = moveLevel m lvl s.chip) ∧
    (∃ m : Fin 24, ∃ s : State, yardAlive s.chip = true ∧ (s.chip.mon m).deferred = true ∧
        (monCfg s.chip m).any MonCfg.event = true ∧
        (s.chip.mon m).lastEvent.all (fun t => decide (t + 1000 ≤ s.chip.now)) = true) ∧
    (∃ n : Nat, ∃ u : Chip, ∃ t : Fin 16, ∃ src : Byte, ∃ lvl : Byte, ∃ at_ : Nat, ∃ s : State, lvl.toNat = stampLevel s.chip src.toNat ∧
        studioRuns s.chip = true ∧ (s.chip.cap t).armed = true ∧ src ≠ 0#8 ∧ (s.chip.cap t).source = src ∧
        edgeFresh s.chip (s.chip.cap t) = true ∧ s.chip.hall ≤ at_ + 1 ∧ at_ ≤ s.chip.hall + 100 ∧
        edgeTakes s.chip (s.chip.cap t) lvl.toNat = true ∧ n = ((s.chip.cap t).count + 1) % 256 ∧
        u = (trigTimer s.chip (Fin.ofNat 16 t)).modCap t (fun c => { c with seen := captureMark s.chip src.toNat }) ∧
        (s.chip.cap t).fifo.length < 8) ∧
    (∃ n : Nat, ∃ u : Chip, ∃ t : Fin 16, ∃ src : Byte, ∃ lvl : Byte, ∃ at_ : Nat, ∃ s : State, lvl.toNat = stampLevel s.chip src.toNat ∧
        studioRuns s.chip = true ∧ (s.chip.cap t).armed = true ∧ src ≠ 0#8 ∧ (s.chip.cap t).source = src ∧
        edgeFresh s.chip (s.chip.cap t) = true ∧ s.chip.hall ≤ at_ + 1 ∧ at_ ≤ s.chip.hall + 100 ∧
        edgeTakes s.chip (s.chip.cap t) lvl.toNat = true ∧ n = ((s.chip.cap t).count + 1) % 256 ∧
        u = (trigTimer s.chip (Fin.ofNat 16 t)).modCap t (fun c => { c with seen := captureMark s.chip src.toNat }) ∧
        8 ≤ (s.chip.cap t).fifo.length) :=
  ⟨⟨_, _, _, _, {}, 0, 0, 0, st { up .run with imgValid := true, img := { seqs := [some {}] }, seqs := [{ state := .running }] }, by decide, by decide, by decide, rfl, rfl, rfl, rfl⟩,
   ⟨_, _, 0, st { up .run with imgValid := true, seqs := [{ state := .stopping }] }, by decide, by decide, rfl, rfl⟩,
   ⟨_, _, 0x60#7, 0, 0, 0, 0, st (up .run), by decide, by decide, by decide, rfl, rfl⟩,
   ⟨{}, {}, .above, 0, { uV := 2500000 }, {}, st { up .run with imgValid := true, img := { mons := [some {}] }, ostler := { alive := true } }, by decide, by decide, by decide, by decide, by decide, by decide, by decide, by decide⟩,
   ⟨{}, .above, 0, { uV := 2500000 }, {}, st { up .off with ostler := { alive := true } }, by decide, by decide, by decide, by decide, by decide, by decide, by decide, by decide, _, rfl⟩,
   ⟨0, st { up .run with imgValid := true, img := { mons := [some { event := true }] }, mons := [{ deferred := true }] }, by decide, by decide, by decide, by decide⟩,
   ⟨_, _, 0, 1#8, 1, 0, st { up .run with imgValid := true, caps := [{ armed := true, source := 1#8 }] }, by decide, by decide, by decide, by decide, by decide, by decide, by decide, by decide, by decide, rfl, rfl, by decide⟩,
   ⟨_, _, 0, 1#8, 1, 0, st { up .run with imgValid := true, caps := [{ armed := true, source := 1#8, fifo := List.replicate 8 {} }] }, by decide, by decide, by decide, by decide, by decide, by decide, by decide, by decide, by decide, rfl, rfl, by decide⟩⟩

theorem witness_ConfigurationOpcodesComplete :
    (∃ rq : Request, ∃ s : State, Admitted 0x0701 {} rq s.chip ∧
        mramBad s.chip (slotBase s.chip.cfg.slot) 128 = false ∧
        mramBad s.chip (slotBase (otherSlot s.chip)) 128 = false) ∧
    (∃ rq : Request, ∃ raw : List Byte, ∃ len : Nat, ∃ base : Nat, ∃ s : State, Admitted 0x0702 { lenLo := 12, lenHi := 12 } rq s.chip ∧
        arg rq 0 1 ≤ 2 ∧ arg rq 4 4 % 4 = 0 ∧ arg rq 8 2 % 4 = 0 ∧
        cfgSource s.chip (arg rq 0 1) = some (raw, len, base) ∧ arg rq 4 4 < len ∧
        ∃ data, data = (raw.drop (arg rq 4 4)).take (if arg rq 8 2 = 0 then unitsThatFit rq.port 8 4 * 4 else min (arg rq 8 2) (unitsThatFit rq.port 8 4 * 4)) ∧
        mramBad s.chip (base + arg rq 4 4) data.length = false) ∧
    (∃ rq : Request, ∃ s : State, Admitted 0x0703 { lenLo := 8, lenHi := 8 } rq s.chip ∧
        lengthGood (arg rq 4 4) = true ∧ committing s.chip = false ∧ (s.chip.cfg.stage = .none ∨ arg rq 0 1 % 2 = 1) ∧
        ∃ u, u = ((abandonStage (taken 0x0703 rq s.chip)).modCfg fun c => { c with stage := .opened, stagePort := rq.port, stageLen := arg rq 4 4 })) ∧
    (∃ rq : Request, ∃ s : State, Admitted 0x0704 { lenLo := 4, lenHi := 4096, lenUnit := 4 } rq s.chip ∧
        (rq.params.drop 4).length % 4 = 0 ∧ stageOpenFor s.chip rq.port = true ∧
        arg rq 0 4 = s.chip.cfg.staged.length ∧
        s.chip.cfg.staged.length + (rq.params.drop 4).length ≤ s.chip.cfg.stageLen ∧
        ∃ u, u = ((mramWritten (stageBase + s.chip.cfg.staged.length) (rq.params.drop 4).length (taken 0x0704 rq s.chip)).modCfg fun c => { c with staged := c.staged ++ rq.params.drop 4 })) ∧
    (∃ rq : Request, ∃ s : State, Admitted 0x0705 {} rq s.chip ∧ stageOpenFor s.chip rq.port = true ∧
        s.chip.cfg.staged.length = s.chip.cfg.stageLen ∧
        ∃ u, u = ((taken 0x0705 rq s.chip).modCfg fun c => { c with stage := .verifying, endRef := some (refOf rq s.chip) })) ∧
    (∃ r : Except CfgCheck (List CfgRec), ∃ u : Chip, ∃ s : State, yardAlive s.chip = true ∧
        s.chip.cfg.stage = .verifying ∧ r = checkStaged s.chip stageBase s.chip.cfg.staged ∧
        u = s.chip.modCfg (fun c => { c with lastCheck := (failing r).code, endRef := none })) ∧
    (∃ rq : Request, ∃ s : State, Admitted 0x0706 { lenLo := 8, lenHi := 8 } rq s.chip ∧
        commitModeBad s.chip = false ∧ arg rq 0 1 = 1 ∧ commitRefused s.chip 1 (arg rq 4 4) = none ∧
        boxRoom s.chip = true ∧ ∃ u, u = offerBox (taken 0x0706 rq s.chip) .commit 0x0706 rq (refOf rq s.chip)) ∧
    (∃ (k : CfgCopy) (s : Chip), s.cfg.copying = some k) ∧
    (∃ (k : CfgCopy) (s : Chip), k.src = 2 ∧
        (copyChecked k.src k.raw (s.modCfg fun c => { c with copying := none })).1 = none) ∧
    (∃ raw : List Byte, ∃ r : ReqRef, ∃ t : Nat, ∃ s : State, s.chip.cfg.apply = some (raw, r, t) ∧
        yardAlive s.chip = true ∧ t < s.chip.now ∧
        ∃ u, u = postCfg (endStage (applyImage (readImage raw) (s.chip.modCfg fun c => { c with apply := none }))) 2 0 [(r, .ok)]) :=
  ⟨⟨rq [0, 0, 0, 0], st (up .run), by decide, by decide, by decide⟩,
   ⟨rq [0, 0, 0, 0, 0, 0, 0, 0, 0, 0, 0, 0], [1#8, 2#8, 3#8, 4#8], 4, slotBase 0, st { up .run with cfg := { blocks := [{ crc := cfgBlockCrc {} }], slotA := [1#8, 2#8, 3#8, 4#8] } }, by decide, by decide, by decide, by decide, by decide, by decide, _, rfl, by decide⟩,
   ⟨rq [0, 0, 0, 0, 128, 0, 0, 0], st (up .run), by decide, by decide, by decide, by decide, _, rfl⟩,
   ⟨rq [0, 0, 0, 0, 1, 2, 3, 4], st { up .run with cfg := { stage := .opened, stageLen := 128 } }, by decide, by decide, by decide, by decide, by decide, _, rfl⟩,
   ⟨rq [0, 0, 0, 0], st { up .run with cfg := { stage := .opened } }, by decide, by decide, by decide, _, rfl⟩,
   ⟨_, _, st { up .run with imgValid := true, cfg := { stage := .verifying } }, by decide, by decide, rfl, rfl⟩,
   ⟨rq [1, 0, 0, 0, 0, 0, 0, 0], st { up .run with cfg := { stage := .verified } }, by decide, by decide, by decide, by decide, by decide, _, rfl⟩,
   ⟨{ ref := {} }, { up .run with cfg := { copying := some { ref := {} } } }, rfl⟩,
   ⟨{ src := 2, ref := {} }, up .run, rfl, by decide⟩,
   ⟨[], {}, 0, st { up .run with imgValid := true, cfg := { apply := some ([], {}, 0) }, clk := { tick := 1 } }, by decide, by decide, by decide, _, rfl⟩⟩

theorem witness_MailboxDelivers :
    (∃ e : BoxEntry, ∃ rest : List BoxEntry, ∃ s : State, s.chip.box = e :: rest ∧ yardAlive s.chip = true ∧
        boxAccepts { s.chip with box := rest } e = true ∧ e.kind = .commit) ∧
    (∃ e : BoxEntry, ∃ rest : List BoxEntry, ∃ s : State, s.chip.box = e :: rest ∧ yardAlive s.chip = true ∧
        boxAccepts { s.chip with box := rest } e = true ∧ e.kind ≠ .commit) ∧
    (∃ e : BoxEntry, ∃ rest : List BoxEntry, ∃ s : State, s.chip.box = e :: rest ∧ yardAlive s.chip = true ∧
        boxAccepts { s.chip with box := rest } e = false) :=
  ⟨⟨{ kind := .commit, opcode := 0x0706 }, [], st { up .run with imgValid := true, receipts := 1, box := [{ kind := .commit, opcode := 0x0706 }] }, by decide, by decide, by decide, by decide⟩,
   ⟨{ kind := .severity, opcode := 0x0804 }, [], st { up .run with imgValid := true, receipts := 1, box := [{ kind := .severity, opcode := 0x0804 }] }, by decide, by decide, by decide, by decide⟩,
   ⟨{ kind := .severity, opcode := 0x0804 }, [], st { up .run with imgValid := true, box := [{ kind := .severity, opcode := 0x0804 }] }, by decide, by decide, by decide⟩⟩

theorem witness_FaultOpcodesComplete :
    (∃ rq : Request, ∃ s : State, Admitted 0x0801 { inRecovery := true } rq s.chip) ∧
    (∃ rq : Request, ∃ s : State, Admitted 0x0802 {} rq s.chip ∧ isBlock (arg rq 0 1) = true ∧ arg rq 1 1 ≤ 3) ∧
    (∃ rq : Request, ∃ s : State, Admitted 0x0803 { lenLo := 36, lenHi := 36 } rq s.chip ∧
        isBlock (arg rq 0 1) = true ∧ ∃ u, u = ({ taken 0x0803 rq s.chip with faults := { s.chip.faults with sticky := s.chip.faults.sticky.filter fun i => !(i / 256 == arg rq 0 1 && bitAt (rq.params.drop 4) (i % 256)) } })) ∧
    (∃ rq : Request, ∃ s : State, Admitted 0x0804 {} rq s.chip ∧
        severityChecks (arg rq 0 1) (arg rq 1 1) (arg rq 2 1) (arg rq 3 1) = none) ∧
    (∃ rq : Request, ∃ s : State, Admitted 0x0805 {} rq s.chip) ∧
    (∃ rq : Request, ∃ s : State, Admitted 0x0806 { inRecovery := true } rq s.chip) :=
  ⟨⟨rq [0, 0, 0, 0], st (up .run), by decide⟩,
   ⟨rq [1, 0, 0, 0], st (up .run), by decide, by decide, by decide⟩,
   ⟨rq (1 :: List.replicate 35 0), st (up .run), by decide, by decide, _, rfl⟩,
   ⟨rq [5, 1, 0, 0], st (up .run), by decide, by decide⟩,
   ⟨rq [0, 0, 0, 0], st (up .run), by decide⟩,
   ⟨rq [0, 0, 0, 0], st (up .run), by decide⟩⟩

theorem witness_WatchdogsServe :
    (∃ rq : Request, ∃ s : State, Admitted 0x0004 {} rq s.chip ∧ s.chip.img.dogs.wd1Period ≠ 0) ∧
    (∃ rq : Request, ∃ t : Nat, ∃ s : State, Admitted 0x0005 { lenLo := 8, lenHi := 8 } rq s.chip ∧
        s.chip.img.dogs.wd1Period ≠ 0 ∧ arg rq 0 2 = s.chip.dogs.wd1.seq ∧ s.chip.dogs.wd1.state = .disarmed ∧
        arg rq 2 2 = dogToken s.chip.dogs.wd1 (s.chip.port rq.port).station.toNat ∧
        ∃ u, u = postDog (startCycle ((taken 0x0005 rq s.chip).modDog .wd1 fun w => { w with state := .armed, first := true, station := (s.chip.port rq.port).station }) .wd1 t) .wd1 4) ∧
    (∃ rq : Request, ∃ t : Nat, ∃ s : State, Admitted 0x0005 { lenLo := 8, lenHi := 8 } rq s.chip ∧
        s.chip.img.dogs.wd1Period ≠ 0 ∧ arg rq 0 2 = s.chip.dogs.wd1.seq ∧ s.chip.dogs.wd1.state ≠ .disarmed ∧
        (s.chip.port rq.port).station = s.chip.dogs.wd1.station ∧
        arg rq 2 2 = dogToken s.chip.dogs.wd1 s.chip.dogs.wd1.station.toNat ∧
        (s.chip.dogs.wd1.first = true ∨ (s.chip.dogs.wd1.opening ≤ t ∧ t ≤ s.chip.dogs.wd1.deadline)) ∧
        ∃ u, u = goodService (taken 0x0005 rq s.chip) .wd1 t) ∧
    (∃ rq : Request, ∃ t : Nat, ∃ s : State, Admitted 0x0005 { lenLo := 8, lenHi := 8 } rq s.chip ∧
        s.chip.img.dogs.wd1Period ≠ 0 ∧ arg rq 0 2 = s.chip.dogs.wd1.seq ∧ s.chip.dogs.wd1.state ≠ .disarmed ∧
        (s.chip.port rq.port).station = s.chip.dogs.wd1.station ∧
        arg rq 2 2 = dogToken s.chip.dogs.wd1 s.chip.dogs.wd1.station.toNat ∧ s.chip.dogs.wd1.first = false ∧
        (s.chip.dogs.wd1.deadline < t ∨ t < s.chip.dogs.wd1.opening)) ∧
    (∃ w : Dog, ∃ s : State, yardAlive s.chip = true ∧ (s.chip.dog w).state ≠ .disarmed ∧
        (s.chip.dog w).deadline + 200000 ≤ s.chip.hall) ∧
    (∃ seq : Half, ∃ token : Half, ∃ s : State, yardWorks s.chip = true ∧ s.chip.dogs.wd0.state ≠ .disarmed ∧
        seq.toNat = s.chip.dogs.wd0.seq ∧ token.toNat ≠ dogToken s.chip.dogs.wd0 0) ∧
    (∃ seq : Half, ∃ token : Half, ∃ s : State, yardWorks s.chip = true ∧ s.chip.dogs.wd0.state ≠ .disarmed ∧
        seq.toNat = s.chip.dogs.wd0.seq ∧ token.toNat = dogToken s.chip.dogs.wd0 0 ∧
        (s.chip.dogs.wd0.first = true ∨ (s.chip.dogs.wd0.opening ≤ s.chip.hall ∧
        s.chip.hall ≤ s.chip.dogs.wd0.deadline))) ∧
    (∃ u : Chip, ∃ w : Chip, ∃ s : State, yardAlive s.chip = true ∧ s.chip.fw.yardStop = true ∧
        u = yardVerify (s.chip.modFw fun f => { f with yardStop := false }) ∧
        w = tellActivation (if u.fw.recovery then armWd0 (holdInRecovery u) else if s.chip.fw.recovery then armWd0 u else u) ∧
        w.net.resetEvent = none) :=
  ⟨⟨rq [0, 0, 0, 0], st { up .run with img := { dogs := { wd1Period := 1000 } } }, by decide, by decide⟩,
   ⟨rq [0, 0, 138, 178, 0, 0, 0, 0], 0, st { up .run with img := { dogs := { wd1Period := 1000 } } }, by decide, by decide, by decide, by decide, by decide, _, rfl⟩,
   ⟨rq [0, 0, 138, 178, 0, 0, 0, 0], 0, st { up .run with img := { dogs := { wd1Period := 1000 } }, dogs := { wd1 := { state := .armed } } }, by decide, by decide, by decide, by decide, by decide, by decide, by decide, _, rfl⟩,
   ⟨rq [0, 0, 138, 178, 0, 0, 0, 0], 1, st { up .run with img := { dogs := { wd1Period := 1000 } }, dogs := { wd1 := { state := .armed } } }, by decide, by decide, by decide, by decide, by decide, by decide, by decide, by decide⟩,
   ⟨.wd1, st { up .run with dogs := { wd1 := { state := .armed } }, clk := { hall := 200000 } }, by decide, by decide, by decide⟩,
   ⟨0#16, 1#16, st { up .run with dogs := { wd0 := { state := .armed } } }, by decide, by decide, by decide, by decide⟩,
   ⟨0#16, 45706#16, st { up .run with dogs := { wd0 := { state := .armed } } }, by decide, by decide, by decide, by decide, by decide⟩,
   ⟨_, _, st { up .run with imgValid := true, fw := { yardStop := true } }, by decide, by decide, rfl, rfl, by decide⟩⟩

theorem witness_RecorderOpcodesComplete :
    (∃ rq : Request, ∃ s : State, Admitted 0x0901 {} rq s.chip) ∧
    (∃ rq : Request, ∃ s : State, Admitted 0x0902 { lenLo := 12, lenHi := 12 } rq s.chip ∧ 1 ≤ arg rq 0 1 ∧
        arg rq 0 1 ≤ 4 ∧ (arg rq 0 1 = 4 → arg rq 1 1 ≤ 31 ∧
        ((tget s.chip.sketch.slots (arg rq 1 1)).any fun u => u.num % 2 ^ 32 == arg rq 8 4) = true) ∧
        ∃ us, ∃ out, us = areaUnits s.chip (arg rq 0 1) (arg rq 1 1) (arg rq 4 4) ∧
        out = us.take (if arg rq 2 2 = 0 then unitsThatFit rq.port 8 (areaSize (arg rq 0 1)) else min (arg rq 2 2) (unitsThatFit rq.port 8 (areaSize (arg rq 0 1)))) ∧
        (out.any fun u => mramBad s.chip u.2.2 (areaSize (arg rq 0 1))) = false) ∧
    (∃ rq : Request, ∃ s : State, Admitted 0x0903 {} rq s.chip ∧ ∃ u, u = (startFreeze (taken 0x0903 rq s.chip) 2 0)) ∧
    (∃ rq : Request, ∃ s : State, Admitted 0x0904 {} rq s.chip ∧ s.chip.sketch.pending = none ∧
        s.chip.sketch.frozen = true ∧ ∃ u, u = (thaw (taken 0x0904 rq s.chip))) ∧
    (∃ rq : Request, ∃ s : State, Admitted 0x0905 { lenLo := 16, lenHi := 16 } rq s.chip ∧
        ∃ u, u = (recPost (forEach 4 (fun d c => if (arg rq 0 1).testBit d && (tget c.img.recs.defs d).enable then addTrigger c d .host else c) (taken 0x0905 rq s.chip)) 0x0C 0 0 ((rq.params.drop 4).take 12))) :=
  ⟨⟨rq [0, 0, 0, 0], st (up .run), by decide⟩,
   ⟨rq [1, 0, 0, 0, 0, 0, 0, 0, 0, 0, 0, 0], st (up .run), by decide, by decide, by decide, by decide, _, _, rfl, rfl, by decide⟩,
   ⟨rq [0, 0, 0, 0], st (up .run), by decide, _, rfl⟩,
   ⟨rq [0, 0, 0, 0], st { up .run with sketch := { frozen := true } }, by decide, by decide, by decide, _, rfl⟩,
   ⟨rq (List.replicate 16 0), st (up .run), by decide, _, rfl⟩⟩

theorem witness_RecorderEventsAct :
    (∃ u : Chip, ∃ c : CapDef, ∃ g : SeqCfg, ∃ tr : Trig, ∃ cap : Capture, ∃ d : Fin 4, ∃ cause : TrigCause, ∃ s : State, yardAlive s.chip = true ∧
        s.chip.sketch.trigs.find? (fun t => t.defn == d.val && t.cause == cause) = some tr ∧
        u = s.chip.modSketch (fun k => { k with trigs := k.trigs.filter fun x => x != tr }) ∧
        c = tget u.img.recs.defs d ∧ seqInForce u c.seq = some g ∧ cap = captureOf u c g tr) ∧
    (∃ c : Capture, ∃ d : Fin 4, ∃ s : State, s.chip.sketch.running.find? (fun c => c.defn == d.val) = some c ∧
        (c.want ≤ c.post.length ∨ (s.chip.seq c.seq).state = .stopped ∨ s.chip.sketch.suspended = true)) ∧
    (∃ e : RecEvent, ∃ readBackGood : Bool, ∃ s : State, yardAlive s.chip = true ∧ s.chip.sketch.frozen = false ∧
        s.chip.sketch.queue.head? = some e ∧ (∀ c, s.chip.sketch.done.head? = some c → e.tick ≤ c.tick)) ∧
    (∃ c : Capture, ∃ readBackGood : Bool, ∃ s : State, yardAlive s.chip = true ∧ s.chip.sketch.frozen = false ∧
        s.chip.sketch.done.head? = some c ∧ (∀ e, s.chip.sketch.queue.head? = some e → ¬ e.tick ≤ c.tick)) ∧
    (∃ good : Bool, ∃ s : State, yardWorks s.chip = true ∧ s.chip.sketch.summaryNext ≤ s.chip.now) ∧
    (∃ good : Bool, ∃ u : Chip, ∃ v : Chip, ∃ s : State, yardAlive s.chip = true ∧ freezeDue s.chip = true ∧
        u = flushAllEvents good s.chip ∧
        v = writeEvent good { kind := 0x0A, hall := u.hall, detail := le 1 u.sketch.cause } u) :=
  ⟨⟨_, _, {}, { defn := 0, cause := .host }, captureOf ((up .run)) {} {} {}, 0, .host, st { up .run with imgValid := true, img := { seqs := [some {}], recs := { defs := [{}] } }, sketch := { trigs := [{ defn := 0, cause := .host }] } }, by decide, by decide, rfl, rfl, by decide, by decide⟩,
   ⟨{}, 0, st { up .run with imgValid := true, sketch := { running := [{}] } }, by decide, by decide⟩,
   ⟨{}, true, st { up .run with sketch := { queue := [{}] } }, by decide, by decide, by decide, by decide⟩,
   ⟨{}, true, st { up .run with sketch := { done := [{}] } }, by decide, by decide, by decide, by decide⟩,
   ⟨true, st (up .run), by decide, by decide⟩,
   ⟨true, _, _, st { up .run with sketch := { pending := some 0 } }, by decide, by decide, rfl, rfl⟩⟩

theorem witness_FirmwareOpcodesComplete :
    (∃ rq : Request, ∃ s : State, Admitted 0x0D01 { inRecovery := true } rq s.chip) ∧
    (∃ rq : Request, ∃ s : State, Admitted 0x0D02 { lenLo := 8, lenHi := 8, inRecovery := true } rq s.chip ∧
        arg rq 0 1 ≤ 1 ∧ arg rq 4 4 % 4 = 0 ∧ 256 ≤ arg rq 4 4 ∧ arg rq 4 4 ≤ fwSlotSize (arg rq 0 1) ∧
        fwStaging s.chip = false ∧ s.chip.fw.trial = false ∧
        ∃ u, u = ((setFwSlot (taken 0x0D02 rq s.chip) (arg rq 0 1) (1 - runningSlot s.chip.fw (arg rq 0 1)) fun _ => { valid := .staging }).modFw fun f => { f with stage := .opened, stageTarget := arg rq 0 1, stageLen := arg rq 4 4, staged := [] })) ∧
    (∃ rq : Request, ∃ s : State, Admitted 0x0D03 { lenLo := 4, lenHi := 4096, inRecovery := true } rq s.chip ∧
        (rq.params.drop 4).length % 4 = 0 ∧ s.chip.fw.stage = .opened ∧ arg rq 0 4 = s.chip.fw.staged.length ∧
        s.chip.fw.staged.length + (rq.params.drop 4).length ≤ s.chip.fw.stageLen ∧
        ∃ u, u = ((mramWritten (fwBase s.chip.fw.stageTarget (1 - runningSlot s.chip.fw s.chip.fw.stageTarget) + s.chip.fw.staged.length) (rq.params.drop 4).length (taken 0x0D03 rq s.chip)).modFw fun f => { f with staged := f.staged ++ rq.params.drop 4 })) ∧
    (∃ rq : Request, ∃ s : State, Admitted 0x0D04 { inRecovery := true } rq s.chip ∧ s.chip.fw.stage = .opened ∧
        s.chip.fw.staged.length = s.chip.fw.stageLen ∧
        ∃ u, u = ((taken 0x0D04 rq s.chip).modFw fun f => { f with stage := .verifying, endRef := some (refOf rq s.chip) })) ∧
    (∃ rq : Request, ∃ s : State, Admitted 0x0D05 activateRow rq s.chip ∧ arg rq 0 1 = 1 ∧ arg rq 1 1 ≤ 1 ∧
        activateModeBad s.chip (arg rq 1 1) = false) ∧
    (∃ rq : Request, ∃ s : State, Admitted 0x0D05 activateRow rq s.chip ∧ arg rq 0 1 = 2 ∧ arg rq 1 1 ≤ 1) ∧
    (∃ rq : Request, ∃ s : State, Admitted 0x0D05 activateRow rq s.chip ∧ arg rq 0 1 = 3 ∧ arg rq 1 1 ≤ 1 ∧
        activateModeBad s.chip (arg rq 1 1) = false) :=
  ⟨⟨rq [0, 0, 0, 0], st (up .run), by decide⟩,
   ⟨rq [0, 0, 0, 0, 0, 1, 0, 0], st (up .run), by decide, by decide, by decide, by decide, by decide, by decide, by decide, _, rfl⟩,
   ⟨rq [0, 0, 0, 0, 1, 2, 3, 4], st { up .run with fw := { stage := .opened, stageLen := 256 } }, by decide, by decide, by decide, by decide, by decide, _, rfl⟩,
   ⟨rq [0, 0, 0, 0], st { up .run with fw := { stage := .opened } }, by decide, by decide, by decide, _, rfl⟩,
   ⟨rq [1, 0, 0, 0], st (up .run), by decide, by decide, by decide, by decide⟩,
   ⟨rq [2, 0, 0, 0], st (up .run), by decide, by decide, by decide⟩,
   ⟨rq [3, 0, 0, 0], st (up .run), by decide, by decide, by decide, by decide⟩⟩

theorem witness_FirmwareEventsAct :
    (∃ k : Nat, ∃ raw : List Byte, ∃ n : Nat, ∃ u : Chip, ∃ eccBad : Bool, ∃ s : State, yardAlive s.chip = true ∧
        s.chip.fw.stage = .verifying ∧ k = 1 - runningSlot s.chip.fw s.chip.fw.stageTarget ∧ raw = s.chip.fw.staged ∧
        n = fwVerify s.chip.otp s.chip.fw.stageTarget (eccBad || mramBad s.chip (fwBase s.chip.fw.stageTarget k) raw.length) raw ∧
        u = setFwSlot s.chip s.chip.fw.stageTarget k (fun _ => { valid := if n = 0 then .valid else .invalid, result := n, version := field raw 8 4, rollback := field raw 12 4, bytes := raw })) ∧
    (∃ u : Chip, ∃ r : ReqRef, ∃ t : Nat, ∃ a : Nat, ∃ s : State, s.chip.fw.restart = some (t, r, a) ∧
        yardAlive s.chip = true ∧ (replyRead s.chip r = true ∨ a + 100000 ≤ s.chip.now) ∧
        u = s.chip.modFw (fun f => { f with told := some (5, t), restart := none })) ∧
    (∃ u : Chip, ∃ w : Chip, ∃ corrected : List Nat, ∃ uncorrectable : List Nat, ∃ s : State, yardAlive s.chip = true ∧
        u = { s.chip with mram := { bad := (uncorrectable.map mramWord).foldl (fun l a => insertUp a l) s.chip.mram.bad, scrubTick := s.chip.now } } ∧
        w = (if corrected.isEmpty then u else setFault u 0x1000)) ∧
    (∃ c : AgedClass, ∃ s : State, yardAlive s.chip = true ∧ agedOut s.chip c = true) ∧
    (∃ u : Chip, ∃ passed : Bool, ∃ s : State, yardAlive s.chip = true ∧ isStandby s.chip = true ∧
        u = s.chip.modShadow (fun h => { h with selfOk := passed, selfTick := some s.chip.now, selfHall := if passed then s.chip.hall else h.selfHall })) :=
  ⟨⟨_, _, _, _, true, st { up .run with imgValid := true, fw := { stage := .verifying } }, by decide, by decide, rfl, rfl, rfl, rfl⟩,
   ⟨_, {}, 0, 0, st { up .run with imgValid := true, fw := { restart := some (0, {}, 0) }, clk := { tick := 10000000 } }, by decide, by decide, by decide, rfl⟩,
   ⟨_, _, [], [], st (up .run), by decide, rfl, rfl⟩,
   ⟨.ledger, st { up .run with ledger := { queue := [{}] }, clk := { tick := 1000000000 } }, by decide, by decide⟩,
   ⟨_, true, st { up .run with mode := { mode := .run, target := .run, role := .standby } }, by decide, by decide, rfl⟩⟩

theorem witness_PairOpcodesComplete :
    (∃ rq : Request, ∃ s : State, Admitted 0x0A01 {} rq s.chip) ∧
    (∃ rq : Request, ∃ s : State, Admitted 0x0A02 {} rq s.chip) ∧
    (∃ rq : Request, ∃ s : State, Admitted 0x0A03 { activeOnly := true, inPowerDown := true } rq s.chip ∧
        isPaired s.chip = true ∧ partnerReady s.chip = true ∧ s.chip.mode.stage ≠ .powerDown ∧
        (s.chip.mode.mode = .bridge → arg rq 0 1 % 2 = 1) ∧ inHandover s.chip = false ∧
        ∃ u, u = (beginHandover (taken 0x0A03 rq s.chip) (some (refOf rq s.chip)) false false)) :=
  ⟨⟨rq [0, 0, 0, 0], st (up .run), by decide⟩,
   ⟨rq [0, 0, 0, 0], st (up .run), by decide⟩,
   ⟨rq [0, 0, 0, 0], st { up .run with strap := .a, pair := { partner := { head := some { ready := true } } } }, by decide, by decide, by decide, by decide, by decide, by decide, _, rfl⟩⟩

theorem witness_HandoverStepsAct :
    (∃ s : State, s.chip.pair.me.hand = .draining ∧ isActive s.chip = true ∧ nothingWaits s.chip = true) ∧
    (∃ u : Chip, ∃ t : Nat, ∃ s : State, s.chip.pair.me.hand = .announced t ∧ isActive s.chip = true ∧
        t + 1 ≤ tickNo s.chip ∧ (meteringRuns s.chip && (periodDue s.chip || stillDue s.chip)) = false ∧
        u = (giveRole s.chip .handover).modMe (fun p => { p with hand := .gone t, handRose := false, gapHold := true, handEpoch := some s.chip.mode.epoch, handovers := sat32 p.handovers 1 })) ∧
    (∃ u : Chip, ∃ t : Nat, ∃ s : State, s.chip.pair.me.hand = .gone t ∧ s.chip.pair.me.forceIn = false ∧
        s.chip.pair.me.handRose = false ∧ t + 5 ≤ tickNo s.chip ∧
        u = takeRole s.chip s.chip.mode.epoch .handover false) ∧
    (∃ t : Nat, ∃ s : State, s.chip.pair.me.listen = some t ∧ yardAlive s.chip = true ∧ s.chip.pair.me.heard = true ∧
        t + 10000 ≤ s.chip.now) ∧
    (∃ t : Nat, ∃ s : State, s.chip.pair.me.listen = some t ∧ yardAlive s.chip = true ∧ s.chip.pair.me.heard = false ∧
        t + (if s.chip.strap = .b then 20000 else 10000) ≤ s.chip.now) ∧
    (∃ s : State, isPaired s.chip = true ∧ yardAlive s.chip = true ∧ 3 ≤ s.chip.pair.partner.missed ∧
        s.chip.pair.partner.lost = false) ∧
    (∃ s : State, yardAlive s.chip = true ∧ isPaired s.chip = true ∧ isStandby s.chip = true ∧
        s.chip.pair.shadow.ready = true ∧ s.chip.pair.me.forceIn = false ∧ takeoverTrigger s.chip = true ∧
        s.chip.mode.stage ≠ .powerDown) ∧
    (∃ u : Chip, ∃ t : Nat, ∃ s : State, s.chip.pair.me.resumeAt = some t ∧ isActive s.chip = true ∧ t ≤ s.chip.now ∧
        u = resumeLinks (resumeRails (heldTrips (s.chip.modMe fun p => { p with resumeAt := none, gapHold := false })))) ∧
    (∃ u : Chip, ∃ s : State, yardAlive s.chip = true ∧ isStandby s.chip = true ∧ s.chip.pair.shadow.ready = false ∧
        s.chip.pair.me.forceIn = false ∧
        s.chip.pair.me.blockedSince.any (fun t => decide (t + 1000000 ≤ s.chip.now)) = true ∧
        s.chip.mode.stage ≠ .powerDown ∧
        u = dropShelf .feedOpen (takeRole s.chip ((s.chip.pair.partner.head.map MirrorHead.epoch).getD s.chip.mode.epoch) .blocked false)) ∧
    (∃ s : State, s.chip.pair.shadow.cond3.any (fun t => decide (t + s.chip.img.pair.resyncDwell * 1000000 ≤ s.chip.now)) = true) :=
  ⟨⟨st { up .run with imgValid := true, pair := { me := { hand := .draining }, out := { image := mirrorImage { up .run with imgValid := true } } } }, by decide, by decide, by decide⟩,
   ⟨_, 0, st { up .run with imgValid := true, pair := { me := { hand := .announced 0 } }, clk := { tick := 100000, hall := 100000000 } }, by decide, by decide, by decide, by decide, rfl⟩,
   ⟨_, 0, st { up .run with imgValid := true, pair := { me := { hand := .gone 0 } }, clk := { tick := 100000, hall := 100000000 } }, by decide, by decide, by decide, by decide, rfl⟩,
   ⟨0, st { up .run with imgValid := true, pair := { me := { listen := some 0, heard := true } }, clk := { tick := 100000, hall := 100000000 } }, by decide, by decide, by decide, by decide⟩,
   ⟨0, st { up .run with imgValid := true, pair := { me := { listen := some 0 } }, clk := { tick := 100000, hall := 100000000 } }, by decide, by decide, by decide, by decide⟩,
   ⟨st { up .run with strap := .a, pair := { partner := { missed := 3 } } }, by decide, by decide, by decide, by decide⟩,
   ⟨st { up .run with strap := .a, mode := { mode := .run, target := .run, role := .standby }, pair := { partner := { missed := 3 }, shadow := { ready := true } } }, by decide, by decide, by decide, by decide, by decide, by decide, by decide⟩,
   ⟨_, 0, st { up .run with imgValid := true, pair := { me := { resumeAt := some 0 } } }, by decide, by decide, by decide, rfl⟩,
   ⟨_, st { up .run with strap := .a, mode := { mode := .run, target := .run, role := .standby }, pair := { me := { blockedSince := some 0 } }, clk := { tick := 10000000000 } }, by decide, by decide, by decide, by decide, by decide, by decide, rfl⟩,
   ⟨st { up .run with imgValid := true, pair := { shadow := { cond3 := some 0 } }, clk := { tick := 10000000000 } }, by decide⟩⟩

theorem witness_MirrorFramesAct :
    (∃ h : MirrorHead, ∃ u : Chip, ∃ v : Chip, ∃ c : Chip, ∃ w : Chip, ∃ x : Chip, ∃ payload : List Byte, ∃ s : State, isPaired s.chip = true ∧
        payload.length = 64 ∧ (s.chip.np 0).state ≠ .topology ∧ h = headOf payload ∧
        u = (touchNp0 s.chip).modPartner (fun q => { q with head := some h, got := if inTime (touchNp0 s.chip) (field payload 4 4) then field payload 4 4 :: q.got else q.got }) ∧
        v = u.modMe (fun q => { q with heardEpoch := h.epoch, heard := q.heard || (q.listen.isSome && h.active) }) ∧
        yardAlive s.chip = true ∧ yardAlive v = true ∧
        (c = (if h.strap = 1 ∨ h.strap = 2 then evalFault v 0x0C00 (h.strap == v.strap.code) else v)) ∧
        w = settleTakeover (handoverSeen (if h.active then stillRecorded c (field payload 4 4) else c) h) h ∧
        x = crossCheck (if isStandby w && h.active then takeFrame payload (followEpoch (followMode w h.modeWord) h.epoch) else w) h) ∧
    (∃ h : MirrorHead, ∃ u : Chip, ∃ v : Chip, ∃ payload : List Byte, ∃ s : State, isPaired s.chip = true ∧
        payload.length = 64 ∧ (s.chip.np 0).state ≠ .topology ∧ h = headOf payload ∧
        u = (touchNp0 s.chip).modPartner (fun q => { q with head := some h, got := if inTime (touchNp0 s.chip) (field payload 4 4) then field payload 4 4 :: q.got else q.got }) ∧
        v = u.modMe (fun q => { q with heardEpoch := h.epoch, heard := q.heard || (q.listen.isSome && h.active) }) ∧
        yardAlive s.chip = false ∧ s.chip.pair.me.listen.isSome = true ∧ yardAlive v = false) :=
  ⟨⟨_, _, _, _, _, _, List.replicate 64 0#8, st { up .run with strap := .a }, by decide, by decide, by decide, rfl, rfl, rfl, by decide, by decide, rfl, rfl, rfl⟩,
   ⟨_, _, _, List.replicate 64 0#8, st { up .wake with strap := .a, pair := { me := { listen := some 0 } } }, by decide, by decide, by decide, rfl, rfl, rfl, by decide, by decide, by decide⟩⟩

theorem witness_NymiLinkActs :
    (∃ u : Chip, ∃ p : Fin 4, ∃ s : State, u = clearSent s.chip ∧ yardAlive u = true ∧ portUsed u p = true ∧
        (u.np p).state = .down) ∧
    (∃ u : Chip, ∃ p : Fin 4, ∃ s : State, u = clearSent s.chip ∧ yardAlive u = true ∧ portUsed u p = true ∧
        (u.np p).state ≠ .down ∧ (u.np p).helloNext ≤ u.now) ∧
    (∃ u : Chip, ∃ v : Chip, ∃ n : Neighbour, ∃ w : Chip, ∃ p : Fin 4, ∃ f : Frame, ∃ s : State, u = clearSent s.chip ∧
        yardAlive u = true ∧ portUsed u p = true ∧ (u.np p).state ≠ .down ∧ f.ftype.toNat = 0x02 ∧
        lenFits 0x02 f.payload.length = true ∧ f.crc = frameCrc f ∧ f.dst.toNat / 2 ^ 14 ≠ 3 ∧
        v = u.modNp p (fun x => { x with lastValid := u.now }) ∧ f.hops.toNat < 32 ∧ n = helloOf f.payload ∧
        n.strap ≤ 2 ∧ neighbourFits v p n = true ∧
        w = v.modNp p (fun x => { x with near := some n, good := min 3 (x.good + 1) })) ∧
    (∃ u : Chip, ∃ v : Chip, ∃ n : Neighbour, ∃ p : Fin 4, ∃ f : Frame, ∃ s : State, u = clearSent s.chip ∧
        yardAlive u = true ∧ portUsed u p = true ∧ (u.np p).state ≠ .down ∧ f.ftype.toNat = 0x02 ∧
        lenFits 0x02 f.payload.length = true ∧ f.crc = frameCrc f ∧ f.dst.toNat / 2 ^ 14 ≠ 3 ∧
        v = u.modNp p (fun x => { x with lastValid := u.now }) ∧ f.hops.toNat < 32 ∧ n = helloOf f.payload ∧
        n.strap ≤ 2 ∧ neighbourFits v p n = false) ∧
    (∃ u : Chip, ∃ v : Chip, ∃ p : Fin 4, ∃ f : Frame, ∃ s : State, u = clearSent s.chip ∧ yardAlive u = true ∧
        portUsed u p = true ∧ (u.np p).state ≠ .down ∧ f.ftype.toNat = 0x02 ∧ lenFits 0x02 f.payload.length = true ∧
        f.crc = frameCrc f ∧ f.dst.toNat / 2 ^ 14 ≠ 3 ∧ v = u.modNp p (fun x => { x with lastValid := u.now }) ∧
        f.hops.toNat < 32 ∧ 2 < (helloOf f.payload).strap) ∧
    (∃ u : Chip, ∃ p : Fin 4, ∃ c : DownCause, ∃ s : State, u = clearSent s.chip ∧ yardAlive u = true ∧
        portUsed u p = true ∧ (u.np p).state ≠ .down ∧ downCauseHolds u p c = true) ∧
    (∃ u : Chip, ∃ p : Fin 4, ∃ s : State, u = clearSent s.chip ∧ yardAlive u = true ∧ portUsed u p = true ∧
        (u.np p).state ≠ .down) :=
  ⟨⟨_, 0, st { up .run with imgValid := true, img := { hall := { enable := true, pairs := 3 } }, net := { ports := [] } }, rfl, by decide, by decide, by decide⟩,
   ⟨_, 0, st { up .run with imgValid := true, img := { hall := { enable := true, pairs := 3 } }, net := { ports := [{ state := .training }] } }, rfl, by decide, by decide, by decide, by decide⟩,
   ⟨_, _, _, _, 0, sealFrame { ftype := 0x02#8, payload := [255#8, 255#8, 2#8, 0#8, 0#8, 0#8, 0#8, 0#8] }, st { up .run with strap := .a, net := { ports := [{ state := .training }] } }, rfl, by decide, by decide, by decide, by decide, by decide, by decide, by decide, rfl, by decide, rfl, by decide, by decide, rfl⟩,
   ⟨_, _, _, 0, sealFrame { ftype := 0x02#8, payload := List.replicate 8 0#8 }, st { up .run with strap := .a, net := { ports := [{ state := .training }] } }, rfl, by decide, by decide, by decide, by decide, by decide, by decide, by decide, rfl, by decide, rfl, by decide, by decide⟩,
   ⟨_, _, 0, sealFrame { ftype := 0x02#8, payload := [255#8, 255#8, 3#8, 0#8, 0#8, 0#8, 0#8, 0#8] }, st { up .run with strap := .a, net := { ports := [{ state := .training }] } }, rfl, by decide, by decide, by decide, by decide, by decide, by decide, by decide, rfl, by decide, by decide⟩,
   ⟨_, 0, .noSignal, st { up .run with strap := .a, net := { ports := [{ state := .training }] } }, rfl, by decide, by decide, by decide, by decide⟩,
   ⟨_, 0, st { up .run with imgValid := true, img := { hall := { enable := true, pairs := 3 } }, net := { ports := [{ state := .training }] } }, rfl, by decide, by decide, by decide⟩⟩

theorem witness_HallTimeFramesAct :
    (∃ u : Chip, ∃ q : Nat, ∃ t1 : Nat, ∃ s : State, u = refreshNet (clearSent s.chip) ∧ u.net.time.parent = some q ∧
        yardAlive u = true ∧ parentThere u = true ∧ u.net.time.next ≤ u.now) ∧
    (∃ v : Chip, ∃ p : Fin 4, ∃ f : Frame, ∃ t2 : Nat, ∃ t3 : Nat, ∃ s : State, Heard 0x03 p f s.chip v) ∧
    (∃ v : Chip, ∃ w : Chip, ∃ x : Chip, ∃ q : Nat, ∃ a1 : Nat, ∃ a2 : Nat, ∃ a4 : Nat, ∃ p : Fin 4, ∃ f : Frame, ∃ t4 : Nat, ∃ s : State, Heard 0x04 p f s.chip v ∧
        v.net.time.ask = some (f.fid.toNat, q) ∧ v.net.time.parent = some p.val ∧
        w = (if p.val = 0 then { v with pair := { v.pair with me := { v.pair.me with heardHall := field f.payload 0 8 / 256 / 100 * 100 } } } else v) ∧
        x = w.modTime (fun t => { t with ask := none, last := some (q, field f.payload 0 8, t4 % 2 ^ 64) }) ∧
        v.net.time.last = some (a1, a2, a4) ∧ field f.payload 8 8 ≠ 0) ∧
    (∃ v : Chip, ∃ w : Chip, ∃ x : Chip, ∃ q : Nat, ∃ p : Fin 4, ∃ f : Frame, ∃ t4 : Nat, ∃ s : State, Heard 0x04 p f s.chip v ∧
        v.net.time.ask = some (f.fid.toNat, q) ∧ v.net.time.parent = some p.val ∧
        w = (if p.val = 0 then { v with pair := { v.pair with me := { v.pair.me with heardHall := field f.payload 0 8 / 256 / 100 * 100 } } } else v) ∧
        x = w.modTime (fun t => { t with ask := none, last := some (q, field f.payload 0 8, t4 % 2 ^ 64) }) ∧
        (v.net.time.last = none ∨ field f.payload 8 8 = 0)) :=
  ⟨⟨_, 0, 0, st { up .run with strap := .a, mode := { mode := .run, target := .run, role := .standby }, net := { ports := [{ state := .up }], time := { parent := some 0 } } }, rfl, by decide, by decide, by decide, by decide⟩,
   ⟨_, 0, sealFrame { ftype := 0x03#8 }, 0, 0, st { up .run with strap := .a, net := { ports := [{ state := .up }] } }, ⟨by decide, by decide, by decide, by decide, by decide, rfl, by decide, by decide, rfl⟩⟩,
   ⟨_, _, _, 7, 1, 2, 3, 0, sealFrame { ftype := 0x04#8, payload := List.replicate 16 1#8 }, 0, st { up .run with strap := .a, net := { ports := [{ state := .up }], time := { parent := some 0, ask := some (0, 7), last := some (1, 2, 3) } } }, ⟨by decide, by decide, by decide, by decide, by decide, rfl, by decide, by decide, rfl⟩, by decide, by decide, rfl, rfl, by decide, by decide⟩,
   ⟨_, _, _, 7, 0, sealFrame { ftype := 0x04#8, payload := List.replicate 16 0#8 }, 0, st { up .run with strap := .a, net := { ports := [{ state := .up }], time := { parent := some 0, ask := some (0, 7) } } }, ⟨by decide, by decide, by decide, by decide, by decide, rfl, by decide, by decide, rfl⟩, by decide, by decide, rfl, rfl, by decide⟩⟩

theorem witness_HallEventFramesAct :
    (∃ v : Chip, ∃ p : Fin 4, ∃ f : Frame, ∃ s : State, Heard 0x10 p f s.chip v ∧ inHall v = true) ∧
    (∃ v : Chip, ∃ b : Barrier, ∃ p : Fin 4, ∃ f : Frame, ∃ s : State, Heard 0x11 p f s.chip v ∧ inHall v = true ∧
        v.net.barrier.filter (fun b => b.openAt.isSome) = some b) ∧
    (∃ v : Chip, ∃ p : Fin 4, ∃ f : Frame, ∃ s : State, Heard 0x11 p f s.chip v ∧ inHall v = true ∧
        v.net.barrier.filter (fun b => b.openAt.isSome) = none) ∧
    (∃ v : Chip, ∃ p : Fin 4, ∃ f : Frame, ∃ s : State, Heard 0x12 p f s.chip v ∧ inHall v = true) ∧
    (∃ v : Chip, ∃ p : Fin 4, ∃ f : Frame, ∃ s : State, Heard 0x13 p f s.chip v ∧ inHall v = true) ∧
    (∃ u : Chip, ∃ b : Barrier, ∃ s : State, u = clearSent s.chip ∧ u.net.barrier = some b ∧ yardAlive u = true ∧
        inHall u = true ∧ b.sent = false ∧
        b.openAt.any (fun t => decide (t + u.img.hall.barrierTimeout * 1000 ≤ u.now)) = true) ∧
    (∃ v : Chip, ∃ w : Chip, ∃ p : Fin 4, ∃ f : Frame, ∃ s : State, Heard 0x14 p f s.chip v ∧ inHall v = true ∧
        schedAssigned f.payload = true ∧ w = sendDown (some p.val) f v) ∧
    (∃ v : Chip, ∃ p : Fin 4, ∃ f : Frame, ∃ s : State, Heard 0x14 p f s.chip v ∧ schedAssigned f.payload = false) ∧
    (∃ v : Chip, ∃ y : Status, ∃ p : Fin 4, ∃ f : Frame, ∃ s : State, Heard 0x24 p f s.chip v ∧ Delivered f v ∧
        isRoot v = true ∧ yardWorks v = true ∧ judgeSchedule v f.payload = y) ∧
    (∃ v : Chip, ∃ a : SchedAsk, ∃ y : Status, ∃ p : Fin 4, ∃ f : Frame, ∃ s : State, Heard 0x25 p f s.chip v ∧
        Delivered f v ∧ v.net.asks.find? (fun x => x.fid == f.fid.toNat) = some a ∧
        statusOfCode (field f.payload 0 2) = some y) ∧
    (∃ u : Chip, ∃ w : Chip, ∃ s : State, u = clearSent s.chip ∧ yardAlive u = true ∧
        w = (if u.net.still.any (fun x => decide (x.at_ ≤ u.hall)) then stillAction u else u)) ∧
    (∃ v : Chip, ∃ p : Fin 4, ∃ f : Frame, ∃ s : State, Heard 0x20 p f s.chip v ∧ Delivered f v) ∧
    (∃ v : Chip, ∃ a : MsgAsk, ∃ p : Fin 4, ∃ f : Frame, ∃ s : State, Heard 0x21 p f s.chip v ∧ Delivered f v ∧
        v.net.msgs.find? (fun x => x.fid == f.fid.toNat) = some a ∧
        (field f.payload 0 2 = Status.ok.code ∨ field f.payload 0 2 = Status.roleChanged.code)) ∧
    (∃ v : Chip, ∃ p : Fin 4, ∃ f : Frame, ∃ s : State, Heard 0x21 p f s.chip v ∧ Delivered f v ∧
        v.net.msgs.find? (fun x => x.fid == f.fid.toNat) = none ∧
        (field f.payload 0 2 = Status.ok.code ∨ field f.payload 0 2 = Status.roleChanged.code)) :=
  ⟨⟨_, 2, sealFrame { ftype := 0x10#8, payload := List.replicate 16 0#8 }, st { rootChip with net := { ports := [{}, {}, { state := .up }, { state := .up }] } }, ⟨by decide, by decide, by decide, by decide, by decide, rfl, by decide, by decide, rfl⟩, by decide⟩,
   ⟨_, { openAt := some 0 }, 2, sealFrame { ftype := 0x11#8, payload := List.replicate 8 0#8 }, st { rootChip with net := { ports := [{}, {}, { state := .up }, { state := .up }], barrier := some { openAt := some 0 } } }, ⟨by decide, by decide, by decide, by decide, by decide, rfl, by decide, by decide, rfl⟩, by decide, by decide⟩,
   ⟨_, 2, sealFrame { ftype := 0x11#8, payload := List.replicate 8 0#8 }, st { rootChip with net := { ports := [{}, {}, { state := .up }, { state := .up }] } }, ⟨by decide, by decide, by decide, by decide, by decide, rfl, by decide, by decide, rfl⟩, by decide, by decide⟩,
   ⟨_, 2, sealFrame { ftype := 0x12#8, payload := List.replicate 4 0#8 }, st { rootChip with net := { ports := [{}, {}, { state := .up }, { state := .up }] } }, ⟨by decide, by decide, by decide, by decide, by decide, rfl, by decide, by decide, rfl⟩, by decide⟩,
   ⟨_, 2, sealFrame { ftype := 0x13#8, payload := List.replicate 16 0#8 }, st { rootChip with net := { ports := [{}, {}, { state := .up }, { state := .up }] } }, ⟨by decide, by decide, by decide, by decide, by decide, rfl, by decide, by decide, rfl⟩, by decide⟩,
   ⟨_, { openAt := some 0 }, st { rootChip with net := { ports := [{}, {}, { state := .up }, { state := .up }], barrier := some { openAt := some 0 } } }, rfl, by decide, by decide, by decide, by decide, by decide⟩,
   ⟨_, _, 2, sealFrame { ftype := 0x14#8, payload := 1#8 :: List.replicate 15 0#8 }, st { rootChip with net := { ports := [{}, {}, { state := .up }, { state := .up }] } }, ⟨by decide, by decide, by decide, by decide, by decide, rfl, by decide, by decide, rfl⟩, by decide, by decide, rfl⟩,
   ⟨_, 2, sealFrame { ftype := 0x14#8, payload := List.replicate 16 0#8 }, st { rootChip with net := { ports := [{}, {}, { state := .up }, { state := .up }] } }, ⟨by decide, by decide, by decide, by decide, by decide, rfl, by decide, by decide, rfl⟩, by decide⟩,
   ⟨_, .badParam, 2, sealFrame { ftype := 0x24#8, payload := List.replicate 16 0#8, dst := BitVec.ofNat 16 0, epoch := 0xFFFF#16 }, st { rootChip with net := { ports := [{}, {}, { state := .up }, { state := .up }] } }, ⟨by decide, by decide, by decide, by decide, by decide, rfl, by decide, by decide, rfl⟩, by decide, by decide, by decide, by decide⟩,
   ⟨_, {}, default, 2, sealFrame { ftype := 0x25#8, payload := List.replicate 4 0#8, dst := BitVec.ofNat 16 0, epoch := 0xFFFF#16 }, st { rootChip with net := { ports := [{}, {}, { state := .up }, { state := .up }], asks := [{}] } }, ⟨by decide, by decide, by decide, by decide, by decide, rfl, by decide, by decide, rfl⟩, by decide, by decide, by decide⟩,
   ⟨_, _, st { rootChip with net := { ports := [{}, {}, { state := .up }, { state := .up }] } }, rfl, by decide, rfl⟩,
   ⟨_, 2, sealFrame { ftype := 0x20#8, payload := List.replicate 16 0#8, dst := BitVec.ofNat 16 0, epoch := 0xFFFF#16 }, st { rootChip with net := { ports := [{}, {}, { state := .up }, { state := .up }] } }, ⟨by decide, by decide, by decide, by decide, by decide, rfl, by decide, by decide, rfl⟩, by decide⟩,
   ⟨_, {}, 2, sealFrame { ftype := 0x21#8, payload := List.replicate 8 0#8, dst := BitVec.ofNat 16 0, epoch := 0xFFFF#16 }, st { rootChip with net := { ports := [{}, {}, { state := .up }, { state := .up }], msgs := [{}] } }, ⟨by decide, by decide, by decide, by decide, by decide, rfl, by decide, by decide, rfl⟩, by decide, by decide, by decide⟩,
   ⟨_, 2, sealFrame { ftype := 0x21#8, payload := List.replicate 8 0#8, dst := BitVec.ofNat 16 0, epoch := 0xFFFF#16 }, st { rootChip with net := { ports := [{}, {}, { state := .up }, { state := .up }] } }, ⟨by decide, by decide, by decide, by decide, by decide, rfl, by decide, by decide, rfl⟩, by decide, by decide, by decide⟩⟩

theorem witness_HallCapAndCollectFramesAct :
    (∃ v : Chip, ∃ k : Nat, ∃ putr : List (Nat × Nat × Nat) →
        List (Nat × Nat × Nat), ∃ p : Fin 4, ∃ f : Frame, ∃ s : State, Heard 0x22 p f s.chip v ∧ Delivered f v ∧
        capMember v = true ∧ k = f.src.toNat % 2 ^ 10 / 2 ∧ (childPairs v).contains k = true ∧
        putr = (fun (l : List (Nat × Nat × Nat)) => (k, field f.payload 4 4, field f.payload 8 4) :: l.filter fun x => x.1 != k)) ∧
    (∃ v : Chip, ∃ p : Fin 4, ∃ f : Frame, ∃ s : State, Heard 0x23 p f s.chip v ∧ Delivered f v ∧ capMember v = true ∧
        v.net.cap.open_ = true ∧ field f.payload 0 4 = roundField v ∧ v.hall < v.net.cap.start + capAllocBy) ∧
    (∃ v : Chip, ∃ p : Fin 4, ∃ f : Frame, ∃ s : State, Heard 0x30 p f s.chip v ∧ Delivered f v) ∧
    (∃ v : Chip, ∃ p : Fin 4, ∃ f : Frame, ∃ s : State, Heard 0x31 p f s.chip v ∧ Delivered f v) ∧
    (∃ u : Chip, ∃ s : State, u = clearSent s.chip ∧ yardAlive u = true ∧ u.net.coll.state = .running ∧
        u.net.coll.asked + 100000 ≤ u.now ∧ u.net.coll.at_ + 6010000000 ≤ u.hall ∧ u.net.coll.heard = true) ∧
    (∃ u : Chip, ∃ s : State, u = clearSent s.chip ∧ yardAlive u = true ∧ u.net.coll.state = .running ∧
        u.net.coll.asked + 100000 ≤ u.now ∧ u.net.coll.at_ + 6010000000 ≤ u.hall ∧ u.net.coll.heard = false) :=
  ⟨⟨_, _, _, 2, sealFrame { ftype := 0x22#8, src := 2#16, payload := List.replicate 12 0#8, dst := BitVec.ofNat 16 0, epoch := 0xFFFF#16 }, st { rootChip with net := { ports := [{}, {}, { state := .up }, { state := .up }] } }, ⟨by decide, by decide, by decide, by decide, by decide, rfl, by decide, by decide, rfl⟩, by decide, by decide, rfl, by decide, rfl⟩,
   ⟨_, 2, sealFrame { ftype := 0x23#8, payload := List.replicate 8 0#8, dst := BitVec.ofNat 16 0, epoch := 0xFFFF#16 }, st { rootChip with net := { ports := [{}, {}, { state := .up }, { state := .up }], cap := { open_ := true, start := 1000000000000 } } }, ⟨by decide, by decide, by decide, by decide, by decide, rfl, by decide, by decide, rfl⟩, by decide, by decide, by decide, by decide, by decide⟩,
   ⟨_, 2, sealFrame { ftype := 0x30#8, payload := List.replicate 12 0#8, dst := BitVec.ofNat 16 0, epoch := 0xFFFF#16 }, st { rootChip with net := { ports := [{}, {}, { state := .up }, { state := .up }] } }, ⟨by decide, by decide, by decide, by decide, by decide, rfl, by decide, by decide, rfl⟩, by decide⟩,
   ⟨_, 2, sealFrame { ftype := 0x31#8, payload := List.replicate 12 0#8, dst := BitVec.ofNat 16 0, epoch := 0xFFFF#16 }, st { rootChip with net := { ports := [{}, {}, { state := .up }, { state := .up }] } }, ⟨by decide, by decide, by decide, by decide, by decide, rfl, by decide, by decide, rfl⟩, by decide⟩,
   ⟨_, st { rootChip with net := { ports := [{}, {}, { state := .up }, { state := .up }], coll := { state := .running, heard := true } } }, rfl, by decide, by decide, by decide, by decide, by decide⟩,
   ⟨_, st { rootChip with net := { ports := [{}, {}, { state := .up }, { state := .up }], coll := { state := .running } } }, rfl, by decide, by decide, by decide, by decide, by decide⟩⟩

theorem witness_HallOpcodesComplete :
    (∃ rq : Request, ∃ s : State, Admitted 0x0B01 {} rq s.chip) ∧
    (∃ rq : Request, ∃ s : State, Admitted 0x0B02 {} rq s.chip) ∧
    (∃ rq : Request, ∃ v : Chip, ∃ s : State, Admitted 0x0B03 { lenLo := 8, lenHi := 8 } rq s.chip ∧
        v = clearSent (taken 0x0B03 rq s.chip) ∧ hallDenied true v = false ∧
        ∃ u, u = (climbBroadcast none (ownFrame v 0x10 dstTree (le 2 (nodeId v) ++ zeros 2 ++ fit 8 rq.params ++ zeros 4)) (nextFid v))) ∧
    (∃ rq : Request, ∃ v : Chip, ∃ s : State, Admitted 0x0B04 {} rq s.chip ∧ v = clearSent (taken 0x0B04 rq s.chip) ∧
        hallDenied true v = false ∧ participant v = true ∧ (v.net.barrier.any fun b => b.own) = false) ∧
    (∃ rq : Request, ∃ v : Chip, ∃ s : State, Admitted 0x0B05 { lenLo := 8, lenHi := 8, activeOnly := true } rq s.chip ∧
        v = clearSent (taken 0x0B05 rq s.chip) ∧ inHall s.chip = true ∧ v.hall + minLead v ≤ (arg rq 0 8) ∧
        hallDenied true v = false ∧ isRoot v = true ∧
        judgeSchedule v (le 1 1 ++ le 1 0 ++ le 2 (nodeId v) ++ zeros 4 ++ le 8 (arg rq 0 8)) = .ok ∧
        ∃ u, u = (acceptSchedule (le 1 1 ++ le 1 0 ++ le 2 (nodeId v) ++ zeros 4 ++ le 8 (arg rq 0 8)) v)) ∧
    (∃ rq : Request, ∃ v : Chip, ∃ f : Frame, ∃ s : State, Admitted 0x0B05 { lenLo := 8, lenHi := 8, activeOnly := true } rq s.chip ∧
        v = clearSent (taken 0x0B05 rq s.chip) ∧ inHall s.chip = true ∧ v.hall + minLead v ≤ (arg rq 0 8) ∧
        hallDenied true v = false ∧ isRoot v = false ∧
        f = { ownFrame v 0x24 (dstActive 0) (le 1 1 ++ le 1 0 ++ le 2 (nodeId v) ++ zeros 4 ++ le 8 (arg rq 0 8)) with epoch := 0xFFFF#16 }) ∧
    (∃ rq : Request, ∃ v : Chip, ∃ s : State, Admitted 0x0B06 { lenLo := 12, lenHi := 12, activeOnly := true } rq s.chip ∧
        v = clearSent (taken 0x0B06 rq s.chip) ∧ inHall s.chip = true ∧ (arg rq 0 1 % 16) % 4 ≠ 0 ∧
        (arg rq 0 1 % 16) % 4 ≠ 3 ∧ v.hall + minLead v ≤ (arg rq 4 8) ∧ hallDenied true v = false ∧ isRoot v = true ∧
        judgeSchedule v (le 1 2 ++ le 1 (arg rq 0 1 % 16) ++ le 2 (nodeId v) ++ zeros 4 ++ le 8 (arg rq 4 8)) = .ok ∧
        ∃ u, u = (acceptSchedule (le 1 2 ++ le 1 (arg rq 0 1 % 16) ++ le 2 (nodeId v) ++ zeros 4 ++ le 8 (arg rq 4 8)) v)) ∧
    (∃ rq : Request, ∃ v : Chip, ∃ f : Frame, ∃ s : State, Admitted 0x0B06 { lenLo := 12, lenHi := 12, activeOnly := true } rq s.chip ∧
        v = clearSent (taken 0x0B06 rq s.chip) ∧ inHall s.chip = true ∧ (arg rq 0 1 % 16) % 4 ≠ 0 ∧
        (arg rq 0 1 % 16) % 4 ≠ 3 ∧ v.hall + minLead v ≤ (arg rq 4 8) ∧ hallDenied true v = false ∧ isRoot v = false ∧
        f = { ownFrame v 0x24 (dstActive 0) (le 1 2 ++ le 1 (arg rq 0 1 % 16) ++ le 2 (nodeId v) ++ zeros 4 ++ le 8 (arg rq 4 8)) with epoch := 0xFFFF#16 }) ∧
    (∃ rq : Request, ∃ v : Chip, ∃ s : State, Admitted 0x0B07 { lenLo := 12, lenHi := 12 } rq s.chip ∧
        v = clearSent (taken 0x0B07 rq s.chip) ∧ inHall v = true ∧ arg rq 0 1 = 1 ∧ collBusy v.net.coll = false ∧
        ∃ w, w = v.modColl (fun _ => { at_ := arg rq 4 8, ref := some (refOf rq s.chip) })) ∧
    (∃ rq : Request, ∃ v : Chip, ∃ us : List (List Byte), ∃ w : Chip, ∃ s : State, Admitted 0x0B07 { lenLo := 12, lenHi := 12 } rq s.chip ∧
        v = clearSent (taken 0x0B07 rq s.chip) ∧ inHall v = true ∧ arg rq 0 1 = 2 ∧
        us = unitsFit v.net.coll.buf (portLimit rq.port - 4) (if arg rq 4 2 = 0 then v.net.coll.buf.length else arg rq 4 2) ∧
        w = v.modColl (fun c => { c with buf := v.net.coll.buf.drop us.length }) ∧
        ∃ u, u = (if v.net.coll.state == .waiting then askNext w else w)) ∧
    (∃ rq : Request, ∃ s : State, Admitted 0x0B07 {} rq s.chip ∧ inHall s.chip = true ∧ arg rq 0 1 = 3 ∧
        ∃ u, u = (taken 0x0B07 rq s.chip)) ∧
    (∃ rq : Request, ∃ s : State, Admitted 0x0B07 {} rq s.chip ∧ inHall s.chip = true ∧ arg rq 0 1 = 4 ∧
        ∃ u, u = (if collBusy s.chip.net.coll then setColl .cancelled (taken 0x0B07 rq s.chip) else taken 0x0B07 rq s.chip)) ∧
    (∃ rq : Request, ∃ v : Chip, ∃ f : Frame, ∃ w : Chip, ∃ s : State, Admitted 0x0B08 { lenLo := 16, lenHi := 16 } rq s.chip ∧
        v = clearSent (taken 0x0B08 rq s.chip) ∧ inHall v = true ∧ arg rq 0 1 ≤ 1 ∧
        arg rq 2 2 < (if arg rq 0 1 = 0 then 2 * v.img.hall.pairs else v.img.hall.pairs) ∧ f = sendFrame v rq ∧
        w = nextFid (v.modNet fun x => { x with msgs := x.msgs ++ [{ fid := v.net.frameId, dst := arg rq 2 2, ref := refOf rq s.chip, sent := v.now }] }) ∧
        ∃ x, x = formReply w (refOf rq s.chip) .accepted (le 2 v.net.frameId ++ zeros 2)) :=
  ⟨⟨rq [0, 0, 0, 0], st (up .run), by decide⟩,
   ⟨rq [0, 0, 0, 0], st (up .run), by decide⟩,
   ⟨rq [0, 0, 0, 0, 0, 0, 0, 0], _, st rootChip, by decide, rfl, by decide, _, rfl⟩,
   ⟨rq [0, 0, 0, 0], _, st rootChip, by decide, rfl, by decide, by decide, by decide⟩,
   ⟨rq [0, 56, 16, 195, 233, 0, 0, 0], _, st rootChip, by decide, rfl, by decide, by decide, by decide, by decide, by decide, _, rfl⟩,
   ⟨rq [0, 56, 16, 195, 233, 0, 0, 0], _, _, st { childChip with net := { ports := [{}, { state := .up }] } }, by decide, rfl, by decide, by decide, by decide, by decide, rfl⟩,
   ⟨rq [1, 0, 0, 0, 0, 56, 16, 195, 233, 0, 0, 0], _, st rootChip, by decide, rfl, by decide, by decide, by decide, by decide, by decide, by decide, by decide, _, rfl⟩,
   ⟨rq [1, 0, 0, 0, 0, 56, 16, 195, 233, 0, 0, 0], _, _, st { childChip with net := { ports := [{}, { state := .up }] } }, by decide, rfl, by decide, by decide, by decide, by decide, by decide, by decide, rfl⟩,
   ⟨rq [1, 0, 0, 0, 0, 0, 0, 0, 0, 0, 0, 0], _, st rootChip, by decide, rfl, by decide, by decide, by decide, _, rfl⟩,
   ⟨rq [2, 0, 0, 0, 0, 0, 0, 0, 0, 0, 0, 0], _, default, _, st rootChip, by decide, rfl, by decide, by decide, by decide, rfl, _, rfl⟩,
   ⟨rq [3, 0, 0, 0], st rootChip, by decide, by decide, by decide, _, rfl⟩,
   ⟨rq [4, 0, 0, 0], st rootChip, by decide, by decide, by decide, _, rfl⟩,
   ⟨rq (List.replicate 16 0), _, _, _, st rootChip, by decide, rfl, by decide, by decide, by decide, rfl, rfl, _, rfl⟩⟩

theorem witness_ServiceOpcodesComplete :
    (∃ rq : Request, ∃ s : State, Admitted 0x0E01 { activeOnly := true } rq s.chip ∧ s.chip.mode.mode = .service ∧
        isObject (arg rq 0 1) = true ∧ 1 ≤ arg rq 2 2 ∧ arg rq 2 2 ≤ 10000 ∧
        (meterCfg s.chip (arg rq 0 1)).isSome = true ∧ svcAdmits s.chip (arg rq 0 1) = true ∧
        ∃ u, u = ((fun (c : Chip) => { c with svc := { c.svc with calRef := some (refOf rq s.chip), calObj := arg rq 0 1, calEnd := c.now + arg rq 2 2 * 1000, calSumI := 0, calSumV := 0, calN := 0 } }) (match s.chip.svc.calRef with | some old => postCal (taken 0x0E01 rq s.chip) old .aborted | none => taken 0x0E01 rq s.chip))) ∧
    (∃ u : Chip, ∃ r : ReqRef, ∃ s : State, s.chip.svc.calRef = some r ∧ s.chip.svc.calEnd ≤ s.chip.now ∧
        u = postCal s.chip r .ok) ∧
    (∃ rq : Request, ∃ s : State, Admitted 0x0E02 { lenLo := 8, lenHi := 8, activeOnly := true, queue := 1 } rq s.chip ∧
        s.chip.mode.mode = .service ∧ arg rq 0 1 ≤ 31 ∧ 1 ≤ arg rq 4 4 ∧ arg rq 4 4 ≤ 10000 ∧
        (arg rq 2 2 = 0xFFFF ∨ arg rq 2 2 = (s.chip.chCfg (arg rq 0 1)).gen) ∧ svcPicks s.chip (arg rq 0 1) = true ∧
        (s.chip.chCfg (arg rq 0 1)).role ≠ 0 ∧ (s.chip.ch (arg rq 0 1)).disabled = false ∧
        (s.chip.chQueue.any fun e => e.ch == arg rq 0 1) = false ∧ (s.chip.ch (arg rq 0 1)).state = .off ∧
        (s.chip.ch (arg rq 0 1)).intentOn = false ∧
        ∃ u, u = (queueCh (taken 0x0E02 rq s.chip) (arg rq 0 1) (.exercise (arg rq 4 4)) (refOf rq s.chip) true)) ∧
    (∃ n : Nat, ∃ u : Chip, ∃ s : State, n = s.chip.svc.exCh ∧ (s.chip.ch n).state = .on ∧
        (s.chip.ch n).exercise = true ∧ s.chip.svc.exEnd.any (fun t => decide (t ≤ s.chip.now)) = true ∧
        u = { s.chip with svc := { s.chip.svc with exRef := none, exEnd := none } }) :=
  ⟨⟨rq [0, 0, 1, 0], st { up .service with mode := { mode := .service, target := .service, role := .active, svcKind := 1 }, img := { meters := [some {}] } }, by decide, by decide, by decide, by decide, by decide, by decide, by decide, _, rfl⟩,
   ⟨_, {}, st { up .run with imgValid := true, svc := { calRef := some {} } }, by decide, by decide, rfl⟩,
   ⟨rq [0, 0, 255, 255, 1, 0, 0, 0], st { up .service with mode := { mode := .service, target := .service, role := .active, svcKind := 1 }, img := { chs := [{ role := 1 }] } }, by decide, by decide, by decide, by decide, by decide, by decide, by decide, by decide, by decide, by decide, by decide, by decide, _, rfl⟩,
   ⟨_, _, st { up .run with imgValid := true, svc := { exEnd := some 0 }, chs := [{ state := .on, exercise := true }] }, rfl, by decide, by decide, by decide, rfl⟩⟩

theorem witness_DownstreamComplete :
    (∃ rq : Request, ∃ s : State, Admitted 0x0F01 { lenLo := 8 + arg rq 4 1, lenHi := 8 + arg rq 4 1, activeOnly := isWriteKind (arg rq 2 1) } rq s.chip ∧
        passLengths (arg rq 2 1) (arg rq 4 1) (arg rq 5 1) = true ∧ arg rq 0 1 ≤ 3 ∧ arg rq 1 1 ≤ 127 ∧
        arg rq 4 1 ≤ 32 ∧ arg rq 5 1 ≤ 32 ∧
        (isWriteKind (arg rq 2 1) && running s.chip && isBound s.chip (arg rq 0 1) (arg rq 1 1)) = false ∧
        passCount (s.chip.bus (arg rq 0 1)) < 8 ∧ dsRoom s.chip (arg rq 0 1) = true ∧
        ∃ u, u = (dsPut ((taken 0x0F01 rq s.chip).modBus (arg rq 0 1) fun b => { b with handle := (b.handle + 1) % 256 }) (arg rq 0 1) (.pass { handle := (s.chip.bus (arg rq 0 1)).handle, addr := arg rq 1 1, kind := arg rq 2 1, pec := arg rq 3 1 % 2 == 1, wdata := rq.params.drop 8, rlen := arg rq 5 1, ref := refOf rq s.chip }))) ∧
    (∃ rq : Request, ∃ s : State, Admitted 0x0F02 {} rq s.chip ∧ arg rq 0 1 ≤ 3 ∧ arg rq 2 1 % 2 = 0) ∧
    (∃ rq : Request, ∃ x : DsResult, ∃ s : State, Admitted 0x0F02 {} rq s.chip ∧ arg rq 0 1 ≤ 3 ∧ arg rq 2 1 % 2 = 1 ∧
        handleOf (s.chip.bus (arg rq 0 1)) (arg rq 1 1) = some x) ∧
    (∃ u : Chip, ∃ k : Fin 4, ∃ o : BusOutcome, ∃ s : State, u = dsTake s.chip k ∧ dsActive (u.bus k) = true ∧
        wireShows o.result.toNat = true) ∧
    (∃ u : Chip, ∃ w : Chip, ∃ k : Fin 4, ∃ s : State, u = dsTake s.chip k ∧ dsActive (u.bus k) = true ∧
        w = modRun u k (fun r => { r with losses := r.losses + 1, waitFree := some u.now })) ∧
    (∃ u : Chip, ∃ v : Chip, ∃ w : Chip, ∃ x : Chip, ∃ k : Fin 4, ∃ dataHigh : Bool, ∃ clockHigh : Bool, ∃ s : State, u = dsTake s.chip k ∧
        dsActive (u.bus k) = true ∧ v = recovers (setFault (u.modBus k fun b => { b with arbStops := sat32 b.arbStops 1 }) (dsSource 0 k)) k (dataHigh && clockHigh) ∧
        w = (if dataHigh then v else setStuck v k true) ∧
        x = modRun w.drawn k (fun r => { r with stops := r.stops + 1, backoff := some ((w.drawn.bus k).recoverEnd + (2 * (1 + w.draw % 8) + memberIndex w) * 100) })) ∧
    (∃ u : Chip, ∃ k : Fin 4, ∃ dataHigh : Bool, ∃ clockHigh : Bool, ∃ s : State, u = recovers s.chip k (dataHigh && clockHigh) ∧
        (s.chip.bus k).run.any (fun r => decide (r.start + 25000 ≤ s.chip.now)) = true) ∧
    (∃ k : Fin 4, ∃ dataHigh : Bool, ∃ clockHigh : Bool, ∃ s : State, (s.chip.bus k).stuck = true ∧
        (s.chip.bus k).recoverDue ≤ s.chip.now) :=
  ⟨⟨rq [0, 0x10, 2, 0, 0, 1, 0, 0], st (up .run), by decide, by decide, by decide, by decide, by decide, by decide, by decide, by decide, by decide, _, rfl⟩,
   ⟨rq [0, 0, 0, 0], st (up .run), by decide, by decide, by decide⟩,
   ⟨rq [0, 0, 1, 0], {}, st { up .run with ds := [{ results := [{}] }] }, by decide, by decide, by decide, by decide⟩,
   ⟨_, 0, {}, st { up .run with ds := [{ queue := [.status 0] }] }, rfl, by decide, by decide⟩,
   ⟨_, _, 0, st { up .run with ds := [{ queue := [.status 0] }] }, rfl, by decide, rfl⟩,
   ⟨_, _, _, _, 0, true, true, st { up .run with ds := [{ queue := [.status 0] }] }, rfl, by decide, rfl, rfl, rfl⟩,
   ⟨_, 0, true, true, st { up .run with ds := [{ run := some {} }], clk := { tick := 1000000 } }, rfl, by decide⟩,
   ⟨0, true, true, st { up .run with ds := [{ stuck := true }] }, by decide, by decide⟩⟩

theorem witness_TickCountsOn :
    (∃ l : Latch, ∃ s : State, studioRuns s.chip = true) ∧
    (∃ l : Latch, ∃ s : State, studioRuns s.chip = false ∧ s.chip.ostler.step < 6) ∧
    (∃ u : Chip, ∃ l : Latch, ∃ s : State, studioRuns s.chip = false ∧ 6 ≤ s.chip.ostler.step ∧
        u = (if (clockTick s.chip).clk.degraded then markUnc (clockTick s.chip) else clockTick s.chip)) :=
  ⟨⟨default, st (up .run), by decide⟩,
   ⟨default, st (up .off), by decide, by decide⟩,
   ⟨_, default, st { up .wake with ostler := { step := 6 } }, by decide, by decide, rfl⟩⟩

theorem witness_StepRunsTheFrontCommand :
    (∃ s : State, s.pending = []) :=
  ⟨st (up .run), by decide⟩

theorem witness_RoleEpochIsNeverFFFF :
    (∃ (c : Instr) (s : State), EpochOk s.chip.mode.epoch s.chip.pair.me.retEpoch ∧ s.chip.mode.epoch = 0xFFFE ∧
        takeoverDue s.chip = true ∧ c = .takeover) :=
  ⟨_, st { up .run with strap := .a, mode := { mode := .run, target := .run, role := .standby, epoch := 0xFFFE }, pair := { partner := { missed := 3 }, shadow := { ready := true } } }, ⟨by decide, by decide⟩, rfl, by decide, rfl⟩

theorem witness_EveryStepKeepsTheInvariant :
    (∃ s t : State, Inv s.chip ∧ s.pending ≠ [] ∧ step s = .next t) :=
  ⟨{ pending := [.tick {}], chip := { up .run with events := { queue := [{}] } } }, _, ⟨by decide, by decide, by decide, fun p => by cases p <;> exact ⟨by decide, by decide⟩, by decide, by decide, by decide, by decide, ⟨by decide, by decide, by decide, blank_bus, by decide, blank_timer⟩⟩, by decide, rfl⟩

theorem witness_FusesAreOnlyBlown :
    (∃ s t : State, Inv s.chip ∧ s.pending ≠ [] ∧ s.chip.otp.rollback = 3 ∧ step s = .next t) :=
  ⟨{ pending := [.tick {}], chip := { up .run with otp := { rollback := 3 } } }, _, ⟨by decide, by decide, by decide, fun p => by cases p <;> exact ⟨by decide, by decide⟩, by decide, by decide, by decide, by decide, ⟨by decide, by decide, by decide, blank_bus, by decide, blank_timer⟩⟩, by decide, rfl, rfl⟩

theorem witness_OnlyTickTellsTime :
    (∃ s t : State, step s = .next t ∧ s.pending ≠ [] ∧ (∀ l : Latch, s.pending.head? ≠ some (.tick l))) :=
  ⟨{ pending := [.ping (rq [])], chip := up .run }, _, rfl, by decide, by intro l h; cases h⟩

theorem witness_FullEventQueueDrops :
    (∃ s : Chip, ∃ cls : Nat, ∃ body : List Byte, ∃ done : Option (ReqRef × Status), 256 ≤ s.events.queue.length) ∧
    (∃ s : Chip, ∃ cls : Nat, ∃ body : List Byte, ∃ done : Option (ReqRef × Status), s.events.queue.length < 256) :=
  ⟨⟨{ up .run with events := { queue := List.replicate 256 {} } }, 0, default, default, by decide⟩,
   ⟨default, 0, default, default, by decide⟩⟩

theorem witness_StickyBitsAbsorb :
    (∃ s : Chip, ∃ id : Nat, isSticky s id = true) ∧
    (∃ s : Chip, ∃ id : Nat, ∃ i : Nat, sourceExists id = true) ∧
    (∃ s : Chip, ∃ id : Nat, sourceExists id = false) :=
  ⟨⟨{ up .run with faults := { sticky := [0x0105] } }, 0x0105, by decide⟩,
   ⟨default, 0x0105, 0, by decide⟩,
   ⟨default, 0, by decide⟩⟩

theorem witness_FailedChecksHaveNoEffect :
    (∃ (row : OpRow) (rq : Request) (s : Chip) (st : Status) (data : List Byte), Taken 0x0003 row rq s ∧
        firstChecks row rq s = some (.reply st data)) ∧
    (∃ row : OpRow, ∃ rq : Request, ∃ s : Chip, portLimit rq.port < rq.params.length) ∧
    (∃ row : OpRow, ∃ rq : Request, ∃ s : Chip, rq.params.length ≤ portLimit rq.port ∧ row.anyVer = false ∧
        rq.ver ≠ (s.port rq.port).ver) ∧
    (∃ row : OpRow, ∃ rq : Request, ∃ s : Chip, rq.params.length ≤ portLimit rq.port ∧
        (row.anyVer = true ∨ rq.ver = (s.port rq.port).ver) ∧ rq.tag ≠ 0#8 ∧ row.lenLo ≤ rq.params.length ∧
        rq.params.length ≤ row.lenHi ∧ rq.params.length % row.lenUnit = 0) ∧
    (∃ row : OpRow, ∃ rq : Request, ∃ s : Chip, rq.params.length ≤ portLimit rq.port ∧
        (row.anyVer = true ∨ rq.ver = (s.port rq.port).ver) ∧ rq.tag = 0#8) ∧
    (∃ row : OpRow, ∃ rq : Request, ∃ s : Chip, rq.params.length ≤ portLimit rq.port ∧
        (row.anyVer = true ∨ rq.ver = (s.port rq.port).ver) ∧ rq.tag ≠ 0#8 ∧
        (rq.params.length < row.lenLo ∨ row.lenHi < rq.params.length ∨ rq.params.length % row.lenUnit ≠ 0)) ∧
    (∃ row : OpRow, ∃ rq : Request, ∃ s : Chip, rq.params.length ≤ portLimit rq.port ∧
        (row.anyVer = true ∨ rq.ver = (s.port rq.port).ver) ∧ rq.tag ≠ 0#8 ∧ row.lenLo ≤ rq.params.length ∧
        rq.params.length ≤ row.lenHi ∧ rq.params.length % row.lenUnit = 0 ∧
        (rq.epoch = 0xFFFF#16 ∨ rq.epoch.toNat = s.mode.epoch) ∧ (row.activeOnly = false ∨ s.mode.role ≠ .standby) ∧
        ((s.mode.stage = .powerDown ∧ row.inPowerDown = false) ∨ (s.fw.recovery = true ∧ row.inRecovery = false))) :=
  ⟨⟨{}, { rq [0, 0, 0, 0] with tag := 0#8 }, up .run, .badParam, [], by decide, rfl⟩,
   ⟨{}, rq (List.replicate 249 0), up .run, by decide⟩,
   ⟨{}, { rq [0, 0, 0, 0] with ver := 0x20#8 }, up .run, by decide, by decide, by decide⟩,
   ⟨{ activeOnly := true }, rq [0, 0, 0, 0], { up .run with mode := { mode := .run, role := .standby } }, by decide, by decide, by decide, by decide, by decide, by decide⟩,
   ⟨{}, { rq [0, 0, 0, 0] with tag := 0#8 }, up .run, by decide, by decide, by decide⟩,
   ⟨{}, rq [0, 0], up .run, by decide, by decide, by decide, by decide⟩,
   ⟨{}, rq [0, 0, 0, 0], { up .ready with mode := { mode := .ready, role := .active, stage := .powerDown } }, by decide, by decide, by decide, by decide, by decide, by decide, by decide, by decide, by decide⟩⟩

theorem witness_RoleGivenWhenBothLinesHigh :
    (∃ s : Chip, s.strap = .b ∧ isActive s = true ∧ s.pair.me.forceIn = true ∧ s.pair.me.forceOut = true) ∧
    (∃ s : Chip, s.strap = .a) ∧
    (∃ s : Chip, (s.pair.me.forceIn = false ∨ s.pair.me.forceOut = false)) :=
  ⟨⟨{ up .run with strap := .b, pair := { me := { forceIn := true, forceOut := true } } }, by decide, by decide, by decide, by decide⟩,
   ⟨{ up .run with strap := .a }, by decide⟩,
   ⟨up .run, by decide⟩⟩

theorem witness_LatchClearsToOff :
    (∃ v : BoxView, ∃ e : BoxEntry, ∃ s : Chip, (s.railCfg? (field e.params 0 1)).isSome = true ∧
        svcOtherRail s (field e.params 0 1) = false ∧ v.latched.contains (field e.params 0 1) = true) ∧
    (∃ v : BoxView, ∃ e : BoxEntry, ∃ s : Chip, (s.railCfg? (field e.params 0 1)).isSome = true ∧
        svcOtherRail s (field e.params 0 1) = false ∧ v.latched.contains (field e.params 0 1) = false) :=
  ⟨⟨{ latched := [0] }, { kind := .clearLatch, ref := { port := .tw, tag := 1#8, receipt := 0 }, params := [0, 0, 0, 0] }, { up .run with img := { rails := [some {}] }, rails := [{ state := .latched }] }, by decide, by decide, by decide⟩,
   ⟨default, { kind := .clearLatch, ref := { port := .tw, tag := 1#8, receipt := 0 }, params := [0, 0, 0, 0] }, { up .run with img := { rails := [some {}] }, rails := [{ state := .on }] }, by decide, by decide, by decide⟩⟩

theorem witness_OffRequestEndsDeadStop :
    (∃ s : State, s.chip.mode.mode = .off ∧ s.chip.ostler.deadStop = true) :=
  ⟨st (kept .off { deadStop := true }), by decide, by decide⟩

theorem witness_BoundariesMoveTheModeAlongR37 :
    (∃ s t : State, exec .modeCommit s = .next t ∧ t.chip.mode.mode ≠ s.chip.mode.mode) ∧
    (∃ s t : State, exec .lockoutCommit s = .next t ∧ t.chip.mode.mode ≠ s.chip.mode.mode) ∧
    (∃ s t : State, exec .holdAutoReady s = .next t ∧ t.chip.mode.mode ≠ s.chip.mode.mode) ∧
    (∃ s t : State, exec .handoverComplete s = .next t ∧ t.chip.mode.mode ≠ s.chip.mode.mode) ∧
    (∃ s t : State, exec .failoverBlockedTakeover s = .next t ∧ t.chip.mode.mode ≠ s.chip.mode.mode) :=
  ⟨⟨st { upAt .ready with mode := { (upAt .ready).mode with pend := some { mode := .hold } } }, _, rfl, by decide⟩,
   ⟨st { upAt .run with mode := { (upAt .run).mode with lockout := some .powerOn } }, _, rfl, by decide⟩,
   ⟨st (upAt .hold), _, rfl, by decide⟩,
   ⟨st (upAt .bridge .handover), _, rfl, by decide⟩,
   ⟨st { up .run with strap := .a, mode := { mode := .run, target := .run, role := .standby }, pair := { me := { blockedSince := some 0 } }, clk := { tick := 10000000000 } }, _, rfl, by decide⟩⟩

end Sys2Proof.Tests
end

section
/-! SUPPORT. One lemma on all commands: every command but TICK completes and keeps what `Keeps` says. It is put
together, arm by arm of the dispatch, from the lemmas on the operations in `Keeps1` and the files after it. -/

namespace Sys2Proof.Machine

/-! ## The shapes of a command -/

/-- A command whose effect is one operation on the block. -/
theorem Completes.ofEffect {c : Instr} {s : State} {f : Chip → Chip} (he : exec c s = .next (s.on f))
    (hf : Keeps s.chip (f s.chip)) : Completes c s (Keeps s.chip) :=
  ⟨f s.chip, he, hf⟩

/-- A command that waits for the boundary (R27). -/
theorem Completes.ofBoundary {c : Instr} {s : State} {f : Chip → Chip} (he : exec c s = .next (s.on (atBoundary f)))
    (hf : ∀ x, Keeps x (f x)) : Completes c s (Keeps s.chip) :=
  .ofEffect he (atBoundary_keeps _ _ hf (.refl _))

/-- A request that the Yard serves. -/
theorem Completes.ofServe {c : Instr} {s : State} {opcode : Nat} {row : OpRow} {body : Body} {rq : Request}
    (he : exec c s = .next (s.on (serve opcode row body rq))) (hb : ∀ r x, Keeps x (body rq r x).2) :
    Completes c s (Keeps s.chip) :=
  .ofEffect he (serve_keeps _ _ _ _ _ (hb _) (.refl _))

/-- A request that the Ostler's responder answers. -/
theorem Completes.ofRespond {c : Instr} {s : State} {anyVer : Bool} {rq : Request}
    {f : Chip → Status × List Byte × Chip} (he : exec c s = .next (s.on (respond anyVer rq f)))
    (hf : ∀ x, Keeps x (f x).2.2) : Completes c s (Keeps s.chip) :=
  .ofEffect he (respond_keeps _ _ _ _ hf (.refl _))

/-- A frame that arrives at a Nymi port. -/
theorem Completes.ofFrame {c : Instr} {s : State} {typ p : Nat} {f : Frame} {act : Chip → Chip}
    (he : exec c s = .next (s.on (onFrame typ p f act))) (ha : ∀ x, Keeps x (act x)) : Completes c s (Keeps s.chip) :=
  .ofEffect he (onFrame_keeps _ _ _ _ _ ha (.refl _))

/-- A frame that is passed on, or taken at its destination. -/
theorem Completes.ofRouted {c : Instr} {s : State} {typ p : Nat} {f : Frame} {act : Chip → Chip}
    (he : exec c s = .next (s.on (onFrame typ p f (onRouted p f act)))) (ha : ∀ x, Keeps x (act x)) :
    Completes c s (Keeps s.chip) :=
  .ofFrame he fun x => onRouted_keeps _ _ _ x ha (.refl x)

/-! ## The commands whose arm tells cases apart -/

theorem responderOther_completes (rq : Request) (opcode : Half) (s : State) :
    Completes (.responderOther rq opcode) s (Keeps s.chip) := by
  refine .ofEffect rfl (.ite (.refl _) (respond_keeps _ _ _ _ (fun x => ?_) (.refl _)))
  split
  · exact .refl x
  · exact .refl x

theorem responderFaultBlockGet_completes (rq : Request) (s : State) :
    Completes (.responderFaultBlockGet rq) s (Keeps s.chip) := by
  refine .ofRespond rfl fun x => ?_
  split
  · exact .refl x
  · exact .refl x

/-- FW_ACTIVATE, whatever its operation. -/
theorem activate_keeps (op : Nat) (rq : Request) (s : Chip) :
    Keeps s (serve 0x0D05 activateRow (bodyActivate op) rq s) :=
  serve_keeps _ _ _ _ _ (fun x => bodyActivate_keeps _ _ _ x (.refl x)) (.refl s)

theorem fwActivateTrial_completes (rq : Request) (s : State) : Completes (.fwActivateTrial rq) s (Keeps s.chip) :=
  .ofEffect rfl (.ite (.refl _) (activate_keeps 1 rq _))

theorem fwActivateConfirm_completes (rq : Request) (s : State) : Completes (.fwActivateConfirm rq) s (Keeps s.chip) :=
  .ofEffect rfl (.ite (activate_keeps 2 rq _) (.refl _))

theorem fwActivateRevert_completes (rq : Request) (s : State) : Completes (.fwActivateRevert rq) s (Keeps s.chip) :=
  .ofEffect rfl (.ite (activate_keeps 3 rq _) (.refl _))

theorem barrierRelease_completes (p : Fin 4) (f : Frame) (s : State) :
    Completes (.barrierRelease p f) s (Keeps s.chip) :=
  .ofFrame rfl fun x => .ite (takeRelease_keeps _ _ (sendDown_keeps _ _ _ (.refl x))) (.refl x)

/-- In OFF the responder answers a bad request, otherwise the Yard. -/
theorem badRequest_completes (p : Port) (bytes : List Byte) (s : State) :
    Completes (.badRequest p bytes) s (Keeps s.chip) := by
  refine .ofEffect rfl (.ite (.ite ?_ (.refl _)) (badRequest_keeps _ _ _ (.refl _)))
  split
  · exact respondWith_keeps _ _ _ _ _ (.refl _)
  · exact .refl _

/-! ## Every command but TICK -/

/-- The invariant, the fuses, the tick count and the role epoch over every command but TICK. -/
theorem exec_keeps (c : Instr) (s : State) (hc : ∀ l : Latch, c ≠ .tick l) : Completes c s (Keeps s.chip) := by
  cases c with
  | tick l => exact absurd rfl (hc l)
  | modeCommit => exact .ofBoundary rfl fun y => modeCommit_keeps y (.refl y)
  | lockoutCommit => exact .ofBoundary rfl fun y => lockoutCommit_keeps y (.refl y)
  | holdAutoReady => exact .ofBoundary rfl fun y => holdAutoReady_keeps y (.refl y)
  | stageEnd => exact .ofEffect rfl (stageEnd_keeps _ (.refl _))
  | startSourcesSpacing => exact .ofEffect rfl (sourcesSpacing_keeps _ (.refl _))
  | stageTimeout => exact .ofEffect rfl (stageTimeout_keeps _ (.refl _))
  | bridgeEvent => exact .ofEffect rfl (bridgeEvent_keeps _ _ _ (.refl _))
  | shortfall => exact .ofEffect rfl (shortfall_keeps _ (.refl _))
  | bridgeDwellMet => exact .ofEffect rfl (bridgeDwellMet_keeps _ (.refl _))
  | handoverComplete => exact .ofBoundary rfl fun y => handoverComplete_keeps y (.refl y)
  | powerDownFlushEnd => exact .ofEffect rfl (flushEnd_keeps _ _ _ (.refl _))
  | supplyLoss => exact .ofEffect rfl (supplyLoss_keeps _ (.refl _))
  | vinLow => exact .ofEffect rfl (vinLow_keeps _ _ (.refl _))
  | vinReturn => exact .ofEffect rfl (vinReturn_keeps _ _ _ (.refl _))
  | studioAbsent => exact .ofEffect rfl (studioAbsent_keeps _ (.refl _))
  | studioAbsentRewake => exact .ofEffect rfl (studioAbsentRewake_keeps _ _ (.refl _))
  | gapHold => exact .ofEffect rfl (gapHold_keeps _ (.refl _))
  | shortCircuitTrip => exact .ofEffect rfl (shortCircuitTrip_keeps _ _ (.refl _))
  | instantaneousTrip => exact .ofEffect rfl (instantaneousTrip_keeps _ _ (.refl _))
  | chargePumpUv => exact .ofEffect rfl (chargePumpUv_keeps _ _ (.refl _))
  | insertion => exact .ofEffect rfl (insertion_keeps _ _ (.refl _))
  | removal => exact .ofEffect rfl (removal_keeps _ _ (.refl _))
  | insertDelayExpiry => exact .ofEffect rfl (insertDelayExpiry_keeps _ _ (.refl _))
  | primerRearm => exact .ofEffect rfl (primerRearm_keeps _ _ (.refl _))
  | primerTimeout => exact .ofEffect rfl (primerTimeout_keeps _ _ (.refl _))
  | closeTimeout => exact .ofEffect rfl (closeTimeout_keeps _ _ (.refl _))
  | primerOverlapEnd => exact .ofEffect rfl (primerOverlapEnd_keeps _ _ (.refl _))
  | ksFaultTimer => exact .ofEffect rfl (ksFaultTimer_keeps _ _ (.refl _))
  | retryDue => exact .ofEffect rfl (retryDueNow_keeps _ _ (.refl _))
  | retryReset => exact .ofEffect rfl (retryReset_keeps _ _ (.refl _))
  | railStart => exact .ofEffect rfl (railStart_keeps _ _ (.refl _))
  | railInputUv => exact .ofEffect rfl (railInputUv_keeps _ _ (.refl _))
  | ocLatch => exact .ofEffect rfl (ocLatch_keeps _ _ (.refl _))
  | phaseOc => exact .ofEffect rfl (phaseOc_keeps _ _ _ _ _ (.refl _))
  | railOvervoltage => exact .ofEffect rfl (railOvervoltage_keeps _ _ (.refl _))
  | stageTempRead => exact .ofEffect rfl (stageTempRead_keeps _ _ (.refl _))
  | burstEnter => exact .ofEffect rfl (burstEnter_keeps _ _ (.refl _))
  | burstWake => exact .ofEffect rfl (burstWake_keeps _ _ (.refl _))
  | currentBalance => exact .ofEffect rfl (currentBalance_keeps _ _ (.refl _))
  | energyStep => exact .ofEffect rfl (energyStep_keeps _ (.refl _))
  | weightUpdate => exact .ofEffect rfl (weightUpdate_keeps _ (.refl _))
  | capOver => exact .ofEffect rfl (capOver_keeps _ (.refl _))
  | rectStatusPoll => exact .ofEffect rfl (rectStatusPoll_keeps _ (.refl _))
  | rectStatusAgeExpiry => exact .ofEffect rfl (rectAgeExpiry_keeps _ _ (.refl _))
  | burstEnd => exact .ofEffect rfl (burstEnd_keeps _ _ (.refl _))
  | hallCapRound => exact .ofEffect rfl (hallCapRound_keeps _ (.refl _))
  | capReportDeadline => exact .ofEffect rfl (capReportDeadline_keeps _ (.refl _))
  | capAllocApply => exact .ofEffect rfl (capAllocApply_keeps _ (.refl _))
  | hallCapLost => exact .ofEffect rfl (hallCapLost_keeps _ (.refl _))
  | admitAttempt => exact .ofEffect rfl (admitAttempt_keeps _ _ _ _ _ (.refl _))
  | admitTempRetry => exact .ofEffect rfl (admitTempRetry_keeps _ _ (.refl _))
  | bmsPoll => exact .ofEffect rfl (bmsPoll_keeps _ _ _ _ (.refl _))
  | bmsLost => exact .ofEffect rfl (bmsLostSet_keeps _ _ (.refl _))
  | estimatorStep => exact .ofEffect rfl (estimatorStep_keeps _ _ (.refl _))
  | restSample => exact .ofEffect rfl (restSample_keeps _ _ _ (.refl _))
  | ceiling => exact .ofEffect rfl (ceilingSet_keeps _ _ (.refl _))
  | floor => exact .ofEffect rfl (floorSet_keeps _ _ (.refl _))
  | termLoss => exact .ofEffect rfl (termLossSet_keeps _ _ (.refl _))
  | meterSample => exact .ofEffect rfl (meterSample_keeps _ _ _ _ (.refl _))
  | shuntTempRead => exact .ofEffect rfl (shuntTempRead_keeps _ _ (.refl _))
  | checkpoint => exact .ofEffect rfl (checkpoint_keeps _ (.refl _))
  | ledgerPeriodClose => exact .ofEffect rfl (ledgerPeriodClose_keeps _ (.refl _))
  | ledgerCommit => exact .ofEffect rfl (ledgerCommit_keeps _ _ (.refl _))
  | seqConversion => exact .ofEffect rfl (seqConversion_keeps _ _ _ _ (.refl _))
  | seqStopComplete => exact .ofEffect rfl (seqStopComplete_keeps _ _ (.refl _))
  | housekeepingReading => exact .ofEffect rfl (housekeepingReading_keeps _ _ _ (.refl _))
  | wmLevelChange => exact .ofEffect rfl (levelChange_keeps _ _ _ _ (.refl _))
  | windowEventDeferred => exact .ofEffect rfl (windowDeferred_keeps _ _ (.refl _))
  | captureStamp => exact .ofEffect rfl (captureStamp_keeps _ _ _ _ _ (.refl _))
  | twWriteTransfer => exact .ofEffect rfl (twWrite_keeps _ _ _ (.refl _))
  | twReadTransfer => exact .ofEffect rfl (twRead_keeps _ _ _ (.refl _))
  | twHeld => exact .ofEffect rfl (twHeld_keeps _ (.refl _))
  | spiWrite => exact .ofEffect rfl (spiWrite_keeps _ _ (.refl _))
  | spiRead => exact .ofEffect rfl (spiRead_keeps _ _ (.refl _))
  | spiOtherCommand => exact .ofEffect rfl (spiOther_keeps _ _ (.refl _))
  | ostlerRxWake => exact .ofEffect rfl (rxWake_keeps _ (.refl _))
  | ostlerRxSleep => exact .ofEffect rfl (rxSleep_keeps _ (.refl _))
  | responderHello => exact .ofRespond rfl fun x => respHello_keeps _ x (.refl x)
  | responderPing => exact .ofRespond rfl .refl
  | responderModeGet => exact .ofRespond rfl .refl
  | responderModeRequest => exact .ofEffect rfl (responderModeRequest_keeps _ _ _ (.refl _))
  | responderFaultBlockGet => exact responderFaultBlockGet_completes _ s
  | responderOther => exact responderOther_completes _ _ s
  | hello => exact .ofServe rfl fun r x => bodyHello_keeps _ r x (.refl x)
  | summary => exact .ofServe rfl fun r x => bodySummary_keeps _ r x (.refl x)
  | ping => exact .ofServe rfl fun r x => bodyPing_keeps _ r x (.refl x)
  | wdChallenge => exact .ofServe rfl fun r x => bodyWdChallenge_keeps _ r x (.refl x)
  | wdServe => exact .ofServe rfl fun r x => bodyWdServe_keeps _ _ r x (.refl x)
  | fence => exact .ofServe rfl fun r x => bodyFence_keeps _ r x (.refl x)
  | fenceRelease => exact .ofEffect rfl (fenceRelease_keeps _ _ (.refl _))
  | fenceTimeout => exact .ofEffect rfl (fenceTimeout_keeps _ _ (.refl _))
  | goodbye => exact .ofServe rfl fun r x => bodyGoodbye_keeps _ r x (.refl x)
  | eventRead => exact .ofServe rfl fun r x => bodyEventRead_keeps _ r x (.refl x)
  | modeGet => exact .ofServe rfl fun r x => bodyModeGet_keeps _ r x (.refl x)
  | modeRequest => exact .ofServe rfl fun r x => bodyModeRequest_keeps _ r x (.refl x)
  | serviceSelect => exact .ofServe rfl fun r x => bodyServiceSelect_keeps _ r x (.refl x)
  | chGet => exact .ofServe rfl fun r x => bodyChGet_keeps _ r x (.refl x)
  | chOn => exact .ofServe rfl fun r x => bodyChOn_keeps _ r x (.refl x)
  | chOff => exact .ofServe rfl fun r x => bodyChSet_keeps _ _ r x (.refl x)
  | chDisable => exact .ofServe rfl fun r x => bodyChSet_keeps _ _ r x (.refl x)
  | chEnable => exact .ofServe rfl fun r x => bodyChSet_keeps _ _ r x (.refl x)
  | chStateAll => exact .ofServe rfl fun r x => bodyChStateAll_keeps _ r x (.refl x)
  | brkGet => exact .ofServe rfl fun r x => bodyBrkGet_keeps _ r x (.refl x)
  | brkClearLockout => exact .ofServe rfl fun r x => bodyClearLockout_keeps _ r x (.refl x)
  | brkCurveGet => exact .ofServe rfl fun r x => bodyBrkCurveGet_keeps _ r x (.refl x)
  | brkEval => exact .ofServe rfl fun r x => bodyBrkEval_keeps _ r x (.refl x)
  | railGet => exact .ofServe rfl fun r x => bodyRailGet_keeps _ r x (.refl x)
  | railOn => exact .ofServe rfl fun r x => bodyRailOn_keeps _ r x (.refl x)
  | railOff => exact .ofServe rfl fun r x => bodyRailCmd_keeps _ _ r x (.refl x)
  | railDisable => exact .ofServe rfl fun r x => bodyRailCmd_keeps _ _ r x (.refl x)
  | railEnable => exact .ofServe rfl fun r x => bodyRailCmd_keeps _ _ r x (.refl x)
  | railSet => exact .ofServe rfl fun r x => bodyRailSet_keeps _ r x (.refl x)
  | railClearLatch => exact .ofServe rfl fun r x => bodyClearLatch_keeps _ r x (.refl x)
  | railStateAll => exact .ofServe rfl fun r x => bodyRailStateAll_keeps _ r x (.refl x)
  | railPhasesGet => exact .ofServe rfl fun r x => bodyRailPhasesGet_keeps _ r x (.refl x)
  | energyGet => exact .ofServe rfl fun r x => bodyEnergyGet_keeps _ r x (.refl x)
  | capSet => exact .ofServe rfl fun r x => bodyCapSet_keeps _ r x (.refl x)
  | chargeSet => exact .ofServe rfl fun r x => bodyChargeSet_keeps _ r x (.refl x)
  | bridgeGet => exact .ofServe rfl fun r x => bodyBridgeGet_keeps _ r x (.refl x)
  | rectGet => exact .ofServe rfl fun r x => bodyRectGet_keeps _ r x (.refl x)
  | llGet => exact .ofServe rfl fun r x => bodyLlGet_keeps _ r x (.refl x)
  | llStateAll => exact .ofServe rfl fun r x => bodyLlStateAll_keeps _ r x (.refl x)
  | llDisable => exact .ofServe rfl fun r x => bodyLlDisable_keeps _ r x (.refl x)
  | llEnable => exact .ofServe rfl fun r x => bodyLlEnable_keeps _ r x (.refl x)
  | batGet => exact .ofServe rfl fun r x => bodyBatGet_keeps _ r x (.refl x)
  | batStateAll => exact .ofServe rfl fun r x => bodyBatStateAll_keeps _ r x (.refl x)
  | batAdmit => exact .ofServe rfl fun r x => bodyBatAdmit_keeps _ r x (.refl x)
  | batRelease => exact .ofServe rfl fun r x => bodyBatRelease_keeps _ r x (.refl x)
  | batRestGet => exact .ofServe rfl fun r x => bodyBatRestGet_keeps _ r x (.refl x)
  | batProfileGet => exact .ofServe rfl fun r x => bodyBatProfileGet_keeps _ r x (.refl x)
  | meterGet => exact .ofServe rfl fun r x => bodyMeterGet_keeps _ r x (.refl x)
  | meterAll => exact .ofServe rfl fun r x => bodyMeterAll_keeps _ r x (.refl x)
  | shelfTotalsGet => exact .ofServe rfl fun r x => bodyShelfTotalsGet_keeps _ r x (.refl x)
  | ledgerInfo => exact .ofServe rfl fun r x => bodyLedgerInfo_keeps _ r x (.refl x)
  | ledgerRead => exact .ofServe rfl fun r x => bodyLedgerRead_keeps _ r x (.refl x)
  | ledgerAck => exact .ofServe rfl fun r x => bodyLedgerAck_keeps _ r x (.refl x)
  | ledgerAttest => exact .ofServe rfl fun r x => bodyLedgerAttest_keeps _ r x (.refl x)
  | ledgerSnapshot => exact .ofServe rfl fun r x => bodyLedgerSnapshot_keeps _ r x (.refl x)
  | cfgInfo => exact .ofServe rfl fun r x => bodyCfgInfo_keeps _ r x (.refl x)
  | cfgRead => exact .ofServe rfl fun r x => bodyCfgRead_keeps _ r x (.refl x)
  | cfgStageBegin => exact .ofServe rfl fun r x => bodyStageBegin_keeps _ r x (.refl x)
  | cfgStageWrite => exact .ofServe rfl fun r x => bodyStageWrite_keeps _ r x (.refl x)
  | cfgStageEnd => exact .ofServe rfl fun r x => bodyStageEnd_keeps _ r x (.refl x)
  | cfgStageChecked => exact .ofEffect rfl (stageChecked_keeps _ (.refl _))
  | cfgCommit => exact .ofServe rfl fun r x => bodyCfgCommit_keeps _ r x (.refl x)
  | mailboxEntry => exact .ofEffect rfl (mailboxEntry_keeps _ (.refl _))
  | mailboxTimeout => exact .ofEffect rfl (mailboxTimeout_keeps _ (.refl _))
  | cfgApply => exact .ofBoundary rfl fun y => cfgApply_keeps y (.refl y)
  | faultScan => exact .ofServe rfl fun r x => bodyFaultScan_keeps _ r x (.refl x)
  | faultBlockGet => exact .ofServe rfl fun r x => bodyFaultBlockGet_keeps _ r x (.refl x)
  | faultClear => exact .ofServe rfl fun r x => bodyFaultClear_keeps _ r x (.refl x)
  | faultSeveritySet => exact .ofServe rfl fun r x => bodySeveritySet_keeps _ r x (.refl x)
  | wdGet => exact .ofServe rfl fun r x => bodyWdGet_keeps _ r x (.refl x)
  | countsGet => exact .ofServe rfl fun r x => bodyCountsGet_keeps _ r x (.refl x)
  | wdExpiry => exact .ofEffect rfl (dogExpiry_keeps _ _ (.refl _))
  | wd0Service => exact .ofEffect rfl (wd0Service_keeps _ _ _ (.refl _))
  | yardRestart => exact .ofEffect rfl (yardRestart_keeps _ (.refl _))
  | recInfo => exact .ofServe rfl fun r x => bodyRecInfo_keeps _ r x (.refl x)
  | recRead => exact .ofServe rfl fun r x => bodyRecRead_keeps _ r x (.refl x)
  | recFreeze => exact .ofServe rfl fun r x => bodyRecFreeze_keeps _ r x (.refl x)
  | recThaw => exact .ofServe rfl fun r x => bodyRecThaw_keeps _ r x (.refl x)
  | recTrigger => exact .ofServe rfl fun r x => bodyRecTrigger_keeps _ r x (.refl x)
  | captureTrigger => exact .ofEffect rfl (captureTrigger_keeps _ _ _ (.refl _))
  | captureComplete => exact .ofEffect rfl (captureComplete_keeps _ _ (.refl _))
  | sketchbookFlush => exact .ofEffect rfl (sketchFlush_keeps _ _ (.refl _))
  | recSummary => exact .ofEffect rfl (recSummary_keeps _ _ (.refl _))
  | freezeEffect => exact .ofEffect rfl (freezeEffect_keeps _ _ (.refl _))
  | fwInfo => exact .ofServe rfl fun r x => bodyFwInfo_keeps _ r x (.refl x)
  | fwStageBegin => exact .ofServe rfl fun r x => bodyFwStageBegin_keeps _ r x (.refl x)
  | fwStageWrite => exact .ofServe rfl fun r x => bodyFwStageWrite_keeps _ r x (.refl x)
  | fwStageEnd => exact .ofServe rfl fun r x => bodyFwStageEnd_keeps _ r x (.refl x)
  | fwVerifyDone => exact .ofEffect rfl (fwVerifyDone_keeps _ _ (.refl _))
  | fwActivateTrial => exact fwActivateTrial_completes _ s
  | fwActivateConfirm => exact fwActivateConfirm_completes _ s
  | fwActivateRevert => exact fwActivateRevert_completes _ s
  | fwActivateRestart => exact .ofEffect rfl (activateRestart_keeps _ (.refl _))
  | mramScrubPass => exact .ofEffect rfl (scrubPass_keeps _ _ _ (.refl _))
  | agingBoundExpiry => exact .ofEffect rfl (agingExpiry_keeps _ _ (.refl _))
  | driverSelftestPass => exact .ofEffect rfl (selftestPass_keeps _ _ (.refl _))
  | pairHealth => exact .ofServe rfl fun r x => bodyPairHealth_keeps _ r x (.refl x)
  | pairGet => exact .ofServe rfl fun r x => bodyPairGet_keeps _ r x (.refl x)
  | pairHandover => exact .ofServe rfl fun r x => bodyPairHandover_keeps _ r x (.refl x)
  | handoverQueueDrained => exact .ofEffect rfl (handoverDrained_keeps _ (.refl _))
  | handoverRelinquish => exact .ofEffect rfl (handoverRelinquish_keeps _ (.refl _))
  | handoverAbort => exact .ofEffect rfl (handoverAbort_keeps _ (.refl _))
  | roleTakeAtStart => exact .ofEffect rfl (roleTakeAtStart_keeps _ (.refl _))
  | heartbeatLoss => exact .ofEffect rfl (heartbeatLoss_keeps _ (.refl _))
  | takeover => exact .ofEffect rfl (takeover_keeps _ (.refl _))
  | driverResume => exact .ofEffect rfl (driverResume_keeps _ (.refl _))
  | forceInRise => exact .ofEffect rfl (forceInRise_keeps _ (.refl _))
  | forceInFall => exact .ofEffect rfl (forceInFall_keeps _ (.refl _))
  | failoverBlockedTakeover => exact .ofEffect rfl (failoverBlocked_keeps _ (.refl _))
  | resyncDwell => exact .ofEffect rfl (resyncDwell_keeps _ (.refl _))
  | mirror => exact .ofEffect rfl (mirrorFrame_keeps _ _ (.refl _))
  | linkTrain => exact .ofEffect rfl (linkTrain_keeps _ _ (.refl _))
  | linkHelloTimer => exact .ofEffect rfl (linkHelloTimer_keeps _ _ (.refl _))
  | linkHello => exact .ofFrame rfl fun x => takeHello_keeps _ _ x (.refl x)
  | linkDown => exact .ofEffect rfl (npDown_keeps _ _ _ (.refl _))
  | timeExchange => exact .ofEffect rfl (timeExchange_keeps _ _ (.refl _))
  | timeReq => exact .ofFrame rfl fun x => takeTimeReq_keeps _ _ _ _ x (.refl x)
  | timeResp => exact .ofFrame rfl fun x => takeTimeResp_keeps _ _ _ x (.refl x)
  | broadcast => exact .ofFrame rfl fun x => takeBroadcast_keeps _ _ x (.refl x)
  | barrierArrive => exact .ofFrame rfl fun x => takeArrive_keeps _ _ x (.refl x)
  | barrierOpen => exact .ofFrame rfl fun x => takeOpen_keeps _ _ x (.refl x)
  | barrierRelease => exact barrierRelease_completes _ _ s
  | barrierTimeout => exact .ofEffect rfl (barrierTimeout_keeps _ (.refl _))
  | schedule => exact .ofFrame rfl fun x => takeSchedule_keeps _ _ x (.refl x)
  | scheduleReq => exact .ofRouted rfl fun x => takeSchedReq_keeps _ x (.refl x)
  | scheduleAns => exact .ofRouted rfl fun x => takeSchedAns_keeps _ x (.refl x)
  | scheduleReqTimeout => exact .ofEffect rfl (scheduleReqTimeout_keeps _ (.refl _))
  | scheduleAction => exact .ofEffect rfl (scheduleAction_keeps _ (.refl _))
  | message => exact .ofRouted rfl fun x => takeMessage_keeps _ x (.refl x)
  | messageAck => exact .ofRouted rfl fun x => takeAck_keeps _ x (.refl x)
  | messageTimeout => exact .ofEffect rfl (messageTimeout_keeps _ (.refl _))
  | capReport => exact .ofRouted rfl fun x => takeCapReport_keeps _ x (.refl x)
  | capAlloc => exact .ofRouted rfl fun x => takeCapAlloc_keeps _ x (.refl x)
  | collectReq => exact .ofRouted rfl fun x => takeCollectReq_keeps _ x (.refl x)
  | collectData => exact .ofRouted rfl fun x => takeCollectData_keeps _ x (.refl x)
  | collectNoReply => exact .ofEffect rfl (collectNoReply_keeps _ (.refl _))
  | hallGet => exact .ofServe rfl fun r x => bodyHallGet_keeps _ r x (.refl x)
  | hallTimeGet => exact .ofServe rfl fun r x => bodyHallTimeGet_keeps _ r x (.refl x)
  | hallBroadcast => exact .ofServe rfl fun r x => bodyHallBroadcast_keeps _ r x (.refl x)
  | hallBarrier => exact .ofServe rfl fun r x => bodyHallBarrier_keeps _ r x (.refl x)
  | stillLifeSchedule => exact .ofServe rfl fun r x => bodyStillLife_keeps _ r x (.refl x)
  | hallResetSchedule => exact .ofServe rfl fun r x => bodyHallReset_keeps _ r x (.refl x)
  | snapshotCollectStart => exact .ofServe rfl fun r x => bodyCollectStart_keeps _ r x (.refl x)
  | snapshotCollectRead => exact .ofServe rfl fun r x => bodyCollectRead_keeps _ r x (.refl x)
  | snapshotCollectStatus => exact .ofServe rfl fun r x => bodyCollectStatus_keeps _ r x (.refl x)
  | snapshotCollectCancel => exact .ofServe rfl fun r x => bodyCollectCancel_keeps _ r x (.refl x)
  | hallSend => exact .ofServe rfl fun r x => bodyHallSend_keeps _ r x (.refl x)
  | measStatus => exact .ofServe rfl fun r x => bodyMeasStatus_keeps _ r x (.refl x)
  | sarReading => exact .ofServe rfl fun r x => bodySarReading_keeps _ r x (.refl x)
  | seqStart => exact .ofServe rfl fun r x => bodySeqStart_keeps _ r x (.refl x)
  | seqStop => exact .ofServe rfl fun r x => bodySeqStop_keeps _ r x (.refl x)
  | seqGet => exact .ofServe rfl fun r x => bodySeqGet_keeps _ r x (.refl x)
  | measRingRead => exact .ofServe rfl fun r x => bodyMeasRingRead_keeps _ r x (.refl x)
  | wmGetAll => exact .ofServe rfl fun r x => bodyWmGetAll_keeps _ r x (.refl x)
  | wmSet => exact .ofServe rfl fun r x => bodyWmSet_keeps _ r x (.refl x)
  | capArm => exact .ofServe rfl fun r x => bodyCapArm_keeps _ r x (.refl x)
  | capRead => exact .ofServe rfl fun r x => bodyCapRead_keeps _ r x (.refl x)
  | svcCalRead => exact .ofServe rfl fun r x => bodySvcCalRead_keeps _ r x (.refl x)
  | svcCalReadDone => exact .ofEffect rfl (svcCalDone_keeps _ (.refl _))
  | svcFetExercise => exact .ofServe rfl fun r x => bodySvcFetExercise_keeps _ r x (.refl x)
  | fetExerciseHoldEnd => exact .ofEffect rfl (exerciseEnd_keeps _ (.refl _))
  | dsTransact => exact .ofServe rfl fun r x => bodyDsTransact_keeps _ r x (.refl x)
  | dsStatus => exact .ofServe rfl fun r x => bodyDsStatus_keeps _ r x (.refl x)
  | dsTransaction => exact .ofEffect rfl (dsTransaction_keeps _ _ _ (.refl _))
  | dsArbLost => exact .ofEffect rfl (dsArbLost_keeps _ _ (.refl _))
  | arbStop => exact .ofEffect rfl (arbStop_keeps _ _ _ _ (.refl _))
  | arbBackoffExpiry => exact .ofEffect rfl (arbBackoffExpiry_keeps _ _ (.refl _))
  | dsTimeout => exact .ofEffect rfl (dsTimeout_keeps _ _ _ _ (.refl _))
  | dsRecoveryRetry => exact .ofEffect rfl (dsRecoveryRetry_keeps _ _ _ _ (.refl _))
  | setv => exact .ofEffect rfl (llFrame_keeps _ _ _ _ _ (.refl _))
  | setvSettled => exact .ofEffect rfl (setvSettled_keeps _ _ (.refl _))
  | settleTimeout => exact .ofEffect rfl (settleTimeout_keeps _ _ (.refl _))
  | slew => exact .ofEffect rfl (llFrame_keeps _ _ _ _ _ (.refl _))
  | burstReq => exact .ofEffect rfl (llFrame_keeps _ _ _ _ _ (.refl _))
  | burstRel => exact .ofEffect rfl (llFrame_keeps _ _ _ _ _ (.refl _))
  | llHello => exact .ofEffect rfl (llFrame_keeps _ _ _ _ _ (.refl _))
  | llRead => exact .ofEffect rfl (llFrame_keeps _ _ _ _ _ (.refl _))
  | llPing => exact .ofEffect rfl (llFrame_keeps _ _ _ _ _ (.refl _))
  | llBitTimeout => exact .ofEffect rfl (llBitTimeout_keeps _ _ (.refl _))
  | linkLost => exact .ofEffect rfl (linkLost_keeps _ _ (.refl _))
  | throttleIgnored => exact .ofEffect rfl (throttleIgnored_keeps _ _ (.refl _))
  | wakenPulse => exact .ofEffect rfl (wakenPulse_keeps _ _ _ (.refl _))
  | wakenLongLow => exact .ofEffect rfl (requestOffPin_keeps _ (.refl _))
  | keepalivePowerOn => exact .ofEffect rfl (keepalivePowerOn_keeps _ _ (.refl _))
  | wakeStepGood => exact .ofEffect rfl (stepGood_keeps _ (.refl _))
  | wakeStepTimeout => exact .ofEffect rfl (stepTimedOut_keeps _ _ (.refl _))
  | wakeStepRetry => exact .ofEffect rfl (stepRetry_keeps _ (.refl _))
  | wakeComplete => exact .ofEffect rfl (wakeComplete_keeps _ (.refl _))
  | deadStopRetry => exact .ofEffect rfl (deadStopRetry_keeps _ _ (.refl _))
  | rstnAssert => exact .ofEffect rfl (rstnAssert_keeps _ (.refl _))
  | rstnRelease => exact .ofEffect rfl (rstnRelease_keeps _ _ (.refl _))
  | xtalFail => exact .ofEffect rfl (xtalFail_keeps _ (.refl _))
  | xtalRetry => exact .ofEffect rfl (xtalRetry_keeps _ (.refl _))
  | xtalRestore => exact .ofEffect rfl (xtalRestore_keeps _ (.refl _))
  | pllUnlock => exact .ofEffect rfl (pllUnlock_keeps _ _ (.refl _))
  | tempSample => exact .ofEffect rfl (tempSample_keeps _ _ (.refl _))
  | referenceTrim => exact .ofEffect rfl (referenceTrim_keeps _ (.refl _))
  | ostlerTs0Read => exact .ofEffect rfl (ts0Read_keeps _ _ _ (.refl _))
  | badRequest => exact badRequest_completes _ _ s
  | llRejectedFrame => exact .ofEffect rfl (llRejectedFrame_keeps _ _ _ (.refl _))
  | linkCrc => exact .ofEffect rfl (crcError_keeps _ _ (clearSent_keeps _ (.refl _)))
  | arbLostRetry => exact .ofEffect rfl (arbLostRetry_keeps _ _ (.refl _))
  | rectModePoll => exact .ofEffect rfl (rectModePoll_keeps _ (.refl _))
  | serviceStopTimeout => exact .ofEffect rfl (serviceStopTimeout_keeps _ (.refl _))
  | rcClockFail => exact .ofEffect rfl (rcClockFail_keeps _ (.refl _))

theorem exec_keeps_of_next {c : Instr} {s t : State} (h : exec c s = .next t) (hc : ∀ l : Latch, c ≠ .tick l) :
    Keeps s.chip t.chip := by
  obtain ⟨u, hu, hk⟩ := exec_keeps c s hc
  cases h.symm.trans hu
  exact hk

/-- A step idles, or runs the command at the front of the queue. -/
theorem step_keeps {s t : State} (h : step s = .next t) (hc : ∀ l : Latch, s.pending.head? ≠ some (.tick l)) :
    Keeps s.chip t.chip := by
  obtain ⟨pending, chip⟩ := s
  cases pending with
  | nil =>
    cases h
    exact .refl chip
  | cons c rest => exact exec_keeps_of_next (s := ⟨rest, chip⟩) (c := c) h fun l e => hc l (congrArg some e)

end Sys2Proof.Machine
end

section
/-! PROOFS. The tick boundary and the tick count (spec/00_scope.md). -/

namespace Sys2Proof.Machine

/-- TICK takes the boundary that `tick` describes. -/
theorem exec_tick_completes {l : Latch} {s : State} {P : Chip → Prop} (h : P (tick l s.chip)) : Completes (.tick l) s P :=
  ⟨tick l s.chip, rfl, h⟩

/-- TICK's whole effect is the boundary that `tick` describes. -/
theorem exec_tick_becomes {l : Latch} {s : State} {t : Chip} (h : tick l s.chip = t) : Becomes (.tick l) s t :=
  h ▸ rfl

/-- With the Studio die running the boundary is the Yard's. -/
theorem tick_of_studioRuns (l : Latch) {s : Chip} (h : studioRuns s = true) : tick l s = runTick l s :=
  if_pos h

/-- Without the Studio die, before step W6 has begun, the tick count alone goes on. -/
theorem tick_before_W6 (l : Latch) {s : Chip} (h : studioRuns s = false) (hs : s.ostler.step < 6) :
    tick l s = { s with clk := { s.clk with tick := s.clk.tick + 1 } } := by
  simp [tick, h, hs]

/-- Without the Studio die, from step W6 on, hall time goes on too, the meters are marked while the clock is degraded,
and in step W7 the die link is counted. -/
theorem tick_from_W6 (l : Latch) {s u : Chip} (h : studioRuns s = false) (hs : 6 ≤ s.ostler.step)
    (hu : u = if (clockTick s).clk.degraded then markUnc (clockTick s) else clockTick s) :
    tick l s = if u.ostler.step == 7 then dieLinkTick l u else u := by
  subst hu
  simp [tick, h, hs]

/-- Settles O47, by the three branches of the boundary. -/
theorem tickCountsOn : Obligations.TickCountsOn :=
  ⟨fun l _ hr => exec_tick_becomes (tick_of_studioRuns l hr),
   fun l _ hr hs => exec_tick_becomes (tick_before_W6 l hr hs),
   fun _ l _ hr hs hu => exec_tick_becomes (tick_from_W6 l hr hs hu)⟩

/-- Settles O53: the boundary counts one tick in each of its branches, and every other command keeps the tick count. -/
theorem onlyTickTellsTime : Obligations.OnlyTickTellsTime :=
  ⟨fun l s => exec_tick_completes (tick_ticks l s.chip).tick,
   fun _ _ h hc => (step_keeps h hc).tick⟩

end Sys2Proof.Machine
end

section
/-! PROOFS. The invariant over a step, and the mode at a boundary (spec/00_scope.md, spec/02_operating_modes.md). -/

namespace Sys2Proof.Machine

/-! ## The invariant over a step -/

/-- A TICK is the boundary that `tick` describes, and the boundary keeps the invariant. -/
theorem exec_tick_inv {l : Latch} {s t : State} (h : exec (.tick l) s = .next t) (hs : Inv s.chip) : Inv t.chip := by
  cases h
  exact (tick_ticks l s.chip).inv hs

/-- Every command that answers a next state keeps the invariant. -/
theorem exec_inv (c : Instr) {s t : State} (h : exec c s = .next t) (hs : Inv s.chip) : Inv t.chip := by
  by_cases hc : ∃ l : Latch, c = .tick l
  · obtain ⟨l, rfl⟩ := hc
    exact exec_tick_inv h hs
  · exact (exec_keeps_of_next h fun l e => hc ⟨l, e⟩).inv hs

/-- Settles O51: with no command waiting the block is as it was, otherwise the command in front is executed. -/
theorem everyStepKeepsTheInvariant : Obligations.EveryStepKeepsTheInvariant := by
  rintro ⟨pending, chip⟩ t hs h
  cases pending with
  | nil =>
    cases h
    exact hs
  | cons c rest => exact exec_inv (s := ⟨rest, chip⟩) c h hs

/-! ## The mode at a boundary (R27, R37) -/

/-- A change of mode leaves the member in the mode it names: the event and the recorder entry move it no further. -/
@[simp] theorem commitMode_mode (s : Chip) (m : Mode) (c : Cause) (done : List (ReqRef × Status)) :
    (commitMode s m c done).mode.mode = m :=
  (postMode_SameMode _ done (recordMode_SameMode _ (.refl _))).eq

/-- What waits for the boundary and takes effect after the change keeps the mode that the change left. -/
@[simp] theorem atBoundary_mode (f : Chip → Chip) (s : Chip) : (atBoundary f s).mode.mode = (f s).mode.mode :=
  (SameMode.ite (keepView_SameMode _ (applyQueues_SameMode _ (.refl _))) (.refl (f s))).eq

/-- Entering a stage of a sequence keeps the mode. -/
@[simp] theorem enterStage_mode (s : Chip) (st : Stage) : (enterStage s st).mode.mode = s.mode.mode :=
  (enterStage_SameMode s st (.refl s)).eq

theorem ite_mode {c : Prop} [Decidable c] {s t : Chip} {m : Mode} (hs : s.mode.mode = m) (ht : t.mode.mode = m) :
    (if c then s else t).mode.mode = m := by
  split <;> assumption

/-- The start sequence begins in RUN (R37, R39). -/
theorem beginStart_mode (s : Chip) (c : Cause) (old : List ReqRef) : (beginStart s c old).mode.mode = .run := by
  simp only [beginStart, enterStage_mode, commitMode_mode]

/-- The stop sequence begins in READY (R37, R40). -/
theorem beginStop_mode (s : Chip) (c : Cause) (old : List ReqRef) : (beginStop s c old).mode.mode = .ready := by
  simp only [beginStop, enterStage_mode, commitMode_mode]

/-- A pending change that commits takes the member to its mode, or leaves the mode as it was. -/
theorem commitPend_mode (s : Chip) (p : PendMode) :
    (commitPend s p).mode.mode = p.mode ∨ (commitPend s p).mode.mode = s.mode.mode := by
  unfold commitPend
  cases p.mode with
  | run => exact .inl (by simp only [beginStart_mode])
  | ready => exact .inl (ite_mode (beginStop_mode _ _ _) (commitMode_mode _ _ _ _))
  | hold => exact .inl (commitMode_mode _ _ _ _)
  | service => exact .inl (commitMode_mode _ _ _ _)
  | bridge => exact .inl (commitMode_mode _ _ _ _)
  | off => exact .inr rfl
  | wake => exact .inr rfl
  | lockout => exact .inr rfl

/-- MODE_COMMIT does nothing, or commits the pending change, which is a tick old. -/
theorem modeCommit_cases (s : Chip) :
    modeCommit s = s ∨ ∃ p, s.mode.pend = some p ∧ p.since < s.now ∧ modeCommit s = commitPend s p := by
  unfold modeCommit
  cases s.mode.pend with
  | none => exact .inl rfl
  | some p =>
    by_cases hc : (yardAlive s && isActive s && !rolesWait s && !handFrozen s && decide (p.since < s.now)) = true
    · refine .inr ⟨p, rfl, ?_, if_pos hc⟩
      simp only [Bool.and_eq_true, decide_eq_true_eq] at hc
      exact hc.2
    · exact .inl (if_neg hc)

theorem modeCommit_moves {s : Chip} (h : (modeCommit s).mode.mode ≠ s.mode.mode) :
    ∃ p, s.mode.pend = some p ∧ p.since < s.now ∧ (modeCommit s).mode.mode = p.mode := by
  obtain hs | ⟨p, hp, hsince, hs⟩ := modeCommit_cases s
  · exact absurd (by rw [hs]) h
  · refine ⟨p, hp, hsince, ?_⟩
    rw [hs] at h ⊢
    exact (commitPend_mode s p).resolve_right h

theorem lockoutCommit_moves {s : Chip} (h : (lockoutCommit s).mode.mode ≠ s.mode.mode) :
    s.mode.lockout.isSome = true ∧ mayLock s = true ∧ (lockoutCommit s).mode.mode = .lockout := by
  unfold lockoutCommit at h ⊢
  cases hl : s.mode.lockout with
  | none => simp [hl] at h
  | some c =>
    simp only [hl] at h ⊢
    split at h
    case isFalse => exact absurd rfl h
    case isTrue hc =>
      rw [if_pos hc]
      simp only [Bool.and_eq_true] at hc
      exact ⟨rfl, hc.1.1, commitMode_mode _ _ _ _⟩

theorem holdAutoReady_moves {s : Chip} (h : (holdAutoReady s).mode.mode ≠ s.mode.mode) :
    s.mode.mode = .hold ∧ s.imgValid = true ∧ critical s = false ∧ (holdAutoReady s).mode.mode = .ready := by
  unfold holdAutoReady at h ⊢
  split at h
  case isFalse => exact absurd rfl h
  case isTrue hc =>
    rw [if_pos hc]
    simp only [Bool.and_eq_true, beq_iff_eq, Bool.not_eq_true'] at hc
    obtain ⟨⟨⟨⟨⟨⟨⟨⟨⟨hmode, -⟩, -⟩, hvalid⟩, -⟩, hcritical⟩, -⟩, -⟩, -⟩, -⟩ := hc
    exact ⟨hmode, hvalid, hcritical, commitMode_mode _ _ _ _⟩

theorem handoverComplete_moves {s : Chip} (h : (handoverComplete s).mode.mode ≠ s.mode.mode) :
    s.mode.mode = .bridge ∧ s.mode.stage = .handover ∧ (handoverComplete s).mode.mode = .run := by
  unfold handoverComplete at h ⊢
  split at h
  case isFalse => exact absurd rfl h
  case isTrue hc =>
    rw [if_pos hc]
    simp only [Bool.and_eq_true, beq_iff_eq] at hc
    obtain ⟨⟨⟨⟨⟨-, hmode⟩, hstage⟩, -⟩, -⟩, -⟩ := hc
    exact ⟨hmode, hstage, commitMode_mode _ _ _ _⟩

theorem failoverBlocked_moves {s : Chip} (h : (failoverBlocked s).mode.mode ≠ s.mode.mode) :
    isStandby s = true ∧ (failoverBlocked s).mode.mode = .ready := by
  unfold failoverBlocked at h ⊢
  split at h
  case isFalse => exact absurd rfl h
  case isTrue hc =>
    rw [if_pos hc]
    simp only [Bool.and_eq_true] at hc
    obtain ⟨⟨⟨⟨⟨-, hstandby⟩, -⟩, -⟩, -⟩, -⟩ := hc
    extract_lets u v w
    exact ⟨hstandby, commitMode_mode _ _ _ _⟩

/-- What a command that waits for the boundary says of the mode is what its operation says: the setpoints that take
effect after it move the mode no further (R27). -/
theorem boundary_moves {f : Chip → Chip} {s t : State} {P : Mode → Prop}
    (hf : (f s.chip).mode.mode ≠ s.chip.mode.mode → P (f s.chip).mode.mode)
    (h : .next (s.on (atBoundary f)) = (.next t : Host.Outcome State Fault Refusal))
    (hm : t.chip.mode.mode ≠ s.chip.mode.mode) : P t.chip.mode.mode := by
  cases h
  rw [on_chip, atBoundary_mode] at hm ⊢
  exact hf hm

/-- Settles O60: each operation's own moves, carried over to the boundary it takes effect at. -/
theorem boundariesMoveTheModeAlongR37 : Obligations.BoundariesMoveTheModeAlongR37 := by
  refine ⟨fun s t h => ?_, fun s t h => ?_, fun s t h => ?_, fun s t h => ?_, fun s t h hm => ?_⟩
  · exact boundary_moves (P := fun m => ∃ p, s.chip.mode.pend = some p ∧ p.since < s.chip.now ∧ m = p.mode) modeCommit_moves h
  · exact boundary_moves (P := fun m => _ ∧ _ ∧ m = .lockout) lockoutCommit_moves h
  · exact boundary_moves (P := fun m => _ ∧ _ ∧ _ ∧ m = .ready) holdAutoReady_moves h
  · exact boundary_moves (P := fun m => _ ∧ _ ∧ m = .run) handoverComplete_moves h
  · cases h
    exact failoverBlocked_moves hm

end Sys2Proof.Machine
end

section
/-! PROOFS. The channel and rail commands, which wait in their queue or in the mailbox (spec/03_slot_channels.md,
spec/05_converter_rails.md). -/

namespace Sys2Proof.Machine

/-! ## What a body reads of the block when it meets its request -/

/-- Taking a request changes its port and the count of receipts alone: what reads neither finds what it would have found
before. -/
theorem taken_reads {α : Type} (f : Chip → α) (opcode : Nat) (rq : Request) (s : Chip)
    (htw : ∀ p n, f { s with tw := p, receipts := n } = f s) (hspi : ∀ p n, f { s with spi := p, receipts := n } = f s) :
    f (taken opcode rq s) = f s := by
  obtain ⟨port, ver, tag, epoch, params⟩ := rq
  cases port
  · exact htw _ _
  · exact hspi _ _

section
variable (opcode : Nat) (rq : Request) (s : Chip)

@[simp] theorem taken_chQueue : (taken opcode rq s).chQueue = s.chQueue :=
  taken_reads _ opcode rq s (fun _ _ => rfl) fun _ _ => rfl
@[simp] theorem taken_railQueue : (taken opcode rq s).railQueue = s.railQueue :=
  taken_reads _ opcode rq s (fun _ _ => rfl) fun _ _ => rfl
@[simp] theorem taken_box : (taken opcode rq s).box = s.box :=
  taken_reads _ opcode rq s (fun _ _ => rfl) fun _ _ => rfl
@[simp] theorem taken_ch (n : Nat) : (taken opcode rq s).ch n = s.ch n :=
  taken_reads (·.ch n) opcode rq s (fun _ _ => rfl) fun _ _ => rfl
@[simp] theorem taken_chCfg (n : Nat) : (taken opcode rq s).chCfg n = s.chCfg n :=
  taken_reads (·.chCfg n) opcode rq s (fun _ _ => rfl) fun _ _ => rfl
@[simp] theorem taken_rail (k : Nat) : (taken opcode rq s).rail k = s.rail k :=
  taken_reads (·.rail k) opcode rq s (fun _ _ => rfl) fun _ _ => rfl
@[simp] theorem taken_now : (taken opcode rq s).now = s.now :=
  taken_reads _ opcode rq s (fun _ _ => rfl) fun _ _ => rfl
@[simp] theorem taken_boxRoom : boxRoom (taken opcode rq s) = boxRoom s :=
  taken_reads _ opcode rq s (fun _ _ => rfl) fun _ _ => rfl
@[simp] theorem taken_queueRoom (cls : Nat) : queueRoom (taken opcode rq s) cls = queueRoom s cls :=
  taken_reads (queueRoom · cls) opcode rq s (fun _ _ => rfl) fun _ _ => rfl
@[simp] theorem taken_inStop : inStop (taken opcode rq s) = inStop s :=
  taken_reads _ opcode rq s (fun _ _ => rfl) fun _ _ => rfl
@[simp] theorem taken_modeAdmitsOn : modeAdmitsOn (taken opcode rq s) = modeAdmitsOn s :=
  taken_reads _ opcode rq s (fun _ _ => rfl) fun _ _ => rfl
@[simp] theorem taken_svcOtherRail (k : Nat) : svcOtherRail (taken opcode rq s) k = svcOtherRail s k :=
  taken_reads (svcOtherRail · k) opcode rq s (fun _ _ => rfl) fun _ _ => rfl
@[simp] theorem taken_railSetInRange (k kind : Nat) (v : Int) : railSetInRange (taken opcode rq s) k kind v = railSetInRange s k kind v :=
  taken_reads (railSetInRange · k kind v) opcode rq s (fun _ _ => rfl) fun _ _ => rfl
@[simp] theorem taken_railSetAdmits (k kind : Nat) : railSetAdmits (taken opcode rq s) k kind = railSetAdmits s k kind :=
  taken_reads (railSetAdmits · k kind) opcode rq s (fun _ _ => rfl) fun _ _ => rfl
@[simp] theorem taken_chCmdChecks (x : Request) : chCmdChecks x (taken opcode rq s) = chCmdChecks x s :=
  taken_reads (chCmdChecks x) opcode rq s (fun _ _ => rfl) fun _ _ => rfl
@[simp] theorem taken_railChecks (x : Request) : railChecks x (taken opcode rq s) = railChecks x s :=
  taken_reads (railChecks x) opcode rq s (fun _ _ => rfl) fun _ _ => rfl
@[simp] theorem taken_railCmdChecks (x : Request) : railCmdChecks x (taken opcode rq s) = railCmdChecks x s :=
  taken_reads (railCmdChecks x) opcode rq s (fun _ _ => rfl) fun _ _ => rfl
@[simp] theorem taken_chData (n : Nat) : chData (taken opcode rq s) n = chData s n :=
  taken_reads (chData · n) opcode rq s (fun _ _ => rfl) fun _ _ => rfl
@[simp] theorem taken_railData (k : Nat) : railData (taken opcode rq s) k = railData s k :=
  taken_reads (railData · k) opcode rq s (fun _ _ => rfl) fun _ _ => rfl

end

/-! ## A body that changes one part besides its port -/

/-- A part that is no port leaves the ports as they are. -/
theorem Only.port {ps : List Part} {s t : Chip} (h : Only ps s t) (p : Port) (hp : portPart p ∉ ps) : t.port p = s.port p := by
  cases p
  · exact h .tw hp
  · exact h .spi hp

section
variable {row : OpRow} {rq : Request} {s u : Chip} {part : Part} (opcode : Nat) (body : Body)

/-- The replies of the port whose request was taken, after a change of one part that is no port. -/
theorem replies_of_only (hu : Only [part] (taken opcode rq s) u) (hpart : portPart rq.port ≠ part) :
    (u.port rq.port).replies = (s.port rq.port).replies ++ [{ receipt := s.receipts, reply := none }] := by
  rw [hu.port rq.port (by simpa using hpart), taken_replies]

/-- A body that changes one part and answers later: the request holds its place, and the parts that differ are its port,
the count of receipts and that part. -/
theorem serve_holds (h : Admitted opcode row rq s) (hb : body rq (refOf rq s) (taken opcode rq s) = (.later, u))
    (hu : Only [part] (taken opcode rq s) u) (hpart : portPart rq.port ≠ part) :
    serve opcode row body rq s = u ∧ Held rq s u ∧ Only [portPart rq.port, .receipts, part] s u := by
  refine ⟨serve_later opcode body h hb, ?_, ?_⟩
  · simp [Held, replies_of_only opcode hu hpart]
  · have ht : Only [portPart rq.port, .receipts, part] s (taken opcode rq s) :=
      fun p hp => taken_only opcode rq s p (by simp_all)
    exact ht.trans hu (by simp)

/-- A body that changes one part and answers at once. -/
theorem serve_replies (st : Status) (data : List Byte) (h : Admitted opcode row rq s)
    (hb : body rq (refOf rq s) (taken opcode rq s) = (.reply st data, u)) (hu : Only [part] (taken opcode rq s) u)
    (hpart : portPart rq.port ≠ part) :
    Replied rq st data s (serve opcode row body rq s) ∧ Only [portPart rq.port] u (serve opcode row body rq s)
      ∧ Only [portPart rq.port, .receipts, part] s (serve opcode row body rq s) := by
  obtain ⟨hr, ho⟩ := serve_does opcode body st data false h hb (replies_of_only opcode hu hpart)
  have ht : Only [portPart rq.port, .receipts, part] s (taken opcode rq s) :=
    fun p hp => taken_only opcode rq s p (by simp_all)
  exact ⟨hr, ho, (ht.trans hu (by simp)).trans ho (by simp)⟩

end

/-! ## The setpoint queues and the mailbox take an entry (R29) -/

theorem queueCh_of_room {s : Chip} (n : Nat) (cmd : ChCmd) (r : ReqRef) (replied : Bool) (h : queueRoom s 1 = true) :
    queueCh s n cmd r replied
      = { s with chQueue := s.chQueue ++ [{ ch := n, gen := (s.chCfg n).gen, cmd := cmd, ref := r, replied := replied }] } :=
  if_pos h

theorem queueRail_of_room {s : Chip} (k : Nat) (cmd : RailCmd) (r : ReqRef) (replied : Bool) (h : queueRoom s 2 = true) :
    queueRail s k cmd r replied
      = { s with railQueue := s.railQueue ++ [{ rail := k, cmd := cmd, ref := r, replied := replied, link := none }] } :=
  if_pos h

theorem offerBox_of_room {s : Chip} (kind : BoxKind) (op : Nat) (rq : Request) (r : ReqRef) (h : boxRoom s = true) :
    offerBox s kind op rq r = { s with box := s.box ++ [boxEntry s kind op rq r] } :=
  if_pos h

theorem only_chQueue (s : Chip) (q : List ChSet) : Only [.chQueue] s { s with chQueue := q } := by
  intro p hp
  cases p with
  | chQueue => exact absurd (.head _) hp
  | _ => rfl

theorem only_railQueue (s : Chip) (q : List RailSet) : Only [.railQueue] s { s with railQueue := q } := by
  intro p hp
  cases p with
  | railQueue => exact absurd (.head _) hp
  | _ => rfl

theorem only_box (s : Chip) (q : List BoxEntry) : Only [.box] s { s with box := q } := by
  intro p hp
  cases p with
  | box => exact absurd (.head _) hp
  | _ => rfl

theorem portPart_ne {q : Part} (p : Port) (htw : q ≠ .tw) (hspi : q ≠ .spi) : portPart p ≠ q := by
  cases p
  · exact htw.symm
  · exact hspi.symm

theorem Taken.room {opcode : Nat} {row : OpRow} {rq : Request} {s : Chip} (h : Taken opcode row rq s) :
    queueRoom s row.queue = true := by
  obtain ⟨-, -, -, -, -, hroom, -⟩ := h
  exact hroom

/-- What a request that waits in the channels' queue, with its reply held, leaves. -/
def HeldInChQueue (rq : Request) (cmd : ChCmd) (s t : Chip) : Prop :=
  Held rq s t
    ∧ (t.chQueue = s.chQueue ++ [{ ch := arg rq 0 1, gen := (s.chCfg (arg rq 0 1)).gen, cmd := cmd, ref := refOf rq s, replied := false }]
      ∧ Only [portPart rq.port, .receipts, .chQueue] s t)

/-- What a request that waits in the rails' queue, with its reply held, leaves. -/
def HeldInRailQueue (rq : Request) (cmd : RailCmd) (s t : Chip) : Prop :=
  Held rq s t
    ∧ (t.railQueue = s.railQueue ++ [{ rail := arg rq 0 1, cmd := cmd, ref := refOf rq s, replied := false, link := none }]
      ∧ Only [portPart rq.port, .receipts, .railQueue] s t)

/-- What a request that waits in the mailbox, with its reply held, leaves. -/
def HeldInBox (rq : Request) (kind : BoxKind) (op : Nat) (s t : Chip) : Prop :=
  Held rq s t
    ∧ (t.box = s.box ++ [⟨kind, op, refOf rq s, rq.params, s.now, (s.chCfg (field rq.params 0 1)).gen⟩]
      ∧ Only [portPart rq.port, .receipts, .box] s t)

section
variable {row : OpRow} {rq : Request} {s : Chip} {body : Body} {opcode : Nat}

theorem serve_heldInChQueue {cmd : ChCmd} (h : Admitted opcode row rq s) (hq : row.queue = 1)
    (hb : body rq (refOf rq s) (taken opcode rq s)
      = (.later, queueCh (taken opcode rq s) (arg rq 0 1) cmd (refOf rq s) false)) :
    HeldInChQueue rq cmd s (serve opcode row body rq s) := by
  rw [queueCh_of_room _ _ _ _ (by simpa [hq] using h.1.room)] at hb
  obtain ⟨hs, hh, ho⟩ := serve_holds opcode body h hb (only_chQueue _ _) (portPart_ne _ (by decide) (by decide))
  rw [hs]
  exact ⟨hh, by simp, ho⟩

/-- A request that is accepted at once and waits in the channels' queue marked as answered. -/
theorem serve_acceptedInChQueue {cmd : ChCmd} {data : List Byte} (h : Admitted opcode row rq s) (hq : row.queue = 1)
    (hb : body rq (refOf rq s) (taken opcode rq s)
      = (.reply .accepted data, queueCh (taken opcode rq s) (arg rq 0 1) cmd (refOf rq s) true)) :
    Replied rq .accepted data s (serve opcode row body rq s)
      ∧ (serve opcode row body rq s).chQueue = s.chQueue
          ++ [{ ch := arg rq 0 1, gen := (s.chCfg (arg rq 0 1)).gen, cmd := cmd, ref := refOf rq s, replied := true }]
      ∧ Only [portPart rq.port, .receipts, .chQueue] s (serve opcode row body rq s) := by
  rw [queueCh_of_room _ _ _ _ (by simpa [hq] using h.1.room)] at hb
  obtain ⟨hr, hu, ho⟩ := serve_replies opcode body .accepted data h hb (only_chQueue _ _)
    (portPart_ne _ (by decide) (by decide))
  have hqueue := hu .chQueue (by simpa using (portPart_ne rq.port (by decide) (by decide)).symm)
  exact ⟨hr, hqueue.trans (by simp), ho⟩

theorem serve_heldInRailQueue {cmd : RailCmd} (h : Admitted opcode row rq s) (hq : row.queue = 2)
    (hb : body rq (refOf rq s) (taken opcode rq s)
      = (.later, queueRail (taken opcode rq s) (arg rq 0 1) cmd (refOf rq s) false)) :
    HeldInRailQueue rq cmd s (serve opcode row body rq s) := by
  rw [queueRail_of_room _ _ _ _ (by simpa [hq] using h.1.room)] at hb
  obtain ⟨hs, hh, ho⟩ := serve_holds opcode body h hb (only_railQueue _ _) (portPart_ne _ (by decide) (by decide))
  rw [hs]
  exact ⟨hh, by simp, ho⟩

/-- A request that is accepted at once and waits in the rails' queue marked as answered. -/
theorem serve_acceptedInRailQueue {cmd : RailCmd} {data : List Byte} (h : Admitted opcode row rq s) (hq : row.queue = 2)
    (hb : body rq (refOf rq s) (taken opcode rq s)
      = (.reply .accepted data, queueRail (taken opcode rq s) (arg rq 0 1) cmd (refOf rq s) true)) :
    Replied rq .accepted data s (serve opcode row body rq s)
      ∧ (serve opcode row body rq s).railQueue = s.railQueue
          ++ [{ rail := arg rq 0 1, cmd := cmd, ref := refOf rq s, replied := true, link := none }]
      ∧ Only [portPart rq.port, .receipts, .railQueue] s (serve opcode row body rq s) := by
  rw [queueRail_of_room _ _ _ _ (by simpa [hq] using h.1.room)] at hb
  obtain ⟨hr, hu, ho⟩ := serve_replies opcode body .accepted data h hb (only_railQueue _ _)
    (portPart_ne _ (by decide) (by decide))
  have hqueue := hu .railQueue (by simpa using (portPart_ne rq.port (by decide) (by decide)).symm)
  exact ⟨hr, hqueue.trans (by simp), ho⟩

theorem serve_heldInBox {kind : BoxKind} {op : Nat} (h : Admitted opcode row rq s) (hroom : boxRoom s = true)
    (hb : body rq (refOf rq s) (taken opcode rq s) = (.later, offerBox (taken opcode rq s) kind op rq (refOf rq s))) :
    HeldInBox rq kind op s (serve opcode row body rq s) := by
  rw [offerBox_of_room _ _ _ _ (by simpa using hroom)] at hb
  obtain ⟨hs, hh, ho⟩ := serve_holds opcode body h hb (only_box _ _) (portPart_ne _ (by decide) (by decide))
  rw [hs]
  exact ⟨hh, by simp [boxEntry], ho⟩

end

/-- A request that the Yard serves completes with what the serving leaves. -/
theorem completes_serve {c : Instr} {opcode : Nat} {row : OpRow} {body : Body} {rq : Request} {s : State} {P : Chip → Prop}
    (he : exec c s = .next (s.on (serve opcode row body rq))) (h : P (serve opcode row body rq s.chip)) : Completes c s P :=
  ⟨_, he, h⟩

/-! ## The channel commands (R68, R69, R81, R104, R108) -/

/-- CH_OFF, CH_DISABLE and CH_ENABLE of a channel that passes the checks are queued, to be answered when they apply. -/
theorem serve_chSet {opcode : Nat} {rq : Request} {s : Chip} (cmd : ChCmd)
    (h : Admitted opcode { activeOnly := true, queue := 1 } rq s) (hc : chCmdChecks rq s = none) :
    HeldInChQueue rq cmd s (serve opcode { activeOnly := true, queue := 1 } (bodyChSet cmd) rq s) :=
  serve_heldInChQueue h rfl (by simp [bodyChSet, hc])

/-- CH_ON of an idle channel with a role is accepted, and its entry is marked as answered. -/
theorem bodyChOn_idle {rq : Request} {r : ReqRef} {s : Chip} (hstop : inStop s = false) (hmode : modeAdmitsOn s = true)
    (hc : chCmdChecks rq s = none) (hrole : (s.chCfg (arg rq 0 1)).role ≠ 0)
    (hen : (s.ch (arg rq 0 1)).disabled = false) (hoff : (s.ch (arg rq 0 1)).state = .off)
    (hidle : (s.chQueue.any fun e => e.ch == arg rq 0 1) = false) :
    bodyChOn rq r s = (.reply .accepted (chData s (arg rq 0 1)), queueCh s (arg rq 0 1) .on r true) := by
  simp only [bodyChOn, hstop, hmode, hc, hen, hoff, hidle, beq_iff_eq, hrole]
  rfl

/-- Settles O12: the checks' outcome decides each body, and the entry takes the room that the taken request was promised. -/
theorem channelCommandsQueue : Obligations.ChannelCommandsQueue := by
  refine ⟨fun rq s h hstop hmode hc hrole hen hoff hidle => ?_,
    fun rq s h hc => completes_serve rfl (serve_chSet .off h hc),
    fun rq s h hc => completes_serve rfl (serve_chSet .disable h hc),
    fun rq s h hc => completes_serve rfl (serve_chSet .enable h hc),
    fun rq s h hc hroom => completes_serve rfl (serve_heldInBox h hroom (by simp [bodyClearLockout, hc]))⟩
  exact completes_serve rfl (serve_acceptedInChQueue h rfl
    (by simp [bodyChOn_idle, hstop, hmode, hc, hrole, hen, hoff, hidle]))

/-! ## The rail commands (R122, R124, R135, R140) -/

/-- RAIL_OFF, RAIL_DISABLE and RAIL_ENABLE of a rail that passes the checks are queued, to be answered when they apply. -/
theorem serve_railCmd {opcode : Nat} {rq : Request} {s : Chip} (cmd : RailCmd)
    (h : Admitted opcode { activeOnly := true, queue := 2 } rq s) (hc : railCmdChecks rq s = none) :
    HeldInRailQueue rq cmd s (serve opcode { activeOnly := true, queue := 2 } (bodyRailCmd cmd) rq s) :=
  serve_heldInRailQueue h rfl (by simp [bodyRailCmd, hc])

/-- RAIL_ON of an idle rail is accepted, and its entry is marked as answered. -/
theorem bodyRailOn_idle {rq : Request} {r : ReqRef} {s : Chip} (hstop : inStop s = false) (hmode : modeAdmitsOn s = true)
    (hc : railCmdChecks rq s = none) (hen : (s.rail (arg rq 0 1)).disabled = false)
    (hoff : (s.rail (arg rq 0 1)).state = .off) (hidle : (s.railQueue.any fun e => e.rail == arg rq 0 1) = false) :
    bodyRailOn rq r s = (.reply .accepted (railData s (arg rq 0 1)), queueRail s (arg rq 0 1) .on r true) := by
  simp only [bodyRailOn, hstop, hmode, hc, hen, hoff, hidle]
  rfl

/-- RAIL_SET of a value and a kind that the rail admits is queued. -/
theorem bodyRailSet_admitted {rq : Request} {r : ReqRef} {s : Chip} (hsvc : svcOtherRail s (arg rq 0 1) = false)
    (hlo : 1 ≤ arg rq 1 1) (hhi : arg rq 1 1 ≤ 3) (hc : railChecks rq s = none)
    (hrange : railSetInRange s (arg rq 0 1) (arg rq 1 1) (fieldI rq.params 4 4) = true)
    (hkind : railSetAdmits s (arg rq 0 1) (arg rq 1 1) = true) (hen : (s.rail (arg rq 0 1)).disabled = false) :
    bodyRailSet rq r s
      = (.later, queueRail s (arg rq 0 1) (.set (arg rq 1 1) (fieldI rq.params 4 4)) r false) := by
  have hk : (arg rq 1 1 == 0 || decide (3 < arg rq 1 1)) = false := by simp; omega
  simp [bodyRailSet, hsvc, hk, hc, hrange, hkind, hen]

/-- Settles O14, as the channel commands: the rails' bodies put their entries into the rails' queue. -/
theorem railCommandsQueue : Obligations.RailCommandsQueue := by
  refine ⟨fun rq s h hstop hmode hc hen hoff hidle => ?_,
    fun rq s h hc => completes_serve rfl (serve_railCmd .off h hc),
    fun rq s h hc => completes_serve rfl (serve_railCmd .disable h hc),
    fun rq s h hc => completes_serve rfl (serve_railCmd .enable h hc),
    fun rq s h hsvc hlo hhi hc hrange hkind hen => ?_,
    fun rq s h hc hroom => completes_serve rfl (serve_heldInBox h hroom (by simp [bodyClearLatch, hc]))⟩
  · exact completes_serve rfl (serve_acceptedInRailQueue h rfl
      (by simp [bodyRailOn_idle, hstop, hmode, hc, hen, hoff, hidle]))
  · exact completes_serve rfl (serve_heldInRailQueue h rfl
      (by simp [bodyRailSet_admitted, hsvc, hlo, hhi, hc, hrange, hkind, hen]))

end Sys2Proof.Machine
end

section
/-! PROOFS. The breaker events, the mailbox, and the supplies (spec/04_breaker_and_soa.md,
spec/15_faults_and_watchdog.md, spec/18_waking_clocks_heat.md). -/

namespace Sys2Proof.Machine

/-- A command whose effect on the block is `f` leaves what `f` gives. -/
theorem becomes_of {c : Instr} {s : State} {f : Chip → Chip} {t : Chip} (he : exec c s = .next (s.on f))
    (h : f s.chip = t) : Becomes c s t :=
  h ▸ he

/-! ## The breaker (R76, R77, R88, R89, R99, R100, R102, R105) -/

theorem shortCircuitTrip_acts {s : Chip} (n : Nat) (h : stableActs s = true) :
    shortCircuitTrip n s
      = driversOff (s.modCh n fun c => { c with brk := { c.brk with
          scLatch := some (driverOn (s.ch (leaderOf s n)) || c.brk.scLatch == some true) } }) (leaderOf s n) .strong :=
  if_pos h

theorem instantaneousTrip_acts {s : Chip} (n : Nat) (h : studioRuns s = true)
    (hon : driverOn (s.ch (leaderOf s n)) = true) :
    instantaneousTrip n s
      = driversOff (s.modCh n fun c => { c with brk := { c.brk with instLatch := some true } }) (leaderOf s n) .strong :=
  if_pos (by simp [h, hon])

theorem chargePumpUv_acts {s : Chip} (n : Nat) (h : studioRuns s = true) (hon : driverOn (s.ch (leaderOf s n)) = true) :
    chargePumpUv n s = tripOrHold s (leaderOf s n) [.chargePump] 0xFF :=
  if_pos (by simp [h, hon])

theorem retryDueNow_starts {s : Chip} (n : Nat) (htrip : (s.ch n).state = .tripped)
    (hdue : ((s.ch n).brk.due.any fun d => decide (d ≤ s.now)) = true) (hon : (s.ch n).intentOn = true)
    (hadm : admitsCh s n = true) (hpres : isPresent s n = true) (hroles : rolesWait s = false) :
    retryDueNow n s = startRetry s n :=
  if_pos (by simp only [htrip, hdue, hon, hadm, hpres, hroles]; rfl)

theorem retryReset_clears {s : Chip} (n : Nat) (hon : (s.ch n).state = .on)
    (hlong : ((s.ch n).brk.onSince.any fun t => decide (t + (s.brkCfg n).retryReset * 1000000 ≤ s.now)) = true) :
    retryReset n s = s.modCh n fun c => { c with brk := { c.brk with retries := 0 } } :=
  if_pos (by simp only [hon, hlong]; rfl)

/-- Settles O20: each event's condition holds, so its action is taken. -/
theorem breakerEventsAct : Obligations.BreakerEventsAct := by
  refine ⟨?_, ?_, ?_, ?_, ?_⟩
  · rintro _ ch s rfl h
    exact becomes_of rfl (shortCircuitTrip_acts ch h)
  · rintro _ ch s rfl h hon
    exact becomes_of rfl (instantaneousTrip_acts ch h hon)
  · rintro _ ch s rfl h hon
    exact becomes_of rfl (chargePumpUv_acts ch h hon)
  · intro ch s htrip hdue hon hadm hpres hroles
    exact becomes_of rfl (retryDueNow_starts ch htrip hdue hon hadm hpres hroles)
  · intro ch s hon hlong
    exact becomes_of rfl (retryReset_clears ch hon hlong)

/-! ## The mailbox (R29, R433) -/

/-- What the delivery of the head makes of the block before waiting entries take the room. -/
theorem mailboxEntry_head {s : Chip} {e : BoxEntry} {rest : List BoxEntry} (h : s.box = e :: rest)
    (ha : yardAlive s = true) :
    mailboxEntry s = admitWaiting (
      if !boxAccepts { s with box := rest } e then boxDenied e { s with box := rest }
      else if e.kind == .commit then takeCommit e { s with box := rest, boxUsed := e.ref.receipt :: s.boxUsed }
      else { s with box := rest, boxUsed := e.ref.receipt :: s.boxUsed, boxDue := s.boxDue ++ [e] }) := by
  simp [mailboxEntry, h, ha]

/-- Settles O30: the receipt's check and the entry's kind choose what the head does. -/
theorem mailboxDelivers : Obligations.MailboxDelivers := by
  refine ⟨fun e rest s h ha hok hk => ?_, fun e rest s h ha hok hk => ?_, fun e rest s h ha hno => ?_, fun s => rfl⟩
  · exact becomes_of rfl (by simp [mailboxEntry_head h ha, hok, hk])
  · exact becomes_of rfl (by simp [mailboxEntry_head h ha, hok, hk])
  · exact becomes_of rfl (by simp [mailboxEntry_head h ha, hno])

/-! ## The supplies and the die link (R23, R42, R357, R481, R483, R485, R493) -/

@[simp] theorem yardAlive_modOst (s : Chip) (f : Ostler → Ostler) : yardAlive (s.modOst f) = yardAlive s := rfl

theorem yardAlive_of_off {s : Chip} (h : s.mode.mode = .off) : yardAlive s = false := by simp [yardAlive, h]

/-- Power lost outside OFF takes the Studio die down with CAUSE SUPPLY_LOSS and ends a dead-stop. -/
theorem losePower_of_on {s : Chip} (h : s.mode.mode ≠ .off) :
    losePower s = setErrn ((goOff 2 .supplyLoss s).modOst fun o => { o with deadStop := false, retryDue := none }) :=
  if_neg (by simpa using h)

/-- Once the power is lost the Yard no longer runs. -/
theorem yardAlive_losePower (s : Chip) : yardAlive (losePower s) = false := by
  by_cases h : s.mode.mode = .off
  · simp [losePower, h, yardAlive_of_off h]
  · rw [losePower_of_on h]
    rfl

/-- A feed that falls with the other good sets its source. -/
theorem vinLow_of_other {s : Chip} (f : Feed) (ha : yardAlive s = true) (hb : bothLow (s.modOst (setFeed f false)) = false) :
    vinLow f s = evalFault (s.modOst (setFeed f false)) (feedSource f) true := by
  simp [vinLow, hb, ha]

/-- The last feed that falls takes the power. -/
theorem vinLow_of_last {s : Chip} (f : Feed) (hb : bothLow (s.modOst (setFeed f false)) = true) :
    vinLow f s = losePower (s.modOst (setFeed f false)) := by
  simp [vinLow, hb, yardAlive_losePower]

/-- A feed's state is all that its return or loss writes in the Ostler. -/
theorem setFeed_keeps (f : Feed) (on : Bool) (o : Ostler) :
    (setFeed f on o).waiting = o.waiting ∧ (setFeed f on o).rstn = o.rstn ∧ (setFeed f on o).offCause = o.offCause
      ∧ (setFeed f on o).deadStop = o.deadStop := by
  cases f <;> exact ⟨rfl, rfl, rfl, rfl⟩

/-- VINA or VINB back is a feed that is good. -/
theorem bothLow_setFeed {f : Feed} (s : Chip) (hf : f ≠ .vka) : bothLow (s.modOst (setFeed f true)) = false := by
  cases f with
  | vina => rfl
  | vinb => simp [bothLow, setFeed]
  | vka => exact absurd rfl hf

theorem vinReturn_of_waiting {s : Chip} (f : Feed) (st : Straps) (hoff : s.mode.mode = .off)
    (hw : s.ostler.waiting = true) : vinReturn f st s = wakeIfReady st (s.modOst (setFeed f true)) := by
  simp [vinReturn, yardAlive_of_off hoff, hoff, hw, setFeed_keeps]

theorem vinReturn_of_loss {s : Chip} {f : Feed} (st : Straps) (hoff : s.mode.mode = .off)
    (hw : s.ostler.waiting = false) (hlow : bothLow s = true) (hf : f ≠ .vka) (hr : s.ostler.rstn = false)
    (hwhy : s.ostler.offCause = .supplyLoss ∨ s.ostler.deadStop = true) :
    vinReturn f st s = requestWake st (s.modOst (setFeed f true)) := by
  simp [vinReturn, yardAlive_of_off hoff, hoff, hw, hlow, hr, hwhy, setFeed_keeps, bothLow_setFeed s hf]

theorem vinReturn_of_alive {s : Chip} (f : Feed) (st : Straps) (ha : yardAlive s = true) :
    vinReturn f st s = setLive (s.modOst (setFeed f true)) (feedSource f) false :=
  if_pos ha

theorem keepalivePowerOn_of_dead {s : Chip} (st : Straps) (hoff : s.mode.mode = .off) (hdead : s.ostler.alive = false) :
    keepalivePowerOn st s = requestWake st ((studioLost s).modOst fun o =>
      { alive := true, cause := 1, mons := List.replicate 4 {}, vinA := o.vinA, vinB := o.vinB, vka := o.vka, ts0 := o.ts0,
        rstn := o.rstn }) :=
  if_pos (by simp [hoff, hdead])

theorem studioAbsent_of_silent {s : Chip} (ha : yardAlive s = true) (hn : 3 ≤ s.pair.me.noLink) :
    studioAbsent s = setErrn ((goOff 6 .powerOn s).modOst fun o => { o with rewakeAt := some (s.now + 10000) }) :=
  if_pos (by simp [ha, hn])

/-- A re-wake that is due begins a wake, unless it is the third within 600 s. -/
theorem studioAbsentRewake_due {s : Chip} (st : Straps) {t0 : Nat} (hoff : s.mode.mode = .off)
    (hdue : s.ostler.rewakeAt = some t0) (hnow : t0 ≤ s.now) :
    studioAbsentRewake st s =
      if 2 ≤ (s.ostler.absences.filter fun t => decide (s.now < t + 600000000)).length then
        enterDeadStop 0x1A 0 (s.modOst fun o => { o with rewakeAt := none, cause := 6, absences := [] })
      else wakeIfReady st (s.modOst fun o =>
        { o with rewakeAt := none, cause := 6,
                 absences := s.now :: s.ostler.absences.filter fun t => decide (s.now < t + 600000000), waiting := true }) :=
  if_pos (by simp [hoff, hdue, hnow])

theorem gapHold_of_missed {s : Chip} (hp : isPaired s = true) (hn : 1 ≤ s.pair.me.noLink) :
    gapHold s = s.modMe fun p => { p with gapHold := true } :=
  if_pos (by simp [hp, hn])

theorem gapHold_of_other {s : Chip} (h : isPaired s = false ∨ s.pair.me.noLink = 0) : gapHold s = s :=
  if_neg (by rcases h with h | h <;> simp [h])

/-- Settles O7: the feeds' state before and after the event chooses the branch, and the absences within 600 s whether the
re-wake ends in a dead-stop. -/
theorem suppliesAct : Obligations.SuppliesAct := by
  refine ⟨fun s hon => becomes_of rfl (losePower_of_on hon),
    fun f s ha hb => becomes_of rfl (vinLow_of_other f ha hb),
    fun f s hon hb => becomes_of rfl ((vinLow_of_last f hb).trans (losePower_of_on hon)),
    fun f st s hoff hw => becomes_of rfl (vinReturn_of_waiting f st hoff hw),
    fun f st s hoff hw hlow hf hr hwhy => becomes_of rfl (vinReturn_of_loss st hoff hw hlow hf hr hwhy),
    fun f st s ha => becomes_of rfl (vinReturn_of_alive f st ha),
    fun st s hoff hdead => becomes_of rfl (keepalivePowerOn_of_dead st hoff hdead),
    fun s ha hn => becomes_of rfl (studioAbsent_of_silent ha hn),
    fun st t0 s hoff hdue hnow hnone => ?_,
    fun st t0 a b s hoff hdue hnow htwo ha hb => ?_,
    fun s hp hn => becomes_of rfl (gapHold_of_missed hp hn),
    fun s h => becomes_of rfl (gapHold_of_other h)⟩
  · have hrewake := studioAbsentRewake_due st hoff hdue hnow
    rw [if_neg (by simp [hnone])] at hrewake
    exact becomes_of rfl (hrewake.trans (by simp [hnone]))
  · have hrewake := studioAbsentRewake_due st hoff hdue hnow
    rw [if_pos (by simp [htwo, ha, hb])] at hrewake
    exact becomes_of rfl hrewake

end Sys2Proof.Machine
end

section
/-! PROOFS. The mode commits at the boundary that is due, the bridge and the service stop
(spec/02_operating_modes.md, spec/06_bus_energy.md). -/

namespace Sys2Proof.Machine

/-! ## What waits for the boundary of a change (R27, R28) -/

/-- A command that takes effect at the boundary and makes `u` of a block in which setpoints wait: they wait on, or take
effect after it. -/
theorem atBoundary_of_wait {f : Chip → Chip} {s u : Chip} (hw : setpointsWait s = true) (hu : f s = u) :
    atBoundary f s = if setpointsWait u then u else keepView (applyQueues u) := by
  subst hu
  unfold atBoundary
  cases setpointsWait (f s) <;> simp [hw]

/-- What takes effect at a boundary is only read at the block it meets. -/
theorem atBoundary_congr {f g : Chip → Chip} {s : Chip} (h : f s = g s) : atBoundary f s = atBoundary g s := by
  simp only [atBoundary, h]

theorem modeCommit_of_due {s : Chip} {p : PendMode} (hp : s.mode.pend = some p) (ha : yardAlive s = true)
    (hact : isActive s = true) (hroles : rolesWait s = false) (hf : handFrozen s = false) (hdue : p.since < s.now) :
    modeCommit s = commitPend s p := by
  simp [modeCommit, hp, ha, hact, hroles, hf, hdue]

theorem lockoutCommit_of_due {s : Chip} {c : Cause} (hl : s.mode.lockout = some c) (hm : mayLock s = true)
    (hr : s.pair.me.resumeAt = none) (hdue : s.mode.lockoutAt < s.now) : lockoutCommit s = commitLockout s c := by
  simp [lockoutCommit, hl, hm, hr, hdue]

theorem setpointsWait_of_pend {s : Chip} {p : PendMode} (hp : s.mode.pend = some p) : setpointsWait s = true := by
  simp [setpointsWait, hp]

theorem setpointsWait_of_lockout {s : Chip} {c : Cause} (hl : s.mode.lockout = some c) (hm : mayLock s = true)
    (hdue : s.mode.lockoutAt < s.now) : setpointsWait s = true := by
  simp [setpointsWait, lockoutDue, hl, hm, hdue]

/-! ## The bridge event changes the bus rails and posts it, and leaves the rest (R43, R150, R153) -/

/-- What a change of a rail's state changes: the rails, the event queue and the recorder. -/
abbrev OnlyRails (s t : Chip) : Prop := Only [.rails, .events, .sketch] s t

theorem Only.ite {ps : List Part} {c : Prop} [Decidable c] {s t u : Chip} (h : Only ps s t) (k : Only ps s u) :
    Only ps s (if c then t else u) := by
  split <;> assumption

theorem Only.foldl {α : Type} {ps : List Part} {g : Chip → α → Chip} (hg : ∀ y a, Only ps y (g y a)) (l : List α)
    (s : Chip) : Only ps s (l.foldl g s) := by
  induction l generalizing s with
  | nil => exact .refl ps s
  | cons a l ih => exact (hg s a).trans (ih (g s a)) fun _ => id

theorem OnlyRails.trans {s t u : Chip} (h : OnlyRails s t) (k : OnlyRails t u) : OnlyRails s u :=
  Only.trans h k fun _ => id

theorem modRail_onlyRails (s : Chip) (k : Nat) (f : Rail → Rail) : OnlyRails s (s.modRail k f) := by
  intro p hp
  cases p with
  | rails => exact absurd (by decide) hp
  | _ => rfl

theorem events_onlyRails (s : Chip) (e : Events) : OnlyRails s { s with events := e } := by
  intro p hp
  cases p with
  | events => exact absurd (by decide) hp
  | _ => rfl

theorem postRecord_onlyRails (s : Chip) (cls : Nat) (body : List Byte) (done : Option (ReqRef × Status)) :
    OnlyRails s (postRecord s cls body done) := by
  unfold postRecord
  exact .ite (events_onlyRails s _) (events_onlyRails s _)

theorem post_onlyRails (s : Chip) (cls : Nat) (body : List Byte) (done : List (ReqRef × Status)) :
    OnlyRails s (post s cls body done) := by
  unfold post
  split
  · exact postRecord_onlyRails _ _ _ _
  · exact .foldl (fun y d => postRecord_onlyRails y cls body (some d)) _ s

theorem sketch_onlyRails (s : Chip) (k : Sketch) : OnlyRails s { s with sketch := k } := by
  intro p hp
  cases p with
  | sketch => exact absurd (by decide) hp
  | _ => rfl

theorem recPost_onlyRails (s : Chip) (kind sev source : Nat) (detail : List Byte) :
    OnlyRails s (recPost s kind sev source detail) := by
  unfold recPost
  exact .ite (sketch_onlyRails s _) (.ite (sketch_onlyRails s _) (sketch_onlyRails s _))

theorem setRailState_onlyRails (s : Chip) (k : Nat) (st : RailState) (done : List (ReqRef × Status)) :
    OnlyRails s (setRailState s k st done) := by
  unfold setRailState
  have posted (f : Rail → Rail) : OnlyRails s (post (s.modRail k f) 0x03 (railBody (s.modRail k f) k 1) done) :=
    (modRail_onlyRails s k f).trans (post_onlyRails _ _ _ _)
  exact .ite (.ite (.refl _ s) (post_onlyRails _ _ _ _))
    (.ite ((posted _).trans (recPost_onlyRails _ _ _ _ _)) (posted _))

theorem setLimit_onlyRails (s : Chip) (k : Nat) (on : Bool) : OnlyRails s (setLimit s k on) := by
  unfold setLimit
  exact .ite (.refl _ s) ((modRail_onlyRails s k _).trans (post_onlyRails _ _ _ _))

theorem enterBridging_onlyRails (s : Chip) (k : Nat) (uB : Int) : OnlyRails s (enterBridging s k uB) :=
  ((setLimit_onlyRails s k false).trans (modRail_onlyRails _ k _)).trans (setRailState_onlyRails _ k .bridging _)

theorem bridgeAllNow_onlyRails (s : Chip) : OnlyRails s (bridgeAllNow s) :=
  .foldl (fun y k => .ite (.refl _ y) (.ite (enterBridging_onlyRails y k _) (modRail_onlyRails y k _))) _ s

/-- The block in which a bridge event takes the rails into the bridge: the reference is that of the bridge (R150). -/
def bridgeReference (s : Chip) : Chip :=
  { s with energy := { s.energy with vBref := s.img.energy.vBridgeReg, raise := false } }

/-- In RUN a bridge event takes every armed rail into the bridge, ends the dwell and asks for BRIDGE. -/
theorem bridgeEvent_in_run {s : Chip} {k : Nat} {convs : List Int} (ha : yardAlive s = true) (hrun : s.mode.mode = .run)
    (hact : isActive s = true) (hstage : s.mode.stage ≠ .handover) (hw : watchesBus s k = true)
    (hc : confirmed s k convs = true) (hp : s.mode.pend = none) :
    ∃ v : Chip, v.rails = (bridgeAllNow (bridgeReference s)).rails ∧ v.energy = (bridgeReference s).energy
      ∧ bridgeEvent k convs s = { v with mode := { s.mode with
          dwellSince := none, pend := some { mode := .bridge, cause := .busSag, since := s.now } } } := by
  have honly := bridgeAllNow_onlyRails (bridgeReference s)
  refine ⟨_, rfl, honly .energy (by decide), ?_⟩
  have hmode : (bridgeAllNow (bridgeReference s)).mode = s.mode := honly .mode (by decide)
  have hclk : (bridgeAllNow (bridgeReference s)).clk = s.clk := honly .clk (by decide)
  unfold bridgeEvent
  rw [if_pos (by simp [ha, bridgeWatched, hrun, hw, hc])]
  unfold bridgeReference at hmode hclk ⊢
  generalize bridgeAllNow _ = v at hmode hclk ⊢
  have hrole : s.mode.role = .active := by simpa [isActive] using hact
  simp [isActive, hmode, hstage, hrun, hrole, hp, Chip.now, hclk]

theorem shortfall_due {s : Chip} (hseq : sequences s = true) (hrun : s.mode.mode = .run) (hp : s.mode.pend = none)
    (hdue : (s.mode.shortSince.any fun t => decide (t + s.img.modes.shortfallTime * 1000 ≤ s.now)) = true)
    (hblind : s.energy.rectBlind = false)
    (harm : ((railsOf s true).any fun k => (s.rail k).state == .armed && !railFloor s k) = true) :
    shortfall s = { queueEnergy s .bridgeAll with mode := { s.mode with
      shortSince := none, pend := some { mode := .bridge, cause := .shortfall, since := s.now } } } := by
  have hq : (queueEnergy s .bridgeAll).mode = s.mode ∧ (queueEnergy s .bridgeAll).now = s.now := by
    unfold queueEnergy
    split <;> exact ⟨rfl, rfl⟩
  unfold shortfall
  rw [if_pos (by simp only [hseq, hrun, hp, hdue, hblind, harm]; rfl)]
  simp only [hq]

theorem bridgeDwellMet_due {s : Chip} (hseq : sequences s = true) (hb : s.mode.mode = .bridge)
    (hstage : s.mode.stage = .none) (hp : s.mode.pend = none)
    (hdue : (s.mode.dwellSince.any fun t => decide (t + dwellTicks s ≤ s.now)) = true) :
    bridgeDwellMet s = standoffRectifiers (queueEnergy { s with mode := { s.mode with
      stage := .handover, target := .run, stageStart := s.now, dwellSince := none } } .handover) :=
  if_pos (by simp only [hseq, hb, hstage, hp, hdue]; rfl)

theorem handoverComplete_of_done {s : Chip} (hseq : sequences s = true) (hb : s.mode.mode = .bridge)
    (hstage : s.mode.stage = .handover) (hp : s.mode.pend = none) (hq : s.book.queue = [])
    (hh : (railsOf s true).all (handed s) = true) :
    handoverComplete s = commitMode { s with
      mode := { s.mode with stage := .none },
      energy := { s.energy with vBref := s.img.energy.vBridgeReg, raise := false } } .run .acReturn [] :=
  if_pos (by simp only [hseq, hb, hstage, hp, hq, hh]; rfl)

theorem holdAutoReady_of_ready {s : Chip} (hm : s.mode.mode = .hold) (hact : isActive s = true)
    (hhost : s.mode.hostHold = false) (himg : s.imgValid = true) (hrec : s.fw.recovery = false)
    (hcrit : critical s = false) (hstage : s.mode.stage = .none) (hp : s.mode.pend = none)
    (hl : s.mode.lockout = none) (hf : handFrozen s = false) :
    holdAutoReady s = commitMode (clearIntents s) .ready .config [] :=
  if_pos (by simp only [hm, hact, hhost, himg, hrec, hcrit, hstage, hp, hl, hf]; rfl)

/-- A service stop that overruns takes the selected rail and then the selected channel off at once (R47). -/
theorem serviceStopTimeout_of_overrun {s : Chip} {t0 : Nat} {c : Cause} (hs : s.mode.svcStop = some (t0, c))
    (hact : isActive s = true) (hf : handFrozen s = false) (hon : svcOff s = false)
    (hdue : t0 + s.img.modes.stopTimeout * 1000 ≤ s.now) :
    serviceStopTimeout s
      = svcStep (((svcChannel s).map (stageDisableCh (((svcRail s).map (stageDisableRail s)).getD s))).getD
          (((svcRail s).map (stageDisableRail s)).getD s)) := by
  unfold serviceStopTimeout
  simp only [hs]
  exact if_pos (by simp [hact, hf, hon, hdue])

/-- Settles O5: each command's condition holds, and for the bridge event the mode and the reference are none of what the
rails' change of state touches. -/
theorem modeChangesCommit : Obligations.ModeChangesCommit := by
  refine ⟨?_, ?_, ?_, ?_, ?_, ?_, ?_, ?_⟩
  · rintro p s hp ha hact hroles hf hdue _ rfl
    exact becomes_of rfl (atBoundary_of_wait (setpointsWait_of_pend hp) (modeCommit_of_due hp ha hact hroles hf hdue))
  · rintro c s hl hm hr hdue _ rfl
    exact becomes_of rfl (atBoundary_of_wait (setpointsWait_of_lockout hl hm hdue) (lockoutCommit_of_due hl hm hr hdue))
  · intro s hm hact hhost himg hrec hcrit hstage hp hl hf
    exact becomes_of rfl (atBoundary_congr (holdAutoReady_of_ready hm hact hhost himg hrec hcrit hstage hp hl hf))
  · intro k convs s ha hrun hact hstage hw hc hp
    obtain ⟨v, hrails, henergy, hb⟩ := bridgeEvent_in_run ha hrun hact hstage hw hc hp
    refine ⟨_, becomes_of rfl hb, ?_, ?_, rfl, hrails⟩
    · simp only [henergy, bridgeReference]
    · simp only [henergy, bridgeReference]
  · intro s hseq hrun hp hdue hblind harm
    exact becomes_of rfl (shortfall_due hseq hrun hp hdue hblind harm)
  · intro s hseq hb hstage hp hdue
    exact becomes_of rfl (bridgeDwellMet_due hseq hb hstage hp hdue)
  · intro s hseq hb hstage hp hq hh
    exact becomes_of rfl (atBoundary_congr (handoverComplete_of_done hseq hb hstage hp hq hh))
  · intro t0 c s hs hact hf hon hdue
    exact becomes_of rfl (serviceStopTimeout_of_overrun hs hact hf hon hdue)

end Sys2Proof.Machine
end

section
/-! PROOFS. The mode opcodes, the stages of the sequences, and the block after reset (spec/02_operating_modes.md). -/

namespace Sys2Proof.Machine

/-! ## What a body reads of the block when it meets its request -/

section
variable (opcode : Nat) (rq : Request) (s : Chip)

@[simp] theorem taken_mode : (taken opcode rq s).mode = s.mode :=
  taken_reads _ opcode rq s (fun _ _ => rfl) fun _ _ => rfl
@[simp] theorem taken_svc : (taken opcode rq s).svc = s.svc :=
  taken_reads _ opcode rq s (fun _ _ => rfl) fun _ _ => rfl
@[simp] theorem taken_svcOff : svcOff (taken opcode rq s) = svcOff s :=
  taken_reads _ opcode rq s (fun _ _ => rfl) fun _ _ => rfl
@[simp] theorem taken_followsLeader (n : Nat) : followsLeader (taken opcode rq s) n = followsLeader s n :=
  taken_reads (followsLeader · n) opcode rq s (fun _ _ => rfl) fun _ _ => rfl
@[simp] theorem taken_meterCfg (o : Nat) : meterCfg (taken opcode rq s) o = meterCfg s o :=
  taken_reads (meterCfg · o) opcode rq s (fun _ _ => rfl) fun _ _ => rfl
@[simp] theorem taken_svcAdmits (o : Nat) : svcAdmits (taken opcode rq s) o = svcAdmits s o :=
  taken_reads (svcAdmits · o) opcode rq s (fun _ _ => rfl) fun _ _ => rfl
@[simp] theorem taken_svcPicks (n : Nat) : svcPicks (taken opcode rq s) n = svcPicks s n :=
  taken_reads (svcPicks · n) opcode rq s (fun _ _ => rfl) fun _ _ => rfl

end

theorem only_mode (s : Chip) (m : ModeState) : Only [.mode] s { s with mode := m } := by
  intro p hp
  cases p with
  | mode => exact absurd (.head _) hp
  | _ => rfl

/-- A request whose body changes the mode register alone and answers at once. -/
theorem serve_setsMode {row : OpRow} {rq : Request} {s : Chip} {opcode : Nat} {body : Body} {m : ModeState} {st : Status}
    {data : List Byte} (h : Admitted opcode row rq s)
    (hb : body rq (refOf rq s) (taken opcode rq s) = (.reply st data, { taken opcode rq s with mode := m })) :
    Replied rq st data s (serve opcode row body rq s)
      ∧ ((serve opcode row body rq s).mode = m
        ∧ Only [portPart rq.port, .receipts, .mode] s (serve opcode row body rq s)) := by
  obtain ⟨hr, hu, ho⟩ := serve_replies opcode body st data h hb (only_mode _ _) (portPart_ne _ (by decide) (by decide))
  exact ⟨hr, hu .mode (by simpa using (portPart_ne rq.port (by decide) (by decide)).symm), ho⟩

/-- A request whose body answers at once: the reply is formed on what the body makes of the block. -/
theorem serves_of {c : Request → Instr} {opcode : Nat} {row : OpRow} {body : Body} {rq : Request} {s : State} {u : Chip}
    {st : Status} {data : List Byte} (he : exec (c rq) s = .next (s.on (serve opcode row body rq)))
    (h : Admitted opcode row rq s.chip)
    (hb : body rq (refOf rq s.chip) (taken opcode rq s.chip) = (.reply st data, u)) : Serves c rq s u st data :=
  becomes_of he (by rw [serve_of opcode body h, hb]; rfl)

/-! ## The mode opcodes (R37, R38, R47, R57) -/

/-- MODE_REQUEST RUN from READY waits for the next boundary. -/
theorem bodyModeRequest_run {rq : Request} {r : ReqRef} {s : Chip} (htarget : arg rq 0 1 = 4)
    (hrole : s.mode.role = .active) (hmode : s.mode.mode = .ready) (hstage : s.mode.stage = .none)
    (hpend : s.mode.pend = none) :
    bodyModeRequest rq r s = (.mode .accepted s, { s with mode := { s.mode with
      pend := some { mode := .run, cause := .hostRequest, since := s.now, asked := [r], refs := [r] } } }) := by
  have hrun : modeTarget 4 = some .run := rfl
  simp [bodyModeRequest, htarget, hrun, isStandby, hrole, hstage, hmode, pendTo, hpend]

/-- No object, and a channel that leads its gang, pass the checks of SERVICE_SELECT. -/
theorem selectChecks_pass {rq : Request} {s : Chip}
    (h : arg rq 0 1 = 0
      ∨ (arg rq 0 1 = 1 ∧ arg rq 1 1 ≤ 31 ∧ arg rq 2 2 = 0xFFFF ∧ followsLeader s (arg rq 1 1) = false)) :
    selectChecks rq s = none := by
  unfold selectChecks
  rcases h with hnone | ⟨hkind, hn, hgen, hlead⟩
  · simp [hnone]
  · simp [hkind, hn, hgen, hlead]

theorem bodyServiceSelect_selects {rq : Request} {r : ReqRef} {s : Chip} (hmode : s.mode.mode = .service)
    (hstop : s.mode.svcStop = none) (hoff : svcOff s = true) (hc : selectChecks rq s = none) :
    bodyServiceSelect rq r s = (.mode .ok s, { s with mode := { s.mode with
      svcKind := arg rq 0 1, svcIndex := if arg rq 0 1 == 0 then 0 else arg rq 1 1 } }) := by
  unfold bodyServiceSelect
  rw [if_neg (by simp [hmode])]
  simp only [hc]
  exact if_neg (by simp [hstop, hoff])

/-- Settles O4: both requests change the mode register alone, and the state word that they answer does not hold what they
change in it. -/
theorem modeOpcodesComplete : Obligations.ModeOpcodesComplete := by
  refine ⟨?_, fun rq s h hmode hstop hoff hobj => ?_⟩
  · rintro rq s h htarget hrole hmode hstage hpend _ rfl
    exact completes_serve rfl (serve_setsMode h
      (by simp [bodyModeRequest_run, htarget, hrole, hmode, hstage, hpend, Ans.mode, modeData]))
  · have hc : selectChecks rq (taken 0x0103 rq s.chip) = none := selectChecks_pass (by simpa using hobj)
    exact completes_serve rfl (serve_setsMode h
      (by simp [bodyServiceSelect_selects, hmode, hstop, hoff, hc, Ans.mode, modeData]))

/-! ## The stages of the sequences (R39, R40, R41, R489) -/

theorem stageEnd_of_done {s : Chip} (hseq : sequences s = true) (hdone : stageDone s = true) : stageEnd s = nextStage s :=
  if_pos (by simp [hseq, hdone])

theorem sourcesSpacing_of_due {s : Chip} (hseq : sequences s = true) (hleft : sourcesLeft s = true)
    (hdue : s.mode.srcDue ≤ s.now) : sourcesSpacing s = startNextSource s :=
  if_pos (by simp [hseq, hleft, hdue])

/-- Stage 1 at its bound goes to the black start or back into a stop (R40). -/
theorem stageTimeout_of_sources {s : Chip} (hseq : sequences s = true) (hstage : s.mode.stage = .startSources)
    (hbound : s.mode.stageStart + s.img.modes.startTimeout * 1000 ≤ s.now) (hopen : stageDone s = false) :
    stageTimeout s = if s.img.modes.blackStart then blackStart s else beginStop s .startTimeout [] := by
  simp [stageTimeout, hseq, hstage, isStartStage, stageBound, hbound, hopen]

/-- Every other stage at its bound is forced on: its unfinished objects are disabled and the sequence is marked (R40). -/
theorem stageTimeout_of_later {s : Chip} (hseq : sequences s = true)
    (hstage : s.mode.stage ∈ [Stage.startStore, .startLoads, .stopLoads, .stopStore, .stopSources])
    (hbound : s.mode.stageStart + stageBound s ≤ s.now) (hopen : stageDone s = false) :
    stageTimeout s
      = nextStage { disableUnfinished s with mode := { (disableUnfinished s).mode with timedOut := true } } := by
  have hkind : (isStartStage s.mode.stage || isStopStage s.mode.stage) = true := by
    revert hstage
    generalize s.mode.stage = st
    revert st
    decide
  unfold stageTimeout
  rw [if_pos (by simp [hseq, hkind, hbound, hopen])]
  split
  next hfirst => simp [hfirst] at hstage
  next => rfl

/-- With everything flushed the power-down writes the checkpoint and the summary, loses nothing, and ends in OFF (R41,
R489). -/
theorem flushEnd_of_flushed {s : Chip} (st : Straps) (good : Bool) (ha : yardAlive s = true)
    (hstage : s.mode.stage = .powerDown) (hf : flushed s = true)
    (hcool : (writeSummary good (writeCheckpoint s)).ostler.thermal = false) :
    flushEnd st good s
      = wakeIfReady st (setErrn ((goOff 3 .hostRequest (writeSummary good (writeCheckpoint s))).modOst fun o =>
          { o with thermal := false, waiting := o.wakeAfter, wakeAfter := false })) := by
  have hlost : s.ledger.queue.length + (s.ledger.drafts.getD []).length + s.sketch.queue.length = 0 := by
    simp only [flushed, Bool.and_eq_true, List.isEmpty_iff, Option.isNone_iff_eq_none] at hf
    obtain ⟨⟨⟨hqueue, hdrafts⟩, -⟩, hrecords⟩ := hf
    simp [hqueue, hdrafts, hrecords]
  unfold flushEnd
  rw [if_pos (by simp [ha, hstage, hf])]
  simp [hlost, hcool]

/-- Settles O6: each command's condition holds, and the stage chooses what its bound does. -/
theorem sequenceStagesMoveOn : Obligations.SequenceStagesMoveOn := by
  refine ⟨fun s hseq hdone => becomes_of rfl (stageEnd_of_done hseq hdone),
    fun s hseq hleft hdue => becomes_of rfl (sourcesSpacing_of_due hseq hleft hdue),
    fun s hseq hstage hbound hopen => becomes_of rfl (stageTimeout_of_sources hseq hstage hbound hopen),
    fun s hseq hstage hbound hopen => becomes_of rfl (stageTimeout_of_later hseq hstage hbound hopen), ?_⟩
  rintro st good s ha hstage hf _ rfl hcool
  exact becomes_of rfl (flushEnd_of_flushed st good ha hstage hf hcool)

/-! ## After reset (R36, R307, R403, R436) -/

theorem blank_ports_empty (p : Port) : Chip.blank.port p = {} := by cases p <;> rfl

theorem blank_inv : Inv Chip.blank where
  events := by decide
  recorder := by decide
  energy := by decide
  ports p := by
    rw [blank_ports_empty]
    exact ⟨by decide, by decide⟩
  sticky := .nil
  sources i hi := absurd hi List.not_mem_nil
  rollback := by decide
  sram := rfl
  depths := ⟨by decide, by decide, by decide, blank_bus, by decide, blank_timer⟩

/-- Settles O50: the block after reset is the blank one, whose ports are at their defaults and whose queues are empty. -/
theorem resetLeavesTheMemberOff : Obligations.ResetLeavesTheMemberOff := by
  refine ⟨⟨rfl, rfl, fun p => ?_, rfl, rfl, rfl, rfl⟩, blank_inv⟩
  have hp : State.reset.chip.port p = {} := blank_ports_empty p
  rw [hp]
  exact ⟨rfl, rfl, rfl, rfl⟩

end Sys2Proof.Machine
end

section
/-! PROOFS. Insertion, removal and the timers of a channel (spec/03_slot_channels.md, spec/04_breaker_and_soa.md). -/

namespace Sys2Proof.Machine

/-! ## The presence of a channel (R64, R65, R66) -/

/-- The block in which an insertion has been recognised: the channel's slot is present and no longer cut off, and the
battery slot that the channel feeds counts as closed no more (R64, R65). -/
def inserted (s : Chip) (n : Nat) : Chip :=
  let v := s.modCh n fun c => { c with present := true, cut := false }
  ((slotOfCh v n).map fun j => v.modBat j fun b => { b with closed := false }).getD v

/-- The block in which a removal has been recognised: every member of the gang is absent with its drivers off, and the
channel is cut off while the Stable die acts (R24, R65). -/
def removed (s : Chip) (n : Nat) : Chip :=
  let u := (members s n).foldl (fun u m => u.modCh m fun c =>
    { c with present := false, main := .off, pre := .off, pull := .strong }) s
  if stableActs u then u.modCh n fun c => { c with cut := true } else u

/-- An insertion with the Studio die running: the event is posted, the channel's attempt starts, and the battery slot that
the channel feeds is admitted. -/
def insertedRunning (w : Chip) (n : Nat) : Chip :=
  let u := insertStart (post w 0x02 (chBody w n 2) []) n
  match slotOfCh u n with
  | some j => startAdmission u j
  | none => u

/-- A removal with the Studio die running: the channel ends, the event is posted, and the battery slot that the channel
feeds asks to be closed. -/
def removedRunning (v : Chip) (n : Nat) : Chip :=
  let w := post (removeChannel v n) 0x02 (chBody (removeChannel v n) n 3) []
  match slotOfCh w n with
  | some j => askClose (w.modBat j fun b => { b with removed := true, closed := false }) j 1
  | none => w

theorem insertion_acts {s : Chip} {n : Nat} (hp : presenceIgnored s n = false) :
    insertion n s = if !studioRuns (inserted s n) then inserted s n else insertedRunning (inserted s n) n := by
  unfold insertion
  rw [if_neg (by simp [hp])]
  rfl

theorem removal_acts {s : Chip} {n : Nat} (hp : presenceIgnored s n = false) :
    removal n s = if !studioRuns (removed s n) then removed s n else removedRunning (removed s n) n := by
  unfold removal
  rw [if_neg (by simp [hp])]
  rfl

/-! ## The timers of a channel (R66, R69, R71, R73, R75, R103) -/

theorem insertDelayExpiry_starts {s : Chip} (n : Nat)
    (hdue : ((s.ch n).insertDue.any fun d => decide (d ≤ s.now)) = true) (hwait : (s.ch n).state = .waitPresent)
    (hstage : (s.ch n).stageWait = false) (hpres : isPresent s n = true) (hadm : admitsCh s n = true)
    (hroles : rolesWait s = false) :
    insertDelayExpiry n s = if (s.ch n).brk.retryNext then startRetry s n else startInrush s n false :=
  if_pos (by simp only [hdue, hwait, hstage, hpres, hadm, hroles]; rfl)

theorem primerRearm_starts {s : Chip} (n : Nat) (hcool : (s.ch n).state = .cooling) (hheat : heatRearmed s n = true)
    (hroles : rolesWait s = false) : primerRearm n s = primerGo s n :=
  if_pos (by simp [hcool, hheat, hroles])

theorem primerTimeout_trips {s : Chip} (n : Nat) (hpre : (s.ch n).state = .precharge)
    (hlong : (s.chCfg n).primerTimeout * 1000 ≤ s.now - (s.ch n).t0) :
    primerTimeout n s = tripOrHold s n [.primerTimeout] 0xFF :=
  if_pos (by simp [hpre, hlong])

theorem closeTimeout_trips {s : Chip} (n : Nat) (hclose : (s.ch n).state = .closing)
    (hlong : (s.chCfg n).closeTimeout ≤ s.now - (s.ch n).t1) :
    closeTimeout n s = tripOrHold s n [.closeTimeout] 0xFF :=
  if_pos (by simp [hclose, hlong])

theorem primerOverlapEnd_takes_off {s : Chip} (n : Nat)
    (hdue : ((s.ch n).overlapEnd.any fun d => decide (d ≤ s.now)) = true) :
    primerOverlapEnd n s = s.modCh n fun c => { c with pre := .off, pull := .soft, overlapEnd := none } :=
  if_pos hdue

theorem ksFaultTimer_trips {s : Chip} (n : Nat) (hlim : (s.ch n).state = .limiting)
    (hlong : (s.chCfg n).ksFaultTime * 1000 ≤ (s.ch n).ksTimer) :
    ksFaultTimer n s = tripOrHold s n [.ksFaultTimer] 0xFF :=
  if_pos (by simp [hlim, hlong])

/-- Settles O19: an insertion and a removal go on past the slot's presence where the Studio die runs, and each timer's
condition holds. -/
theorem channelPresenceAndTimers : Obligations.ChannelPresenceAndTimers := by
  refine ⟨?_, ?_, ?_, ?_, ?_, ?_, ?_, ?_, ?_, ?_⟩
  · rintro _ _ ch s rfl rfl hp hr
    exact becomes_of rfl ((insertion_acts hp).trans (if_pos (congrArg not hr)))
  · rintro _ _ _ ch s rfl rfl hp hr rfl
    exact becomes_of rfl ((insertion_acts hp).trans (if_neg (ne_true_of_eq_false (congrArg not hr))))
  · rintro _ _ ch s rfl rfl hp hr
    exact becomes_of rfl ((removal_acts hp).trans (if_pos (congrArg not hr)))
  · rintro _ _ _ ch s rfl rfl hp hr rfl
    exact becomes_of rfl ((removal_acts hp).trans (if_neg (ne_true_of_eq_false (congrArg not hr))))
  · intro ch s hdue hwait hstage hpres hadm hroles
    exact becomes_of rfl (insertDelayExpiry_starts ch hdue hwait hstage hpres hadm hroles)
  · intro ch s hcool hheat hroles
    exact becomes_of rfl (primerRearm_starts ch hcool hheat hroles)
  · intro ch s hpre hlong
    exact becomes_of rfl (primerTimeout_trips ch hpre hlong)
  · intro ch s hclose hlong
    exact becomes_of rfl (closeTimeout_trips ch hclose hlong)
  · intro ch s hdue
    exact becomes_of rfl (primerOverlapEnd_takes_off ch hdue)
  · intro ch s hlim hlong
    exact becomes_of rfl (ksFaultTimer_trips ch hlim hlong)

end Sys2Proof.Machine
end

section
/-! PROOFS. The service opcodes and the ends of what they begin (R318, spec/11_sarbuand_packets.md). -/

namespace Sys2Proof.Machine

/-- The block in which a calibration reading that was under way has been given up. -/
def calAborted (s : Chip) : Chip :=
  match s.svc.calRef with
  | some old => postCal s old .aborted
  | none => s

/-- The block in which the reading of object `o` over `ms` milliseconds has begun, for the request `r`. -/
def calBegun (s : Chip) (r : ReqRef) (o ms : Nat) : Chip :=
  { s with svc := { s.svc with
    calRef := some r, calObj := o, calEnd := s.now + ms * 1000, calSumI := 0, calSumV := 0, calN := 0 } }

theorem bodySvcCalRead_begins {rq : Request} {r : ReqRef} {s : Chip} (hmode : s.mode.mode = .service)
    (hobj : isObject (arg rq 0 1) = true) (hlo : 1 ≤ arg rq 2 2) (hhi : arg rq 2 2 ≤ 10000)
    (hcfg : (meterCfg s (arg rq 0 1)).isSome = true) (hadm : svcAdmits s (arg rq 0 1) = true) :
    bodySvcCalRead rq r s
      = (.reply .accepted (le 4 (meterWord (calBegun (calAborted s) r (arg rq 0 1) (arg rq 2 2)) (arg rq 0 1))),
          calBegun (calAborted s) r (arg rq 0 1) (arg rq 2 2)) := by
  have hms : ¬ (arg rq 2 2 < 1 ∨ 10000 < arg rq 2 2) := by omega
  have hsome : (meterCfg s (arg rq 0 1)).isNone = false := by simpa using hcfg
  exact (if_neg (by simp [hmode])).trans <| (if_neg (by simp [hobj])).trans <| (if_neg (by simpa using hms)).trans <|
    (if_neg (by simp [hsome])).trans (if_neg (by simp [hadm]))

theorem svcCalDone_of_due {s : Chip} {r : ReqRef} (hr : s.svc.calRef = some r) (hdue : s.svc.calEnd ≤ s.now) :
    svcCalDone s = { postCal s r .ok with svc := { (postCal s r .ok).svc with calRef := none } } := by
  simp [svcCalDone, hr, hdue]

/-- SVC_FET_EXERCISE of the serviced channel at rest is accepted, and its entry is marked as answered. -/
theorem bodySvcFetExercise_idle {rq : Request} {r : ReqRef} {s : Chip} (hmode : s.mode.mode = .service)
    (hn : arg rq 0 1 ≤ 31) (hlo : 1 ≤ arg rq 4 4) (hhi : arg rq 4 4 ≤ 10000)
    (hgen : arg rq 2 2 = 0xFFFF ∨ arg rq 2 2 = (s.chCfg (arg rq 0 1)).gen) (hpick : svcPicks s (arg rq 0 1) = true)
    (hrole : (s.chCfg (arg rq 0 1)).role ≠ 0) (hen : (s.ch (arg rq 0 1)).disabled = false)
    (hidle : (s.chQueue.any fun e => e.ch == arg rq 0 1) = false) (hoff : (s.ch (arg rq 0 1)).state = .off)
    (hintent : (s.ch (arg rq 0 1)).intentOn = false) :
    bodySvcFetExercise rq r s
      = (.reply .accepted (chData s (arg rq 0 1)), queueCh s (arg rq 0 1) (.exercise (arg rq 4 4)) r true) := by
  have hrange : ¬ ((31 < arg rq 0 1 ∨ arg rq 4 4 < 1) ∨ 10000 < arg rq 4 4) := by omega
  have hsame : (arg rq 2 2 != 0xFFFF && arg rq 2 2 != (s.chCfg (arg rq 0 1)).gen) = false := by
    rcases hgen with h | h <;> simp [h]
  exact (if_neg (by simp [hmode])).trans <| (if_neg (by simpa using hrange)).trans <| (if_neg (by simp [hsame])).trans <|
    (if_neg (by simp [hpick])).trans <| (if_neg (by simp [hrole])).trans <| (if_neg (by simp [hen])).trans <|
    (if_neg (by simp [hidle])).trans (if_neg (by simp [hoff, hintent]))

theorem exerciseEnd_of_due {s : Chip} (hon : (s.ch s.svc.exCh).state = .on)
    (hex : (s.ch s.svc.exCh).exercise = true) (hdue : (s.svc.exEnd.any fun t => decide (t ≤ s.now)) = true) :
    exerciseEnd s = chStop ({ s with svc := { s.svc with exRef := none, exEnd := none } }.modCh s.svc.exCh fun c =>
      { c with intentOn := false, brk := { c.brk with retries := 0 } }) s.svc.exCh .hostOff .soft .off .ok :=
  if_pos (by simp only [hon, hex, hdue]; rfl)

/-- Settles O45: the checks' outcome decides each body, and the end that is due ends what it began. -/
theorem serviceOpcodesComplete : Obligations.ServiceOpcodesComplete := by
  refine ⟨?_, ?_, ?_, ?_⟩
  · rintro rq s h hmode hobj hlo hhi hcfg hadm _ rfl
    refine serves_of rfl h ((bodySvcCalRead_begins (by simpa using hmode) hobj hlo hhi (by simpa using hcfg)
      (by simpa using hadm)).trans ?_)
    unfold calAborted
    rw [taken_svc]
    cases s.chip.svc.calRef <;> rfl
  · rintro _ r s hr hdue rfl
    exact becomes_of rfl (svcCalDone_of_due hr hdue)
  · rintro rq s h hmode hn hlo hhi hgen hpick hrole hen hidle hoff hintent _ rfl
    exact serves_of rfl h (by
      simp [bodySvcFetExercise_idle, hmode, hn, hlo, hhi, hgen, hpick, hrole, hen, hidle, hoff, hintent])
  · rintro _ _ s rfl hon hex hdue rfl
    exact becomes_of rfl (exerciseEnd_of_due hon hex hdue)

end Sys2Proof.Machine
end

section
/-! PROOFS. The channel and breaker reads (spec/03_slot_channels.md, spec/04_breaker_and_soa.md). -/

namespace Sys2Proof.Machine

/-! ## What a read finds in the block when it meets its request -/

section
variable (opcode : Nat) (rq : Request) (s : Chip)

@[simp] theorem taken_brkCfg (n : Nat) : (taken opcode rq s).brkCfg n = s.brkCfg n :=
  taken_reads (·.brkCfg n) opcode rq s (fun _ _ => rfl) fun _ _ => rfl
@[simp] theorem taken_chChecks (x : Request) : chChecks x (taken opcode rq s) = chChecks x s :=
  taken_reads (chChecks x) opcode rq s (fun _ _ => rfl) fun _ _ => rfl
@[simp] theorem taken_hasCurve (n : Nat) : hasCurve (taken opcode rq s) n = hasCurve s n :=
  taken_reads (hasCurve · n) opcode rq s (fun _ _ => rfl) fun _ _ => rfl
@[simp] theorem taken_chWordAll (n : Nat) : chWordAll (taken opcode rq s) n = chWordAll s n :=
  taken_reads (chWordAll · n) opcode rq s (fun _ _ => rfl) fun _ _ => rfl
@[simp] theorem taken_chGetData (n : Nat) : chGetData (taken opcode rq s) n = chGetData s n :=
  taken_reads (chGetData · n) opcode rq s (fun _ _ => rfl) fun _ _ => rfl
@[simp] theorem taken_brkGetData (n : Nat) : brkGetData (taken opcode rq s) n = brkGetData s n :=
  taken_reads (brkGetData · n) opcode rq s (fun _ _ => rfl) fun _ _ => rfl
@[simp] theorem taken_curveData (n : Nat) : curveData (taken opcode rq s) n = curveData s n :=
  taken_reads (curveData · n) opcode rq s (fun _ _ => rfl) fun _ _ => rfl

end

/-- A request whose body answers at once and hands back the block that it met is taken and answered, and that is all. -/
theorem answers_of {c : Request → Instr} {opcode : Nat} {row : OpRow} {body : Body} {rq : Request} {s : State}
    {st : Status} {data : List Byte} (he : exec (c rq) s = .next (s.on (serve opcode row body rq)))
    (h : Admitted opcode row rq s.chip)
    (hb : body rq (refOf rq s.chip) (taken opcode rq s.chip) = (.reply st data, taken opcode rq s.chip)) :
    Answers c rq s st data :=
  completes_serve he (serve_answers opcode body st data false h hb)

/-! ## The bodies of the reads (R81, R108) -/

section
variable {rq : Request} {s : Chip} (r : ReqRef)

theorem bodyChGet_pass (hc : chChecks rq s = none) :
    bodyChGet rq r s = (.reply .ok (chGetData s (arg rq 0 1)), s) := by
  simp only [bodyChGet, hc]

theorem bodyBrkGet_pass (hc : chChecks rq s = none) :
    bodyBrkGet rq r s = (.reply .ok (brkGetData s (arg rq 0 1)), s) := by
  simp only [bodyBrkGet, hc]

theorem bodyBrkCurveGet_pass (hc : chChecks rq s = none) (hcurve : hasCurve s (arg rq 0 1) = true) :
    bodyBrkCurveGet rq r s = (.reply .ok (curveData s (arg rq 0 1)), s) := by
  simp only [bodyBrkCurveGet, hc]
  exact if_pos hcurve

theorem bodyBrkEval_pass (hc : chChecks rq s = none) (hcurve : hasCurve s (arg rq 0 1) = true) :
    bodyBrkEval rq r s = (.reply .ok (evalData (s.brkCfg (arg rq 0 1)) (arg rq 4 4)), s) := by
  simp only [bodyBrkEval, hc]
  exact if_pos hcurve

end

/-- Settles O11: each body's checks pass, so it answers its record of the block it met, which is the record of the block
before the request was taken. -/
theorem channelOpcodesRead : Obligations.ChannelOpcodesRead := by
  refine ⟨fun rq s h hc => answers_of rfl h ?_, fun rq s h => answers_of rfl h ?_, fun rq s h hc => answers_of rfl h ?_,
    fun rq s h hc hcurve => answers_of rfl h ?_, fun rq s h hc hcurve => answers_of rfl h ?_⟩
  · simp [bodyChGet_pass, hc]
  · simp [bodyChStateAll]
  · simp [bodyBrkGet_pass, hc]
  · simp [bodyBrkCurveGet_pass, hc, hcurve]
  · simp [bodyBrkEval_pass, hc, hcurve]

end Sys2Proof.Machine
end

section
/-! PROOFS. What a fault that sets, an event and a recorder entry leave as it was, the rails among it, which
`OnlyRails` of a rail's change of state does not say (spec/15_faults_and_watchdog.md). -/

namespace Sys2Proof.Machine

/-- What a fault that sets changes: the event queue, the recorder, the fault record, and the LOCKOUT that the mode holds. -/
abbrev OnlyFaultParts (s t : Chip) : Prop := Only [.mode, .events, .faults, .sketch] s t

theorem OnlyFaultParts.trans {s t u : Chip} (h : OnlyFaultParts s t) (k : OnlyFaultParts t u) : OnlyFaultParts s u :=
  Only.trans h k fun _ => id

theorem faultParts_only (s : Chip) (m : ModeState) (e : Events) (f : Faults) (k : Sketch) :
    OnlyFaultParts s { s with mode := m, events := e, faults := f, sketch := k } := by
  intro p hp
  cases p with
  | mode | events | faults | sketch => exact absurd (by decide) hp
  | _ => rfl

theorem postRecord_onlyFaultParts (s : Chip) (cls : Nat) (body : List Byte) (done : Option (ReqRef × Status)) :
    OnlyFaultParts s (postRecord s cls body done) := by
  unfold postRecord
  exact .ite (faultParts_only s _ _ _ _) (faultParts_only s _ _ _ _)

theorem post_onlyFaultParts (s : Chip) (cls : Nat) (body : List Byte) (done : List (ReqRef × Status)) :
    OnlyFaultParts s (post s cls body done) := by
  unfold post
  split
  · exact postRecord_onlyFaultParts _ _ _ _
  · exact .foldl (fun y d => postRecord_onlyFaultParts y cls body (some d)) _ s

theorem recPost_onlyFaultParts (s : Chip) (kind sev source : Nat) (detail : List Byte) :
    OnlyFaultParts s (recPost s kind sev source detail) := by
  unfold recPost
  exact .ite (faultParts_only s _ _ _ _) (.ite (faultParts_only s _ _ _ _) (faultParts_only s _ _ _ _))

theorem trigWhere_onlyFaultParts (s : Chip) (f : CapDef → Bool) (cause : TrigCause) :
    OnlyFaultParts s (trigWhere s f cause) := by
  have trigger (y : Chip) (d : Nat) : OnlyFaultParts y (addTrigger y d cause) := by
    unfold addTrigger
    exact .ite (faultParts_only y _ _ _ _) (faultParts_only y _ _ _ _)
  exact .foldl (fun y d => .ite (trigger y d) (.refl _ y)) _ s

theorem recordSet_onlyFaultParts (s : Chip) (id sev mask : Nat) : OnlyFaultParts s (recordSet s id sev mask) := by
  have freeze (y : Chip) : OnlyFaultParts y (startFreeze y 1 id) := by
    unfold startFreeze
    exact .ite (faultParts_only y _ _ _ _) (faultParts_only y _ _ _ _)
  have trigger (y : Chip) : OnlyFaultParts y (trigFault y id sev) := by
    unfold trigFault
    exact .ite ((trigWhere_onlyFaultParts _ _ _).trans (trigWhere_onlyFaultParts _ _ _)) (trigWhere_onlyFaultParts _ _ _)
  unfold recordSet
  exact .trans (.trans (.ite (recPost_onlyFaultParts s 1 sev id _) (.refl _ s)) (.ite (freeze _) (.refl _ _))) (trigger _)

theorem setFault_onlyFaultParts (s : Chip) (id : Nat) : OnlyFaultParts s (setFault s id) := by
  unfold setFault
  refine .ite (.refl _ s) ?_
  have stuck : OnlyFaultParts s
      { s with faults := { s.faults with sticky := insertUp id s.faults.sticky, fired := s.faults.fired ++ [id] } } :=
    faultParts_only s _ _ _ _
  have reported {y : Chip} (least sev mask : Nat) (body : List Byte) (h : OnlyFaultParts s y) :
      OnlyFaultParts s (recordSet (if least ≤ sev then post y 0x09 body [] else y) id sev mask) :=
    (h.trans (Only.ite (post_onlyFaultParts y 0x09 body []) (.refl _ y))).trans (recordSet_onlyFaultParts _ id sev mask)
  exact .ite ((reported _ _ _ _ stuck).trans (faultParts_only _ _ _ _ _)) (reported _ _ _ _ stuck)

theorem evalFault_onlyFaultParts (s : Chip) (id : Nat) (on : Bool) : OnlyFaultParts s (evalFault s id on) := by
  have live : OnlyFaultParts s (setLive s id on) := faultParts_only s _ _ _ _
  exact .ite (live.trans (setFault_onlyFaultParts _ id)) live

theorem OnlyFaultParts.rail {s t : Chip} (h : OnlyFaultParts s t) (k : Nat) : t.rail k = s.rail k :=
  congrArg (tget · k) (h .rails (by decide))

theorem OnlyFaultParts.now {s t : Chip} (h : OnlyFaultParts s t) : t.now = s.now :=
  congrArg Clock.tick (h .clk (by decide))

@[simp] theorem post_rail (s : Chip) (cls : Nat) (body : List Byte) (done : List (ReqRef × Status)) (k : Nat) :
    (post s cls body done).rail k = s.rail k :=
  (post_onlyFaultParts s cls body done).rail k
@[simp] theorem recPost_rail (s : Chip) (kind sev source : Nat) (detail : List Byte) (k : Nat) :
    (recPost s kind sev source detail).rail k = s.rail k :=
  (recPost_onlyFaultParts s kind sev source detail).rail k
@[simp] theorem setFault_rail (s : Chip) (id k : Nat) : (setFault s id).rail k = s.rail k :=
  (setFault_onlyFaultParts s id).rail k
@[simp] theorem evalFault_rail (s : Chip) (id : Nat) (on : Bool) (k : Nat) : (evalFault s id on).rail k = s.rail k :=
  (evalFault_onlyFaultParts s id on).rail k
@[simp] theorem evalFault_now (s : Chip) (id : Nat) (on : Bool) : (evalFault s id on).now = s.now :=
  (evalFault_onlyFaultParts s id on).now
@[simp] theorem modRail_now (s : Chip) (k : Nat) (f : Rail → Rail) : (s.modRail k f).now = s.now := rfl

end Sys2Proof.Machine
end

section
/-! PROOFS. The converter rails: their reads, the clearing of a latch, and their events (spec/05_converter_rails.md). -/

namespace Sys2Proof.Machine

/-! ## The rail reads (R140) -/

section
variable (opcode : Nat) (rq : Request) (s : Chip)

@[simp] theorem taken_railCfg (k : Nat) : (taken opcode rq s).railCfg k = s.railCfg k :=
  taken_reads (·.railCfg k) opcode rq s (fun _ _ => rfl) fun _ _ => rfl
@[simp] theorem taken_railGetData (k : Nat) : railGetData (taken opcode rq s) k = railGetData s k :=
  taken_reads (railGetData · k) opcode rq s (fun _ _ => rfl) fun _ _ => rfl

end

section
variable {rq : Request} {s : Chip} (r : ReqRef)

theorem bodyRailGet_pass (hk : arg rq 0 1 ≤ 15) : bodyRailGet rq r s = (.reply .ok (railGetData s (arg rq 0 1)), s) :=
  if_neg (Nat.not_lt.mpr hk)

theorem bodyRailPhasesGet_pass (hc : railChecks rq s = none) :
    bodyRailPhasesGet rq r s = (.reply .ok (le 1 (phases (s.railCfg (arg rq 0 1)))
      ++ le 1 (s.railCfg (arg rq 0 1)).firstLane ++ le 2 (s.railCfg (arg rq 0 1)).pwmPeriod
      ++ (List.range 12).flatMap (phaseEntry (s.railCfg (arg rq 0 1)) (s.rail (arg rq 0 1)))), s) := by
  simp only [bodyRailPhasesGet, hc]

end

/-- Settles O13: the index or the rail passes its check, so each body answers its record of the block it met, which is the
record of the block before the request was taken. -/
theorem railOpcodesRead : Obligations.RailOpcodesRead := by
  refine ⟨fun rq s h hk => answers_of rfl h ?_, fun rq s h => answers_of rfl h ?_, fun rq s h hc => answers_of rfl h ?_⟩
  · simp [bodyRailGet_pass, hk]
  · simp [bodyRailStateAll]
  · simp [bodyRailPhasesGet_pass, hc]

/-! ## The latch is cleared (R135, R433) -/

/-- Entering a state leaves the rail in it and its INTENT_ON as it was. -/
theorem setRailState_rail (s : Chip) (k : Nat) (st : RailState) (done : List (ReqRef × Status)) :
    ((setRailState s k st done).rail k).state = st
      ∧ ((setRailState s k st done).rail k).intentOn = (s.rail k).intentOn := by
  by_cases hst : (s.rail k).state = st
  · by_cases hd : done.isEmpty <;> simp [setRailState, hst, hd]
  · by_cases hrec : st = .latched ∨ st = .otStop <;> simp [setRailState, hst, hrec]

@[simp] theorem formReply_rail (s : Chip) (r : ReqRef) (st : Status) (data : List Byte) (more : Bool) (k : Nat) :
    (formReply s r st data more).rail k = s.rail k :=
  congrArg (tget · k) (formReply_only s r st data more .rails (by cases r.port <;> decide))
@[simp] theorem formReply_faults (s : Chip) (r : ReqRef) (st : Status) (data : List Byte) (more : Bool) :
    (formReply s r st data more).faults = s.faults :=
  formReply_only s r st data more .faults (by cases r.port <;> decide)

/-- The block in which a rail's latch is cleared. -/
def latchCleared (s : Chip) (k : Nat) : Chip := setRailState (s.modRail k fun r => { r with intentOn := false }) k .off []

theorem latchCleared_rail (s : Chip) (k : Nat) :
    ((latchCleared s k).rail k).state = .off ∧ ((latchCleared s k).rail k).intentOn = false := by
  obtain ⟨hst, hon⟩ := setRailState_rail (s.modRail k fun r => { r with intentOn := false }) k .off []
  exact ⟨hst, hon.trans (congrArg Rail.intentOn (modRail_rail ..))⟩

theorem latchCleared_faults (s : Chip) (k : Nat) : (latchCleared s k).faults = s.faults :=
  ((modRail_onlyRails s k _).trans (setRailState_onlyRails _ k .off [])) .faults (by decide)

/-- A configured rail that the mode does not bar is judged on whether it was LATCHED when the entry was taken. -/
theorem applyClearLatch_admitted {v : BoxView} {e : BoxEntry} {s : Chip} {k : Nat} (hk : field e.params 0 1 = k)
    (hcfg : (s.railCfg? k).isSome = true) (hsvc : svcOtherRail s k = false) :
    applyClearLatch v e s = formReply (if v.latched.contains k then latchCleared s k else s) e.ref .ok
      (railData (if v.latched.contains k then latchCleared s k else s) k) := by
  subst hk
  exact (if_neg (by simpa using Option.isSome_iff_ne_none.mp hcfg)).trans (if_neg (by simp [hsvc]))

/-- Settles O58: an admitted entry is judged on the rail's state when it was taken. -/
theorem latchClearsToOff : Obligations.LatchClearsToOff := by
  refine ⟨fun v e s hcfg hsvc hlatch => ?_, fun v e s hcfg hsvc hlatch => ?_⟩
  · obtain ⟨hst, hon⟩ := latchCleared_rail s (field e.params 0 1)
    rw [applyClearLatch_admitted rfl hcfg hsvc, if_pos hlatch]
    simp [hst, hon, latchCleared_faults]
  · rw [applyClearLatch_admitted rfl hcfg hsvc, hlatch]
    rfl

/-! ## The events that start and stop a rail (R118, R120, R129, R132, R133, R134) -/

/-- The block in which a rail that starts has its loop preset: the reference at V_RAIL, or at zero for a BUS-class rail,
and the trims at zero. -/
def loopPreset (s : Chip) (k : Nat) : Chip :=
  s.modRail k fun r => { r with stageWait := false, lp := { r.lp with
    ref := if (s.railCfg k).bus then 0 else r.lp.vRail, eI1 := 0,
    trims := List.replicate (phases (s.railCfg k)) 0, trimSat := List.replicate (phases (s.railCfg k)) 0,
    balNext := s.now + (s.prot k).balPeriod } }

theorem railStart_starts {s : Chip} (k : Nat) (hwait : (s.rail k).state = .wait) (hmay : railMayStart s k = true) :
    railStart k s = setRailState (beginSwitching (loopPreset s k) k) k .rampUp [] :=
  if_pos (by simp [hwait, hmay])

/-- Lanes that rest begin to switch with the loop preset to V_RAIL ÷ V_INPUT and the trims as they are. -/
theorem beginSwitching_of_rest {s : Chip} {k : Nat} (h : (s.rail k).lp.switching = false) :
    ((beginSwitching s k).rail k).lp.switching = true
      ∧ ((beginSwitching s k).rail k).lp.u = startPreset (s.rail k)
      ∧ ((beginSwitching s k).rail k).lp.preset = some (startPreset (s.rail k))
      ∧ ((beginSwitching s k).rail k).lp.trims = (s.rail k).lp.trims := by
  simp [beginSwitching, h, Loop.presetTo]

/-- A rail that starts from rest does so with the preset of its latched voltages and its trims at zero. -/
theorem beginSwitching_loopPreset {s : Chip} {k : Nat} (h : (s.rail k).lp.switching = false) :
    ((beginSwitching (loopPreset s k) k).rail k).lp.switching = true
      ∧ ((beginSwitching (loopPreset s k) k).rail k).lp.u = startPreset (s.rail k)
      ∧ ((beginSwitching (loopPreset s k) k).rail k).lp.preset = some (startPreset (s.rail k))
      ∧ ((beginSwitching (loopPreset s k) k).rail k).lp.trims = List.replicate (phases (s.railCfg k)) 0 := by
  have hrest : ((loopPreset s k).rail k).lp.switching = false := by simpa [loopPreset] using h
  simpa [loopPreset, startPreset] using beginSwitching_of_rest hrest

theorem railInputUv_stops {s : Chip} {k : Nat} (huv : 10 ≤ (s.rail k).uvTicks) (hlive : railLive (s.rail k) = true) :
    railInputUv k s = railStop ((setFault s (railSource 4 k)).modRail k fun r => { r with uvTicks := 0 }) k .inputUv
      (if (s.rail k).intentOn then .wait else .off) := by
  unfold railInputUv
  rw [if_pos (by simp [huv, hlive])]
  simp

theorem ocLatch_latches {s : Chip} {k : Nat} (hbus : (s.railCfg k).bus = false) (hlive : railLive (s.rail k) = true)
    (hlong : ((s.rail k).limSince.any fun t => decide (t + (s.prot k).ocLatch ≤ s.now)) = true) :
    ocLatch k s = railStop (setFault s (railSource 0 k)) k .overcurrent .latched :=
  if_pos (by simp only [hbus, hlive, hlong]; rfl)

theorem phaseOc_latches {s : Chip} {k phase : Nat} {a b : Int} (hcfg : (s.railCfg? k).isSome = true)
    (hphase : phase < phases (s.railCfg k)) (hlive : railLive (s.rail k) = true)
    (ha : (s.prot k).phOc < (phaseCurrent (s.railCfg k) a).natAbs)
    (hb : (s.prot k).phOc < (phaseCurrent (s.railCfg k) b).natAbs) :
    phaseOc k phase a b s = railStop (setFault s (railSource 2 k)) k .phaseOc .latched :=
  if_pos (by simp [hcfg, hphase, hlive, ha, hb])

theorem railOvervoltage_latches {s : Chip} {k : Nat} (hov : 2 ≤ (s.rail k).ovTicks) (hlive : railLive (s.rail k) = true) :
    railOvervoltage k s = railStop (setFault s (railSource 3 k)) k .overvoltage .latched :=
  if_pos (by simp [hov, hlive])

/-! ## Balance and BURST (R116, R130) -/

/-- The trims after an adjustment: each phase's steps towards the mean. -/
def trimsAfter (s : Chip) (k : Nat) : List Int :=
  (List.range (phases (s.railCfg k))).map fun i => trimStep (s.prot k) (phases (s.railCfg k))
    ((s.rail k).lp.iRail - phases (s.railCfg k) * tget (s.rail k).lp.iPh i) (tget (s.rail k).lp.trims i)

/-- For each phase the adjustments in a row that have left its trim at the bound. -/
def saturation (s : Chip) (k : Nat) : List Nat :=
  (List.range (phases (s.railCfg k))).map fun i =>
    if (tget (trimsAfter s k) i).natAbs = (s.prot k).balTrimMax then tget (s.rail k).lp.trimSat i + 1 else 0

/-- The block in which a rail's balance has been adjusted. -/
def balanced (s : Chip) (k : Nat) : Chip :=
  s.modRail k fun r => { r with bal := true, lp := { r.lp with
    trims := trimsAfter s k, trimSat := saturation s k, balNext := s.now + (s.prot k).balPeriod } }

theorem currentBalance_adjusts {s : Chip} {k : Nat} (hbal : balances s k = true) (hdue : (s.rail k).lp.balNext ≤ s.now) :
    currentBalance k s = if (saturation s k).any fun c => decide (1000 ≤ c) then setFault (balanced s k) (railSource 8 k)
      else balanced s k :=
  if_pos (by simp [hbal, hdue])

theorem burstEnter_enters {s : Chip} {k : Nat} (hon : (s.rail k).state = .on) (hen : (s.aux k).burstEnable = true)
    (hbus : (s.railCfg k).bus = false)
    (hlong : ((s.rail k).lowSince.any fun t => decide (t + (s.aux k).burstDwell * 1000 ≤ s.now)) = true) :
    burstEnter k s = setRailState (burstAnew s k) k .burst [] :=
  if_pos (by simp only [hon, hen, hbus, hlong]; rfl)

theorem burstWake_wakes {s : Chip} {k t : Nat} (hsleep : (s.rail k).sleepSince = some t) (hst : (s.rail k).state = .burst)
    (hwhy : (s.rail k).lp.vRail ≤ ((s.rail k).vTarget : Int) * 1000 - 1000 * (s.aux k).burstLow
      ∨ t + (s.aux k).burstSleep ≤ s.now) : burstWake k s = burstWakes s k := by
  simp only [burstWake, hsleep]
  exact if_pos (by simpa [hst] using hwhy)

/-! ## The stage temperature (R136) -/

/-- The stage temperature that the last reading of the rail's input gives, in hundredths of a degree. -/
def stageTemp (s : Chip) (k : Nat) : Int :=
  rdiv (((tget s.hk (s.aux k).tempIn).uV - (s.aux k).tempOffset) * 100) (s.aux k).tempSlope

/-- The reading of the stage temperature lies outside the plausible range. -/
def stageOut (s : Chip) (k : Nat) : Bool := decide (stageTemp s k < -4000) || decide (17500 < stageTemp s k)

/-- The instant since which the readings have been plausible. -/
def plausibleSince (s : Chip) (k : Nat) : Option Nat :=
  if stageOut s k then none else some ((s.rail k).tempOk.getD s.now)

/-- The input counts as implausible: by this reading, or until 100 ms of plausible ones have passed. -/
def stageBad (s : Chip) (k : Nat) : Bool :=
  stageOut s k || ((s.rail k).tempBad && !((plausibleSince s k).any fun since => decide (since + 100000 ≤ s.now)))

/-- The warning level after the reading. -/
def stageWarns (s : Chip) (k : Nat) : Bool := otWarnLevel (s.aux k) (s.rail k).otWarn (stageBad s k) (stageTemp s k)

/-- The shutdown level after the reading. -/
def stageShuts (s : Chip) (k : Nat) : Bool := otSdLevel (s.aux k) (s.rail k).otSd (stageBad s k) (stageTemp s k)

/-- The block in which a reading with the given outcome is taken: the next one is due after 1 ms, the source of an
implausible input is evaluated, the reading stands in the rail, and the sources of both levels are evaluated. -/
def tempMarked (s : Chip) (k : Nat) (out bad : Bool) (okSince : Option Nat) (warn sd : Bool) : Chip :=
  let w := (evalFault (s.modRail k fun r => { r with tempNext := s.now + 1000 }) (railSource 7 k) out).modRail k fun r =>
    { r with temp := some (stageTemp s k), tempBad := bad, tempOk := okSince, otWarn := warn, otSd := sd }
  evalFault (evalFault w (railSource 5 k) warn) (railSource 6 k) sd

/-- The block in which the reading is taken with the outcome that it has. -/
def tempRecorded (s : Chip) (k : Nat) : Chip :=
  tempMarked s k (stageOut s k) (stageBad s k) (plausibleSince s k) (stageWarns s k) (stageShuts s k)

/-- The block in which a change of the warning level has been posted as well. -/
def tempPosted (s : Chip) (k : Nat) : Chip :=
  if stageWarns s k != (s.rail k).otWarn then post (tempRecorded s k) 0x03 (railBody (tempRecorded s k) k 3) []
  else tempRecorded s k

theorem tempPosted_rail (s : Chip) (k : Nat) : (tempPosted s k).rail k = { s.rail k with
    tempNext := s.now + 1000, temp := some (stageTemp s k), tempBad := stageBad s k, tempOk := plausibleSince s k,
    otWarn := stageWarns s k, otSd := stageShuts s k } := by
  unfold tempPosted
  split <;> simp [tempRecorded, tempMarked]

/-- A reading that is due is recorded; at the shutdown level it stops a live rail, and below it a rail that was stopped
by it and is wanted goes to WAIT. -/
theorem stageTempRead_due {s : Chip} {k : Nat} (hcfg : (s.railCfg? k).isSome = true) (hin : (s.aux k).tempIn ≠ 0xFF)
    (htaken : (tget s.hk (s.aux k).tempIn).taken = true) (hdue : (s.rail k).tempNext ≤ s.now) :
    stageTempRead k s =
      if stageShuts s k && railLive (s.rail k) then railStop (tempPosted s k) k .overtemp .otStop
      else if !stageShuts s k && (s.rail k).state == .otStop && (s.rail k).intentOn then
        setRailState (tempPosted s k) k .wait []
      else tempPosted s k := by
  have hlive : railLive ((tempPosted s k).rail k) = railLive (s.rail k) := by rw [tempPosted_rail]; rfl
  have hst : ((tempPosted s k).rail k).state = (s.rail k).state := by rw [tempPosted_rail]
  have hon : ((tempPosted s k).rail k).intentOn = (s.rail k).intentOn := by rw [tempPosted_rail]
  rw [← hlive, ← hst, ← hon]
  unfold stageTempRead
  rw [if_neg (by simp [Option.isSome_iff_ne_none.mp hcfg, hin, htaken, hdue])]
  simp only [evalFault_rail, modRail_rail, evalFault_now, modRail_now]
  rfl

/-- A reading out of the plausible range counts as at or above both levels. -/
theorem stage_of_out {s : Chip} {k : Nat} (hout : stageTemp s k < -4000 ∨ 17500 < stageTemp s k) :
    stageOut s k = true ∧ stageBad s k = true ∧ plausibleSince s k = none ∧ stageWarns s k = true
      ∧ stageShuts s k = true := by
  have ho : stageOut s k = true := by simpa [stageOut] using hout
  simp [stageBad, plausibleSince, stageWarns, stageShuts, otWarnLevel, otSdLevel, ho]

/-- A plausible reading below both levels, of a rail whose input has been plausible and that has reached neither level,
leaves both levels unreached. -/
theorem stage_of_below {s : Chip} {k : Nat} (hlo : ¬ stageTemp s k < -4000) (hhi : ¬ 17500 < stageTemp s k)
    (hw : (s.rail k).otWarn = false) (hs : (s.rail k).otSd = false) (hb : (s.rail k).tempBad = false)
    (htw : stageTemp s k < (s.aux k).otWarnSet) (hts : stageTemp s k < (s.aux k).otSdSet) :
    stageOut s k = false ∧ stageBad s k = false ∧ plausibleSince s k = some ((s.rail k).tempOk.getD s.now)
      ∧ stageWarns s k = false ∧ stageShuts s k = false := by
  have ho : stageOut s k = false := by simp [stageOut, hlo, hhi]
  have hbad : stageBad s k = false := by simp [stageBad, ho, hb]
  refine ⟨ho, hbad, by simp [plausibleSince, ho], ?_, ?_⟩
  · simp [stageWarns, otWarnLevel, hbad, hw, Int.not_le.mpr htw]
  · simp [stageShuts, otSdLevel, hbad, hs, Int.not_le.mpr hts]

/-- The block in which a reading out of the plausible range is taken. -/
def tempLost (s : Chip) (k : Nat) : Chip := tempMarked s k true true none true true

/-- A live rail whose stage temperature cannot be read is stopped. -/
theorem stageTempRead_out {s : Chip} {k : Nat} (hcfg : (s.railCfg? k).isSome = true) (hin : (s.aux k).tempIn ≠ 0xFF)
    (htaken : (tget s.hk (s.aux k).tempIn).taken = true) (hdue : (s.rail k).tempNext ≤ s.now)
    (hout : stageTemp s k < -4000 ∨ 17500 < stageTemp s k) (hlive : railLive (s.rail k) = true) :
    stageTempRead k s = railStop (if (s.rail k).otWarn then tempLost s k
      else post (tempLost s k) 0x03 (railBody (tempLost s k) k 3) []) k .overtemp .otStop := by
  obtain ⟨ho, hbad, hok, hw, hs⟩ := stage_of_out hout
  have hposted : tempPosted s k = if (s.rail k).otWarn then tempLost s k
      else post (tempLost s k) 0x03 (railBody (tempLost s k) k 3) [] := by
    cases hwas : (s.rail k).otWarn <;> simp [tempPosted, tempRecorded, tempLost, ho, hbad, hok, hw, hs, hwas]
  rw [stageTempRead_due hcfg hin htaken hdue, if_pos (by simp [hs, hlive]), hposted]

/-- A reading below both levels of a rail that has reached neither is recorded, and that is all. -/
theorem stageTempRead_below {s : Chip} {k : Nat} (hcfg : (s.railCfg? k).isSome = true) (hin : (s.aux k).tempIn ≠ 0xFF)
    (htaken : (tget s.hk (s.aux k).tempIn).taken = true) (hdue : (s.rail k).tempNext ≤ s.now)
    (hlo : ¬ stageTemp s k < -4000) (hhi : ¬ 17500 < stageTemp s k) (hw : (s.rail k).otWarn = false)
    (hs : (s.rail k).otSd = false) (hb : (s.rail k).tempBad = false) (htw : stageTemp s k < (s.aux k).otWarnSet)
    (hts : stageTemp s k < (s.aux k).otSdSet) (hst : (s.rail k).state ≠ .otStop) :
    stageTempRead k s = tempMarked s k false false (some ((s.rail k).tempOk.getD s.now)) false false := by
  obtain ⟨ho, hbad, hok, hwarns, hshuts⟩ := stage_of_below hlo hhi hw hs hb htw hts
  rw [stageTempRead_due hcfg hin htaken hdue, if_neg (by simp [hshuts]), if_neg (by simp [hst])]
  simp [tempPosted, tempRecorded, ho, hbad, hok, hwarns, hshuts, hw]

/-- Settles O21: each event's condition holds, so its action is taken; a reading of the stage temperature acts by the levels
that it leaves. -/
theorem railEventsAct : Obligations.RailEventsAct := by
  refine ⟨?_, ?_, ?_, ?_, ?_, ?_, ?_, ?_, ?_, ?_, ?_⟩
  · rintro _ r s hwait hmay rfl
    exact ⟨becomes_of rfl (railStart_starts r hwait hmay), beginSwitching_loopPreset⟩
  · intro r s huv hlive
    exact becomes_of rfl (railInputUv_stops huv hlive)
  · intro r s hbus hlive hlong
    exact becomes_of rfl (ocLatch_latches hbus hlive hlong)
  · intro r phase a b s hcfg hphase hlive ha hb
    exact becomes_of rfl (phaseOc_latches hcfg hphase hlive ha hb)
  · intro r s hov hlive
    exact becomes_of rfl (railOvervoltage_latches hov hlive)
  · rintro _ _ r s rfl rfl hbal hdue hsat
    exact becomes_of rfl ((currentBalance_adjusts hbal hdue).trans (if_pos hsat))
  · rintro _ _ r s rfl rfl hbal hdue hsat
    exact becomes_of rfl ((currentBalance_adjusts hbal hdue).trans (if_neg (ne_true_of_eq_false hsat)))
  · intro r s hon hen hbus hlong
    exact becomes_of rfl (burstEnter_enters hon hen hbus hlong)
  · intro r t s hsleep hst hwhy
    exact becomes_of rfl (burstWake_wakes hsleep hst hwhy)
  · rintro _ _ _ r s hcfg hin htaken rfl hout hlive hdue rfl rfl
    exact becomes_of rfl (stageTempRead_out hcfg hin htaken hdue hout hlive)
  · rintro _ _ _ r s hcfg hin htaken rfl hlo hhi hw hs hb htw hts hst hdue rfl rfl
    exact becomes_of rfl (stageTempRead_below hcfg hin htaken hdue hlo hhi hw hs hb htw hts hst)

end Sys2Proof.Machine
end

section
/-! PROOFS. The energy opcodes (R149, R164, R173, spec/06_bus_energy.md). -/

namespace Sys2Proof.Machine

/-! ## What a body reads of the block when it meets its request -/

section
variable (opcode : Nat) (rq : Request) (s : Chip)

@[simp] theorem taken_img : (taken opcode rq s).img = s.img :=
  taken_reads _ opcode rq s (fun _ _ => rfl) fun _ _ => rfl
@[simp] theorem taken_isRoot : isRoot (taken opcode rq s) = isRoot s :=
  taken_reads _ opcode rq s (fun _ _ => rfl) fun _ _ => rfl
@[simp] theorem taken_energyWord : energyWord (taken opcode rq s) = energyWord s :=
  taken_reads _ opcode rq s (fun _ _ => rfl) fun _ _ => rfl
@[simp] theorem taken_energyGetData : energyGetData (taken opcode rq s) = energyGetData s :=
  taken_reads _ opcode rq s (fun _ _ => rfl) fun _ _ => rfl
@[simp] theorem taken_bridgeGetData : bridgeGetData (taken opcode rq s) = bridgeGetData s :=
  taken_reads _ opcode rq s (fun _ _ => rfl) fun _ _ => rfl
@[simp] theorem taken_rectGetData (n : Nat) : rectGetData (taken opcode rq s) n = rectGetData s n :=
  taken_reads (rectGetData · n) opcode rq s (fun _ _ => rfl) fun _ _ => rfl

end

section
variable {rq : Request} {s : Chip} (r : ReqRef)

theorem bodyRectGet_pass (hrole : (s.chCfg (arg rq 0 1)).role = 1) (hc : chChecks rq s = none) :
    bodyRectGet rq r s = (.reply .ok (rectGetData s (arg rq 0 1)), s) := by
  unfold bodyRectGet
  rw [if_neg (by simp [hrole])]
  simp only [hc]

/-- A cap in range for the shelf is queued. -/
theorem bodyCapSet_shelf (hscope : arg rq 0 1 = 0) (hcap : capInRange (arg rq 4 4) = true) :
    bodyCapSet rq r s = (.reply .ok (le 4 (energyWord s)), queueEnergy s (.cap false (arg rq 4 4) r)) :=
  (if_neg (by simp [hscope])).trans <| (if_neg (by simp [hcap])).trans (if_pos (by simp [hscope]))

/-- A cap in range for the hall is queued at the root. -/
theorem bodyCapSet_hall (hscope : arg rq 0 1 = 1) (hcap : capInRange (arg rq 4 4) = true) (hroot : isRoot s = true) :
    bodyCapSet rq r s = (.reply .ok (le 4 (energyWord s)), queueEnergy s (.cap true (arg rq 4 4) r)) :=
  (if_neg (by simp [hscope])).trans <| (if_neg (by simp [hcap])).trans <| (if_neg (by simp [hscope])).trans
    (if_neg (by simp [hroot]))

/-- A charging mode is queued, and with LIMIT the host limit. -/
theorem bodyChargeSet_queues {m : ChargeMode} (hm : arg rq 0 1 = m.code)
    (hlimit : m = .limit → arg rq 4 4 ≤ s.img.caps.chargePMax) :
    bodyChargeSet rq r s = (.reply .ok (le 4 (energyWord s)),
      queueEnergy s (.chargeMode m (if m = .limit then some (arg rq 4 4) else none) r)) := by
  unfold bodyChargeSet
  cases m with
  | auto => simp [hm, ChargeMode.code]
  | hold => simp [hm, ChargeMode.code]
  | limit => simp [hm, ChargeMode.code, Nat.not_lt.mpr (hlimit rfl)]

end

/-- Settles O15: each body's checks pass, and the record or the word that it answers is that of the block before the
request was taken. -/
theorem energyOpcodesComplete : Obligations.EnergyOpcodesComplete := by
  refine ⟨fun rq s h => answers_of rfl h ?_, fun rq s h => answers_of rfl h ?_,
    fun rq s h hrole hc => answers_of rfl h ?_, ?_, ?_, ?_⟩
  · simp [bodyEnergyGet]
  · simp [bodyBridgeGet]
  · simp [bodyRectGet_pass, hrole, hc]
  · rintro rq s h hscope hcap _ rfl
    exact serves_of rfl h (by simp [bodyCapSet_shelf, hscope, hcap])
  · rintro rq s h hscope hcap hroot _ rfl
    exact serves_of rfl h (by simp [bodyCapSet_hall, hscope, hcap, hroot])
  · rintro rq m s h hm hlimit _ rfl
    exact serves_of rfl h ((bodyChargeSet_queues _ hm (by simpa using hlimit)).trans (by simp))

end Sys2Proof.Machine
end

section
/-! PROOFS. The energy rounds, the rectifier polls, the cap timers and the hall's cap rounds (spec/06_bus_energy.md,
spec/14_nymi_link_and_hall.md). -/

namespace Sys2Proof.Machine

/-! ## The energy step and the weights (R143, R155, R167) -/

theorem energyStep_of_due {s : Chip} (hw : yardWorks s = true) (hv : s.imgValid = true) (hf : handFrozen s = false)
    (hdue : s.book.nextStep ≤ s.now) {u : Chip}
    (hu : u = capCounts (storeMarks (energyFaults (rectAvail (formQuantities
      { s with book := { s.book with nextStep := s.now + 1000 } }))))) :
    energyStep s = if isActive u then energyPolicy u else throttleLinks u false := by
  subst hu
  exact if_pos (by simp [hw, hv, hf, hdue])

theorem weightUpdate_of_due {s : Chip} (hw : yardWorks s = true) (hv : s.imgValid = true)
    (hdue : s.book.nextWeight ≤ s.now) {u : Chip}
    (hu : u = formPools (forEach 12 (fun j c => applyEUse c j)
      { s with book := { s.book with nextWeight := s.now + s.img.energy.weightPeriod * 1000 } })) :
    weightUpdate s = if isActive u then
      forEach 12 (fun j c => if slotStands c j then queueEnergy c (.weight j (weightOf c j)) else c) u else u := by
  subst hu
  exact if_pos (by simp [hw, hv, hdue])

theorem capOver_sets {s : Chip} (hclear : s.book.capOver = false)
    (hlong : (s.book.overSince.any fun t => decide (t + s.img.caps.capGrace * 1000 ≤ s.now)) = true) :
    capOver s = capStateStep (evalFault { s with book := { s.book with capOver := true } } 0x0501 true) :=
  if_pos (by simp only [hclear, hlong]; rfl)

theorem capOver_clears {s : Chip} (hset : s.book.capOver = true)
    (hlong : (s.book.underSince.any fun t => decide (t + s.img.caps.capGrace * 1000 ≤ s.now)) = true) :
    capOver s = capStateStep (setLive { s with book := { s.book with capOver := false } } 0x0501 false) :=
  (if_neg (by simp [hset])).trans (if_pos (by simp only [hset, hlong]; rfl))

/-! ## The rectifiers (R144, R336) -/

theorem rectStatusPoll_of_due {s : Chip} (hp : polls s = true) (hdue : s.dsPoll.statusNext ≤ s.now) {u : Chip}
    (hu : u = { s with dsPoll := { s.dsPoll with statusNext := s.now + s.img.energy.rectStatusPeriod * 1000 } }) :
    rectStatusPoll s = (channelsOf u 1).foldl (fun c n => c.modRect n fun r => { r with wantStatus := true }) u := by
  subst hu
  exact if_pos (by simp [hp, hdue])

theorem rectModePoll_of_due {s : Chip} (hp : polls s = true) (hdue : s.dsPoll.modeNext ≤ s.now) {u : Chip}
    (hu : u = { s with dsPoll := { s.dsPoll with modeNext := s.now + 1000000 } }) :
    rectModePoll s
      = (channelsOf u 1).foldl (fun c n => c.modRect n fun r => { r with wantMode := true, wantPower := true }) u := by
  subst hu
  exact if_pos (by simp [hp, hdue])

/-- A rectifier that ages out loses its availability, and P_AV is blind where no other reading is left. -/
theorem rectAgeExpiry_of_aged {s : Chip} {n : Nat} (hrole : (s.chCfg n).role = 1) (hon : (s.ch n).state = .on)
    (hout : ageOut s n = true) (hnew : (s.rect n).aged = false) {u w : Chip}
    (hu : u = evalFault (s.modRect n fun r => { r with aged := true }) (0x0520 + n) true)
    (hw : w = energyEvent (u.modRect n fun r => { r with avail := false, sharing := false }) (u.rect n).avail 4 n) :
    rectAgeExpiry n s = if rectBlindNow w then blindNow w else w := by
  subst hu hw
  exact if_pos (by simp [hrole, hon, hout, hnew])

@[simp] theorem evalFault_energy (s : Chip) (id : Nat) (on : Bool) : (evalFault s id on).energy = s.energy :=
  evalFault_onlyFaultParts s id on .energy (by decide)

/-- The energy quantities of a member without a reading of its rectifiers. -/
theorem blindNow_energy (s : Chip) :
    (blindNow s).energy = { s.energy with rectBlind := true, pAv := 0, shortfall := false } :=
  evalFault_energy ..

/-! ## The hall's cap rounds (R168, R169, R393) -/

theorem hallCapRound_opens {s u : Chip} {n : Nat} (hu : u = clearSent s) (hc : capMember u = true)
    (hn : n = u.hall / capPeriod) (hnew : (u.net.cap.open_ && u.net.cap.round == n) = false) :
    hallCapRound s = reportWhenReady ({ u with energy := { u.energy with allocNext := none } }.modNet fun x =>
      { x with cap := { round := n, start := n * capPeriod, open_ := true, last := u.net.cap.last } }) := by
  subst hu hn
  exact if_pos (by rw [hc, hnew]; rfl)

theorem capReportDeadline_reports {s u : Chip} (hu : u = clearSent s) (hc : capMember u = true)
    (hopen : u.net.cap.open_ = true) (hsent : u.net.cap.sent = false)
    (hdue : u.net.cap.start + capReportBy ≤ u.hall) : capReportDeadline s = reportUp u := by
  subst hu
  exact if_pos (by simp [hc, hopen, hsent, hdue])

/-- The round's allocation time has come, and the round is settled. -/
theorem capAllocApply_of_due {s : Chip} (hc : capMember s = true) (hopen : s.net.cap.open_ = true)
    (hset : s.net.cap.settled = false) (hdue : s.net.cap.start + capAllocBy ≤ s.hall) {u : Chip}
    (hu : u = s.modNet fun n => { n with cap := { n.cap with settled := true } }) :
    capAllocApply s = match s.energy.allocNext with
      | some a => setLive (setHallLive true
          { u with energy := { s.energy with hallAlloc := a.1, allocNext := none, roundsMissed := 0 } }) 0x0504 false
      | none => { u with energy := { s.energy with roundsMissed := min 1000000 (s.energy.roundsMissed + 1) } } := by
  subst hu
  exact if_pos (by simp [hc, hopen, hset, hdue])

theorem hallCapLost_falls_back {s : Chip} (hc : capMember s = true) (hmiss : 3 ≤ s.energy.roundsMissed) {b : Nat}
    (hb : b = s.img.caps.hallCapFallback) :
    hallCapLost s = evalFault (setHallLive false
      { s with energy := { s.energy with hallAlloc := if b = 0 then s.energy.hallAlloc else b } }) 0x0504 true := by
  subst hb
  exact if_pos (by simp [hc, hmiss])

/-- Settles O22: each event is due, so its action is taken. -/
theorem energyEventsAct : Obligations.EnergyEventsAct := by
  refine ⟨?_, ?_, ?_, ?_, ?_, ?_, ?_, ?_, ?_, ?_, ?_, ?_⟩
  · intro u s hw hv hf hdue hu
    exact becomes_of rfl (energyStep_of_due hw hv hf hdue hu)
  · intro u s hw hv hdue hu
    exact becomes_of rfl (weightUpdate_of_due hw hv hdue hu)
  · intro s hclear hlong
    exact becomes_of rfl (capOver_sets hclear hlong)
  · intro s hset hlong
    exact becomes_of rfl (capOver_clears hset hlong)
  · intro u s hp hdue hu
    exact becomes_of rfl (rectStatusPoll_of_due hp hdue hu)
  · intro u s hp hdue hu
    exact becomes_of rfl (rectModePoll_of_due hp hdue hu)
  · intro u w ch s hrole hon hout hnew hu hw
    exact ⟨becomes_of rfl (rectAgeExpiry_of_aged hrole hon hout hnew hu hw), by simp [blindNow_energy]⟩
  · intro u n s hu hc hn hnew
    exact becomes_of rfl (hallCapRound_opens hu hc hn hnew)
  · intro u s hu hc hopen hsent hdue
    exact becomes_of rfl (capReportDeadline_reports hu hc hopen hsent hdue)
  · intro u a s hc hopen hset hdue ha hu
    exact becomes_of rfl ((capAllocApply_of_due hc hopen hset hdue hu).trans (by rw [ha]))
  · intro u s hc hopen hset hdue ha hu
    exact becomes_of rfl ((capAllocApply_of_due hc hopen hset hdue hu).trans (by rw [ha]))
  · intro b s hc hmiss hb
    exact becomes_of rfl (hallCapLost_falls_back hc hmiss hb)

end Sys2Proof.Machine
end

section
/-! PROOFS. The frames of the cap rounds and of a collection at the member they are delivered to
(spec/14_nymi_link_and_hall.md). -/

namespace Sys2Proof.Machine

/-! ## A frame has its effect (R372, R373, R378, R379) -/

@[simp] theorem modNp_np (s : Chip) (p : Nat) (f : NpPort → NpPort) : (s.modNp p f).np p = f (s.np p) :=
  tget_tset_self ..

/-- A frame that is heard acts on the block in which its port has counted it as valid. -/
theorem onFrame_heard {typ p : Nat} {f : Frame} {s v : Chip} (act : Chip → Chip) (h : Heard typ p f s v) :
    onFrame typ p f act s = act v := by
  obtain ⟨halive, hused, hup, htype, hlen, hcrc, hhops, hdst, rfl⟩ := h
  have hport : portUp ((clearSent s).modNp p fun x => { x with lastValid := s.now }) p = true := by simp [portUp, hup]
  refine (if_neg (by simp [halive, hused, hup])).trans <| (if_neg (by simp [htype, hlen, hcrc])).trans <|
    (if_neg (Nat.not_le.mpr hhops)).trans (if_pos ?_)
  simp only [hdst, Bool.and_eq_true, Bool.or_eq_true, Bool.not_false, and_true]
  exact .inr hport

/-- A routed frame that is delivered acts at this member. -/
theorem onRouted_delivered {p : Nat} {f : Frame} {v : Chip} (act : Chip → Chip) (h : Delivered f v) :
    onRouted p f act v = act v := by
  obtain ⟨hhall, hhere, hactive⟩ := h
  refine (if_neg (by simp [hhall])).trans <| (if_neg (by simp [hhere])).trans (if_neg ?_)
  cases hto : toActive f with
  | false => simp
  | true =>
    obtain ⟨hact, hepoch⟩ := hactive hto
    rcases hepoch with hany | hown
    · simp [hact, hany]
    · simp [hact, hown]

/-- A command that receives a routed frame does what the frame does at the member it is delivered to. -/
theorem becomes_of_delivered {c : Instr} {typ p : Nat} {f : Frame} {s : State} {v t : Chip} {act : Chip → Chip}
    (he : exec c s = .next (s.on (onFrame typ p f (onRouted p f act)))) (hh : Heard typ p f s.chip v)
    (hd : Delivered f v) (h : act v = t) : Becomes c s t :=
  becomes_of he ((onFrame_heard _ hh).trans ((onRouted_delivered act hd).trans h))

/-! ## The cap rounds (R168, R169, R393) -/

theorem takeCapReport_notes {f : Frame} {v : Chip} (hc : capMember v = true) {k : Nat}
    (hk : k = f.src.toNat % 2 ^ 10 / 2) (hchild : (childPairs v).contains k = true)
    {putr : List (Nat × Nat × Nat) → List (Nat × Nat × Nat)}
    (hput : putr = fun l => (k, field f.payload 4 4, field f.payload 8 4) :: l.filter fun x => x.1 != k) :
    takeCapReport f v = reportWhenReady (v.modNet fun n => { n with cap := { n.cap with
      last := putr n.cap.last,
      reports := if field f.payload 0 4 == roundField v then putr n.cap.reports else n.cap.reports } }) := by
  subst hk hput
  exact if_neg (by rw [hc, hchild]; decide)

theorem takeCapAlloc_splits {f : Frame} {v : Chip} (hc : capMember v = true) (hopen : v.net.cap.open_ = true)
    (hround : field f.payload 0 4 = roundField v) (htime : v.hall < v.net.cap.start + capAllocBy) :
    takeCapAlloc f v = splitHere (field f.payload 4 4) v :=
  if_pos (by simp [hc, hopen, hround, htime])

/-! ## The collection (R395, R396) -/

/-- The member now asked has been silent for 100 ms: it is asked again for the rest where it has been heard since it was
last asked, and marked otherwise. -/
theorem collectNoReply_of_silence {s u : Chip} (hu : u = clearSent s) (ha : yardAlive u = true)
    (hrun : u.net.coll.state = .running) (hlong : u.net.coll.asked + 100000 ≤ u.now)
    (hlate : u.net.coll.at_ + 6010000000 ≤ u.hall) :
    collectNoReply s = if !u.net.coll.heard then finishMember (u.drawn.modColl fun c =>
        { c with buf := c.buf ++ [unitHead u.net.coll.node 1 3 0 (le 2 u.draw) 0], units := sat32 c.units 1,
                 noReply := sat32 c.noReply 1 })
      else askNext u := by
  subst hu
  exact if_pos (by simp [ha, hrun, hlong, hlate])

/-- Settles O43: a delivered frame is handed to its action, whose condition holds; the silent member is marked or asked
again by whether it was heard. -/
theorem hallCapAndCollectFramesAct : Obligations.HallCapAndCollectFramesAct := by
  refine ⟨?_, ?_, ?_, ?_, ?_, ?_⟩
  · intro v k putr p f s hh hd hc hk hchild hput
    exact becomes_of_delivered rfl hh hd (takeCapReport_notes hc hk hchild hput)
  · intro v p f s hh hd hc hopen hround htime
    exact becomes_of_delivered rfl hh hd (takeCapAlloc_splits hc hopen hround htime)
  · intro v p f s hh hd
    exact becomes_of_delivered rfl hh hd rfl
  · intro v p f s hh hd
    exact becomes_of_delivered rfl hh hd rfl
  · intro u s hu ha hrun hlong hlate hheard
    exact becomes_of rfl ((collectNoReply_of_silence hu ha hrun hlong hlate).trans (if_neg (by simp [hheard])))
  · intro u s hu ha hrun hlong hlate hheard
    exact becomes_of rfl ((collectNoReply_of_silence hu ha hrun hlong hlate).trans (if_pos (by simp [hheard])))

end Sys2Proof.Machine
end

section
/-! PROOFS. The load links: their opcodes, their frames and their timers (spec/07_load_link_and_bursts.md). -/

namespace Sys2Proof.Machine

/-! ## The link opcodes (R203) -/

section
variable (opcode : Nat) (rq : Request) (s : Chip)

@[simp] theorem taken_linkChecks (x : Request) : linkChecks x (taken opcode rq s) = linkChecks x s :=
  taken_reads (linkChecks x) opcode rq s (fun _ _ => rfl) fun _ _ => rfl
@[simp] theorem taken_linkData : linkData (taken opcode rq s) = linkData s :=
  taken_reads _ opcode rq s (fun _ _ => rfl) fun _ _ => rfl
@[simp] theorem taken_linkGetData (n : Nat) : linkGetData (taken opcode rq s) n = linkGetData s n :=
  taken_reads (linkGetData · n) opcode rq s (fun _ _ => rfl) fun _ _ => rfl

end

/-- The block in which the disable of a link is cleared and the link is down. -/
def linkEnabled (s : Chip) (n : Nat) : Chip := linkDown (s.modLink n fun l => { l with disabled := false }) n

section
variable {rq : Request} {s : Chip} (r : ReqRef) (hc : linkChecks rq s = none)
include hc

theorem bodyLlGet_pass : bodyLlGet rq r s = (.reply .ok (linkGetData s (arg rq 0 1)), s) := by
  simp only [bodyLlGet, hc]

theorem bodyLlDisable_pass : bodyLlDisable rq r s
    = (.reply .ok (linkData (llDisable s (arg rq 0 1)) (arg rq 0 1)), llDisable s (arg rq 0 1)) := by
  simp only [bodyLlDisable, hc]

theorem bodyLlEnable_pass : bodyLlEnable rq r s
    = (.reply .ok (linkData (linkEnabled s (arg rq 0 1)) (arg rq 0 1)), linkEnabled s (arg rq 0 1)) := by
  simp only [bodyLlEnable, hc, linkEnabled]

end

/-- Settles O16: the link passes its checks, so each body answers the records of the block that it leaves, which the two
reads leave as they met it. -/
theorem linkOpcodesComplete : Obligations.LinkOpcodesComplete := by
  refine ⟨fun rq s h hc => answers_of rfl h ?_, fun rq s h => answers_of rfl h ?_, ?_, ?_⟩
  · simp [bodyLlGet_pass, hc]
  · simp [bodyLlStateAll]
  · rintro rq s h hc _ rfl
    exact serves_of rfl h (bodyLlDisable_pass _ (by simp [hc]))
  · rintro rq s h hc _ rfl
    exact serves_of rfl h (bodyLlEnable_pass _ (by simp [hc]))

/-! ## A frame is noted, judged and acted on (R185, R187) -/

/-- A frame with a good CRC reaches a configured link of a running member, and `u` is the block with the frame noted. -/
structure LlFrameNoted (s u : Chip) (n : Nat) : Prop where
  configured : (s.linkCfg? n).isSome = true
  runs : studioRuns s = true
  noted : u = s.modLink n fun l => { l with lastFrame := s.now }

/-- A frame passes the tests that follow its CRC (R185): its opcode is one of the seven, a disabled link admits
BURST_REL, READ and PING only and a link without an agreed version HELLO, READ and PING only, and a SETV or a BURST_REQ
is no repeat of the last one and finds no transition in progress. -/
structure LlFrameAdmitted (l : Link) (op seq arg : Nat) : Prop where
  used : 0 < op ∧ op ≤ 7
  enabled : l.disabled = false ∨ 5 ≤ op
  version : llNoVersion l = false ∨ op = 1 ∨ 6 ≤ op
  transition : op = 2 ∨ op = 4 → l.lastReq ≠ some (op, seq % 8, arg) ∧ l.llak = false

/-- What an admitted frame does, by its opcode. -/
def llFrameAction (n op seq arg : Nat) (u : Chip) : Chip :=
  match op with
  | 1 => llHello u n seq arg
  | 2 => llSetv u n seq arg
  | 3 => llSlew u n seq arg
  | 4 => llBurstReq u n seq arg
  | 5 => llBurstRel u n seq
  | 6 => llRead u n seq arg
  | _ => llRespond (llAccept u n seq) n 7 seq arg

/-- READ and PING pass the tests at every link. -/
theorem llFrameAdmitted_of_read {l : Link} {op seq arg : Nat} (hlo : 6 ≤ op) (hhi : op ≤ 7) :
    LlFrameAdmitted l op seq arg :=
  ⟨by omega, .inr (by omega), .inr (.inr hlo), fun hop => by omega⟩

/-- The test that a receiver of frames begins with fails at a configured link of a running member. -/
theorem link_hears {s : Chip} {n : Nat} (hc : (s.linkCfg? n).isSome = true) (hr : studioRuns s = true) :
    ¬((s.linkCfg? n).isNone || !studioRuns s) = true := by
  simp [Option.isSome_iff_ne_none.mp hc, hr]

section
variable {s u : Chip} {n op seq arg : Nat}

theorem llFrame_acts (h : LlFrameNoted s u n) (ha : LlFrameAdmitted (u.link n) op seq arg) :
    llFrame n op seq arg s = llFrameAction n op seq arg u := by
  obtain ⟨hc, hr, hu⟩ := h
  obtain ⟨⟨hlo, hhi⟩, hen, hver, htr⟩ := ha
  simp only [llFrame, ← hu]
  refine (if_neg (link_hears hc hr)).trans <| (if_neg ?used).trans <| (if_neg ?enabled).trans <|
    (if_neg ?version).trans <| (if_neg ?repeated).trans <| (if_neg ?busy).trans rfl
  case used => simp; omega
  case enabled => grind
  case version => grind
  case repeated => simpa using fun hop => (htr hop).1
  case busy => simpa using fun hop => (htr hop).2

/-- A noted frame of an unused opcode is rejected. -/
theorem llFrame_unused (h : LlFrameNoted s u n) (hop : op = 0 ∨ 7 < op) :
    llFrame n op seq arg s = llReject u n .badOpcode seq op := by
  obtain ⟨hc, hr, rfl⟩ := h
  exact (if_neg (link_hears hc hr)).trans (if_pos (by simpa using hop))

/-- An admitted frame has the effect of its opcode. -/
theorem becomes_of_llFrame {c : Instr} {s : State} {t : Chip} (he : exec c s = .next (s.on (llFrame n op seq arg)))
    (h : LlFrameNoted s.chip u n) (ha : LlFrameAdmitted (u.link n) op seq arg) (ht : llFrameAction n op seq arg u = t) :
    Becomes c s t :=
  becomes_of he ((llFrame_acts h ha).trans ht)

end

/-! ## The effect of each opcode (R188, R189, R190, R193, R195, R198) -/

section
variable {s : Chip} {n seq arg : Nat}

theorem llHello_agrees {v : Nat} (hv : agree (arg / 65536 % 256) (arg / 256 % 256) 0x10 0x10 = some v) :
    llHello s n seq arg = llRespond (setLinkState ((llAccept s n seq).modLink n fun l => { l with version := v }) n .up)
      n 1 seq (v * 65536 + 0x1010) := by
  simp only [llHello, hv]

theorem llSetv_queues {k : Nat} (hk : linkRail s n = some k) (hrange : railSetInRange s k 1 (arg * 5) = true)
    (hrun : railRuns s k = true) (hroom : queueRoom s 2 = true) :
    llSetv s n seq arg = queueRail ((llAccept s n seq).modLink n fun l =>
      { l with llak := true, setv := some (s.now, 0), lastReq := some (2, seq % 8, arg) }) k (.set 1 (arg * 5)) {} false
      (some n) := by
  simp only [llSetv, hk, hrange, hrun, hroom]
  rfl

theorem llSlew_queues {k : Nat} (hk : linkRail s n = some k) (hrange : railSetInRange s k 3 arg = true)
    (hroom : queueRoom s 2 = true) :
    llSlew s n seq arg = queueRail (llAccept s n seq) k (.set 3 arg) {} false (some n) := by
  simp only [llSlew, hk, hrange, hroom]
  rfl

/-- A request with a power and a duration in range, at a link without a grant in force, is pending. -/
theorem llBurstReq_pends (hp : arg / 4096 % 4096 * 10000 ≠ 0) (hd : arg % 4096 * 10 ≠ 0)
    (hpmax : arg / 4096 % 4096 * 10000 ≤ (s.linkCfg n).burstPMax) (hdmax : arg % 4096 * 10 ≤ (s.linkCfg n).burstDMax)
    (hfull : (s.burst n).grant ≠ .full) (hpart : (s.burst n).grant ≠ .partial_) :
    llBurstReq s n seq arg = ((llAccept s n seq).modLink n fun l =>
      { l with llak := true, lastReq := some (4, seq % 8, arg) }).modBurst n fun b =>
      { b with grant := .pending, refusal := .none, reqP := arg / 4096 % 4096 * 10000, reqD := arg % 4096 * 10,
               decided := none } := by
  refine (if_neg ?param).trans <| (if_neg ?range).trans <| if_neg ?grant
  case param => simp [hp, hd]
  case range => simp [hpmax, hdmax]
  case grant => simp [hfull, hpart]

theorem llBurstRel_releases (hrun : (s.burst n).running = true) :
    llBurstRel s n seq = (llAccept s n seq).modBurst n fun b => { b with releasing := true } :=
  if_pos hrun

/-- A READ of an address in use answers its value, and that of STATUS clears ATTN. -/
theorem llRead_answers {v : Nat} {w : Chip} (hv : llReadValue s n (arg / 65536 % 256) = some v)
    (hw : w = llRespond (llAccept s n seq) n 6 seq v) :
    llRead s n seq arg = if arg / 65536 % 256 = 0 then w.modLink n fun l => { l with attn := false } else w := by
  simp only [llRead, hv, hw, beq_iff_eq]

end

/-! ## The frames that a receiver rejects (R179, R182, R185) -/

section
variable {s : Chip} {n : Nat} {bits : BitVec 40} (hc : (s.linkCfg? n).isSome = true) (hr : studioRuns s = true)
include hc hr

theorem llRejectedFrame_crc {v : Nat} (hv : v = bits.toNat) (hcrc : (llCrc (v / 256) != v % 256) = true) :
    llRejectedFrame n bits s = llReject s n .crc (v / 2 ^ 32 % 8) (v / 2 ^ 35 % 16) := by
  subst hv
  exact (if_neg (link_hears hc hr)).trans (if_pos hcrc)

/-- A frame whose CRC is good goes on to be judged by its opcode. -/
theorem llRejectedFrame_judged {v : Nat} (hv : v = bits.toNat) (hcrc : llCrc (v / 256) = v % 256) :
    llRejectedFrame n bits s = llFrame n (v / 2 ^ 35 % 16) (v / 2 ^ 32 % 8) (v / 256 % 2 ^ 24) s := by
  subst hv
  exact (if_neg (link_hears hc hr)).trans (if_neg (by simp [hcrc]))

theorem llBitTimeout_rejects {w : Chip} (hw : w = setFault s (0x0608 + n)) :
    llBitTimeout n s = llReject w.drawn n .bitTimeout (w.draw % 8) (w.draw / 8 % 16) := by
  subst hw
  exact if_neg (link_hears hc hr)

end

/-- Settles O23: each frame with a good CRC is noted and admitted, so its opcode's own checks decide what it does; the
others fail the test that names their reason. -/
theorem loadLinkFramesAct : Obligations.LoadLinkFramesAct := by
  refine ⟨?hello, ?setv, ?slew, ?burstReq, ?burstRel, ?read, ?ping, ?crc, ?badOpcode, ?bitTimeout⟩
  case hello =>
    intro v u n f s hc hr hu hen hv
    exact becomes_of_llFrame rfl ⟨hc, hr, hu⟩ ⟨by decide, .inl hen, .inr (.inl rfl), (absurd · (by decide))⟩
      (llHello_agrees hv)
  case setv =>
    intro k u n f s hc hr hu hen hver hnew hack hk hrange hrun hroom
    exact becomes_of_llFrame rfl ⟨hc, hr, hu⟩ ⟨by decide, .inl hen, .inl hver, fun _ => ⟨hnew, hack⟩⟩
      (llSetv_queues hk hrange hrun hroom)
  case slew =>
    intro k u n f s hc hr hu hen hver hk hrange hroom
    exact becomes_of_llFrame rfl ⟨hc, hr, hu⟩ ⟨by decide, .inl hen, .inl hver, (absurd · (by decide))⟩
      (llSlew_queues hk hrange hroom)
  case burstReq =>
    intro u n f s hc hr hu hen hver hnew hack hp hd hpmax hdmax hfull hpart
    exact becomes_of_llFrame rfl ⟨hc, hr, hu⟩ ⟨by decide, .inl hen, .inl hver, fun _ => ⟨hnew, hack⟩⟩
      (llBurstReq_pends hp hd hpmax hdmax hfull hpart)
  case burstRel =>
    intro u n f s hc hr hu hver hrun
    exact becomes_of_llFrame rfl ⟨hc, hr, hu⟩ ⟨by decide, .inr (by decide), .inl hver, (absurd · (by decide))⟩
      (llBurstRel_releases hrun)
  case read =>
    intro v u w n f s hc hr hu hv hw
    exact becomes_of_llFrame rfl ⟨hc, hr, hu⟩ (llFrameAdmitted_of_read (by decide) (by decide)) (llRead_answers hv hw)
  case ping =>
    intro u n f s hc hr hu
    exact becomes_of_llFrame rfl ⟨hc, hr, hu⟩ (llFrameAdmitted_of_read (by decide) (by decide)) rfl
  case crc =>
    intro v n bits s hc hr hv hcrc
    exact becomes_of rfl (llRejectedFrame_crc hc hr hv hcrc)
  case badOpcode =>
    intro u v n bits s hc hr hu hv hcrc hop
    exact becomes_of rfl ((llRejectedFrame_judged hc hr hv hcrc).trans (llFrame_unused ⟨hc, hr, hu⟩ hop))
  case bitTimeout =>
    intro w n s hc hr hw
    exact becomes_of rfl (llBitTimeout_rejects hc hr hw)

/-! ## The timers (R187, R190, R194, R198) -/

section
variable {s : Chip} {n : Nat}

theorem setvSettled_settles (href : refArrived s n = true)
    (hlong : ((s.link n).setv.any fun t => decide ((s.linkCfg n).settleTime ≤ t.2)) = true) :
    setvSettled n s = s.modLink n fun l => { l with setv := none, llak := false } :=
  if_pos (by rw [href, hlong]; rfl)

theorem settleTimeout_gives_up {b : Bool} (hb : b = (linkRail s n).any (railRuns s))
    (hlate : ((s.link n).setv.any fun t => decide (t.1 + (s.linkCfg n).settleMax * 1000 ≤ s.now) || !b) = true) :
    settleTimeout n s
      = postLink (setFault (s.modLink n fun l => { l with setv := none, llak := false }) (0x0618 + n)) n 4 := by
  subst hb
  exact if_pos hlate

theorem burstEnd_of_due (hrun : (s.burst n).running = true)
    (hdue : (s.burst n).start + (s.burst n).dur * 1000 ≤ s.now) :
    burstEnd n s = if (s.link n).disabled then endGrant s n .withdrawn .linkDisabled else endGrant s n .ended .none :=
  if_pos (by simp [hrun, hdue])

theorem linkLost_of_silence (hc : (s.linkCfg? n).isSome = true) (hup : (s.link n).link = .up)
    (hon : (s.linkCfg n).timeout ≠ 0) (hlong : (s.link n).lastFrame + (s.linkCfg n).timeout * 1000 ≤ s.now) :
    linkLost n s = setLinkState (setFault s (0x0610 + n)) n .lost :=
  if_pos (by simp [hc, hup, hon, hlong])

theorem throttleIgnored_evaluates
    (hlong : ((s.burst n).overSince.any fun t => decide (t + 2 * (s.linkCfg n).pollMax * 1000 ≤ s.now)) = true) :
    throttleIgnored n s = evalFault s (0x0620 + n) true :=
  if_pos hlong

end

/-- Settles O24: each timer's condition holds, so its action is taken. -/
theorem loadLinkTimersAct : Obligations.LoadLinkTimersAct := by
  refine ⟨fun n s href hlong => ?_, fun b n s hb hlate => ?_, fun n s hrun hdue => ?_,
    fun n s hc hup hon hlong => ?_, fun n s hlong => ?_⟩
  · exact becomes_of rfl (setvSettled_settles href hlong)
  · exact becomes_of rfl (settleTimeout_gives_up hb hlate)
  · exact becomes_of rfl (burstEnd_of_due hrun hdue)
  · exact becomes_of rfl (linkLost_of_silence hc hup hon hlong)
  · exact becomes_of rfl (throttleIgnored_evaluates hlong)

end Sys2Proof.Machine
end

section
/-! PROOFS. The battery opcodes (R207, R227, R228, R232, spec/08_battery_slots.md). -/

namespace Sys2Proof.Machine

/-! ## What a body reads of the block when it meets its request -/

section
variable (opcode : Nat) (rq : Request) (s : Chip)

@[simp] theorem taken_bat (j : Nat) : (taken opcode rq s).bat j = s.bat j :=
  taken_reads (·.bat j) opcode rq s (fun _ _ => rfl) fun _ _ => rfl
@[simp] theorem taken_batChecks (x : Request) : batChecks x (taken opcode rq s) = batChecks x s :=
  taken_reads (batChecks x) opcode rq s (fun _ _ => rfl) fun _ _ => rfl
@[simp] theorem taken_slotAdmitted (j : Nat) : slotAdmitted (taken opcode rq s) j = slotAdmitted s j :=
  taken_reads (slotAdmitted · j) opcode rq s (fun _ _ => rfl) fun _ _ => rfl
@[simp] theorem taken_slotBridging (j : Nat) : slotBridging (taken opcode rq s) j = slotBridging s j :=
  taken_reads (slotBridging · j) opcode rq s (fun _ _ => rfl) fun _ _ => rfl
@[simp] theorem taken_railOf (j : Nat) : railOf (taken opcode rq s) j = railOf s j :=
  taken_reads (railOf · j) opcode rq s (fun _ _ => rfl) fun _ _ => rfl
@[simp] theorem taken_profileOf (id : Nat) : profileOf (taken opcode rq s) id = profileOf s id :=
  taken_reads (profileOf · id) opcode rq s (fun _ _ => rfl) fun _ _ => rfl
@[simp] theorem taken_batData : batData (taken opcode rq s) = batData s :=
  taken_reads _ opcode rq s (fun _ _ => rfl) fun _ _ => rfl
@[simp] theorem taken_batGetData (j : Nat) : batGetData (taken opcode rq s) j = batGetData s j :=
  taken_reads (batGetData · j) opcode rq s (fun _ _ => rfl) fun _ _ => rfl
@[simp] theorem taken_batRestData (j : Nat) : batRestData (taken opcode rq s) j = batRestData s j :=
  taken_reads (batRestData · j) opcode rq s (fun _ _ => rfl) fun _ _ => rfl

end

/-! ## The bodies whose checks pass -/

/-- The block in which the slot is seated anew, its admission runs, and the BAT_ADMIT waits for the end of it. -/
def admissionAsked (s : Chip) (j : Nat) (r : ReqRef) : Chip :=
  (startAdmission (reseat s j) j).modBat j fun b => { b with admitRefs := b.admitRefs ++ [r] }

/-- The block in which the slot's rail goes out of service, and the BAT_RELEASE waits for the end of that. -/
def releaseAsked (s : Chip) (j : Nat) (r : ReqRef) : Chip :=
  (releaseRail s (railOf s j)).modBat j fun b => { b with releasing := true, releaseRefs := b.releaseRefs ++ [r] }

section
variable {rq : Request} {s : Chip} (r : ReqRef)

section
variable (hc : batChecks rq s = none)
include hc

theorem bodyBatGet_pass : bodyBatGet rq r s = (.reply .ok (batGetData s (arg rq 0 1)), s) := by
  simp only [bodyBatGet, hc]

theorem bodyBatRestGet_pass : bodyBatRestGet rq r s = (.reply .ok (batRestData s (arg rq 0 1)), s) := by
  simp only [bodyBatRestGet, hc]

theorem bodyBatAdmit_of_admitted (hadm : (s.bat (arg rq 0 1)).admState = .admitted) :
    bodyBatAdmit rq r s = (.reply .ok (batData s (arg rq 0 1)), s) := by
  simp only [bodyBatAdmit, hc]
  exact if_pos (by simp [hadm])

theorem bodyBatAdmit_starts (hadm : (s.bat (arg rq 0 1)).admState ≠ .admitted)
    (hident : (s.bat (arg rq 0 1)).admState ≠ .identifying) :
    bodyBatAdmit rq r s = (.reply .accepted (batData (admissionAsked s (arg rq 0 1) r) (arg rq 0 1)),
      admissionAsked s (arg rq 0 1) r) := by
  simp only [bodyBatAdmit, hc]
  exact if_neg (by simp [hadm, hident])

theorem bodyBatRelease_begins (hadm : slotAdmitted s (arg rq 0 1) = true)
    (hbridge : slotBridging s (arg rq 0 1) = false) :
    bodyBatRelease rq r s = (.reply .accepted (batData (releaseAsked s (arg rq 0 1) r) (arg rq 0 1)),
      releaseAsked s (arg rq 0 1) r) := by
  simp only [bodyBatRelease, hc]
  exact if_neg (by simp [hadm, hbridge])

end

theorem bodyBatProfileGet_page0 {p : Profile} (hp : profileOf s (arg rq 0 2) = some p) (hpage : arg rq 2 1 = 0) :
    bodyBatProfileGet rq r s = (.reply .ok (profilePage p), s) := by
  simp only [bodyBatProfileGet, hp]
  exact (if_neg (by simp [hpage])).trans (if_pos hpage)

end

/-- Settles O17: the slot passes its checks, and its ADMIT, or for a release its rail, chooses what the body does; a read
answers its record of the block it met, which is the record of the block before the request was taken. -/
theorem batteryOpcodesComplete : Obligations.BatteryOpcodesComplete := by
  refine ⟨fun rq s h hc => answers_of rfl h ?_, fun rq s h => answers_of rfl h ?_, ?reAdmit, ?newAdmit, ?release,
    fun rq s h hc => answers_of rfl h ?_, fun rq p s h hp hpage => answers_of rfl h ?_⟩
  · simp [bodyBatGet_pass, hc]
  · simp [bodyBatStateAll]
  case reAdmit =>
    rintro rq s h hc hadm _ rfl
    exact serves_of rfl h (by simp [bodyBatAdmit_of_admitted, hc, hadm])
  case newAdmit =>
    rintro rq s h hc hadm hident _ rfl
    exact serves_of rfl h (bodyBatAdmit_starts _ (by simp [hc]) (by simp [hadm]) (by simp [hident]))
  case release =>
    rintro rq s h hc hadm hbridge _ rfl
    exact serves_of rfl h ((bodyBatRelease_begins _ (by simp [hc]) (by simp [hadm]) (by simp [hbridge])).trans
      (by simp [releaseAsked]))
  · simp [bodyBatRestGet_pass, hc]
  · simp [bodyBatProfileGet_page0 _ (p := p), hp, hpage]

end Sys2Proof.Machine
end

section
/-! PROOFS. The battery events: admission, the polls of an admitted slot, its estimator and its marks
(spec/08_battery_slots.md). -/

namespace Sys2Proof.Machine

/-! ## Admission (R206, R207) -/

/-- The values that a command names are those that its slot's reads gave. -/
theorem readGave_self (r : BmsRead) : readGave r r.serial r.profile r.temp = true := by
  simp [readGave]

/-- What the checks of an admission decide (R207): a refusal for the reason found, or a slot that has passed. -/
def admitDecided (s : Chip) (j : Nat) : Option BatRefuse → Chip
  | some why => refuseBat s j why
  | none => s.modBat j fun b => { b with passed := true }

section
variable {s : Chip} {j : Nat}

section
variable (hseek : seeksValues s j = true) (hw : yardWorks s = true) (hf : handFrozen s = false)
include hseek hw hf

theorem admitAttempt_asks (sn : Option (List Byte)) (pr : Option Nat) (t : Option Int) (hread : (s.bat j).read = none)
    (hdue : (s.bat j).attemptDue ≤ s.now) :
    admitAttempt j sn pr t s = beginRead s j false [.serial, .profile, .temp] := by
  unfold admitAttempt
  rw [if_pos (by simp [hseek, hw, hf])]
  simp only [hread]
  exact if_pos hdue

/-- The reads of an admission that have ended are judged. -/
theorem admitAttempt_judges {r : BmsRead} (hread : (s.bat j).read = some r) (hleft : r.left = 0)
    (hpoll : r.poll = false) : admitAttempt j r.serial r.profile r.temp s = admitJudge s j r := by
  unfold admitAttempt
  rw [if_pos (by simp [hseek, hw, hf])]
  simp only [hread]
  exact if_pos (by simp [hleft, hpoll, readGave_self])

end

variable {u : Chip} {r : BmsRead} (hu : u = s.modBat j fun b => { b with read := none })
include hu

/-- Three good values go to the checks of R207 where the member decides. -/
theorem admitJudge_good (hact : isActive s = true) (hident : (s.bat j).admState = .identifying) {sn : List Byte}
    {pr : Nat} {t : Int} (hsn : r.serial = some sn) (hpr : r.profile = some pr) (ht : r.temp = some t) {v : Chip}
    (hv : v = u.modBat j fun b => { b with profile := pr, temp := t, serial := sn }) :
    admitJudge s j r = admitDecided v j (admitCheck v j sn pr t) := by
  have hdecides : (isActive u && (s.bat j).admState == .identifying) = true := by
    subst hu
    simpa [isActive, hident] using hact
  subst hv hu
  simp only [admitJudge, hsn, hpr, ht, hdecides, if_true]
  cases admitCheck _ j sn pr t <;> rfl

section
variable (hbad : r.serial = none ∨ r.profile = none ∨ r.temp = none)
include hbad

/-- Without three good values the attempt counts, and ends the admission where it is the deciding member's third. -/
theorem admitJudge_bad : admitJudge s j r
    = if isActive u && (s.bat j).admState == .identifying && decide (3 ≤ (s.bat j).attempts + 1) then refuseBat u j .noBms
      else u.modBat j fun b => { b with attempts := b.attempts + 1, attemptDue := u.now + 1000000 } := by
  subst hu
  unfold admitJudge
  split
  case h_1 hsn hpr ht => simp [hsn, hpr, ht] at hbad
  case h_2 => simp

theorem admitJudge_third (hact : isActive s = true) (hident : (s.bat j).admState = .identifying)
    (hthird : 3 ≤ (s.bat j).attempts + 1) : admitJudge s j r = refuseBat u j .noBms := by
  have hactive : isActive u = true := by subst hu; exact hact
  exact (admitJudge_bad hu hbad).trans (if_pos (by simp [hactive, hident, hthird]))

theorem admitJudge_again (hfew : ¬ 3 ≤ (s.bat j).attempts + 1) :
    admitJudge s j r = u.modBat j fun b => { b with attempts := b.attempts + 1, attemptDue := u.now + 1000000 } :=
  (admitJudge_bad hu hbad).trans (if_neg (by simp [hfew]))

end

end

theorem admitTempRetry_restarts {s : Chip} {j : Nat} (hadm : (s.bat j).admState = .refused)
    (hwhy : (s.bat j).refuse = .temperature) (hfeed : feedPresent s j = true)
    (hdue : ((s.bat j).tempRetry.any fun t => decide (t ≤ s.now)) = true) :
    admitTempRetry j s = startAdmission s j :=
  if_pos (by simp only [hadm, hwhy, hfeed, hdue]; rfl)

/-! ## The polls of an admitted slot (R209) -/

section
variable {s : Chip} {j : Nat} {c : BatCfg} (hc : batBind s j = some c) (hadm : slotAdmitted s j = true)
include hc hadm

section
variable (hknown : (s.bat j).known = true)
include hknown

section
variable (hw : yardWorks s = true)
include hw

theorem bmsPoll_asks (sn : Option (List Byte)) (t : Option Int) (hread : (s.bat j).read = none)
    (hdue : (s.bat j).pollNext ≤ s.now) :
    bmsPoll j sn t s
      = beginRead (s.modBat j fun b => { b with pollNext := s.now + c.bmsPoll * 1000 }) j true [.temp, .serial] := by
  simp only [bmsPoll, hc]
  rw [if_pos (by simp [hadm, hknown, hw])]
  simp only [hread]
  exact if_pos hdue

/-- The reads of a poll that have ended are judged. -/
theorem bmsPoll_judges {r : BmsRead} (hread : (s.bat j).read = some r) (hleft : r.left = 0) (hpoll : r.poll = true)
    (hpr : r.profile = none) : bmsPoll j r.serial r.temp s = pollJudge s j r := by
  have hgave : readGave r r.serial none r.temp = true := hpr ▸ readGave_self r
  simp only [bmsPoll, hc]
  rw [if_pos (by simp [hadm, hknown, hw])]
  simp only [hread]
  exact if_pos (by simp [hleft, hpoll, hgave])

end

theorem bmsLostSet_of_silence (hheard : (s.bat j).bmsLost = false)
    (hlong : (s.bat j).lastGood + c.bmsLoss * 1000000 ≤ s.now) :
    bmsLostSet j s
      = postBat (evalFault (s.modBat j fun b => { b with bmsLost := true }) (batSource 1 j) true) j 5 [] := by
  simp only [bmsLostSet, hc]
  exact if_pos (by simp [hadm, hknown, hheard, hlong])

end

/-! ## The estimator (R214, R215) and the ends of charge and discharge (R222) -/

theorem restSample_steps (vMean : Int) (hw : yardWorks s = true) (hrest : (s.bat j).resting = true) {k : Nat}
    (hk : k = (s.bat j).est.rest.samples.length) (hfew : k < 10)
    (hdue : (s.bat j).est.rest.start + 2 ^ k * 1000000 ≤ s.now) {u : Chip}
    (hu : u = s.modBat j fun b =>
      { b with est := { b.est with rest := { b.est.rest with samples := b.est.rest.samples ++ [vMean] } } }) :
    restSample j vMean s = if 6 ≤ k then restFitStep u j c else u := by
  subst hk hu
  simp only [restSample, hc]
  exact if_pos (by simp [hadm, hw, hrest, hfew, hdue])

/-- FLOOR sets, and a bridging rail stops its discharge and is armed again. -/
theorem floorSet_of_due (hclear : (s.bat j).floor = false) (hdue : 10 ≤ (s.bat j).floorTicks) {u : Chip}
    (hu : u = postBat (evalFault (s.modBat j fun b => { b with floor := true, soc := 0, floorTicks := 0 })
      (batSource 6 j) true) j 3 []) :
    floorSet j s = if (u.rail c.rail).state == .bridging then
      setRailState ((lanesMid u c.rail).modRail c.rail fun r =>
        { r with chargeSet := 0, idle := true, lp := { r.lp with ref := 0 } }) c.rail .armed [] else u := by
  subst hu
  simp only [floorSet, hc]
  exact if_pos (by simp [hadm, hclear, hdue])

end

section
variable {s : Chip} {j : Nat} {r : BmsRead}

theorem pollJudge_good {sn : List Byte} {t : Int} (hsn : r.serial = some sn) (ht : r.temp = some t) {u v w : Chip}
    (hu : u = s.modBat j fun b => { b with read := none })
    (hv : v = setLive (u.modBat j fun b => { b with lastGood := u.now, temp := t, bmsLost := false }) (batSource 1 j) false)
    (hw : w = if (u.bat j).bmsLost then postBat v j 5 [] else v) :
    pollJudge s j r = if sn != (w.bat j).serial && isActive w then
      closeSlot (setFault w (batSource 2 j)) j .serialChanged else tempLimitStep w j := by
  subst hw hv hu
  simp only [pollJudge, hsn, ht]

theorem pollJudge_bad (hbad : r.serial = none ∨ r.temp = none) :
    pollJudge s j r = s.modBat j fun b => { b with read := none } := by
  unfold pollJudge
  split
  case h_1 hsn ht => simp [hsn, ht] at hbad
  case h_2 => rfl

variable (hadm : slotAdmitted s j = true)
include hadm

theorem estimatorStep_of_due (hm : meteringRuns s = true) (hw : yardWorks s = true) (hdue : stepDue (s.bat j) ≤ s.now)
    (hfirst : firstDue s j = true) : estimatorStep j s = estStep s j (s.bat j).est.pCmd :=
  if_pos (by simp [hadm, hm, hw, hdue, hfirst])

theorem ceilingSet_of_due (hclear : (s.bat j).ceiling = false) (hdue : 10 ≤ (s.bat j).ceilTicks) :
    ceilingSet j s = postBat (s.modBat j fun b => { b with ceiling := true, ceilSoc := b.soc, ceilTicks := 0 }) j 3 [] :=
  if_pos (by simp [hadm, hclear, hdue])

theorem termLossSet_closes (hlost : 4 ≤ (s.bat j).lowTicks ∨ 2 ≤ (s.bat j).badTicks) :
    termLossSet j s = closeSlot (setFault s (batSource 3 j)) j .termLoss :=
  if_pos (by simpa [hadm] using hlost)

end

/-- Settles O25: each event is due, so its action is taken; a command that names the values its slot's reads gave is judged
by whether they are all there. -/
theorem batteryEventsAct : Obligations.BatteryEventsAct := by
  refine ⟨?ask, ?good, ?third, ?again, ?tempRetry, ?pollAsk, ?pollGood, ?pollBad, ?lost, ?estimate, ?rest, ?ceiling,
    ?floor, ?floorBridging, ?termLoss⟩
  case ask =>
    intro sn pr t j s hseek hw hf hread hdue
    exact becomes_of rfl (admitAttempt_asks hseek hw hf sn pr t hread hdue)
  case good =>
    intro u v sn pr t r j s hseek hident hact hw hf hread hleft hpoll hsn hpr ht hu hv
    have hjudge := admitAttempt_judges hseek hw hf hread hleft hpoll
    rw [hsn, hpr, ht, admitJudge_good hu hact hident hsn hpr ht hv] at hjudge
    refine becomes_of rfl (hjudge.trans ?_)
    cases admitCheck v j sn pr t <;> rfl
  case third =>
    intro u r j s hseek hident hact hw hf hread hleft hpoll hbad hthird hu
    exact becomes_of rfl ((admitAttempt_judges hseek hw hf hread hleft hpoll).trans
      (admitJudge_third hu hbad hact hident hthird))
  case again =>
    intro u r j s hseek hw hf hread hleft hpoll hbad hfew hu
    exact becomes_of rfl ((admitAttempt_judges hseek hw hf hread hleft hpoll).trans (admitJudge_again hu hbad hfew))
  case tempRetry =>
    intro j s hadm hwhy hfeed hdue
    exact becomes_of rfl (admitTempRetry_restarts hadm hwhy hfeed hdue)
  case pollAsk =>
    intro sn t c j s hc hadm hknown hw hread hdue
    exact becomes_of rfl (bmsPoll_asks hc hadm hknown hw sn t hread hdue)
  case pollGood =>
    intro u v w sn t r c j s hc hadm hknown hw hread hleft hpoll hpr hsn ht hu hv hw'
    have hjudge := bmsPoll_judges hc hadm hknown hw hread hleft hpoll hpr
    rw [hsn, ht] at hjudge
    exact becomes_of rfl (hjudge.trans (pollJudge_good hsn ht hu hv hw'))
  case pollBad =>
    intro r c j s hc hadm hknown hw hread hleft hpoll hpr hbad
    exact becomes_of rfl ((bmsPoll_judges hc hadm hknown hw hread hleft hpoll hpr).trans (pollJudge_bad hbad))
  case lost =>
    intro c j s hc hadm hknown hheard hlong
    exact becomes_of rfl (bmsLostSet_of_silence hc hadm hknown hheard hlong)
  case estimate =>
    intro j s hadm hm hw hdue hfirst
    exact becomes_of rfl (estimatorStep_of_due hadm hm hw hdue hfirst)
  case rest =>
    intro k u c j vMean s hc hadm hw hrest hk hfew hdue hu
    exact becomes_of rfl (restSample_steps hc hadm vMean hw hrest hk hfew hdue hu)
  case ceiling =>
    intro j s hadm hclear hdue
    exact becomes_of rfl (ceilingSet_of_due hadm hclear hdue)
  case floor =>
    intro u c j s hc hadm hclear hdue hu hother
    exact becomes_of rfl ((floorSet_of_due hc hadm hclear hdue hu).trans (if_neg (by simpa using hother)))
  case floorBridging =>
    intro u c j s hc hadm hclear hdue hu hbridging
    exact becomes_of rfl ((floorSet_of_due hc hadm hclear hdue hu).trans (if_pos (by simpa using hbridging)))
  case termLoss =>
    intro j s hadm hlost
    exact becomes_of rfl (termLossSet_closes hadm hlost)

end Sys2Proof.Machine
end

section
/-! PROOFS. The metering and ledger opcodes, and the signing engine at a tick boundary (R257, R258, R261, R263, R297,
spec/09_metering_and_ledger.md). -/

namespace Sys2Proof.Machine

/-! ## What a body reads of the block when it meets its request -/

section
variable (opcode : Nat) (rq : Request) (s : Chip)

@[simp] theorem taken_hall : (taken opcode rq s).hall = s.hall :=
  taken_reads _ opcode rq s (fun _ _ => rfl) fun _ _ => rfl
@[simp] theorem taken_ledger : (taken opcode rq s).ledger = s.ledger :=
  taken_reads _ opcode rq s (fun _ _ => rfl) fun _ _ => rfl
@[simp] theorem taken_mram : (taken opcode rq s).mram = s.mram :=
  taken_reads _ opcode rq s (fun _ _ => rfl) fun _ _ => rfl
@[simp] theorem taken_meter (o : Nat) : (taken opcode rq s).meter o = s.meter o :=
  taken_reads (·.meter o) opcode rq s (fun _ _ => rfl) fun _ _ => rfl
@[simp] theorem taken_meterBook : (taken opcode rq s).meterBook = s.meterBook :=
  taken_reads _ opcode rq s (fun _ _ => rfl) fun _ _ => rfl
@[simp] theorem taken_meteringRuns : meteringRuns (taken opcode rq s) = meteringRuns s :=
  taken_reads _ opcode rq s (fun _ _ => rfl) fun _ _ => rfl
@[simp] theorem taken_meterGetData (o : Nat) (own : Bool) :
    meterGetData (taken opcode rq s) o own = meterGetData s o own :=
  taken_reads (meterGetData · o own) opcode rq s (fun _ _ => rfl) fun _ _ => rfl
@[simp] theorem taken_ledgerWord : ledgerWord (taken opcode rq s) = ledgerWord s :=
  taken_reads _ opcode rq s (fun _ _ => rfl) fun _ _ => rfl
@[simp] theorem taken_ledgerInfoData : ledgerInfoData (taken opcode rq s) = ledgerInfoData s :=
  taken_reads _ opcode rq s (fun _ _ => rfl) fun _ _ => rfl

/-- Whether entries can be read depends on the MRAM and the ledger's position alone. -/
theorem entriesBad_congr {s t : Chip} (hmram : t.mram = s.mram) (hledger : t.ledger = s.ledger) (es : List LedgerEntry)
    (n : Nat) : entriesBad t es n = entriesBad s es n := by
  induction es generalizing n with
  | nil => rfl
  | cons e es ih => simp only [entriesBad, hmram, hledger, ih]

@[simp] theorem taken_entriesBad (es : List LedgerEntry) (n : Nat) :
    entriesBad (taken opcode rq s) es n = entriesBad s es n :=
  entriesBad_congr (taken_mram opcode rq s) (taken_ledger opcode rq s) es n

end

/-- `answers_of` for a reply that may be marked as followed by more. -/
theorem answers_of_page {c : Request → Instr} {opcode : Nat} {row : OpRow} {body : Body} {rq : Request} {s : State}
    {st : Status} {data : List Byte} {more : Bool} (he : exec (c rq) s = .next (s.on (serve opcode row body rq)))
    (h : Admitted opcode row rq s.chip)
    (hb : body rq (refOf rq s.chip) (taken opcode rq s.chip) = (.reply st data more, taken opcode rq s.chip)) :
    Answers c rq s st data :=
  completes_serve he (serve_answers opcode body st data more h hb)

/-- A request whose body answers later leaves what the body makes of the block. -/
theorem becomes_of_later {c : Instr} {opcode : Nat} {row : OpRow} {body : Body} {rq : Request} {s : State} {u : Chip}
    (he : exec c s = .next (s.on (serve opcode row body rq))) (h : Admitted opcode row rq s.chip)
    (hb : body rq (refOf rq s.chip) (taken opcode rq s.chip) = (.later, u)) : Becomes c s u :=
  becomes_of he (serve_later opcode body h hb)

/-! ## The bodies whose checks pass -/

section
variable {rq : Request} {s : Chip} (r : ReqRef)

theorem bodyMeterGet_pass (hobj : isObject (arg rq 0 1) = true) (hown : arg rq 1 1 ≤ 1) :
    bodyMeterGet rq r s = (.reply .ok (meterGetData s (arg rq 0 1) (arg rq 1 1 == 1)), s) :=
  if_neg (by simp [hobj, hown])

theorem bodyMeterAll_run (hobj : isObject (arg rq 0 1) = true) (hsome : 1 ≤ arg rq 1 1)
    (hrun : arg rq 0 1 + arg rq 1 1 ≤ 44) (hfit : arg rq 1 1 ≤ unitsThatFit rq.port 0 16) :
    bodyMeterAll rq r s = (.reply .ok ((List.range (arg rq 1 1)).flatMap fun k =>
      le 8 (s.meter (arg rq 0 1 + k)).imp ++ le 8 (s.meter (arg rq 0 1 + k)).exp)
      (decide (arg rq 0 1 + arg rq 1 1 < 44)), s) := by
  have hcount : arg rq 1 1 ≠ 0 := Nat.ne_of_gt hsome
  unfold bodyMeterAll
  simp only [hcount, if_false]
  rw [if_neg (by simp [hobj]), if_neg (by simp [hrun, hfit])]

theorem bodyLedgerSnapshot_waits (hm : meteringRuns s = true) :
    bodyLedgerSnapshot rq r s
      = (.later, s.setLedger fun l => { l with work := { l.work with hosts := l.work.hosts ++ [r] } }) :=
  if_neg (by simp [hm])

section
variable {last : Nat} (hlast : lastCommitted s.ledger = some last) (hin : arg rq 0 4 ≤ last)
include hlast hin

theorem bodyLedgerRead_readable (hcount : arg rq 4 2 ≠ 0) {held es : List LedgerEntry}
    (hheld : held = s.ledger.entries.filter fun e => arg rq 0 4 ≤ e.seq)
    (hes : es = entriesThatFit held (portLimit rq.port - 4) (arg rq 4 2)) (hreads : entriesBad s held es.length = false) :
    bodyLedgerRead rq r s = (.reply .ok (le 2 es.length ++ zeros 2 ++ es.flatMap entryBytes)
      (decide (es.length < held.length)), s) := by
  subst hes hheld
  simp only [bodyLedgerRead, hlast, hcount, if_false]
  rw [if_neg (by simpa using hin), if_neg (by simp [hreads])]

theorem bodyLedgerAck_of_acked (hacked : isAcked s.ledger (arg rq 0 4) = true) :
    bodyLedgerAck rq r s = (.reply .ok (le 4 (ledgerWord s)), s) := by
  simp only [bodyLedgerAck, hlast]
  rw [if_neg (Nat.not_lt.mpr hin), if_pos hacked]

/-- The acknowledgement moves up to the record. -/
theorem bodyLedgerAck_advances (hnew : isAcked s.ledger (arg rq 0 4) = false) {u : Chip}
    (hu : u = nearFullStep (writePos s { s.ledger.pos with ack := some (arg rq 0 4) })) :
    bodyLedgerAck rq r s = (.reply .ok (le 4 (ledgerWord u)), u) := by
  subst hu
  simp only [bodyLedgerAck, hlast]
  rw [if_neg (Nat.not_lt.mpr hin), if_neg (by simp [hnew])]

end

theorem bodyLedgerAck_beyond (hlast : ((lastCommitted s.ledger).all fun last => last < arg rq 0 4) = true) :
    bodyLedgerAck rq r s = (.reply .outOfRange [], s) := by
  unfold bodyLedgerAck
  cases hcommitted : lastCommitted s.ledger with
  | none => rfl
  | some last => exact if_pos (by simpa [hcommitted] using hlast)

end

/-! ## The oldest LEDGER_ATTEST at a tick boundary (R297) -/

section
variable {a : AttestReq} {rest : List AttestReq} {s u : Chip} (hwait : s.ledger.attests = a :: rest)
include hwait

section
variable (hu : u = s.drawn.setLedger fun l => { l with attests := rest })
include hu

theorem attestTick_late (hlate : a.tick + 50000 ≤ s.now) : attestTick s = formReply u a.ref .busyRetry [] := by
  subst hu
  simp only [attestTick, hwait]
  exact if_pos hlate

theorem attestTick_signed (hearly : s.now < a.tick + 50000) (hdone : s.draw % 2 = 1) :
    attestTick s = formReply u a.ref .ok (attestData s.drawn a.nonce) := by
  subst hu
  simp only [attestTick, hwait]
  exact (if_neg (Nat.not_le.mpr hearly)).trans (if_pos (by simp [hdone]))

end

theorem attestTick_waits (hearly : s.now < a.tick + 50000) (hbusy : s.draw % 2 ≠ 1) : attestTick s = s.drawn := by
  simp only [attestTick, hwait]
  exact (if_neg (Nat.not_le.mpr hearly)).trans (if_neg (by simpa using hbusy))

end

/-- Settles O18: each body's checks pass, so it answers its record of the block before the request was taken; the last
committed record and the acknowledgement choose what LEDGER_ACK does, and the age of a LEDGER_ATTEST and the engine what a
boundary does with it. -/
theorem meterAndLedgerOpcodesRead : Obligations.MeterAndLedgerOpcodesRead := by
  refine ⟨fun rq s h hobj hown => answers_of rfl h ?_, ?all,
    fun rq s h => answers_of rfl h ?_, fun rq s h => answers_of rfl h ?_, ?read,
    fun rq last s h hlast hin hacked => answers_of rfl h ?_, ?ack, fun rq s h hlast => answers_of rfl h ?_,
    fun rq s h => becomes_of_later rfl h ?_, ?attest, fun rq s h hm => becomes_of_later rfl h ?_⟩
  · simp [bodyMeterGet_pass, hobj, hown]
  case all =>
    intro rq s h hobj hsome hrun hfit
    exact answers_of_page (more := decide (arg rq 0 1 + arg rq 1 1 < 44)) rfl h
      ((bodyMeterAll_run _ hobj hsome hrun hfit).trans (by simp))
  · simp [bodyShelfTotalsGet]
  · simp [bodyLedgerInfo]
  case read =>
    intro rq last s h hlast hin hcount es hes hreads
    exact answers_of_page rfl h (bodyLedgerRead_readable _ (by simpa using hlast) hin hcount rfl (by simpa using hes)
      (by simpa using hreads))
  · exact (bodyLedgerAck_of_acked _ (by simpa using hlast) hin (by simpa using hacked)).trans (by simp)
  case ack =>
    intro rq last s h hlast hin hnew u hu
    exact serves_of rfl h
      (bodyLedgerAck_advances _ (by simpa using hlast) hin (by simpa using hnew) (by simpa using hu))
  · exact bodyLedgerAck_beyond _ (by simpa using hlast)
  · simp [bodyLedgerAttest]
  case attest =>
    intro a rest s hwait u hu
    exact ⟨attestTick_late hwait hu, attestTick_signed hwait hu, attestTick_waits hwait⟩
  · exact bodyLedgerSnapshot_waits _ (by simpa using hm)

end Sys2Proof.Machine
end

section
/-! PROOFS. The metering and ledger events (R236, R237, R240, R244, R247, R252, R256, spec/09_metering_and_ledger.md). -/

namespace Sys2Proof.Machine

section
variable {s : Chip} {o : Nat} {c : MeterCfg} (hc : meterCfg s o = some c) (hm : meteringRuns s = true)
include hc hm

/-! ## A sample (R236, R237, R240) -/

/-- The first sample of an object at its multiple of 800 of hall time is judged and added. -/
theorem meterSample_of_due (vs vm : Int) (hhall : s.hall % 800 = 0) (hfirst : (s.meter o).sampled ≠ some s.now) {u : Chip}
    {i p : Int}
    (hu : u = calSample (overrange s o (atEnd (-160000000) 160000000 vs) (atEnd (-1000000000) 88000000000 vm)) o
      (clampCurrent vs) (clampVoltage vm))
    (hi : i = if (sampleCurrent c (shuntTemp c (u.meter o)) (clampCurrent vs)).natAbs < 1000 * c.creepI then 0
      else sampleCurrent c (shuntTemp c (u.meter o)) (clampCurrent vs))
    (hp : p = roundAway (sampleVoltage c (clampVoltage vm) * i) 1000000) :
    meterSample o vs vm s = addEnergy (u.modMeter o fun m => { m with
      window := ((sampleVoltage c (clampVoltage vm), i, p) :: m.window).take 125, updated := u.hall, sampled := some u.now })
      o (8 * p) := by
  subst hp hi hu
  simp only [meterSample, hc]
  exact if_pos (by simp [hm, hhall, hfirst])

/-! ## The shunt temperature (R244) -/

section
variable (htherm : (c.shuntTherm != 0xFF) = true) (htaken : (tget s.hk c.shuntTherm).taken = true)
  (hdue : (s.meter o).nextRead ≤ s.now)
include htherm htaken hdue

/-- A reading in range is taken, where the compensation stands. -/
theorem shuntTempRead_inRange {q : Int}
    (ht : (thermTemp s c.shuntTherm (tget s.hk c.shuntTherm).uV).filter
      (fun t => decide (-4000 ≤ t) && decide (t ≤ 15000)) = some q) (hstands : (s.meter o).compLost = false) :
    shuntTempRead o s = evalFault (s.modMeter o fun m => { m with
      nextRead := s.now + 100000, temp := some q, compLost := false, okSince := none,
      flags := { m.flags with comp := m.flags.comp || m.compLost },
      shelfFlags := { m.shelfFlags with comp := m.shelfFlags.comp || m.compLost } }) (0x0840 + o) false := by
  simp only [shuntTempRead, hc, ht]
  rw [if_pos (by simp [hm, htherm, htaken, hdue])]
  simp [hstands]

/-- A reading out of range loses the compensation. -/
theorem shuntTempRead_outOfRange
    (ht : (thermTemp s c.shuntTherm (tget s.hk c.shuntTherm).uV).filter
      (fun t => decide (-4000 ≤ t) && decide (t ≤ 15000)) = none) :
    shuntTempRead o s = evalFault (s.modMeter o fun m => { m with
      nextRead := s.now + 100000, compLost := true, okSince := none, flags := { m.flags with comp := true },
      shelfFlags := { m.shelfFlags with comp := true } }) (0x0840 + o) true := by
  simp only [shuntTempRead, hc, ht]
  rw [if_pos (by simp [hm, htherm, htaken, hdue])]
  simp

end

end

/-! ## The checkpoint, the close of a period, and the commit (R247, R252, R256) -/

section
variable {s : Chip}

theorem checkpoint_of_due (hy : yardAlive s = true) (hdue : s.meterBook.ckNext ≤ s.now) :
    checkpoint s = writeCheckpoint s :=
  if_pos (by simp [hy, hdue])

theorem ledgerPeriodClose_of_due (hdue : periodDue s = true) (hstill : stillDue s = false)
    (htakes : takeoverDue s = false) : ledgerPeriodClose s = ledgerBoundary s :=
  if_pos (by simp [hdue, hstill, htakes])

theorem ledgerCommit_of_alive (signGood : Bool) (hy : yardAlive s = true) : ledgerCommit signGood s = commitOne s signGood :=
  if_pos hy

end

/-- Settles O26: each event is due, so its action is taken; the thermistor's reading decides whether the compensation
stands. -/
theorem meteringEventsAct : Obligations.MeteringEventsAct := by
  refine ⟨?sample, ?inRange, ?outOfRange, fun s hy hdue => becomes_of rfl (checkpoint_of_due hy hdue),
    fun s hdue hstill htakes => becomes_of rfl (ledgerPeriodClose_of_due hdue hstill htakes),
    fun signGood s hy => becomes_of rfl (ledgerCommit_of_alive signGood hy)⟩
  case sample =>
    rintro u _ i p c o vs vm s hc hm hhall hfirst hu rfl hi hp
    exact becomes_of rfl (meterSample_of_due hc hm vs vm hhall hfirst hu hi hp)
  case inRange =>
    intro c q o s hc hm htherm htaken hdue ht hstands
    exact becomes_of rfl (shuntTempRead_inRange hc hm htherm htaken hdue ht hstands)
  case outOfRange =>
    intro c o s hc hm htherm htaken hdue ht
    exact becomes_of rfl (shuntTempRead_outOfRange hc hm htherm htaken hdue ht)

end Sys2Proof.Machine
end

section
/-! PROOFS. The sensing events: the sequences, the housekeeping scan, the window monitors and the capture timers
(spec/10_sense_and_compare.md). -/

namespace Sys2Proof.Machine

/-! ## The sequences and the housekeeping scan (R269, R270, R273, R275) -/

section
variable {s : Chip} {k : Nat}

theorem seqConversion_takes {g : SeqCfg} {pos : Nat} {nv : Int} (hg : seqInForce s k = some g)
    (hruns : (s.seq k).state = .running ∨ inProgress s (s.seq k) pos = true) (hslot : takesSlot s k g pos = true)
    {d : SeqStep} {o : Bool × Chip} {z : Nat} {w : Chip} (hd : d = tget g.steps (s.seq k).step)
    (ho : o = sarOvr s d.diff nv)
    (hz : z = dmaWord o.1 (sarUnder d.diff nv) d.input (k + pos % 2) (s.seq k).step (sarFormat d.format (sarCode d.diff nv)))
    (hw : w = captureWord (ringWrite o.2 k g z) k g z) :
    seqConversion k pos nv s = w.modSeq k fun q =>
      { q with step := if q.step + 1 < g.steps.length then q.step + 1 else 0, final := q.state == .stopping,
               frame := frameTick w + 1, last := some (frameTick w, pos) } := by
  subst hw hz ho hd
  simp only [seqConversion, hg]
  exact if_pos (by simpa [hslot] using hruns)

/-- The stop ends with its event and its replies; then a start that waited begins. -/
theorem seqStopComplete_ends (hstop : (s.seq k).state = .stopping) (hword : awaitsWord s k = false) {u p v : Chip}
    (hu : u = s.modSeq k fun q => { q with state := .stopped, refs := [], old := none, zero := false })
    (hp : p = post u 0x07 (measBody u 1 k 0 0 (s.seq k).wptr) (allWith (s.seq k).refs .ok))
    (hv : v = if (s.seq k).zero then seqZero p k else p) :
    seqStopComplete k s = if (s.seq k).startPend then seqBegin v k else v := by
  subst hv hp hu
  exact if_pos (by simp [hstop, hword])

end

/-- A reading that the scan has come to enters its record and goes to the Yard. -/
theorem housekeepingReading_of_due {s : Chip} {i : Nat} (v : List Int) (hmode : s.mode.mode ≠ .off)
    (hnext : scanNext s = some i) (hready : scanReady s = true) {sum : Int} {o : Bool × Chip}
    (hsum : sum = v.foldl (fun a x => a + sarCode false x) 0)
    (ho : o = v.foldl (fun (a : Bool × Chip) x => (a.1 || (sarOvr a.2 false x).1, (sarOvr a.2 false x).2)) (false, s)) :
    housekeepingReading i v s = queueSlow { o.2 with
      hk := tset o.2.hk i { taken := true, uV := roundAway (sum * 2500000) (16384 * 4), code := rdiv sum 4, ovr := o.1,
                            hall := o.2.hall, tick := o.2.now },
      sense := { o.2.sense with hkLast := some (i, o.2.now) } } := by
  subst ho hsum
  exact if_pos (by simp [hmode, hnext, hready])

/-! ## The window monitors (R277, R278, R279) -/

/-- The Yard is alive in neither OFF nor WAKE (R36). -/
theorem mode_of_yardAlive {s : Chip} (hy : yardAlive s = true) : s.mode.mode ≠ .off ∧ s.mode.mode ≠ .wake := by
  constructor <;> intro hmode <;> simp [yardAlive, hmode] at hy

section
variable {s : Chip} {m : Nat} {held : HeldInput} {lvl : Level} (halive : s.ostler.alive = true)
  (hlvl : lvl = compareLevel (s.mon m).level (monSettings s m).low (monSettings s m).high held.uV)
  (hnew : (s.mon m).level ≠ lvl) (hsettled : settles s m = false)

include halive hlvl hnew hsettled

theorem levelChange_of_yardAlive (st : Straps) (hy : yardAlive s = true) {c : MonCfg} (hc : monCfg s m = some c)
    (hheld : (monSettings s m).deglitch ≤ heldFor s m held.cycles) :
    levelChange m held st s = if (decide (m < 4) && wakesOn (monSettings s m) (s.mon m).level lvl) = true
      then requestWake st (setLevel s m c lvl) else setLevel s m c lvl := by
  obtain ⟨hoff, hwake⟩ := mode_of_yardAlive hy
  subst hlvl
  unfold levelChange
  rw [if_neg (by simp [hnew, halive, hsettled, hy, hheld])]
  split
  next hmode => exact absurd hmode hoff
  next hmode => exact absurd hmode hwake
  next => simp only [hc]

/-- In OFF the level of WM0 to WM3 moves, and nothing else acts on it but the wake. -/
theorem levelChange_of_off (st : Straps) (hoff : s.mode.mode = .off) (hm : m < 4)
    (hheld : (monSettings s m).deglitch ≤ held.cycles / 50) :
    levelChange m held st s = if wakesOn (monSettings s m) (s.mon m).level lvl = true
      then requestWake st (moveLevel m lvl s) else moveLevel m lvl s := by
  have hy : yardAlive s = false := yardAlive_of_off hoff
  subst hlvl
  unfold levelChange
  rw [if_neg (by simp [hnew, halive, hsettled, hy, hoff, hheld])]
  simp [hoff, hm]

end

theorem windowDeferred_of_due {s : Chip} {m : Nat} (hy : yardAlive s = true) (hwait : (s.mon m).deferred = true)
    (hevent : (monCfg s m).any MonCfg.event = true)
    (hdue : (s.mon m).lastEvent.all (fun t => decide (t + 1000 ≤ s.now)) = true) :
    windowDeferred m s = windowEvent s m :=
  if_pos (by simp only [hy, hwait, hevent, hdue]; rfl)

/-! ## The capture timers (R282) -/

/-- A timer's trigger leaves the timers as they were. -/
@[simp] theorem trigTimer_cap (s : Chip) (x : Fin 16) (t : Nat) : (trigTimer s x).cap t = s.cap t :=
  congrArg (tget · t) (trigWhere_onlyFaultParts s _ _ .caps (by decide))

/-- The timer `t`, armed on `src`, takes an edge to `lvl` at the hall time `at_`. -/
structure TakesStamp (s : Chip) (t : Nat) (src lvl : Byte) (at_ : Nat) : Prop where
  runs : studioRuns s = true
  armed : (s.cap t).armed = true
  sourced : src ≠ 0#8
  source : (s.cap t).source = src
  fresh : edgeFresh s (s.cap t) = true
  lo : s.hall ≤ at_ + 1
  hi : at_ ≤ s.hall + 100
  level : lvl.toNat = stampLevel s src.toNat
  edge : edgeTakes s (s.cap t) lvl.toNat = true

/-- The block in which the timer's trigger has acted, and the timer holds what it has stamped. -/
def stampMarked (s : Chip) (t : Nat) (src : Byte) : Chip :=
  (trigTimer s (Fin.ofNat 16 t)).modCap t fun c => { c with seen := captureMark s src.toNat }

@[simp] theorem stampMarked_fifo (s : Chip) (t : Nat) (src : Byte) : ((stampMarked s t src).cap t).fifo = (s.cap t).fifo := by
  simp [stampMarked]

section
variable {s : Chip} {t : Nat} {src lvl : Byte} {at_ n : Nat} (h : TakesStamp s t src lvl at_)
  (hn : n = ((s.cap t).count + 1) % 256)
include h hn

/-- A stamp that is taken enters the FIFO, or is counted as lost where that is full. -/
theorem captureStamp_takes : captureStamp t src lvl at_ s =
    if ((stampMarked s t src).cap t).fifo.length < 8 then
      (stampMarked s t src).modCap t fun c =>
        { c with count := n, fifo := c.fifo ++ [{ hall := at_, level := lvl, count := n }] }
    else setFault ((stampMarked s t src).modCap t fun c => { c with count := n, overflow := min 255 (c.overflow + 1) })
      (0x0920 + t) := by
  subst hn
  obtain ⟨hruns, harmed, hsourced, hsource, hfresh, hlo, hhi, hlevel, hedge⟩ := h
  exact if_pos (by simp [hruns, harmed, hsourced, hsource, hfresh, hlo, hhi, ← hlevel, hedge])

theorem captureStamp_room (hroom : (s.cap t).fifo.length < 8) : captureStamp t src lvl at_ s =
    (stampMarked s t src).modCap t fun c =>
      { c with count := n, fifo := c.fifo ++ [{ hall := at_, level := lvl, count := n }] } :=
  (captureStamp_takes h hn).trans (if_pos (by simpa using hroom))

theorem captureStamp_full (hfull : 8 ≤ (s.cap t).fifo.length) : captureStamp t src lvl at_ s =
    setFault ((stampMarked s t src).modCap t fun c => { c with count := n, overflow := min 255 (c.overflow + 1) })
      (0x0920 + t) :=
  (captureStamp_takes h hn).trans (if_neg (by simpa using hfull))

end

/-- Settles O28: each event's condition holds, so its action is taken; the mode decides where a new level goes, and the
room in the FIFO what becomes of a stamp. -/
theorem senseEventsAct : Obligations.SenseEventsAct := by
  refine ⟨?conversion, ?stopComplete, ?reading, ?level, ?levelInOff, ?deferred, ?stampRoom, ?stampFull⟩
  case conversion =>
    intro d o z w g k pos nv s hg hruns hslot hd ho hz hw
    exact becomes_of rfl (seqConversion_takes hg hruns hslot hd ho hz hw)
  case stopComplete =>
    intro u v k s hstop hword hu hv
    exact becomes_of rfl (seqStopComplete_ends hstop hword hu rfl hv)
  case reading =>
    intro sum o inp c0 c1 c2 c3 s hmode hnext hready hsum ho
    exact becomes_of rfl (housekeepingReading_of_due [c0, c1, c2, c3] hmode hnext hready hsum ho)
  case level =>
    rintro c _ lvl m held st s hy halive hc rfl hlvl hnew hsettled hheld
    exact becomes_of rfl (levelChange_of_yardAlive halive hlvl hnew hsettled st hy hc hheld)
  case levelInOff =>
    rintro _ lvl m held st s hoff halive hm rfl hlvl hnew hsettled hheld _ rfl
    exact becomes_of rfl (levelChange_of_off halive hlvl hnew hsettled st hoff hm hheld)
  case deferred =>
    intro m s hy hwait hevent hdue
    exact becomes_of rfl (windowDeferred_of_due hy hwait hevent hdue)
  case stampRoom =>
    rintro n _ t src lvl at_ s hlevel hruns harmed hsourced hsource hfresh hlo hhi hedge hn rfl hroom
    exact becomes_of rfl (captureStamp_room ⟨hruns, harmed, hsourced, hsource, hfresh, hlo, hhi, hlevel, hedge⟩ hn hroom)
  case stampFull =>
    rintro n _ t src lvl at_ s hlevel hruns harmed hsourced hsource hfresh hlo hhi hedge hn rfl hfull
    exact becomes_of rfl (captureStamp_full ⟨hruns, harmed, hsourced, hsource, hfresh, hlo, hhi, hlevel, hedge⟩ hn hfull)

end Sys2Proof.Machine
end

section
/-! PROOFS. The sensing opcodes (R285, spec/10_sense_and_compare.md). -/

namespace Sys2Proof.Machine

/-! ## What a body reads of the block when it meets its request -/

section
variable (opcode : Nat) (rq : Request) (s : Chip)

@[simp] theorem taken_sense : (taken opcode rq s).sense = s.sense :=
  taken_reads _ opcode rq s (fun _ _ => rfl) fun _ _ => rfl
@[simp] theorem taken_hk : (taken opcode rq s).hk = s.hk :=
  taken_reads _ opcode rq s (fun _ _ => rfl) fun _ _ => rfl
@[simp] theorem taken_seq (k : Nat) : (taken opcode rq s).seq k = s.seq k :=
  taken_reads (·.seq k) opcode rq s (fun _ _ => rfl) fun _ _ => rfl
@[simp] theorem taken_mon (m : Nat) : (taken opcode rq s).mon m = s.mon m :=
  taken_reads (·.mon m) opcode rq s (fun _ _ => rfl) fun _ _ => rfl
@[simp] theorem taken_cap (t : Nat) : (taken opcode rq s).cap t = s.cap t :=
  taken_reads (·.cap t) opcode rq s (fun _ _ => rfl) fun _ _ => rfl
@[simp] theorem taken_seqCfg (k : Nat) : seqCfg (taken opcode rq s) k = seqCfg s k :=
  taken_reads (seqCfg · k) opcode rq s (fun _ _ => rfl) fun _ _ => rfl
@[simp] theorem taken_seqInForce (k : Nat) : seqInForce (taken opcode rq s) k = seqInForce s k :=
  taken_reads (seqInForce · k) opcode rq s (fun _ _ => rfl) fun _ _ => rfl
@[simp] theorem taken_monCfg (m : Nat) : monCfg (taken opcode rq s) m = monCfg s m :=
  taken_reads (monCfg · m) opcode rq s (fun _ _ => rfl) fun _ _ => rfl
@[simp] theorem taken_inScan (i : Nat) : inScan (taken opcode rq s) i = inScan s i :=
  taken_reads (inScan · i) opcode rq s (fun _ _ => rfl) fun _ _ => rfl
@[simp] theorem taken_measWord : measWord (taken opcode rq s) = measWord s :=
  taken_reads _ opcode rq s (fun _ _ => rfl) fun _ _ => rfl
@[simp] theorem taken_seqData (k : Nat) : seqData (taken opcode rq s) k = seqData s k :=
  taken_reads (seqData · k) opcode rq s (fun _ _ => rfl) fun _ _ => rfl
@[simp] theorem taken_runWords (g : SeqCfg) (run : Nat × Nat) : runWords (taken opcode rq s) g run = runWords s g run :=
  taken_reads (runWords · g run) opcode rq s (fun _ _ => rfl) fun _ _ => rfl
@[simp] theorem taken_captureMark (src : Nat) : captureMark (taken opcode rq s) src = captureMark s src :=
  taken_reads (captureMark · src) opcode rq s (fun _ _ => rfl) fun _ _ => rfl

end

/-- `serves_of` for a reply that may be marked as followed by more. -/
theorem serves_of_page {c : Request → Instr} {opcode : Nat} {row : OpRow} {body : Body} {rq : Request} {s : State}
    {u : Chip} {st : Status} {data : List Byte} {more : Bool}
    (he : exec (c rq) s = .next (s.on (serve opcode row body rq))) (h : Admitted opcode row rq s.chip)
    (hb : body rq (refOf rq s.chip) (taken opcode rq s.chip) = (.reply st data more, u)) :
    Serves c rq s u st data more :=
  becomes_of he (by rw [serve_of opcode body h, hb]; rfl)

/-! ## The bodies whose checks pass -/

/-- What CAP_ARM makes of its timer: a timer that it disarms loses its stamps and their count (R285). -/
def timerSet (s : Chip) (rq : Request) (c : CapTimer) : CapTimer :=
  let arm := arg rq 3 1 % 2 == 1
  let c := { c with source := BitVec.ofNat 8 (arg rq 1 1), seen := captureMark s (arg rq 1 1),
                    edge := BitVec.ofNat 8 (arg rq 2 1), armed := arm }
  if arm then c else { c with fifo := [], count := 0 }

theorem timerSet_eq (s : Chip) (rq : Request) : timerSet s rq = fun c =>
    if arg rq 3 1 % 2 = 1 then
      { c with source := BitVec.ofNat 8 (arg rq 1 1), seen := captureMark s (arg rq 1 1),
               edge := BitVec.ofNat 8 (arg rq 2 1), armed := true }
    else
      { c with source := BitVec.ofNat 8 (arg rq 1 1), seen := captureMark s (arg rq 1 1),
               edge := BitVec.ofNat 8 (arg rq 2 1), armed := false, fifo := [], count := 0 } := by
  unfold timerSet
  by_cases harm : arg rq 3 1 % 2 = 1
  · simp [harm]
  · simp [beq_eq_false_iff_ne.mpr harm, harm]

section
variable {rq : Request} {s : Chip} (r : ReqRef)

theorem bodySarReading_of_scanned (hscan : inScan s (arg rq 0 1) = true) :
    bodySarReading rq r s = (.reply .ok (leI 4 (tget s.hk (arg rq 0 1)).uV ++ leI 2 (tget s.hk (arg rq 0 1)).code
      ++ le 1 (bitN 0 (tget s.hk (arg rq 0 1)).ovr) ++ zeros 1 ++ le 8 (tget s.hk (arg rq 0 1)).hall), s) :=
  if_neg (by simp [hscan])

/-! ### The sequences and their rings (R274, R275) -/

section
variable (hk : arg rq 0 1 ≤ 7)
include hk

theorem bodySeqStart_queues (hcfg : (seqCfg s (arg rq 0 1)).isNone = false) :
    bodySeqStart rq r s = (.later, queueSeq s (arg rq 0 1) true r) :=
  (if_neg (Nat.not_lt.mpr hk)).trans (if_neg (by simp [hcfg]))

theorem bodySeqStop_of_stopped (hstop : (s.seq (arg rq 0 1)).state = .stopped)
    (hidle : (s.sense.queue.any fun e => e.seq == arg rq 0 1) = false) :
    bodySeqStop rq r s = (.reply .ok (seqData s (arg rq 0 1)), s) :=
  (if_neg (Nat.not_lt.mpr hk)).trans (if_pos (by rw [hstop, hidle]; rfl))

theorem bodySeqStop_queues (hactive : (s.seq (arg rq 0 1)).state ≠ .stopped) :
    bodySeqStop rq r s = (.reply .accepted (seqData s (arg rq 0 1)), queueSeq s (arg rq 0 1) false r) :=
  (if_neg (Nat.not_lt.mpr hk)).trans (if_neg (by simp [hactive]))

theorem bodySeqGet_pass : bodySeqGet rq r s = (.reply .ok (seqData s (arg rq 0 1) ++ le 4 (s.seq (arg rq 0 1)).wptr
    ++ le 4 (s.seq (arg rq 0 1)).rptr ++ le 4 (s.seq (arg rq 0 1)).lost), s) :=
  if_neg (Nat.not_lt.mpr hk)

/-- The run is answered from the ring as it was; RPTR passes the run where ADVANCE is set (R274, R285). -/
theorem bodyMeasRingRead_run {g : SeqCfg} {run : Nat × Nat} {u : Chip} (hg : seqInForce s (arg rq 0 1) = some g)
    (hwithin : ringBeyond (s.seq (arg rq 0 1)) (arg rq 4 4) = false)
    (hrun : run = ringRun rq.port (s.seq (arg rq 0 1)) (arg rq 2 2) (arg rq 4 4))
    (hu : u = if arg rq 1 1 % 2 = 1 then ringAdvance s (arg rq 0 1) g (ringLast run) else s) :
    bodyMeasRingRead rq r s
      = (.reply .ok (le 4 run.1 ++ le 4 run.2 ++ runWords s g run) (ringMore u (arg rq 0 1) run), u) := by
  subst hu hrun
  simp only [bodyMeasRingRead, if_neg (Nat.not_lt.mpr hk), hg, ringRead, hwithin, beq_iff_eq]
  rfl

end

/-! ### The monitors and the capture timers (R280, R282) -/

theorem bodyWmSet_sets (horder : arg rq 4 2 ≤ arg rq 6 2) (hm : arg rq 0 1 ≤ 23) (hhigh : arg rq 6 2 ≤ 1023)
    (hcfg : (monCfg s (arg rq 0 1)).isNone = false) :
    bodyWmSet rq r s = (.reply .ok (le 2 (arg rq 4 2) ++ le 2 (arg rq 6 2)), s.modMon (arg rq 0 1) fun w =>
      { w with deglitch := arg rq 1 1, low := arg rq 4 2, high := arg rq 6 2, setTick := s.now }) := by
  have hrange : ¬ (decide (23 < arg rq 0 1) || decide (1023 < arg rq 6 2)) = true := by simp [hm, hhigh]
  exact (if_neg (Nat.not_lt.mpr horder)).trans ((if_neg hrange).trans (if_neg (by simp [hcfg])))

theorem bodyCapArm_sets (hsrc : isCapSource (arg rq 1 1) = true)
    (hedge : isMonSource (arg rq 1 1) = true → arg rq 2 1 ≤ 4) (ht : arg rq 0 1 ≤ 15) {u : Chip}
    (hu : u = s.modCap (arg rq 0 1) (timerSet s rq)) :
    bodyCapArm rq r s = (.reply .ok (le 1 (arg rq 1 1) ++ le 1 (arg rq 2 1) ++ le 1 (bitN 0 (arg rq 3 1 % 2 == 1))
      ++ le 1 (u.cap (arg rq 0 1)).fifo.length), u) := by
  have hgood : ¬ (!isCapSource (arg rq 1 1) || (isMonSource (arg rq 1 1) && decide (4 < arg rq 2 1))) = true := by
    simpa [hsrc] using hedge
  subst hu
  exact (if_neg hgood).trans (if_neg (Nat.not_lt.mpr ht))

theorem bodyCapRead_takes (ht : arg rq 0 1 ≤ 15) {out : List Stamp}
    (hout : out = (s.cap (arg rq 0 1)).fifo.take (unitsThatFit rq.port 4 12)) :
    bodyCapRead rq r s = (.reply .ok (le 1 out.length ++ le 1 (s.cap (arg rq 0 1)).overflow ++ zeros 2
      ++ out.flatMap stampBytes) (decide (out.length < (s.cap (arg rq 0 1)).fifo.length)),
      s.modCap (arg rq 0 1) fun c => { c with fifo := c.fifo.drop out.length }) := by
  subst hout
  exact if_neg (Nat.not_lt.mpr ht)

end

/-- Settles O27: each body's checks pass, so it answers from the block before the request was taken; the state of the
sequence chooses what SEQ_STOP does, ADVANCE whether a ring read moves RPTR, and ARM whether the timer
keeps its stamps. -/
theorem senseOpcodesComplete : Obligations.SenseOpcodesComplete := by
  refine ⟨fun rq s h => answers_of rfl h ?status, fun rq s h hscan => answers_of rfl h ?reading,
    fun rq s h hk hcfg => becomes_of_later rfl h ?start, ?stopIdle, ?stop, fun rq s h hk => answers_of rfl h ?get, ?ring,
    fun rq s h => answers_of rfl h ?levels, ?limits, ?arm, ?stamps⟩
  case status => simp [bodyMeasStatus]
  case reading => exact (bodySarReading_of_scanned _ (by simpa using hscan)).trans (by simp)
  case start => exact bodySeqStart_queues _ hk (by simpa using hcfg)
  case stopIdle =>
    rintro rq s h hk hstop hidle _ rfl
    exact serves_of rfl h ((bodySeqStop_of_stopped _ hk (by simpa using hstop) (by simpa using hidle)).trans (by simp))
  case stop =>
    rintro rq s h hk hactive _ rfl
    exact serves_of rfl h ((bodySeqStop_queues _ hk (by simpa using hactive)).trans (by simp))
  case get => exact (bodySeqGet_pass _ hk).trans (by simp)
  case ring =>
    rintro rq g _ run s h rfl hk hg hwithin hrun u hu
    exact serves_of_page rfl h ((bodyMeasRingRead_run _ hk (by simpa using hg) (by simpa using hwithin)
      (by simpa using hrun) hu).trans (by simp))
  case levels => simp [bodyWmGetAll]
  case limits =>
    rintro rq s h horder hm hhigh hcfg _ rfl
    exact serves_of rfl h ((bodyWmSet_sets _ horder hm hhigh (by simpa using hcfg)).trans (by simp))
  case arm =>
    intro rq s h hsrc hedge ht u hu
    exact serves_of rfl h (bodyCapArm_sets _ hsrc hedge ht (hu.trans (by simp [timerSet_eq])))
  case stamps =>
    rintro rq s h ht _ rfl
    exact serves_of_page rfl h ((bodyCapRead_takes _ ht rfl).trans (by rw [taken_cap]))

end Sys2Proof.Machine
end

section
/-! PROOFS. A step runs the front command, and the role epoch and the event queue over it (R301, R305, R307, R310, R356,
spec/11_sarbuand_packets.md). -/

namespace Sys2Proof.Machine

/-! ## The role epoch (R310) -/

/-- Every command completes and keeps 0xFFFF out of the role epoch: TICK by what the boundary does, any other command by
what all of them keep. -/
theorem exec_keeps_epoch (c : Instr) {s : State} (h : EpochOk s.chip.mode.epoch s.chip.pair.me.retEpoch) :
    Completes c s fun t => EpochOk t.mode.epoch t.pair.me.retEpoch := by
  by_cases hc : ∃ l : Latch, c = .tick l
  · obtain ⟨l, rfl⟩ := hc
    exact exec_tick_completes ((tick_ticks l s.chip).epoch h)
  · obtain ⟨t, he, hk⟩ := exec_keeps c s fun l e => hc ⟨l, e⟩
    exact ⟨t, he, hk.epoch h⟩

/-- Settles O49: every command completes and keeps the epochs, and after reset both are 0. -/
theorem roleEpochIsNeverFFFF : Obligations.RoleEpochIsNeverFFFF :=
  ⟨fun c _ h => exec_keeps_epoch c h, ⟨by decide, by decide⟩⟩

/-! ## The front of the queue -/

theorem step_of_front (c : Instr) (s : State) : step { s with pending := c :: s.pending } = exec c s := rfl

theorem step_of_idle {s : State} (h : s.pending = []) : step s = .next s := by
  unfold step
  rw [h]

/-- Settles O48, by the two branches of a step. -/
theorem stepRunsTheFrontCommand : Obligations.StepRunsTheFrontCommand :=
  ⟨step_of_front, fun _ h => step_of_idle h⟩

/-! ## The event queue (R302, R305) -/

/-- The record under which an event joins the queue. -/
def eventRecord (s : Chip) (cls : Nat) (body : List Byte) (done : Option (ReqRef × Status)) : EventRec :=
  { cls := cls, seq := s.events.nextSeq, body := fit 16 body, completion := done.isSome,
    tag := (done.map fun d => d.1.tag).getD 0#8, port := (done.map fun d => d.1.port).getD .tw,
    status := (done.map fun d => d.2).getD .ok }

theorem only_events (s : Chip) (e : Events) : Only [.events] s { s with events := e } := by
  intro p hp
  cases p with
  | events => exact absurd (.head _) hp
  | _ => rfl

section
variable {s : Chip} (cls : Nat) (body : List Byte) (done : Option (ReqRef × Status))

theorem postRecord_of_room (h : s.events.queue.length < 256) :
    postRecord s cls body done = { s with events := { s.events with
      queue := s.events.queue ++ [eventRecord s cls body done], nextSeq := s.events.nextSeq + 1#16 } } :=
  if_pos h

theorem postRecord_of_full (h : 256 ≤ s.events.queue.length) :
    postRecord s cls body done = { s with events := { s.events with
      droppedRead := sat32 s.events.droppedRead 1, droppedWake := sat32 s.events.droppedWake 1 } } :=
  if_neg (Nat.not_lt.mpr h)

end

/-- Settles O54, by the room that the record finds. -/
theorem fullEventQueueDrops : Obligations.FullEventQueueDrops := by
  refine ⟨fun s cls body done h => ?_, fun s cls body done h => ?_⟩
  · rw [postRecord_of_full cls body done h]
    exact ⟨rfl, rfl, rfl, rfl, only_events s _⟩
  · rw [postRecord_of_room cls body done h]
    exact ⟨eventRecord s cls body done, rfl, rfl, rfl, rfl, only_events s _⟩

end Sys2Proof.Machine
end

section
/-! PROOFS. The checks that all opcodes share, and the session opcodes (R291, R292, R293, R307, R309, R314, R317,
spec/11_sarbuand_packets.md). -/

namespace Sys2Proof.Machine

/-! ## What a body reads of the block when it meets its request -/

section
variable (opcode : Nat) (rq : Request) (s : Chip)

@[simp] theorem taken_events : (taken opcode rq s).events = s.events :=
  taken_reads _ opcode rq s (fun _ _ => rfl) fun _ _ => rfl
@[simp] theorem taken_strap : (taken opcode rq s).strap = s.strap :=
  taken_reads _ opcode rq s (fun _ _ => rfl) fun _ _ => rfl
@[simp] theorem taken_recovery : (taken opcode rq s).fw.recovery = s.fw.recovery :=
  taken_reads (·.fw.recovery) opcode rq s (fun _ _ => rfl) fun _ _ => rfl
@[simp] theorem taken_modeGetData : modeGetData (taken opcode rq s) = modeGetData s :=
  taken_reads _ opcode rq s (fun _ _ => rfl) fun _ _ => rfl

/-- Taking a request leaves the session of its port: the checks judge the request as before it was taken. -/
theorem firstChecks_taken (row : OpRow) : firstChecks row rq (taken opcode rq s) = firstChecks row rq s := by
  obtain ⟨port, ver, tag, epoch, params⟩ := rq
  cases port <;> rfl

@[simp] theorem taken_page : page (taken opcode rq s) rq.port = page s rq.port := by
  obtain ⟨port, ver, tag, epoch, params⟩ := rq
  funext k
  unfold page
  cases port
  · split <;> rfl
  · split <;> rfl

@[simp] theorem taken_leavesDog : leavesDog (taken opcode rq s) rq.port = leavesDog s rq.port := by
  obtain ⟨port, ver, tag, epoch, params⟩ := rq
  cases port <;> rfl

end

/-! ## The reply that a taken request gets -/

/-- A reply formed on a block in which the request's place is the newest one is the request's reply. -/
theorem replied_of_formReply {rq : Request} {s u : Chip} (st : Status) (data : List Byte) (more : Bool)
    (hu : (u.port rq.port).replies = (s.port rq.port).replies ++ [{ receipt := s.receipts, reply := none }]) :
    Replied rq st data s (formReply u (refOf rq s) st data more) := by
  obtain ⟨rep, hlast, htag, hst, hdata, -, hver⟩ := formReply_newest (r := refOf rq s) st data more hu
  exact ⟨rep, hlast, htag, hst, hdata, hver⟩

theorem modPort_only (s : Chip) (p : Port) (f : PortState → PortState) : Only [portPart p] s (s.modPort p f) := by
  intro q hq
  cases p
  case tw =>
    cases q with
    | tw => exact absurd (.head _) hq
    | _ => rfl
  case spi =>
    cases q with
    | spi => exact absurd (.head _) hq
    | _ => rfl

/-- A request whose body sets its port's version and station, and answers at once. -/
theorem serve_setsSession {row : OpRow} {rq : Request} {s : Chip} {opcode : Nat} {body : Body} {st : Status}
    {data : List Byte} {v : Byte} {w : Half} (h : Admitted opcode row rq s)
    (hb : body rq (refOf rq s) (taken opcode rq s)
      = (.reply st data, (taken opcode rq s).modPort rq.port fun ps => { ps with ver := v, station := w })) :
    Replied rq st data s (serve opcode row body rq s)
      ∧ ((serve opcode row body rq s).port rq.port).ver = v ∧ ((serve opcode row body rq s).port rq.port).station = w
      ∧ Only [portPart rq.port, .receipts] s (serve opcode row body rq s) := by
  obtain ⟨hver, hstation, -⟩ := formReply_session
    ((taken opcode rq s).modPort rq.port fun ps => { ps with ver := v, station := w }) (refOf rq s) st data false
  rw [serve_of opcode body h, hb]
  refine ⟨replied_of_formReply st data false ?_, hver.trans ?_, hstation.trans ?_, ?_⟩
  · rw [modPort_port, ← taken_replies opcode rq s]
  · exact congrArg PortState.ver (modPort_port _ rq.port _)
  · exact congrArg PortState.station (modPort_port _ rq.port _)
  · exact ((taken_only opcode rq s).trans (modPort_only _ rq.port _) (by simp)).trans
      (formReply_only _ (refOf rq s) st data false) (by simp [refOf])

/-! ## The checks that all opcodes share (R291, R292, R293) -/

/-- A taken request that fails a shared check gets that check's answer, on the block that taking it leaves. -/
theorem serve_of_failed {row : OpRow} {rq : Request} {s : Chip} {opcode : Nat} {st : Status} {data : List Byte}
    (body : Body) (ht : Taken opcode row rq s) (hc : firstChecks row rq s = some (.reply st data)) :
    serve opcode row body rq s = formReply (taken opcode rq s) (refOf rq s) st data := by
  rw [← firstChecks_taken opcode rq s row] at hc
  unfold taken at hc
  unfold serve
  rw [if_pos (takes_of ht)]
  simp only [hc]
  rfl

section
variable {row : OpRow} {rq : Request} {s : Chip}

theorem firstChecks_of_long (h : portLimit rq.port < rq.params.length) :
    firstChecks row rq s = some (.reply .badLength []) :=
  if_pos h

theorem firstChecks_of_otherVersion (hlimit : rq.params.length ≤ portLimit rq.port) (hany : row.anyVer = false)
    (hver : rq.ver ≠ (s.port rq.port).ver) : firstChecks row rq s = some (.reply .version [0x10#8, 0x10#8]) :=
  (if_neg (Nat.not_lt.mpr hlimit)).trans (if_pos (by simp [hany, hver]))

/-- The version check passes. -/
theorem version_admitted (h : row.anyVer = true ∨ rq.ver = (s.port rq.port).ver) :
    ¬ (!row.anyVer && rq.ver != (s.port rq.port).ver) = true := by
  rcases h with h | h <;> simp [h]

/-- The check of the role epoch passes. -/
theorem epoch_admitted (h : rq.epoch = 0xFFFF#16 ∨ rq.epoch.toNat = s.mode.epoch) :
    ¬ (rq.epoch != 0xFFFF#16 && rq.epoch.toNat != s.mode.epoch) = true := by
  rcases h with h | h <;> simp [h]

/-- The check of the opcode's length passes. -/
theorem length_admitted (hlo : row.lenLo ≤ rq.params.length) (hhi : rq.params.length ≤ row.lenHi)
    (hunit : rq.params.length % row.lenUnit = 0) :
    ¬ (decide (rq.params.length < row.lenLo) || decide (row.lenHi < rq.params.length)
      || rq.params.length % row.lenUnit != 0) = true := by
  simp [hlo, hhi, hunit]

section
variable (hlimit : rq.params.length ≤ portLimit rq.port) (hver : row.anyVer = true ∨ rq.ver = (s.port rq.port).ver)
include hlimit hver

theorem firstChecks_of_tagZero (htag : rq.tag = 0#8) : firstChecks row rq s = some (.reply .badParam []) :=
  (if_neg (Nat.not_lt.mpr hlimit)).trans <| (if_neg (version_admitted hver)).trans (if_pos (by simp [htag]))

variable (htag : rq.tag ≠ 0#8)
include htag

theorem firstChecks_of_otherLength
    (h : rq.params.length < row.lenLo ∨ row.lenHi < rq.params.length ∨ rq.params.length % row.lenUnit ≠ 0) :
    firstChecks row rq s = some (.reply .badLength []) :=
  (if_neg (Nat.not_lt.mpr hlimit)).trans <| (if_neg (version_admitted hver)).trans <|
    (if_neg (by simpa using htag)).trans (if_pos (by simpa [or_assoc] using h))

variable (hlo : row.lenLo ≤ rq.params.length) (hhi : rq.params.length ≤ row.lenHi)
  (hunit : rq.params.length % row.lenUnit = 0)
include hlo hhi hunit

theorem firstChecks_of_otherEpoch (hnone : rq.epoch ≠ 0xFFFF#16) (hepoch : rq.epoch.toNat ≠ s.mode.epoch) :
    firstChecks row rq s = some (.reply .roleChanged (epochData s)) :=
  (if_neg (Nat.not_lt.mpr hlimit)).trans <| (if_neg (version_admitted hver)).trans <|
    (if_neg (by simpa using htag)).trans <| (if_neg (length_admitted hlo hhi hunit)).trans
      (if_pos (by simp [hnone, hepoch]))

variable (hepoch : rq.epoch = 0xFFFF#16 ∨ rq.epoch.toNat = s.mode.epoch)
include hepoch

theorem firstChecks_of_standby (hactive : row.activeOnly = true) (hrole : s.mode.role = .standby) :
    firstChecks row rq s = some (.reply .standby (standbyData s)) :=
  (if_neg (Nat.not_lt.mpr hlimit)).trans <| (if_neg (version_admitted hver)).trans <|
    (if_neg (by simpa using htag)).trans <| (if_neg (length_admitted hlo hhi hunit)).trans <|
      (if_neg (epoch_admitted hepoch)).trans (if_pos (by simp [hactive, hrole]))

theorem firstChecks_of_notInMode (hrole : row.activeOnly = false ∨ s.mode.role ≠ .standby)
    (h : (s.mode.stage = .powerDown ∧ row.inPowerDown = false) ∨ (s.fw.recovery = true ∧ row.inRecovery = false)) :
    firstChecks row rq s = some (.reply .notInMode (modeData s)) := by
  have hactive : ¬ (row.activeOnly && s.mode.role == .standby) = true := by
    rcases hrole with hrole | hrole <;> simp [hrole]
  exact (if_neg (Nat.not_lt.mpr hlimit)).trans <| (if_neg (version_admitted hver)).trans <|
    (if_neg (by simpa using htag)).trans <| (if_neg (length_admitted hlo hhi hunit)).trans <|
      (if_neg (epoch_admitted hepoch)).trans <| (if_neg hactive).trans (if_pos (by simpa using h))

end
end

/-- Settles O56: a check's answer is formed on the block that taking the request leaves, and each check fails after the
checks before it have passed. -/
theorem failedChecksHaveNoEffect : Obligations.FailedChecksHaveNoEffect := by
  refine ⟨fun op row body rq s st data ht hc => ?failed, fun row rq s => firstChecks_of_long,
    fun row rq s => firstChecks_of_otherVersion, fun row rq s hlimit hver htag hlo hhi hunit => ⟨?epoch, ?standby⟩,
    fun row rq s => firstChecks_of_tagZero, fun row rq s => firstChecks_of_otherLength,
    fun row rq s => firstChecks_of_notInMode⟩
  case failed =>
    rw [serve_of_failed body ht hc]
    exact ⟨replied_of_formReply st data false (taken_replies op rq s),
      (taken_only op rq s).trans (formReply_only _ (refOf rq s) st data false) (by simp [refOf])⟩
  case epoch => exact firstChecks_of_otherEpoch hlimit hver htag hlo hhi hunit
  case standby => exact firstChecks_of_standby hlimit hver htag hlo hhi hunit

/-! ## The session opcodes (R301, R307, R314, R317) -/

/-- The pages of the summary from `first` on, outside recovery (R314). -/
def pagesFrom (first : Nat) (p : Port) (s : Chip) : List (List Byte) := ((List.range 4).drop first).map (page s p)

section
variable {rq : Request} (r : ReqRef) {s : Chip}

/-- HELLO with 0x10 in the host's range agrees on it. -/
theorem bodyHello_agrees (hlo : arg rq 1 1 ≤ 0x10) (hhi : 0x10 ≤ arg rq 0 1) :
    bodyHello rq r s = (.reply .ok (helloData s rq.port 0x10 8 deviceIdBytes),
      s.modPort rq.port fun ps => { ps with ver := 0x10#8, station := BitVec.ofNat 16 (arg rq 2 2) }) := by
  have hag : agreed (arg rq 0 1) (arg rq 1 1) = some 0x10 := by
    simp [agreed, version, hlo, hhi]
  unfold bodyHello
  rw [hag]
  cases rq.port <;> rfl

/-- SUMMARY of all the pages from one on. -/
theorem bodySummary_fromPage (hrec : s.fw.recovery = false) (hfirst : arg rq 0 1 < 4) (hall : arg rq 1 1 = 0) :
    bodySummary rq r s = (.reply .ok (pagesThatFit (pagesFrom (arg rq 0 1) rq.port s) (portLimit rq.port)).flatten
      (decide ((pagesThatFit (pagesFrom (arg rq 0 1) rq.port s) (portLimit rq.port)).length
        < (pagesFrom (arg rq 0 1) rq.port s).length)), s) := by
  simp [bodySummary, pagesFrom, hrec, hfirst, hall]

/-- Both ports have room for ten event records in a reply. -/
theorem ten_events_fit (p : Port) : 10 ≤ unitsThatFit p 8 24 := by
  cases p <;> decide

/-- EVENT_READ that acknowledges nothing leaves the queue and clears the count of dropped records. -/
theorem bodyEventRead_reads (hack : (arg rq 3 1).testBit 0 = false) (hlo : 1 ≤ arg rq 2 1) (hhi : arg rq 2 1 ≤ 10) :
    bodyEventRead rq r s = (.reply .ok (le 1 (min (arg rq 2 1) s.events.queue.length) ++ zeros 3
        ++ le 4 s.events.droppedRead ++ (s.events.queue.take (arg rq 2 1)).flatMap eventRecBytes)
        (decide (min (arg rq 2 1) s.events.queue.length < s.events.queue.length)),
      { s with events := { s.events with droppedRead := 0 } }) := by
  have hroom : min (unitsThatFit rq.port 8 24) (arg rq 2 1) = arg rq 2 1 :=
    Nat.min_eq_right (hhi.trans (ten_events_fit rq.port))
  have hn : arg rq 2 1 ≠ 0 := by omega
  simp [bodyEventRead, hack, hroom, hn]

end

/-- A request whose body changes the event queue alone and answers at once. -/
theorem serve_setsEvents {row : OpRow} {rq : Request} {s : Chip} {opcode : Nat} {body : Body} {e : Events} {st : Status}
    {data : List Byte} {more : Bool} (h : Admitted opcode row rq s)
    (hb : body rq (refOf rq s) (taken opcode rq s) = (.reply st data more, { taken opcode rq s with events := e })) :
    Replied rq st data s (serve opcode row body rq s)
      ∧ (serve opcode row body rq s).events = e
      ∧ Only [portPart rq.port, .receipts, .events] s (serve opcode row body rq s) := by
  have hpart : portPart rq.port ≠ .events := portPart_ne rq.port (by decide) (by decide)
  obtain ⟨hr, hu⟩ := serve_does opcode body st data more h hb
    (replies_of_only opcode (only_events (taken opcode rq s) e) hpart)
  have ht : Only [portPart rq.port, .receipts, .events] s (taken opcode rq s) :=
    fun p hp => taken_only opcode rq s p (by simp_all)
  exact ⟨hr, hu .events (by simpa using hpart.symm), (ht.trans (only_events _ e) (by simp)).trans hu (by simp)⟩

/-- Settles O1: each body's checks pass, so it answers its record of the block it met, which is the record of the block
before the request was taken; HELLO sets its port's session, and EVENT_READ clears a count. -/
theorem sessionOpcodesAnswer : Obligations.SessionOpcodesAnswer := by
  refine ⟨fun rq s h hlo hhi => ?hello, fun rq s h => answers_of rfl h rfl, fun rq s h hrec hfirst hall => ?summary,
    fun rq s h hack hlo hhi => ?events, fun rq s h => ?mode⟩
  case hello =>
    exact completes_serve rfl (serve_setsSession h
      ((bodyHello_agrees _ hlo hhi).trans (by rw [helloData, taken_strap]; rfl)))
  case summary =>
    exact answers_of_page rfl h ((bodySummary_fromPage _ (by simpa using hrec) hfirst hall).trans (by rw [pagesFrom, taken_page]))
  case events =>
    exact completes_serve rfl (serve_setsEvents h ((bodyEventRead_reads _ hack hlo hhi).trans (by rw [taken_events])))
  case mode => exact answers_of rfl h (by simp [bodyModeGet])

end Sys2Proof.Machine
end

section
/-! PROOFS. FENCE, GOODBYE, and the packets that fail a framing check (R291, R292, R300, R309, R343,
spec/11_sarbuand_packets.md). -/

namespace Sys2Proof.Machine

/-! ## FENCE (R300) -/

/-- The FENCE that a request asks for. -/
def fenceAsked (rq : Request) (r : ReqRef) (s : Chip) : Fence :=
  { ref := r, bothPorts := (arg rq 0 1).testBit 1,
    ledger := if (arg rq 0 1).testBit 0 then s.ledger.queue.getLast?.map LedgerRec.seq else none,
    drafts := if (arg rq 0 1).testBit 0 then (s.ledger.drafts.getD []).length else 0,
    deadline := s.now + (if arg rq 2 2 = 0 then 1000 else arg rq 2 2) * 1000 }

theorem bodyFence_holds {rq : Request} (r : ReqRef) (s : Chip) (h : arg rq 2 2 ≤ 60000) :
    bodyFence rq r s = (.later, s.modPort rq.port fun ps => { ps with fence := some (fenceAsked rq r s) }) :=
  if_neg (Nat.not_lt.mpr h)

/-- A request whose body puts a FENCE on its port and answers later. -/
theorem serve_setsFence {row : OpRow} {rq : Request} {s : Chip} {opcode : Nat} {body : Body} {f : Fence}
    (h : Admitted opcode row rq s) (hb : body rq (refOf rq s) (taken opcode rq s)
      = (.later, (taken opcode rq s).modPort rq.port fun ps => { ps with fence := some f })) :
    Held rq s (serve opcode row body rq s) ∧ ((serve opcode row body rq s).port rq.port).fence = some f
      ∧ Only [portPart rq.port, .receipts] s (serve opcode row body rq s) := by
  rw [serve_later opcode body h hb]
  refine ⟨?_, ?_, (taken_only opcode rq s).trans (modPort_only _ rq.port _) (by simp)⟩
  · simp [Held, taken_replies]
  · simp

section
variable {p : Port} {f : Fence} {s : Chip} (hf : (s.port p).fence = some f) (hstop : s.fw.yardStop = false)
include hf hstop

theorem fenceRelease_of_holds (h : fenceHolds s f = true) :
    fenceRelease p s = formReply (s.modPort p fun ps => { ps with fence := none }) f.ref .ok (le 8 s.hall) := by
  simp [fenceRelease, hf, hstop, h, endFence]

theorem fenceTimeout_of_due (hdue : f.deadline ≤ s.now) (h : fenceHolds s f = false) :
    fenceTimeout p s = formReply (s.modPort p fun ps => { ps with fence := none }) f.ref .timeout [] := by
  simp [fenceTimeout, hf, hstop, hdue, h, endFence]

end

/-! ## GOODBYE (R309) -/

theorem bodyGoodbye_ends {rq : Request} (r : ReqRef) {s : Chip} (h : leavesDog s rq.port = false) :
    bodyGoodbye rq r s
      = (.reply .ok [], s.modPort rq.port fun ps => { ps with ver := 0x10#8, station := 0#16 }) := by
  simp [bodyGoodbye, h, Ans.bare]

/-! ## A packet that fails a framing check (R291, R292, R343) -/

section
variable {p : Port} {b : List Byte} {s : Chip}

/-- The Yard takes packets only where it is alive, so not in OFF, where the responder would answer. -/
theorem mode_ne_off_of_takes (h : takes s p = true) : s.mode.mode ≠ .off := by
  intro hoff
  simp [takes, yardAlive, hoff] at h

theorem badRequest_becomes {s : State} {t : Chip} (htakes : takes s.chip p = true) (h : badRequest p b s.chip = t) :
    Becomes (.badRequest p b) s t :=
  becomes_of rfl ((if_neg (by simpa using mode_ne_off_of_takes htakes)).trans h)

/-- The block that taking a packet leaves. -/
abbrev packetTaken (s : Chip) (p : Port) (b : List Byte) : Chip := (takeRequest s p (b.getD 1 0#8) b).2

/-- The reference under which a packet is answered. -/
abbrev packetRef (s : Chip) (p : Port) (b : List Byte) : ReqRef := (takeRequest s p (b.getD 1 0#8) b).1

theorem badRequest_of_failed {st : Status} (htakes : takes s p = true) (hnext : isNext s p b = true)
    (hframing : framing p (s.port p).ver b = some st) :
    badRequest p b s = formReply (if st == .badCrc then setFault (packetTaken s p b) (crcSource p) else packetTaken s p b)
      (packetRef s p b) st (framingData st) := by
  unfold badRequest
  rw [if_pos (by simp [htakes, hnext])]
  simp only [hframing]

theorem packetTaken_replies (s : Chip) (p : Port) (b : List Byte) :
    ((packetTaken s p b).port p).replies = (s.port p).replies ++ [{ receipt := s.receipts, reply := none }] := by
  cases p <;> rfl

theorem packetTaken_only (s : Chip) (p : Port) (b : List Byte) : Only [portPart p, .receipts] s (packetTaken s p b) := by
  intro q hq
  cases p
  case tw =>
    cases q with
    | tw | receipts => exact absurd (by decide) hq
    | _ => rfl
  case spi =>
    cases q with
    | spi | receipts => exact absurd (by decide) hq
    | _ => rfl

end

/-- Settles O2: each condition holds, so the port is held, freed, or returned to its defaults; a packet that fails a check
is answered on the block that taking it leaves, in which a failed CRC has set its source. -/
theorem fenceAndGoodbyeComplete : Obligations.FenceAndGoodbyeComplete := by
  refine ⟨fun rq s h hms => ?fence, fun p f s hf hh hstop => becomes_of rfl (fenceRelease_of_holds hf hstop hh),
    fun p f s hf hdue hstop hh => becomes_of rfl (fenceTimeout_of_due hf hstop hdue hh), fun rq s h hdog => ?goodbye,
    fun p b st s htakes hnext hframing hst => ?failed, fun p b s htakes hnext hframing => ?crc⟩
  case fence =>
    obtain ⟨hheld, hfence, honly⟩ := serve_setsFence h (bodyFence_holds (refOf rq s.chip) (taken 0x0006 rq s.chip) hms)
    refine completes_serve rfl ⟨hheld, ?_, ?_, ?_, honly⟩
    all_goals rw [hfence]
    · rfl
    · rfl
    · simp [fenceAsked]
  case goodbye =>
    exact completes_serve rfl (serve_setsSession h (bodyGoodbye_ends _ (by simpa using hdog)))
  case failed =>
    refine ⟨_, badRequest_becomes htakes (badRequest_of_failed htakes hnext hframing), ?_, ?_⟩
    all_goals rw [if_neg (by simpa using hst)]
    · obtain ⟨rep, hlast, htag, hstatus, -⟩ :=
        formReply_newest (r := packetRef s.chip p b) st (framingData st) false (packetTaken_replies s.chip p b)
      exact ⟨rep, hlast, htag, hstatus⟩
    · exact (packetTaken_only s.chip p b).trans (formReply_only _ (packetRef s.chip p b) _ _ _) (by simp [packetRef, takeRequest])
  case crc => exact badRequest_becomes htakes (badRequest_of_failed htakes hnext hframing)

end Sys2Proof.Machine
end

section
/-! PROOFS. The transfers of the two-wire and the SPI target (R294, R320, R323, R324, R328,
spec/12_wires_to_host_and_modules.md). -/

namespace Sys2Proof.Machine

/-! ## Into the request queue and out of the reply queue (R294, R324) -/

section
variable {s : Chip} {p : Port}

theorem arrive_of_room (bytes : List Byte) (h : (s.port p).queue.length < 8) :
    arrive s p bytes = s.drawn.modPort p fun ps =>
      { ps with received := some (s.now, s.draw), queue := ps.queue ++ [bytes] } := by
  cases p
  · exact if_pos h
  · exact if_pos h

/-- A read of the window that covers the waiting reply returns it and consumes it. -/
theorem readWindow_of_waiting {r : Reply} {n : Nat} (hr : waitingReply s p = some r) (hn : (replyBytes r).length ≤ n) :
    readWindow s p n = s.modPort p fun ps =>
      { ps with lastRead := replyBytes r ++ List.replicate (n - (replyBytes r).length) 0xFF#8, replies := ps.replies.tail } := by
  have hkept (l : List Byte) : (waitingReply (s.modPort p fun ps => { ps with lastRead := l }) p).isSome = true := by
    simp only [waitingReply, modPort_port] at hr ⊢
    rw [hr]
    rfl
  simp only [readWindow, windowReply, hr, Option.getD_some, List.take_of_length_le hn, if_pos hn, hkept, if_true]
  cases p <;> rfl

theorem wouldTake_of_room (hstop : s.fw.yardStop = false) (hmoving : moving s p = false)
    (h : (s.port p).queue.length < 8) : wouldTake s p = true := by
  simp [wouldTake, hstop, hmoving, h]

end

/-! ## The two-wire target (R320, R323, R324) -/

/-- A write of pointer 0x00 whose packet is not too long hands the packet to the port. -/
theorem twWrite_arrives {adr : Nat} {s : Chip} (b : Byte) {bs : List Byte} (ha : answers s adr = true)
    (hw : wouldTake s .tw = true) (hlen : bs.length ≤ 257) :
    twWrite adr (0#8 :: b :: bs) s = arrive s .tw (b :: bs) := by
  have hlong : ¬ 258 < (b :: bs).length := by simp; omega
  have hall : (b :: bs).take 259 = b :: bs := List.take_of_length_le (by simp; omega)
  unfold twWrite
  rw [if_pos (by simp [ha, hw])]
  simp only [beq_self_eq_true, if_true, if_neg hlong, hall]

theorem twRead_of_answers {adr : Nat} (n : Nat) {s : Chip} (ha : answers s adr = true) :
    twRead adr n s = readWindow s .tw n :=
  if_pos ha

/-! ## The SPI target (R328) -/

/-- A transfer records the status byte before it does its work. -/
def spiNoted (s : Chip) : Chip := { s with spiStatus := BitVec.ofNat 8 (spiStatusByte s) }

theorem spiTransfer_of_alive {s : Chip} (f : Chip → Chip) (h : yardAlive s = true) : spiTransfer s f = f (spiNoted s) :=
  if_pos h

theorem spiWrite_arrives {s : Chip} (b : Byte) {bs : List Byte} (h : yardAlive s = true) (hw : wouldTake s .spi = true)
    (hlen : bs.length ≤ 4105) : spiWrite (b :: bs) s = arrive (spiNoted s) .spi (b :: bs) := by
  have hlong : ¬ 4106 < (b :: bs).length := by simp; omega
  have hall : (b :: bs).take 4107 = b :: bs := List.take_of_length_le (by simp; omega)
  have hnoted : wouldTake (spiNoted s) .spi = true := hw
  rw [spiWrite, spiTransfer_of_alive _ h, if_pos (by simp [hnoted])]
  simp only [if_neg hlong, hall]

/-- Settles O3: the port answers and has room, so the packet joins the request queue; a read takes the waiting reply. -/
theorem wireTransfers : Obligations.WireTransfers := by
  refine ⟨fun adr b bs s ha hstop hmoving hroom hlen => ?twWrite, fun adr n r s ha hr hn => ?twRead,
    fun s h => becomes_of rfl (if_pos h), fun b bs s h hstop hmoving hroom hlen => ?spiWrite,
    fun n r s h hr hn => ?spiRead, fun cmd s h hwrite hread => ?other⟩
  case twWrite =>
    exact becomes_of rfl ((twWrite_arrives b ha (wouldTake_of_room hstop hmoving hroom) hlen).trans
      (arrive_of_room (p := .tw) _ hroom))
  case twRead => exact becomes_of rfl ((twRead_of_answers n ha).trans (readWindow_of_waiting hr hn))
  case spiWrite =>
    exact becomes_of rfl ((spiWrite_arrives b h (wouldTake_of_room hstop hmoving hroom) hlen).trans
      (arrive_of_room (s := spiNoted s.chip) (p := .spi) _ hroom))
  case spiRead =>
    exact becomes_of rfl ((spiTransfer_of_alive _ h).trans (readWindow_of_waiting (s := spiNoted s.chip) hr hn))
  case other =>
    exact becomes_of rfl ((if_neg (by simp [hwrite, hread])).trans (spiTransfer_of_alive _ h))

end Sys2Proof.Machine
end

section
/-! PROOFS. The fuses over a step, the sticky bits, the lines between the members, and the end of a dead-stop
(spec/15_faults_and_watchdog.md, spec/13_stablemate_pair.md, spec/18_waking_clocks_heat.md). -/

namespace Sys2Proof.Machine

/-! ## The fuses (R436) -/

/-- Every command that answers a next state only blows fuses: TICK by what the boundary does, any other command by what all
of them keep. -/
theorem exec_otpGrows (c : Instr) {s t : State} (h : exec c s = .next t) (hs : Inv s.chip) :
    OtpGrows s.chip.otp t.chip.otp := by
  by_cases hc : ∃ l : Latch, c = .tick l
  · obtain ⟨l, rfl⟩ := hc
    cases h
    exact (tick_ticks l s.chip).otp hs
  · exact (exec_keeps_of_next h fun l e => hc ⟨l, e⟩).otp hs

/-- Settles O52: with no command waiting the fuses are as they were, otherwise the command in front is executed. -/
theorem fusesAreOnlyBlown : Obligations.FusesAreOnlyBlown := by
  rintro ⟨pending, chip⟩ t hs h
  cases pending with
  | nil =>
    cases h
    exact .refl chip.otp
  | cons c rest => exact exec_otpGrows (s := ⟨rest, chip⟩) c h hs

/-! ## The sticky bits (R403, R404) -/

@[simp] theorem post_faults (s : Chip) (cls : Nat) (body : List Byte) (done : List (ReqRef × Status)) :
    (post s cls body done).faults = s.faults :=
  post_onlyRails s cls body done .faults (by decide)

@[simp] theorem post_mode (s : Chip) (cls : Nat) (body : List Byte) (done : List (ReqRef × Status)) :
    (post s cls body done).mode = s.mode :=
  post_onlyRails s cls body done .mode (by decide)

theorem startFreeze_onlyRails (s : Chip) (cause source : Nat) : OnlyRails s (startFreeze s cause source) := by
  unfold startFreeze
  exact .ite (sketch_onlyRails s _) (sketch_onlyRails s _)

theorem trigWhere_onlyRails (s : Chip) (f : CapDef → Bool) (cause : TrigCause) : OnlyRails s (trigWhere s f cause) := by
  have trigger (y : Chip) (d : Nat) : OnlyRails y (addTrigger y d cause) := by
    unfold addTrigger
    exact .ite (sketch_onlyRails y _) (sketch_onlyRails y _)
  exact .foldl (fun y d => .ite (trigger y d) (.refl _ y)) _ s

theorem trigFault_onlyRails (s : Chip) (id sev : Nat) : OnlyRails s (trigFault s id sev) := by
  unfold trigFault
  exact .ite ((trigWhere_onlyRails _ _ _).trans (trigWhere_onlyRails _ _ _)) (trigWhere_onlyRails _ _ _)

/-- What the recorder does with a bit that sets touches neither the bits nor the mode. -/
theorem recordSet_onlyRails (s : Chip) (id sev mask : Nat) : OnlyRails s (recordSet s id sev mask) := by
  unfold recordSet
  exact .trans (.trans (.ite (recPost_onlyRails s 1 sev id _) (.refl _ s)) (.ite (startFreeze_onlyRails _ _ _) (.refl _ _)))
    (trigFault_onlyRails _ _ _)

@[simp] theorem recordSet_faults (s : Chip) (id sev mask : Nat) : (recordSet s id sev mask).faults = s.faults :=
  recordSet_onlyRails s id sev mask .faults (by decide)

@[simp] theorem recordSet_mode (s : Chip) (id sev mask : Nat) : (recordSet s id sev mask).mode = s.mode :=
  recordSet_onlyRails s id sev mask .mode (by decide)

/-- A set bit absorbs its cause (R404). -/
theorem setFault_of_sticky {s : Chip} {id : Nat} (h : isSticky s id = true) : setFault s id = s :=
  if_pos (by simp [h])

theorem setFault_of_noSource {s : Chip} {id : Nat} (h : sourceExists id = false) : setFault s id = s :=
  if_pos (by simp [h])

/-- A clear bit of a source that exists sets: nothing after it touches the fault record. -/
theorem setFault_faults {s : Chip} {id : Nat} (he : sourceExists id = true) (hc : isSticky s id = false) :
    (setFault s id).faults
      = { s.faults with sticky := insertUp id s.faults.sticky, fired := s.faults.fired ++ [id] } := by
  unfold setFault
  rw [if_neg (by simp [he, hc])]
  dsimp only
  split_ifs <;> simp

/-- The set bits after a cause of a source that exists was found. -/
theorem isSticky_setFault {s : Chip} {id : Nat} (i : Nat) (he : sourceExists id = true) :
    isSticky (setFault s id) i = (isSticky s i || i == id) := by
  cases hc : isSticky s id with
  | true =>
    rw [setFault_of_sticky hc]
    by_cases hi : i = id
    · simp [hi, hc]
    · simp [hi]
  | false =>
    rw [Bool.eq_iff_iff]
    simp [isSticky, setFault_faults he hc, insertUp_mem, or_comm]

/-- Settles O55, by whether the source exists and whether its bit is set. -/
theorem stickyBitsAbsorb : Obligations.StickyBitsAbsorb :=
  ⟨fun _ _ h => setFault_of_sticky h, fun _ _ i he => isSticky_setFault i he, fun _ _ h => setFault_of_noSource h⟩

/-! ## The lines between the members (R347, R362) -/

/-- A fault that sets may ask for a LOCKOUT, and leaves the role. -/
@[simp] theorem setFault_role (s : Chip) (id : Nat) : (setFault s id).mode.role = s.mode.role := by
  unfold setFault
  dsimp only
  split_ifs <;> simp

@[simp] theorem setFault_pair (s : Chip) (id : Nat) : (setFault s id).pair = s.pair :=
  setFault_onlyFaultParts s id .pair (by decide)

/-- Dropping the writes that have not begun changes the energy queue, the rectifiers and the buses alone. -/
theorem dropWrites_only (s : Chip) : Only [.book, .rects, .ds] s (dropWrites s) := by
  have book (y : Chip) (b : EnergyBook) : Only [.book, .rects, .ds] y { y with book := b } := by
    intro p hp
    cases p with
    | book => exact absurd (by decide) hp
    | _ => rfl
  have rect (y : Chip) (n : Nat) (f : Rect → Rect) : Only [.book, .rects, .ds] y (y.modRect n f) := by
    intro p hp
    cases p with
    | rects => exact absurd (by decide) hp
    | _ => rfl
  have bus (y : Chip) (k : Nat) (f : DsBus → DsBus) : Only [.book, .rects, .ds] y (y.modBus k f) := by
    intro p hp
    cases p with
    | ds => exact absurd (by decide) hp
    | _ => rfl
  unfold dropWrites forEach
  exact ((book s _).trans (.foldl (fun y n => rect y n _) _ _) fun _ => id).trans (.foldl (fun y k => bus y k _) _ _) fun _ => id

/-- The event and the recorder entry of a role given away leave what the member has become. -/
theorem giveRole_leaves_standby (s : Chip) (kind : SwitchKind) (done : List (ReqRef × Status)) :
    (giveRole s kind done).mode.role = .standby ∧ (giveRole s kind done).pair.me.forceOut = false := by
  have told (y : Chip) (sw : Nat) : OnlyRails (dropWrites y) (roleRecord (postPair (dropWrites y) 2 sw done)) :=
    (post_onlyRails _ _ _ _).trans (recPost_onlyRails _ _ _ _ _)
  have hmode (y : Chip) (sw : Nat) : (roleRecord (postPair (dropWrites y) 2 sw done)).mode = y.mode :=
    (told y sw .mode (by decide)).trans (dropWrites_only y .mode (by decide))
  have hpair (y : Chip) (sw : Nat) : (roleRecord (postPair (dropWrites y) 2 sw done)).pair = y.pair :=
    (told y sw .pair (by decide)).trans (dropWrites_only y .pair (by decide))
  unfold giveRole
  dsimp only
  rw [hmode, hpair]
  exact ⟨rfl, rfl⟩

theorem forcedOff_of_other {s : Chip}
    (h : s.strap = .a ∨ s.pair.me.forceIn = false ∨ s.pair.me.forceOut = false) : forcedOff s = s :=
  if_neg (by rcases h with h | h | h <;> simp [h])

/-- Both lines high: member B gives up the role. -/
theorem forcedOff_of_both {s : Chip} (hb : s.strap = .b) (ha : isActive s = true) (hin : s.pair.me.forceIn = true)
    (hout : s.pair.me.forceOut = true) :
    forcedOff s = (setFault (giveRole s .forced (allWith s.pair.me.handRef.toList .aborted)) 0x0C03).modMe fun p =>
      { p with hand := .idle, handRef := none, handOff := false, handHot := false } :=
  if_pos (by simp [hb, ha, hin, hout])

/-- Settles O57: member B gives the role as at a handover, and its fault and its handover's end leave the role and FORCE_OUT
as that left them. -/
theorem roleGivenWhenBothLinesHigh : Obligations.RoleGivenWhenBothLinesHigh := by
  refine ⟨fun s hb ha hin hout => ?_, fun s hs => forcedOff_of_other (.inl hs), fun s h => forcedOff_of_other (.inr h)⟩
  obtain ⟨hrole, hforce⟩ := giveRole_leaves_standby s .forced (allWith s.pair.me.handRef.toList .aborted)
  rw [forcedOff_of_both hb ha hin hout]
  exact ⟨by simpa using hrole, by simpa [Chip.modMe] using hforce⟩

/-! ## An OFF request in dead-stop (R495) -/

/-- An OFF request in OFF leaves what waits and dead-stop behind, and works ERRn out again. -/
theorem requestOffPin_in_off {s : Chip} (h : s.mode.mode = .off) :
    requestOffPin s = setErrn (s.modOst fun o =>
      { o with offTick := some s.now, waiting := false, rewakeAt := none, deadStop := false, retryDue := none, wakeTag := none,
               offCause := if o.deadStop || o.waiting || o.rewakeAt.isSome then .hostRequest else o.offCause }) := by
  unfold requestOffPin
  simp only [modOst_mode, h]
  rfl

/-- ERRn without dead-stop and without a chip reset is held by the bits whose mask has ERR_PIN alone (R407, R493). -/
theorem errnNow_released {s : Chip} (hd : s.ostler.deadStop = false) (hr : s.ostler.resetting = false)
    (hb : ∀ i ∈ s.faults.sticky, (maskOf s i).testBit 4 = false) : errnNow s = false := by
  simp only [errnNow, hd, hr, Bool.false_or, List.any_eq_false]
  intro i hi
  simp [hb i hi]

theorem only_ostler_faults (s : Chip) (o : Ostler) (f : Faults) :
    Only [.ostler, .faults] s { s with ostler := o, faults := f } := by
  intro p hp
  cases p with
  | ostler | faults => exact absurd (by decide) hp
  | _ => rfl

/-- Settles O59: in OFF the request clears the Ostler's marks and works ERRn out again. -/
theorem offRequestEndsDeadStop : Obligations.OffRequestEndsDeadStop := by
  intro s hoff hdead
  refine ⟨_, becomes_of rfl (requestOffPin_in_off hoff), rfl, rfl, rfl, ?_, rfl,
    fun hr hb => errnNow_released rfl hr hb, only_ostler_faults _ _ _, rfl⟩
  simp [offWord, setErrn, Chip.modOst, hdead]

end Sys2Proof.Machine
end

section
/-! PROOFS. RSTn, WAKEn and the wake steps, and the minimal responder in OFF (spec/18_waking_clocks_heat.md,
spec/12_wires_to_host_and_modules.md). -/

namespace Sys2Proof.Machine

/-! ## RSTn and WAKEn (R485, R489, R490, R491) -/

theorem rstnAssert_of_on {s : Chip} (h : s.mode.mode ≠ .off) :
    rstnAssert s = setErrn ((goOff 4 .resetPin (s.modOst fun o => { o with rstn := true })).modOst fun o =>
      { o with cause := 4, deadStop := false, retryDue := none }) :=
  if_neg (by simpa using h)

theorem rstnRelease_of_low {s : Chip} (st : Straps) (h : s.ostler.rstn = true) :
    rstnRelease st s = requestWake st (s.modOst fun o => { o with rstn := false }) :=
  if_pos h

theorem wakenPulse_of_length {s : Chip} {lowNs : Nat} (st : Straps) (ha : s.ostler.alive = true) (hlo : 10000 ≤ lowNs)
    (hhi : lowNs < 2000000000) : wakenPulse lowNs st s = requestWake st s :=
  if_pos (by simp [ha, hlo, hhi])

/-- In WAKE an OFF request waits for the step's end, but in the tick of the wake request it wins at once. -/
theorem requestOffPin_in_wake {s : Chip} (h : s.mode.mode = .wake) :
    requestOffPin s = if s.ostler.wakeTick == some s.now then
        setErrn ((goOff 0 (if s.ostler.deadStop then .hostRequest else s.ostler.offCause)
          (s.modOst fun o => { o with offTick := some s.now })).modOst fun o =>
            { o with deadStop := false, retryDue := none, waiting := false })
      else s.modOst fun o => { o with offTick := some s.now, offAsked := true } := by
  unfold requestOffPin
  simp only [modOst_mode, h]
  rfl

/-! ## The wake steps (R486, R487) -/

/-- Without an OFF request that waits, a step before W5 is followed by the next. -/
theorem nextStep_of_early {s : Chip} (hoff : s.ostler.offAsked = false) (hstep : s.ostler.step ≤ 4) :
    nextStep s = s.modOst fun o => { o with step := o.step + 1, stepAt := s.now, tries := 1, discharge := none } :=
  (if_neg (by simp [hoff])).trans (if_neg (by omega))

theorem stepGood_advances {s : Chip} (hr : stepRuns s = true) (hstep : s.ostler.step ≤ 4) (hoff : s.ostler.offAsked = false)
    (hdue : s.now ≤ stepDeadline s) :
    stepGood s = s.modOst fun o =>
      { o with stepRetried := o.stepRetried || decide (1 < o.tries), step := o.step + 1, stepAt := s.now, tries := 1,
               discharge := none } := by
  have h6 : s.ostler.step ≤ 6 := by omega
  exact (if_pos (by simp [hr, h6, hdue])).trans (nextStep_of_early hoff hstep)

/-- A regulator's step that misses its timeout is discharged, while attempts are left. -/
theorem stepTimedOut_discharges {s : Chip} (rc : Bool) (hr : stepRuns s = true) (hstep : s.ostler.step ≤ 3)
    (htries : s.ostler.tries ≤ 3) (hdue : stepDeadline s ≤ s.now) :
    stepTimedOut rc s = s.modOst fun o => { o with discharge := some (s.now + 1000) } := by
  have hagain : decide (s.ostler.tries ≤ 3) = true := decide_eq_true htries
  unfold stepTimedOut
  rw [if_neg (by simp [hr, hdue])]
  simp only [hagain]
  split
  iterate 4 (· omega)
  · rfl

theorem stepRetry_of_discharged {s : Chip} {t0 : Nat} (hm : s.mode.mode = .wake) (hd : s.ostler.discharge = some t0)
    (hdue : t0 ≤ s.now) :
    stepRetry s = s.modOst fun o => { o with discharge := none, stepAt := s.now, tries := o.tries + 1 } :=
  if_pos (by simp [hm, hd, hdue])

theorem wakeComplete_of_good {s : Chip} (hr : stepRuns s = true) (hstep : s.ostler.step = 7) (hdue : s.now ≤ stepDeadline s)
    (hoff : s.ostler.offAsked = false) : wakeComplete s = wakeDone true s := by
  unfold wakeComplete
  rw [if_pos (by simp [hr, hstep, hdue]), if_neg (by simp [hoff])]

theorem deadStopRetry_of_due {s : Chip} {t0 : Nat} (st : Straps) (hoff : s.mode.mode = .off)
    (hdead : s.ostler.deadStop = true) (hd : s.ostler.retryDue = some t0) (hdue : t0 ≤ s.now)
    (hseries : s.ostler.series < 5) (hc : canWake s = true) :
    deadStopRetry st s = beginWake st (s.modOst fun o =>
      { o with cause := 7, series := o.series + 1, record := { o.record with retries := o.record.retries + 1 } }) :=
  if_pos (by simp [hoff, hdead, hd, hdue, hseries, hc])

/-- Settles O8: each pin's and each step's condition holds; WAKEn held long in WAKE is judged by the tick of the wake
request. -/
theorem wakeStepsAdvance : Obligations.WakeStepsAdvance := by
  refine ⟨fun s h => becomes_of rfl (rstnAssert_of_on h), fun st s h => becomes_of rfl (rstnRelease_of_low st h),
    fun lowNs st s ha hlo hhi => becomes_of rfl (wakenPulse_of_length st ha hlo hhi), fun s h htick => ?later,
    fun s h htick => ?wins, fun s hr hstep hoff hdue => becomes_of rfl (stepGood_advances hr hstep hoff hdue),
    fun rc s hr hstep htries hdue => becomes_of rfl (stepTimedOut_discharges rc hr hstep htries hdue),
    fun t0 s hm hd hdue => becomes_of rfl (stepRetry_of_discharged hm hd hdue),
    fun s hr hstep hdue hoff => becomes_of rfl (wakeComplete_of_good hr hstep hdue hoff),
    fun st t0 s hoff hdead hd hdue hseries hc => becomes_of rfl (deadStopRetry_of_due st hoff hdead hd hdue hseries hc)⟩
  case later => exact becomes_of rfl ((requestOffPin_in_wake h).trans (if_neg (by simpa using htick)))
  case wins => exact becomes_of rfl ((requestOffPin_in_wake h).trans (if_pos (by simpa using htick)))

/-! ## The minimal responder (R326, R484) -/

/-- The responder has the request: it is awake in OFF, and the packet came over the two-wire port within its limit. -/
structure AtResponder (rq : Request) (s : Chip) : Prop where
  off : s.mode.mode = .off
  awake : s.ostler.rxAwake = true
  wire : rq.port = .tw
  fits : rq.params.length ≤ portLimit .tw

/-- A request of a version that the responder knows is answered with what its opcode gives. -/
theorem respond_answers {anyVer : Bool} {rq : Request} {s : Chip} (f : Chip → Status × List Byte × Chip)
    (h : AtResponder rq s) (hv : anyVer = true ∨ rq.ver = 0x10#8) :
    respond anyVer rq f s = respondWith 0x10#8 rq.tag (f s).1 (f s).2.1 (f s).2.2 := by
  obtain ⟨hoff, hawake, hwire, hfits⟩ := h
  unfold respond
  rw [if_pos (by simp [hoff, hawake, hwire]), if_neg (Nat.not_lt.mpr hfits), if_neg (by rcases hv with h | h <;> simp [h])]

/-- HELLO with 0x10 in the host's range agrees on it. -/
theorem respHello_agrees {rq : Request} (s : Chip) (hlo : arg rq 1 1 ≤ 0x10) (hhi : 0x10 ≤ arg rq 0 1) :
    respHello rq s = (.ok, helloData s .tw 0x10 1 (zeros 8), s) := by
  have hag : agreed (arg rq 0 1) (arg rq 1 1) = some 0x10 := by
    simp [agreed, version, hlo, hhi]
  rw [respHello, hag]

/-- The condition under which MODE_REQUEST has its effect at the responder. -/
theorem modeRequest_taken {rq : Request} {s : Chip} (h : AtResponder rq s) (hv : rq.ver = 0x10#8) :
    (s.mode.mode == .off && s.ostler.rxAwake && rq.port == .tw && rq.ver == 0x10#8
      && decide (rq.params.length ≤ portLimit .tw)) = true := by
  obtain ⟨hoff, hawake, hwire, hfits⟩ := h
  simp [hoff, hawake, hwire, hv, hfits]

/-- An OFF request in OFF leaves the request at the responder. -/
theorem AtResponder.requestOffPin {rq : Request} {s : Chip} (h : AtResponder rq s) : AtResponder rq (requestOffPin s) := by
  obtain ⟨hoff, hawake, hwire, hfits⟩ := h
  rw [requestOffPin_in_off hoff]
  exact ⟨hoff, hawake, hwire, hfits⟩

theorem responderModeRequest_off {rq : Request} {s : Chip} (st : Straps) (h : AtResponder rq s) (hv : rq.ver = 0x10#8)
    (h0 : arg rq 0 1 = 0) :
    responderModeRequest rq st s
      = respondWith 0x10#8 rq.tag .ok (le 4 (offWord (requestOffPin s))) (requestOffPin s) := by
  unfold responderModeRequest
  dsimp only
  rw [if_neg (by simp [h0]), if_pos h0, if_pos (modeRequest_taken h hv)]
  exact respond_answers _ h.requestOffPin (.inr hv)

theorem responderModeRequest_wake {rq : Request} {s u : Chip} (st : Straps) (h : AtResponder rq s) (hv : rq.ver = 0x10#8)
    (h23 : arg rq 0 1 = 2 ∨ arg rq 0 1 = 3)
    (hu : u = respondWith 0x10#8 rq.tag .accepted (le 4 (offWord s)) s) :
    responderModeRequest rq st s
      = if (requestWake st (u.modOst fun o => { o with wakeTag := some rq.tag })).mode.mode == .wake then
          (requestWake st (u.modOst fun o => { o with wakeTag := some rq.tag })).modPort .tw fun ps =>
            { ps with lastRead := ((waitingReply u .tw).map replyBytes).getD [] }
        else requestWake st (u.modOst fun o => { o with wakeTag := some rq.tag }) := by
  unfold responderModeRequest
  dsimp only
  rw [if_pos (by simpa using h23), if_pos (modeRequest_taken h hv), respond_answers _ h (.inr hv), hu]

theorem responderModeRequest_other {rq : Request} {s : Chip} (st : Straps) (h : AtResponder rq s) (hv : rq.ver = 0x10#8)
    (h0 : arg rq 0 1 ≠ 0) (h2 : arg rq 0 1 ≠ 2) (h3 : arg rq 0 1 ≠ 3) :
    responderModeRequest rq st s = respondWith 0x10#8 rq.tag .notInMode (le 4 (offWord s)) s := by
  unfold responderModeRequest
  dsimp only
  rw [if_neg (by simp [h2, h3]), if_neg h0]
  exact respond_answers _ h (.inr hv)

theorem rxWake_wakes {s : Chip} (hoff : s.mode.mode = .off) (ha : s.ostler.alive = true) (hr : s.ostler.rxAwake = false) :
    rxWake s = s.modOst fun o => { o with rxAwake := true, rxLast := s.now } :=
  if_pos (by simp [hoff, ha, hr])

theorem rxSleep_sleeps {s : Chip} (hoff : s.mode.mode = .off) (hdue : s.ostler.rxLast + 100000 ≤ s.now) :
    rxSleep s = s.modOst fun o => { o with rxAwake := false } :=
  if_pos (by simp [hoff, hdue])

/-- Settles O9: the responder has the request, so each opcode's answer is given; MODE_REQUEST is told apart by its target. -/
theorem responderAnswersInOff : Obligations.ResponderAnswersInOff := by
  refine ⟨?ping, ?hello, ?modeGet, ?off, ?wake, ?unreachable, ?block, ?other, ?rxWake, ?rxSleep⟩
  case ping =>
    intro rq s hoff hawake hwire hfits hv
    exact becomes_of rfl (respond_answers _ ⟨hoff, hawake, hwire, hfits⟩ (.inr hv))
  case hello =>
    intro rq s hoff hawake hwire hfits hlo hhi
    exact becomes_of rfl ((respond_answers _ ⟨hoff, hawake, hwire, hfits⟩ (.inl rfl)).trans
      (by rw [respHello_agrees s.chip hlo hhi]))
  case modeGet =>
    intro rq s hoff hawake hwire hfits hv
    exact becomes_of rfl (respond_answers _ ⟨hoff, hawake, hwire, hfits⟩ (.inr hv))
  case off =>
    intro rq st s hoff hawake hwire hfits hv h0
    exact becomes_of rfl (responderModeRequest_off st ⟨hoff, hawake, hwire, hfits⟩ hv h0)
  case wake =>
    rintro rq st s u _ hoff hawake hwire hfits hv h23 hu rfl
    exact becomes_of rfl (responderModeRequest_wake st ⟨hoff, hawake, hwire, hfits⟩ hv h23 hu)
  case unreachable =>
    intro rq st s hoff hawake hwire hfits hv h0 h2 h3
    exact becomes_of rfl (responderModeRequest_other st ⟨hoff, hawake, hwire, hfits⟩ hv h0 h2 h3)
  case block =>
    intro rq s hoff hawake hwire hfits hv hblock hpage
    exact becomes_of rfl ((respond_answers _ ⟨hoff, hawake, hwire, hfits⟩ (.inr hv)).trans (by simp [hblock, hpage]))
  case other =>
    intro rq op s hoff hawake hwire hfits hv htable hindex
    exact becomes_of rfl ((if_neg (by simp [htable])).trans
      ((respond_answers _ ⟨hoff, hawake, hwire, hfits⟩ (.inr hv)).trans (by simp [hindex])))
  case rxWake =>
    intro s hoff ha hr
    exact becomes_of rfl (rxWake_wakes hoff ha hr)
  case rxSleep =>
    intro s hoff hdue
    exact becomes_of rfl (rxSleep_sleeps hoff hdue)

end Sys2Proof.Machine
end

section
/-! PROOFS. The clocks, the temperature samples and the reference trims (spec/18_waking_clocks_heat.md). -/

namespace Sys2Proof.Machine

/-! ## The clocks (R497, R498) -/

theorem clocked_of_alive {s : Chip} (h : yardAlive s = true) : clocked s = true := by simp [clocked, h]

theorem xtalFail_of_locked {s : Chip} (ha : yardAlive s = true) (hd : s.clk.degraded = false) :
    xtalFail s
      = evalFault (evalFault ((rcReference s).modOst fun o => { o with xtalFailed := true }) 0x0F08 true) 0x0F09 true :=
  (if_pos (by simp [clocked_of_alive ha, hd])).trans (if_pos ha)

theorem xtalRetry_of_due {s : Chip} (ha : yardAlive s = true) (hd : s.clk.degraded = true) (hok : s.ostler.xtalOk = none)
    (hdue : s.ostler.xtalNext ≤ s.now) :
    xtalRetry s = s.modOst fun o => { o with xtalNext := s.now + 10000000, xtalOk := some s.now } :=
  if_pos (by simp [ha, hd, hok, hdue])

theorem xtalRestore_of_passed {s : Chip} {t0 : Nat} (ha : yardAlive s = true) (hd : s.clk.degraded = true)
    (hok : s.ostler.xtalOk = some t0) (hdue : t0 + 1000000 ≤ s.now) :
    xtalRestore s = setLive (setLive ({ s with clk := { s.clk with degraded := false } }.modOst fun o =>
      { o with xtalFailed := false, xtalOk := none }) 0x0F08 false) 0x0F09 false := by
  have hpassed : (s.ostler.xtalOk.any fun t => decide (t + 1000000 ≤ s.now)) = true := by
    rw [hok, Option.any_some]
    exact decide_eq_true hdue
  exact if_pos (by simp only [ha, hd, hpassed, Bool.and_true])

theorem pllUnlock_of_recovered {s : Chip} (ha : yardAlive s = true) (hd : s.clk.degraded = false) :
    pllUnlock true s = setFault s 0x0F0A :=
  (if_neg (by simp [clocked_of_alive ha])).trans (if_neg (by simp [hd]))

theorem rcClockFail_of_degraded {s : Chip} (ha : yardAlive s = true) (hd : s.clk.degraded = true) :
    rcClockFail s = enterDeadStop 0x19 0 s :=
  if_pos (by simp [clocked_of_alive ha, hd])

/-! ## The evaluation of faults loses no set bit (R403, R404) -/

@[simp] theorem isSticky_setLive (s : Chip) (id : Nat) (on : Bool) (i : Nat) : isSticky (setLive s id on) i = isSticky s i := rfl

theorem isSticky_setFault_of_set {s : Chip} {i : Nat} (id : Nat) (h : isSticky s i = true) :
    isSticky (setFault s id) i = true := by
  cases he : sourceExists id with
  | true => simp [isSticky_setFault i he, h]
  | false => rw [setFault_of_noSource he, h]

/-- From `s` to `t` faults were evaluated: their parts alone differ, and no set bit is lost. -/
structure FaultsJudged (s t : Chip) : Prop where
  only : OnlyFaultParts s t
  kept : ∀ i, isSticky s i = true → isSticky t i = true

theorem FaultsJudged.refl (s : Chip) : FaultsJudged s s := ⟨.refl _ s, fun _ => id⟩

theorem FaultsJudged.trans {s t u : Chip} (h : FaultsJudged s t) (k : FaultsJudged t u) : FaultsJudged s u :=
  ⟨h.only.trans k.only, fun i hi => k.kept i (h.kept i hi)⟩

theorem evalFault_judged (s : Chip) (id : Nat) (on : Bool) : FaultsJudged s (evalFault s id on) := by
  refine ⟨evalFault_onlyFaultParts s id on, fun i hi => ?_⟩
  unfold evalFault
  split
  · exact isSticky_setFault_of_set id hi
  · exact hi

theorem foldl_judged {α : Type} {g : Chip → α → Chip} (hg : ∀ y a, FaultsJudged y (g y a)) (l : List α) (s : Chip) :
    FaultsJudged s (l.foldl g s) := by
  induction l generalizing s with
  | nil => exact .refl s
  | cons a l ih => exact (hg s a).trans (ih (g s a))

/-- A condition that holds sets the bit of its source. -/
theorem isSticky_evalFault {s : Chip} {id : Nat} {on : Bool} (he : sourceExists id = true) (h : on = true) :
    isSticky (evalFault s id on) id = true := by
  subst h
  exact (isSticky_setFault id he).trans (by simp)

/-! ## The stages of a temperature sample (R501, R502, R503, R505) -/

/-- The readings of a sample's counts. -/
def readings (counts : List Nat) : Sample := (List.range 12).map fun k => (counts.getD k 0, sensorTemp k (counts.getD k 0))

/-- The sensors have their new states, and the source of each says whether it is excluded. -/
def sensorsSampled (counts : List Nat) (s : Chip) : Chip :=
  forEach 12 (fun k s => evalFault s (0x0E10 + k) (!(sensor s k).valid))
    (s.modHeat fun h => { h with sensors := (List.range 12).map (sampleSensor s (readings counts)) })

/-- Two sensors of a die are excluded. -/
def dieDegraded (s : Chip) : Bool := decide (2 ≤ excluded s (List.range 8)) || decide (2 ≤ excluded s [8, 9, 10, 11])

def dieJudged (s : Chip) : Chip := evalFault (s.modHeat fun h => { h with degraded := dieDegraded s }) 0x0E20 (dieDegraded s)

def levelsFound (s : Chip) : Chip := s.modHeat fun h => { h with levels := (List.range 3).map (deviceLevel s) }

/-- The warning and the throttle level have set their sources. -/
def levelsTold (s : Chip) : Chip :=
  evalFault (evalFault s 0x0E00 (tget s.heat.levels 0)) 0x0E01 (tget (evalFault s 0x0E00 (tget s.heat.levels 0)).heat.levels 1)

/-- TS0 is the Ostler's too, where it is valid. -/
def ts0Handed (s : Chip) : Chip := if (sensor s 0).valid then s.modOst fun o => { o with ts0 := (sensor s 0).t } else s

/-- The block in which a sample has worked out its levels. -/
def heatJudged (counts : List Nat) (s : Chip) : Chip := levelsFound (dieJudged (sensorsSampled counts s))

theorem sampleAll_stages (counts : List Nat) (s : Chip) :
    sampleAll counts s = nextSample (rcTrim (ts0Handed (shutdownStep
      (tget (levelsTold (heatJudged counts s)).heat.levels 2) (levelsTold (heatJudged counts s))))) := by
  unfold sampleAll ts0Handed levelsTold heatJudged levelsFound dieJudged dieDegraded sensorsSampled readings
  rfl

theorem excluded_of_sensors {s t : Chip} (h : t.heat.sensors = s.heat.sensors) (ks : List Nat) :
    excluded t ks = excluded s ks := by
  simp [excluded, sensor, h]

theorem dieDegraded_of_sensors {s t : Chip} (h : t.heat.sensors = s.heat.sensors) : dieDegraded t = dieDegraded s := by
  simp [dieDegraded, excluded_of_sensors h]

theorem deviceLevel_of_heat {s t : Chip} (h : t.heat.sensors = s.heat.sensors) (hd : t.heat.degraded = s.heat.degraded) :
    deviceLevel t = deviceLevel s := by
  funext i
  simp [deviceLevel, h, hd]

@[simp] theorem evalFault_heat (s : Chip) (id : Nat) (on : Bool) : (evalFault s id on).heat = s.heat :=
  (evalFault_judged s id on).only .heat (by decide)

/-- The sensors with their new states, before their sources are evaluated. -/
def sensorsStepped (counts : List Nat) (s : Chip) : Chip :=
  s.modHeat fun h => { h with sensors := (List.range 12).map (sampleSensor s (readings counts)) }

theorem sensorsSampled_judged (counts : List Nat) (s : Chip) :
    FaultsJudged (sensorsStepped counts s) (sensorsSampled counts s) := by
  unfold sensorsSampled forEach sensorsStepped
  exact foldl_judged (fun y k => evalFault_judged y (0x0E10 + k) (!(sensor y k).valid)) _ _

@[simp] theorem sensorsSampled_heat (counts : List Nat) (s : Chip) :
    (sensorsSampled counts s).heat = (sensorsStepped counts s).heat :=
  (sensorsSampled_judged counts s).only .heat (by decide)

@[simp] theorem levelsTold_heat (s : Chip) : (levelsTold s).heat = s.heat := by simp [levelsTold]

theorem shutdownStep_heat (on : Bool) (s : Chip) : (shutdownStep on s).heat = s.heat := by
  unfold shutdownStep
  dsimp only
  split_ifs
  · rfl
  · rfl
  · rfl
  · exact setFault_onlyFaultParts _ _ .heat (by decide)

/-- What a sample has found: the states of the sensors, and what they mean for the dies and the device. -/
structure SameFindings (s t : Chip) : Prop where
  sensors : t.heat.sensors = s.heat.sensors
  degraded : t.heat.degraded = s.heat.degraded
  levels : t.heat.levels = s.heat.levels

theorem SameFindings.trans {s t u : Chip} (h : SameFindings s t) (k : SameFindings t u) : SameFindings s u :=
  ⟨k.sensors.trans h.sensors, k.degraded.trans h.degraded, k.levels.trans h.levels⟩

theorem SameFindings.of_heat {s t : Chip} (h : t.heat = s.heat) : SameFindings s t := by
  refine ⟨?_, ?_, ?_⟩ <;> rw [h]

theorem ts0Handed_heat (s : Chip) : (ts0Handed s).heat = s.heat := by
  unfold ts0Handed
  split <;> rfl

/-- The RC's trim follows the findings and changes no other part. -/
theorem rcTrim_keeps_findings (s : Chip) : SameFindings s (rcTrim s) ∧ Only [.heat] s (rcTrim s) := by
  have heat (h : Heat) : Only [.heat] s { s with heat := h } := by
    intro p hp
    cases p with
    | heat => exact absurd (.head _) hp
    | _ => rfl
  unfold rcTrim
  dsimp only
  split_ifs
  · exact ⟨.of_heat rfl, .refl _ s⟩
  · exact ⟨.of_heat rfl, .refl _ s⟩
  · exact ⟨⟨rfl, rfl, rfl⟩, heat _⟩

theorem nextSample_keeps_findings (s : Chip) : SameFindings s (nextSample s) := ⟨rfl, rfl, rfl⟩

/-- The next sample comes 50 µs or 1 ms after this one. -/
theorem nextSample_next (s : Chip) : (nextSample s).heat.next = s.now + 50 ∨ (nextSample s).heat.next = s.now + 1000 := by
  have later (fast : Bool) :
      s.now + (if fast then 50 else 1000) = s.now + 50 ∨ s.now + (if fast then 50 else 1000) = s.now + 1000 := by
    cases fast
    · exact .inr rfl
    · exact .inl rfl
  exact later _

/-! ## What a temperature sample leaves (R502, R503, R504, R505) -/

/-- What a sample may change: what faults touch, the pair's register, the heat and the Ostler. -/
abbrev OnlySampled (s t : Chip) : Prop := Only [.mode, .events, .faults, .sketch, .pair, .heat, .ostler] s t

theorem FaultsJudged.sampled {s t : Chip} (h : FaultsJudged s t) : OnlySampled s t :=
  (Only.refl _ s).trans h.only (by decide)

theorem sampled_only (s : Chip) (p : PairBlock) (h : Heat) (o : Ostler) :
    OnlySampled s { s with pair := p, heat := h, ostler := o } := by
  intro q hq
  cases q with
  | pair | heat | ostler => exact absurd (by decide) hq
  | _ => rfl

theorem OnlySampled.trans {s t u : Chip} (h : OnlySampled s t) (k : OnlySampled t u) : OnlySampled s u :=
  Only.trans h k fun _ => id

@[simp] theorem sensorsStepped_heat (counts : List Nat) (s : Chip) : (sensorsStepped counts s).heat
    = { s.heat with sensors := (List.range 12).map (sampleSensor s (readings counts)) } := rfl

@[simp] theorem dieJudged_heat (s : Chip) : (dieJudged s).heat = { s.heat with degraded := dieDegraded s } := by
  rw [dieJudged, evalFault_heat]
  rfl

@[simp] theorem levelsFound_heat (s : Chip) :
    (levelsFound s).heat = { s.heat with levels := (List.range 3).map (deviceLevel s) } := rfl

/-- The block in which the levels are found: sensors, dies and levels are those of the sample. -/
theorem heatJudged_findings (counts : List Nat) (s : Chip) :
    (heatJudged counts s).heat.sensors = (List.range 12).map (sampleSensor s (readings counts))
      ∧ (heatJudged counts s).heat.degraded = dieDegraded (heatJudged counts s)
      ∧ (heatJudged counts s).heat.levels = (List.range 3).map (deviceLevel (heatJudged counts s)) := by
  have hsensors : (heatJudged counts s).heat.sensors = (sensorsSampled counts s).heat.sensors := by simp [heatJudged]
  have hdevice : deviceLevel (heatJudged counts s) = deviceLevel (dieJudged (sensorsSampled counts s)) :=
    deviceLevel_of_heat (by simp [heatJudged]) (by simp [heatJudged])
  rw [dieDegraded_of_sensors hsensors, hdevice]
  simp [heatJudged]

theorem sensorsStepped_only (counts : List Nat) (s : Chip) : OnlySampled s (sensorsStepped counts s) :=
  sampled_only s _ _ _

theorem dieJudged_only (s : Chip) : OnlySampled s (dieJudged s) ∧ (dieJudged s).pair = s.pair := by
  have h := evalFault_judged (s.modHeat fun h => { h with degraded := dieDegraded s }) 0x0E20 (dieDegraded s)
  exact ⟨(sampled_only s _ _ _).trans h.sampled, h.only .pair (by decide)⟩

theorem levelsFound_only (s : Chip) : OnlySampled s (levelsFound s) ∧ (levelsFound s).pair = s.pair :=
  ⟨sampled_only s _ _ _, rfl⟩

theorem heatJudged_only (counts : List Nat) (s : Chip) :
    OnlySampled s (heatJudged counts s) ∧ (heatJudged counts s).pair = s.pair := by
  have sensors := sensorsSampled_judged counts s
  obtain ⟨hdie, hpair⟩ := dieJudged_only (sensorsSampled counts s)
  obtain ⟨hlevels, hkept⟩ := levelsFound_only (dieJudged (sensorsSampled counts s))
  unfold heatJudged
  refine ⟨(((sensorsStepped_only counts s).trans sensors.sampled).trans hdie).trans hlevels, ?_⟩
  have hstepped : (sensorsSampled counts s).pair = (sensorsStepped counts s).pair := sensors.only .pair (by decide)
  rw [hkept, hpair, hstepped]
  rfl

theorem levelsTold_judged (s : Chip) : FaultsJudged s (levelsTold s) :=
  (evalFault_judged s _ _).trans (evalFault_judged _ _ _)

/-- The warning and the throttle level set their sources where they stand. -/
theorem levelsTold_sticky (s : Chip) :
    (tget s.heat.levels 0 = true → isSticky (levelsTold s) 0x0E00 = true)
      ∧ (tget s.heat.levels 1 = true → isSticky (levelsTold s) 0x0E01 = true) := by
  refine ⟨fun h => ?_, fun h => ?_⟩
  · exact (evalFault_judged _ _ _).kept _ (isSticky_evalFault (by decide) h)
  · exact isSticky_evalFault (by decide) (by rwa [evalFault_heat])

/-- The shutdown level loses no bit, and leaves all but what faults and a handover touch. -/
theorem shutdownStep_only (on : Bool) (s : Chip) :
    OnlySampled s (shutdownStep on s) ∧ ∀ i, isSticky s i = true → isSticky (shutdownStep on s) i = true := by
  have live : OnlySampled s (setLive s 0x0E02 on) := by
    intro q hq
    cases q with
    | faults => exact absurd (by decide) hq
    | _ => rfl
  unfold shutdownStep
  dsimp only
  split_ifs
  · exact ⟨live, fun _ => id⟩
  · exact ⟨live.trans (sampled_only _ _ _ _), fun _ => id⟩
  · exact ⟨live.trans (sampled_only _ _ _ _), fun _ => id⟩
  · exact ⟨live.trans ((Only.refl _ _).trans (setFault_onlyFaultParts _ _) (by decide)),
      fun i hi => isSticky_setFault_of_set 0x0E02 hi⟩

/-- A member alone answers the shutdown level with its source. -/
theorem shutdownStep_sticky {s : Chip} (hp : isPaired s = false) (hh : s.pair.me.handHot = false) :
    isSticky (shutdownStep true s) 0x0E02 = true := by
  have hp' : isPaired (setLive s 0x0E02 true) = false := hp
  have hh' : (setLive s 0x0E02 true).pair.me.handHot = false := hh
  unfold shutdownStep
  dsimp only
  rw [hp', hh']
  cases hset : isSticky (setLive s 0x0E02 true) 0x0E02 with
  | true => simp [hset]
  | false => simp [isSticky_setFault 0x0E02 (s := setLive s 0x0E02 true) (id := 0x0E02) (by decide)]

/-- The block after the levels were found and have acted, before the RC's trim and the plan of the next sample. -/
def heatActed (counts : List Nat) (s : Chip) : Chip :=
  ts0Handed (shutdownStep (tget (levelsTold (heatJudged counts s)).heat.levels 2) (levelsTold (heatJudged counts s)))

theorem ts0Handed_only (s : Chip) : OnlySampled s (ts0Handed s) ∧ (ts0Handed s).faults = s.faults := by
  unfold ts0Handed
  split
  · exact ⟨sampled_only s _ _ _, rfl⟩
  · exact ⟨.refl _ s, rfl⟩

theorem ts0Handed_ts0 {s : Chip} (h : (sensor (ts0Handed s) 0).valid = true) :
    (ts0Handed s).ostler.ts0 = (sensor (ts0Handed s) 0).t := by
  have hsensor : sensor (ts0Handed s) 0 = sensor s 0 := by rw [sensor, ts0Handed_heat, sensor]
  rw [hsensor] at h ⊢
  rw [ts0Handed, if_pos h]
  rfl

theorem heatActed_heat (counts : List Nat) (s : Chip) : (heatActed counts s).heat = (heatJudged counts s).heat := by
  rw [heatActed, ts0Handed_heat, shutdownStep_heat, levelsTold_heat]

theorem heatActed_only (counts : List Nat) (s : Chip) : OnlySampled s (heatActed counts s) :=
  (((heatJudged_only counts s).1.trans (levelsTold_judged _).sampled).trans (shutdownStep_only _ _).1).trans (ts0Handed_only _).1

/-- The levels that stand have set their sources: the shutdown level at a member alone. -/
theorem heatActed_sticky (counts : List Nat) (s : Chip) :
    (tget (heatJudged counts s).heat.levels 0 = true → isSticky (heatActed counts s) 0x0E00 = true)
      ∧ (tget (heatJudged counts s).heat.levels 1 = true → isSticky (heatActed counts s) 0x0E01 = true)
      ∧ (isPaired s = false → s.pair.me.handHot = false → tget (heatJudged counts s).heat.levels 2 = true →
          isSticky (heatActed counts s) 0x0E02 = true) := by
  obtain ⟨honly, hpair⟩ := heatJudged_only counts s
  obtain ⟨hwarn, hthrottle⟩ := levelsTold_sticky (heatJudged counts s)
  have hfaults (y : Chip) (i : Nat) (h : isSticky y i = true) : isSticky (ts0Handed y) i = true := by
    rw [isSticky, (ts0Handed_only y).2]
    exact h
  have kept (i : Nat) (h : isSticky (levelsTold (heatJudged counts s)) i = true) : isSticky (heatActed counts s) i = true :=
    hfaults _ i ((shutdownStep_only _ _).2 i h)
  refine ⟨fun h => kept _ (hwarn h), fun h => kept _ (hthrottle h), fun hp hh h => hfaults _ _ ?_⟩
  have hjudged := (levelsTold_judged (heatJudged counts s)).only
  have hstrap : (levelsTold (heatJudged counts s)).strap = s.strap := (hjudged .strap (by decide)).trans (honly .strap (by decide))
  have hme : (levelsTold (heatJudged counts s)).pair = s.pair := (hjudged .pair (by decide)).trans hpair
  have hp' : isPaired (levelsTold (heatJudged counts s)) = false := by
    rw [isPaired, hstrap]
    exact hp
  have hh' : (levelsTold (heatJudged counts s)).pair.me.handHot = false := by
    rw [hme]
    exact hh
  rw [levelsTold_heat, h]
  exact shutdownStep_sticky hp' hh'

theorem heatActed_ts0 {counts : List Nat} {s : Chip} (h : (sensor (heatActed counts s) 0).valid = true) :
    (heatActed counts s).ostler.ts0 = (sensor (heatActed counts s) 0).t := by
  unfold heatActed at h ⊢
  exact ts0Handed_ts0 h

theorem sampleAll_findings (counts : List Nat) (s : Chip) : SameFindings (heatJudged counts s) (sampleAll counts s) := by
  rw [sampleAll_stages]
  exact ((SameFindings.of_heat (heatActed_heat counts s)).trans (rcTrim_keeps_findings _).1).trans (nextSample_keeps_findings _)

/-- The RC's trim and the plan of the next sample change the heat alone. -/
theorem sampleAll_after (counts : List Nat) (s : Chip) : Only [.heat] (heatActed counts s) (sampleAll counts s) := by
  rw [sampleAll_stages]
  have planned (y : Chip) : Only [.heat] y (nextSample y) := by
    intro p hp
    cases p with
    | heat => exact absurd (.head _) hp
    | _ => rfl
  exact (rcTrim_keeps_findings (heatActed counts s)).2.trans (planned _) fun _ => id

theorem sampleAll_next (counts : List Nat) (s : Chip) :
    (sampleAll counts s).heat.next = s.now + 50 ∨ (sampleAll counts s).heat.next = s.now + 1000 := by
  have hnow : (rcTrim (heatActed counts s)).now = s.now :=
    congrArg Clock.tick (((rcTrim_keeps_findings _).2 .clk (by decide)).trans (heatActed_only counts s .clk (by decide)))
  rw [sampleAll_stages, ← hnow]
  exact nextSample_next _

/-- A sample that is due, after one in which no sensor of the Stable die was at its top, is taken without the backstop. -/
theorem tempSample_of_due {counts : List Nat} {s : Chip} (ha : yardAlive s = true) (hdue : s.heat.next ≤ s.now)
    (htop : ((List.range 8).all fun k => !(sensor s k).top) = true) : tempSample counts s = sampleAll counts s := by
  have hcool : topTwice s (sampleAll counts s) = false := by
    rw [topTwice, List.any_eq_false]
    intro k hk
    have hk' := List.all_eq_true.mp htop k hk
    rw [Bool.not_eq_true'] at hk'
    simp [hk']
  exact (if_neg (by simp [ha, hdue])).trans (if_neg (by simp [hcool]))

/-! ## The reference trims and TS0 (R485, R504, R506) -/

/-- The trims as they are computed: each moves by at most 2 ppm. -/
def trimsComputed (s : Chip) : List Int :=
  (List.range 4).map fun k => tget s.heat.trimNext k + clampI (-2) 2
    (Config.trimTarget k ((List.range 8).map fun k => if (sensor s k).valid then some (sensor s k).t else none)
      - tget s.heat.trimNext k)

theorem referenceTrim_of_due {s : Chip} (ha : yardAlive s = true) (hdue : s.heat.trimDue ≤ s.now) :
    referenceTrim s = s.modHeat fun h => { h with trimNext := trimsComputed s, trimDue := s.now + 10000 } :=
  if_neg (by simp [ha, hdue])

theorem trimsComputed_near (s : Chip) {k : Nat} (hk : k < 4) :
    (tget (trimsComputed s) k - tget s.heat.trimNext k).natAbs ≤ 2 := by
  have hclamp (v : Int) : (clampI (-2) 2 v).natAbs ≤ 2 := by
    unfold clampI
    omega
  simpa [trimsComputed, tget, hk] using hclamp _

theorem only_heat (s : Chip) (h : Heat) : Only [.heat] s { s with heat := h } := by
  intro p hp
  cases p with
  | heat => exact absurd (.head _) hp
  | _ => rfl

theorem ts0Read_of_cool {s : Chip} {v : Int} (st : Straps) (ha : s.ostler.alive = true) (hy : yardAlive s = false)
    (hcool : v < 15000 ∨ s.ostler.ts0 < 15000 ∨ (s.mode.mode = .off ∧ s.ostler.deadStop = true)) :
    ts0Read v st s = wakeIfReady st (s.modOst fun o => { o with ts0 := v }) := by
  refine (if_pos (by simp [ha, hy])).trans (if_neg ?_)
  simp only [Bool.and_eq_true, Bool.not_eq_true', decide_eq_true_eq, Bool.and_eq_false_iff, beq_eq_false_iff_ne]
  rcases hcool with h | h | ⟨hoff, hdead⟩
  · omega
  · omega
  · simp [hoff, hdead]

theorem ts0Read_of_top {s : Chip} {v : Int} (st : Straps) (ha : s.ostler.alive = true) (hy : yardAlive s = false)
    (hdead : ¬(s.mode.mode = .off ∧ s.ostler.deadStop = true)) (hv : 15000 ≤ v) (hlast : 15000 ≤ s.ostler.ts0) :
    ts0Read v st s = enterDeadStop 0x18 0 (s.modOst fun o => { o with ts0 := v }) := by
  refine (if_pos (by simp [ha, hy])).trans (if_pos ?_)
  simpa [hv, hlast, imp_iff_not_or] using hdead

/-- Settles O10: each event is due, so its action is taken; a sample's findings are those of its levels, and nothing after
them loses a bit. -/
theorem clocksAndHeatAct : Obligations.ClocksAndHeatAct := by
  refine ⟨fun s ha hd => becomes_of rfl (xtalFail_of_locked ha hd),
    fun s ha hd hok hdue => becomes_of rfl (xtalRetry_of_due ha hd hok hdue),
    fun t0 s ha hd hok hdue => becomes_of rfl (xtalRestore_of_passed ha hd hok hdue),
    fun s ha hd => becomes_of rfl (pllUnlock_of_recovered ha hd),
    fun s ha hd => becomes_of rfl (rcClockFail_of_degraded ha hd), ?sample,
    fun s ha hdue => ⟨_, becomes_of rfl (referenceTrim_of_due ha hdue), rfl, fun k hk => trimsComputed_near s.chip hk,
      only_heat _ _⟩,
    fun v st s ha hy hcool => becomes_of rfl (ts0Read_of_cool st ha hy hcool),
    fun v st s ha hy hdead hv hlast => becomes_of rfl (ts0Read_of_top st ha hy hdead hv hlast)⟩
  case sample =>
    rintro counts _ s ha hdue htop rfl
    obtain ⟨hsensors, hdegraded, hlevels⟩ := heatJudged_findings counts s.chip
    obtain ⟨hwarn, hthrottle, hshutdown⟩ := heatActed_sticky counts s.chip
    have found := sampleAll_findings counts s.chip
    have after := sampleAll_after counts s.chip
    have hfaults : (sampleAll counts s.chip).faults = (heatActed counts s.chip).faults := after .faults (by decide)
    have hostler : (sampleAll counts s.chip).ostler = (heatActed counts s.chip).ostler := after .ostler (by decide)
    have hsticky (i : Nat) : isSticky (sampleAll counts s.chip) i = isSticky (heatActed counts s.chip) i := by
      rw [isSticky, hfaults, isSticky]
    refine ⟨_, becomes_of rfl (tempSample_of_due ha hdue htop), found.sensors.trans hsensors, ?_, ?_, ?_, ?_, ?_, ?_,
      sampleAll_next counts s.chip⟩
    · exact (found.degraded.trans hdegraded).trans (dieDegraded_of_sensors found.sensors).symm
    · rw [deviceLevel_of_heat found.sensors found.degraded]
      exact found.levels.trans hlevels
    · rw [found.levels, hsticky]
      exact hwarn
    · rw [found.levels, hsticky]
      exact hthrottle
    · rw [found.levels, hsticky]
      exact hshutdown
    · intro hvalid
      have hsame : sensor (sampleAll counts s.chip) 0 = sensor (heatActed counts s.chip) 0 := by
        rw [sensor, found.sensors, sensor, heatActed_heat]
      rw [hsame] at hvalid ⊢
      rw [hostler]
      exact heatActed_ts0 hvalid

end Sys2Proof.Machine
end

section
/-! PROOFS. The downstream buses: the pass-through opcodes and what happens on a bus (spec/12_wires_to_host_and_modules.md). -/

namespace Sys2Proof.Machine

/-! ## What a body reads of the block when it meets its request -/

section
variable (opcode : Nat) (rq : Request) (s : Chip)

@[simp] theorem taken_bus (k : Nat) : (taken opcode rq s).bus k = s.bus k :=
  taken_reads (·.bus k) opcode rq s (fun _ _ => rfl) fun _ _ => rfl
@[simp] theorem taken_busWord (k : Nat) : busWord (taken opcode rq s) k = busWord s k :=
  taken_reads (busWord · k) opcode rq s (fun _ _ => rfl) fun _ _ => rfl
@[simp] theorem taken_running : running (taken opcode rq s) = running s :=
  taken_reads running opcode rq s (fun _ _ => rfl) fun _ _ => rfl
@[simp] theorem taken_isBound (k a : Nat) : isBound (taken opcode rq s) k a = isBound s k a :=
  taken_reads (isBound · k a) opcode rq s (fun _ _ => rfl) fun _ _ => rfl
@[simp] theorem taken_dsRoom (k : Nat) : dsRoom (taken opcode rq s) k = dsRoom s k :=
  taken_reads (dsRoom · k) opcode rq s (fun _ _ => rfl) fun _ _ => rfl

end

/-! ## The pass-through opcodes (R340, R341) -/

section
variable {rq : Request} (r : ReqRef) {s : Chip}

/-- The transfer that DS_TRANSACT asks for. -/
def passAsked (rq : Request) (r : ReqRef) (s : Chip) : Pass :=
  { handle := (s.bus (arg rq 0 1)).handle, addr := arg rq 1 1, kind := arg rq 2 1, pec := arg rq 3 1 % 2 == 1,
    wdata := rq.params.drop 8, rlen := arg rq 5 1, ref := r }

/-- DS_TRANSACT that passes its checks takes the next handle and enters the bus's queue. -/
theorem bodyDsTransact_queues (hlen : passLengths (arg rq 2 1) (arg rq 4 1) (arg rq 5 1) = true) (hbus : arg rq 0 1 ≤ 3)
    (haddr : arg rq 1 1 ≤ 127) (hw : arg rq 4 1 ≤ 32) (hr : arg rq 5 1 ≤ 32)
    (hbound : (isWriteKind (arg rq 2 1) && running s && isBound s (arg rq 0 1) (arg rq 1 1)) = false)
    (hcount : passCount (s.bus (arg rq 0 1)) < 8) (hroom : dsRoom s (arg rq 0 1) = true) :
    bodyDsTransact rq r s
      = (.reply .accepted (le 1 (s.bus (arg rq 0 1)).handle ++ le 1 (s.bus (arg rq 0 1)).queue.length ++ zeros 2),
        dsPut (s.modBus (arg rq 0 1) fun b => { b with handle := (b.handle + 1) % 256 }) (arg rq 0 1)
          (.pass (passAsked rq r s))) := by
  refine (if_neg (by simp [hlen])).trans <| (if_neg ?_).trans <| (if_neg (by simp [hbound])).trans (if_neg ?_)
  · simp [hbus, haddr, hw, hr]
  · simp [hcount, hroom]

/-- The bus word and the counters, with which DS_STATUS begins. -/
def busHead (s : Chip) (k : Nat) : List Byte :=
  le 4 (busWord s k) ++ le 4 (s.bus k).completed ++ le 4 (s.bus k).arbStops ++ le 4 (s.bus k).timeouts ++ le 4 (s.bus k).ranges

theorem bodyDsStatus_bus (hbus : arg rq 0 1 ≤ 3) (hwant : arg rq 2 1 % 2 = 0) :
    bodyDsStatus rq r s = (.reply .ok (busHead s (arg rq 0 1) ++ le 1 0xFF ++ le 1 0xFF ++ zeros 34), s) :=
  (if_neg (Nat.not_lt.mpr hbus)).trans (if_pos (by simp [hwant]))

theorem bodyDsStatus_handle {x : DsResult} (hbus : arg rq 0 1 ≤ 3) (hwant : arg rq 2 1 % 2 = 1)
    (hx : handleOf (s.bus (arg rq 0 1)) (arg rq 1 1) = some x) :
    bodyDsStatus rq r s = (.reply .ok (busHead s (arg rq 0 1) ++ le 1 x.handle ++ le 1 x.result ++ le 1 x.data.length
      ++ zeros 1 ++ fit 32 x.data), s) := by
  refine (if_neg (Nat.not_lt.mpr hbus)).trans ((if_neg (by simp [hwant])).trans ?_)
  simp only [hx]
  rfl

end

/-! ## Happenings on a bus (R332, R333, R334) -/

section
variable {s : Chip} {k : Nat}

theorem dsTransaction_ends {o : BusOutcome} (ha : dsActive ((dsTake s k).bus k) = true) (hw : wireShows o.result.toNat = true) :
    dsTransaction k o s = dsFinish (dsTake s k) k (if ((dsTake s k).bus k).stuck then 7
      else wireResult ((dsTake s k).bus k) o.result.toNat) o.data :=
  if_pos (by rw [ha, hw]; rfl)

/-- The block in which the transaction of a bus has lost an address or data bit once more. -/
def bitLost (u : Chip) (k : Nat) : Chip := modRun u k fun r => { r with losses := r.losses + 1, waitFree := some u.now }

theorem dsArbLost_counts (ha : dsActive ((dsTake s k).bus k) = true) :
    dsArbLost k s = if ((bitLost (dsTake s k) k).bus k).run.any (fun r => 8 ≤ r.losses) then
      dsFinish (bitLost (dsTake s k) k) k 3 [] else bitLost (dsTake s k) k :=
  if_pos ha

/-- The block in which a lost STOP was counted and the recovery has run. -/
def stopLost (u : Chip) (k : Nat) (dataHigh clockHigh : Bool) : Chip :=
  recovers (setFault (u.modBus k fun b => { b with arbStops := sat32 b.arbStops 1 }) (dsSource 0 k)) k (dataHigh && clockHigh)

/-- The block in which the transaction backs off. -/
def backedOff (w : Chip) (k : Nat) : Chip :=
  modRun w.drawn k fun r =>
    { r with stops := r.stops + 1,
             backoff := some ((w.drawn.bus k).recoverEnd + (2 * (1 + w.draw % 8) + memberIndex w) * 100) }

theorem arbStop_backs_off {dataHigh clockHigh : Bool} {w : Chip} (ha : dsActive ((dsTake s k).bus k) = true)
    (hw : w = if dataHigh then stopLost (dsTake s k) k dataHigh clockHigh
      else setStuck (stopLost (dsTake s k) k dataHigh clockHigh) k true) :
    arbStop k dataHigh clockHigh s = if ((backedOff w k).bus k).run.any (fun r => 5 ≤ r.stops) then
      dsFinish (backedOff w k) k 4 [] else backedOff w k := by
  subst hw
  exact if_pos ha

theorem dsTimeout_of_due {dataHigh clockHigh : Bool}
    (hdue : ((s.bus k).run.any fun r => decide (r.start + 25000 ≤ s.now)) = true) :
    dsTimeout k dataHigh clockHigh s = dsFinish (if dataHigh then recovers s k (dataHigh && clockHigh)
      else setStuck (recovers s k (dataHigh && clockHigh)) k true) k 5 [] :=
  if_pos hdue

theorem dsRecoveryRetry_of_due {dataHigh clockHigh : Bool} (hs : (s.bus k).stuck = true) (hdue : (s.bus k).recoverDue ≤ s.now) :
    dsRecoveryRetry k dataHigh clockHigh s
      = setStuck (recovers s k (dataHigh && clockHigh)) k (!(dataHigh && clockHigh)) :=
  if_pos (by simp [hs, hdue])

end

/-- Settles O46: each opcode's checks pass, so it answers from the block before the request was taken; a transaction that
runs on the wires ends, is retried, or is given up by its counts. -/
theorem downstreamComplete : Obligations.DownstreamComplete := by
  refine ⟨?transact, ?bus, ?handle, ?ends, ?lost, ?stop, fun k s => rfl, ?timeout, ?recovery, fun k s => rfl⟩
  case transact =>
    rintro rq s h hlen hbus haddr hw hr hbound hcount hroom _ rfl
    exact serves_of rfl h ((bodyDsTransact_queues _ hlen hbus haddr hw hr (by simpa using hbound) (by simpa using hcount)
      (by simpa using hroom)).trans (by simp [passAsked]))
  case bus =>
    intro rq s h hbus hwant
    exact answers_of rfl h ((bodyDsStatus_bus _ hbus hwant).trans (by simp [busHead]))
  case handle =>
    intro rq x s h hbus hwant hx
    exact answers_of rfl h ((bodyDsStatus_handle _ hbus hwant (by simpa using hx)).trans (by simp [busHead]))
  case ends =>
    rintro _ k o s rfl ha hw
    exact becomes_of rfl (dsTransaction_ends ha hw)
  case lost =>
    rintro _ _ k s rfl ha rfl
    exact becomes_of rfl (dsArbLost_counts ha)
  case stop =>
    rintro _ _ w _ k dataHigh clockHigh s rfl ha rfl hw rfl
    exact becomes_of rfl (arbStop_backs_off ha hw)
  case timeout =>
    rintro _ k dataHigh clockHigh s rfl hdue
    exact becomes_of rfl (dsTimeout_of_due hdue)
  case recovery =>
    intro k dataHigh clockHigh s hs hdue
    exact becomes_of rfl (dsRecoveryRetry_of_due hs hdue)

end Sys2Proof.Machine
end

section
/-! PROOFS. The pair: its opcodes, the steps of a handover and of a takeover, and the mirror frames
(spec/13_stablemate_pair.md). -/

namespace Sys2Proof.Machine

/-! ## The pair opcodes (R361, R366) -/

section
variable (opcode : Nat) (rq : Request) (s : Chip)

@[simp] theorem taken_pairHealthData : pairHealthData (taken opcode rq s) = pairHealthData s :=
  taken_reads _ opcode rq s (fun _ _ => rfl) fun _ _ => rfl
@[simp] theorem taken_pairWord : pairWord (taken opcode rq s) = pairWord s :=
  taken_reads _ opcode rq s (fun _ _ => rfl) fun _ _ => rfl
@[simp] theorem taken_pair : (taken opcode rq s).pair = s.pair :=
  taken_reads _ opcode rq s (fun _ _ => rfl) fun _ _ => rfl
@[simp] theorem taken_isPaired : isPaired (taken opcode rq s) = isPaired s :=
  taken_reads _ opcode rq s (fun _ _ => rfl) fun _ _ => rfl
@[simp] theorem taken_partnerReady : partnerReady (taken opcode rq s) = partnerReady s :=
  taken_reads _ opcode rq s (fun _ _ => rfl) fun _ _ => rfl
@[simp] theorem taken_inHandover : inHandover (taken opcode rq s) = inHandover s :=
  taken_reads _ opcode rq s (fun _ _ => rfl) fun _ _ => rfl

end

/-- PAIR_HANDOVER with a READY standby begins the handover. -/
theorem bodyPairHandover_begins {rq : Request} (r : ReqRef) {s : Chip} (hp : isPaired s = true) (hr : partnerReady s = true)
    (hstage : s.mode.stage ≠ .powerDown) (hb : s.mode.mode = .bridge → arg rq 0 1 % 2 = 1) (hh : inHandover s = false) :
    bodyPairHandover rq r s = (.reply .accepted (le 4 (pairWord (beginHandover s (some r) false false))),
      beginHandover s (some r) false false) := by
  refine (if_neg (by simp [hp, hr, hstage])).trans ((if_neg ?_).trans (if_neg (by simp [hh])))
  simp only [Bool.and_eq_true, beq_iff_eq]
  rintro ⟨hbridge, heven⟩
  have hodd := hb hbridge
  omega

/-- Settles O37: each read answers its record of the block before the request was taken, and PAIR_HANDOVER passes its
checks. -/
theorem pairOpcodesComplete : Obligations.PairOpcodesComplete := by
  refine ⟨fun rq s h => answers_of rfl h (by simp [bodyPairHealth]), fun rq s h => answers_of rfl h (by simp [bodyPairGet]), ?_⟩
  rintro rq s h hp hr hstage hb hh _ rfl
  exact serves_of rfl h (bodyPairHandover_begins _ (by simpa using hp) (by simpa using hr) (by simpa using hstage)
    (by simpa using hb) (by simpa using hh))

/-! ## The steps of a handover (R361, R362, R505) -/

theorem handoverDrained_announces {s : Chip} (hd : s.pair.me.hand = .draining) (ha : isActive s = true)
    (hw : nothingWaits s = true) :
    handoverDrained s = s.modMe fun p => { p with hand := .announced (tickNo s + 4) } :=
  if_pos (by simp [hd, ha, hw])

theorem handoverRelinquish_gives {s : Chip} {t : Nat} (hd : s.pair.me.hand = .announced t) (ha : isActive s = true)
    (hdue : t + 1 ≤ tickNo s) (hrec : (meteringRuns s && (periodDue s || stillDue s)) = false) {u : Chip}
    (hu : u = (giveRole s .handover).modMe fun p =>
      { p with hand := .gone t, handRose := false, gapHold := true, handEpoch := some s.mode.epoch,
               handovers := sat32 p.handovers 1 }) :
    handoverRelinquish s
      = if u.pair.me.handHot then setFault (u.modMe fun p => { p with handHot := false }) 0x0E02 else u := by
  subst hu
  unfold handoverRelinquish
  rw [hd]
  exact if_pos (by simp [ha, hdue, hrec])

theorem handoverAbort_takes_back {s : Chip} {t : Nat} (hd : s.pair.me.hand = .gone t) (hin : s.pair.me.forceIn = false)
    (hrose : s.pair.me.handRose = false) (hdue : t + 5 ≤ tickNo s) :
    handoverAbort s = if s.pair.me.handHot then setFault (takeRole s s.mode.epoch .handover false) 0x0E02
      else takeRole s s.mode.epoch .handover false := by
  unfold handoverAbort
  rw [hd]
  exact if_pos (by simp [hin, hrose, hdue])

/-! ## The role at the start, and the takeover (R346, R348, R355, R356, R358, R360) -/

theorem roleTakeAtStart_heard {s : Chip} {t : Nat} (hl : s.pair.me.listen = some t) (ha : yardAlive s = true)
    (hh : s.pair.me.heard = true) (hdue : t + 10000 ≤ s.now) : roleTakeAtStart s = startStandby s := by
  unfold roleTakeAtStart
  rw [hl]
  exact (if_neg (by simp [ha])).trans ((if_pos hh).trans (if_pos hdue))

theorem roleTakeAtStart_alone {s : Chip} {t : Nat} (hl : s.pair.me.listen = some t) (ha : yardAlive s = true)
    (hh : s.pair.me.heard = false) (hdue : t + (if s.strap = .b then 20000 else 10000) ≤ s.now) :
    roleTakeAtStart s = if s.pair.me.forceIn then startStandby s else wakeAdmissions (startRole s) := by
  unfold roleTakeAtStart
  rw [hl]
  exact (if_neg (by simp [ha])).trans ((if_neg (by simp [hh])).trans (if_pos (by simpa using hdue)))

theorem heartbeatLoss_of_missed {s : Chip} (hp : isPaired s = true) (ha : yardAlive s = true)
    (hm : 3 ≤ s.pair.partner.missed) (hl : s.pair.partner.lost = false) :
    heartbeatLoss s = judgeReady (setFault (settleDrafts (s.modPartner fun p => { p with lost := true })) 0x0C01) :=
  if_pos (by simp [hp, ha, hm, hl])

theorem takeover_of_trigger {s : Chip} (ha : yardAlive s = true) (hp : isPaired s = true) (hs : isStandby s = true)
    (hr : s.pair.shadow.ready = true) (hin : s.pair.me.forceIn = false) (ht : takeoverTrigger s = true)
    (hstage : s.mode.stage ≠ .powerDown) :
    takeover s = takeRole s ((s.pair.partner.head.map MirrorHead.epoch).getD s.mode.epoch) (takeoverKind s)
      (takeoverKind s == .handover) :=
  if_pos (by simp [takeoverDue, ha, hp, hs, hr, hin, ht, hstage])

theorem driverResume_of_due {s u : Chip} {t : Nat} (hr : s.pair.me.resumeAt = some t) (ha : isActive s = true) (hdue : t ≤ s.now)
    (hu : u = resumeLinks (resumeRails (heldTrips (s.modMe fun p => { p with resumeAt := none, gapHold := false })))) :
    driverResume s = if critical u && mayLock u then commitLockout u (u.mode.lockout.getD .criticalFault) else u := by
  have hdue' : decide (t ≤ s.now) = true := decide_eq_true hdue
  unfold driverResume
  rw [hr, hu]
  simp only [ha, hdue', Bool.and_self, if_true]

theorem failoverBlocked_takes {s : Chip} (ha : yardAlive s = true) (hs : isStandby s = true)
    (hr : s.pair.shadow.ready = false) (hin : s.pair.me.forceIn = false)
    (hdue : (s.pair.me.blockedSince.any fun t => decide (t + 1000000 ≤ s.now)) = true) (hstage : s.mode.stage ≠ .powerDown)
    {u : Chip} (hu : u = dropShelf .feedOpen (takeRole s
      ((s.pair.partner.head.map MirrorHead.epoch).getD s.mode.epoch) .blocked false)) :
    failoverBlocked s = commitMode (clearIntents { u with mode := { u.mode with
      stage := .none, pend := none, svcKind := 0, svcIndex := 0, svcStop := none, freshReady := false } })
      .ready .criticalFault [] := by
  have hs' : (s.mode.stage != .powerDown) = true := bne_iff_ne.mpr hstage
  unfold failoverBlocked
  rw [ha, hs, hr, hin, hdue, hs', hu]
  exact if_pos rfl

theorem resyncDwell_of_due {s : Chip}
    (hdue : (s.pair.shadow.cond3.any fun t => decide (t + s.img.pair.resyncDwell * 1000000 ≤ s.now)) = true) :
    resyncDwell s = judgeReady (s.modShadow fun h => { h with dwelt := true }) := by
  unfold resyncDwell
  exact if_pos hdue

/-- Settles O38: each step's condition holds, so its action is taken. -/
theorem handoverStepsAct : Obligations.HandoverStepsAct := by
  refine ⟨fun s hd ha hw => becomes_of rfl (handoverDrained_announces hd ha hw),
    fun u t s hd ha hdue hrec hu => becomes_of rfl (handoverRelinquish_gives hd ha hdue hrec hu), ?abort,
    fun t s hl ha hh hdue => becomes_of rfl (roleTakeAtStart_heard hl ha hh hdue),
    fun t s hl ha hh hdue => becomes_of rfl (roleTakeAtStart_alone hl ha hh hdue),
    fun s hp ha hm hl => becomes_of rfl (heartbeatLoss_of_missed hp ha hm hl),
    fun s ha hp hs hr hin ht hstage => becomes_of rfl (takeover_of_trigger ha hp hs hr hin ht hstage),
    fun u t s hr ha hdue hu => becomes_of rfl (driverResume_of_due hr ha hdue hu),
    fun s => rfl, fun s => rfl,
    fun u s ha hs hr hin hdue hstage hu => becomes_of rfl (failoverBlocked_takes ha hs hr hin hdue hstage hu),
    fun s hdue => becomes_of rfl (resyncDwell_of_due hdue)⟩
  case abort =>
    rintro _ t s hd hin hrose hdue rfl
    exact becomes_of rfl (handoverAbort_takes_back hd hin hrose hdue)

/-! ## The mirror frames (R349, R350, R351, R352, R353) -/

/-- The block in which a frame's header was taken: its slice counts where it is in time, and the listening notes who it is
from. -/
def headerTaken (payload : List Byte) (s : Chip) : Chip :=
  ((touchNp0 s).modPartner fun q => { q with
    head := some (headOf payload),
    got := if inTime (touchNp0 s) (field payload 4 4) then field payload 4 4 :: q.got else q.got }).modMe fun q =>
      { q with heardEpoch := (headOf payload).epoch, heard := q.heard || (q.listen.isSome && (headOf payload).active) }

/-- Two members whose straps name the same member are in conflict. -/
def strapJudged (h : MirrorHead) (v : Chip) : Chip :=
  if h.strap = 1 ∨ h.strap = 2 then evalFault v 0x0C00 (h.strap == v.strap.code) else v

/-- The block in which the frame was followed and cross-checked. -/
def frameFollowed (payload : List Byte) (h : MirrorHead) (w : Chip) : Chip :=
  crossCheck (if isStandby w && h.active then takeFrame payload (followEpoch (followMode w h.modeWord) h.epoch) else w) h

section
variable {payload : List Byte} {s : Chip}

/-- A whole frame at a member that listens takes its header, and where the Yard is alive it is judged and followed. -/
theorem mirrorFrame_takes (hp : isPaired s = true) (hl : yardAlive s = true ∨ s.pair.me.listen.isSome = true)
    (hlen : payload.length = 64) (htop : (s.np 0).state ≠ .topology) {v c w x : Chip} {h : MirrorHead} (hh : h = headOf payload)
    (hv : v = headerTaken payload s) (hc : c = strapJudged h v)
    (hw : w = settleTakeover (handoverSeen (if h.active then stillRecorded c (field payload 4 4) else c) h) h)
    (hx : x = frameFollowed payload h w) :
    mirrorFrame payload s = if !yardAlive v then v else judgeReady
      (if isStandby x && decide (128 ≤ x.pair.partner.slices) then evalFault x 0x0C05 (!sameDigest x) else x) := by
  have hstrap : c = if h.strap == 1 || h.strap == 2 then evalFault v 0x0C00 (h.strap == v.strap.code) else v := by
    rw [hc, strapJudged]
    simp only [Bool.or_eq_true, beq_iff_eq]
  subst hh hv hx hw
  rw [hstrap]
  refine (if_neg ?_).trans ((if_neg (by simp [hlen])).trans (if_neg (by simpa using htop)))
  rcases hl with h | h <;> simp [hp, h]

end

/-- Settles O39: the frame has its 64 bytes and its port is not in TOPOLOGY, so its header is taken; the rest is for a Yard
that is alive. -/
theorem mirrorFramesAct : Obligations.MirrorFramesAct := by
  refine ⟨fun h u v c w x payload s hp hlen htop hh hu hv ha hav hc hw hx => ?alive,
    fun h u v payload s hp hlen htop hh hu hv _ hl hav => ?before⟩
  case alive =>
    subst hh hu
    exact becomes_of rfl ((mirrorFrame_takes hp (.inl ha) hlen htop rfl hv hc hw hx).trans (if_neg (by simp [hav])))
  case before =>
    subst hh hu
    exact becomes_of rfl ((mirrorFrame_takes hp (.inr hl) hlen htop rfl hv rfl rfl rfl).trans (if_pos (by simp [hav])))

end Sys2Proof.Machine
end

section
/-! PROOFS. The fault opcodes, the watchdogs and the restart of the Yard (spec/15_faults_and_watchdog.md). -/

namespace Sys2Proof.Machine

/-! ## What the bodies read of the block when they meet their request -/

section
variable (opcode : Nat) (rq : Request) (s : Chip)

@[simp] theorem taken_dogs : (taken opcode rq s).dogs = s.dogs :=
  taken_reads _ opcode rq s (fun _ _ => rfl) fun _ _ => rfl
@[simp] theorem taken_faultScanData : faultScanData (taken opcode rq s) = faultScanData s :=
  taken_reads _ opcode rq s (fun _ _ => rfl) fun _ _ => rfl
@[simp] theorem taken_blockPage (block page : Nat) : blockPage (taken opcode rq s) block page = blockPage s block page :=
  taken_reads (blockPage · block page) opcode rq s (fun _ _ => rfl) fun _ _ => rfl
@[simp] theorem taken_faults : (taken opcode rq s).faults = s.faults :=
  taken_reads _ opcode rq s (fun _ _ => rfl) fun _ _ => rfl
@[simp] theorem taken_wdGetData : wdGetData (taken opcode rq s) = wdGetData s :=
  taken_reads _ opcode rq s (fun _ _ => rfl) fun _ _ => rfl
@[simp] theorem taken_countsData : countsData (taken opcode rq s) = countsData s :=
  taken_reads _ opcode rq s (fun _ _ => rfl) fun _ _ => rfl

/-- A port keeps its station when its request is taken. -/
@[simp] theorem taken_station : ((taken opcode rq s).port rq.port).station = (s.port rq.port).station := by
  obtain ⟨port, ver, tag, epoch, params⟩ := rq
  cases port <;> rfl

end

/-! ## The fault opcodes (R411, R413, R428, R429) -/

theorem bodyFaultBlockGet_of_block {rq : Request} (r : ReqRef) {s : Chip} (hb : isBlock (arg rq 0 1) = true)
    (hp : arg rq 1 1 ≤ 3) :
    bodyFaultBlockGet rq r s = (.reply .ok (le 1 (arg rq 0 1) ++ le 1 (arg rq 1 1) ++ zeros 2 ++ le 4 s.hall
      ++ blockPage s (arg rq 0 1) (arg rq 1 1)), s) :=
  if_neg (by simp [hb, hp])

/-- Settles O31: the reads answer from the block before the request was taken; FAULT_CLEAR filters the sticky bits of an
existing block; a severity change that passes its checks is offered to the mailbox. -/
theorem faultOpcodesComplete : Obligations.FaultOpcodesComplete := by
  refine ⟨fun rq s h => answers_of rfl h (by simp [bodyFaultScan]), fun rq s h hb hp => answers_of rfl h ?blockGet, ?clear,
    fun rq s h hc => becomes_of_later rfl h ?severity, fun rq s h => answers_of rfl h (by simp [bodyWdGet]),
    fun rq s h => answers_of rfl h (by simp [bodyCountsGet])⟩
  case blockGet => simpa using bodyFaultBlockGet_of_block (refOf rq s.chip) (s := taken 0x0802 rq s.chip) hb hp
  case clear =>
    rintro rq s h hb _ rfl
    refine serves_of rfl h ((if_neg (by simp [hb])).trans ?_)
    rw [taken_faults]
  case severity =>
    unfold bodySeveritySet
    rw [hc]

/-! ## The services of the watchdogs (R417, R418, R428) -/

section
variable {s : Chip}

/-- WD1 armed by the first service, of the station `mine` at hall time `t`. -/
def armedWd1 (t : Nat) (mine : Half) (s : Chip) : Chip :=
  postDog (startCycle (s.modDog .wd1 fun w => { w with state := .armed, first := true, station := mine }) .wd1 t) .wd1 4

theorem bodyWdServe_arms {t : Nat} {rq : Request} (r : ReqRef) {mine : Half} (hm : (s.port rq.port).station = mine)
    (hp : s.img.dogs.wd1Period ≠ 0) (hseq : arg rq 0 2 = s.dogs.wd1.seq) (hoff : s.dogs.wd1.state = .disarmed)
    (htok : arg rq 2 2 = dogToken s.dogs.wd1 mine.toNat) :
    bodyWdServe t rq r s = (.reply .ok (le 4 (dogWord (armedWd1 t mine s) .wd1)), armedWd1 t mine s) := by
  subst hm
  exact (if_neg hp).trans ((if_neg (by simp [hoff])).trans ((if_neg (by simp [hseq])).trans ((if_neg (by simp [hoff, htok])).trans
    (if_pos (by simp [hoff])))))

/-- A service of an armed or expired WD1 by its own station, with its sequence and token: what remains is its time. -/
theorem bodyWdServe_of_token {t : Nat} {rq : Request} (r : ReqRef) (hp : s.img.dogs.wd1Period ≠ 0)
    (hseq : arg rq 0 2 = s.dogs.wd1.seq) (hon : s.dogs.wd1.state ≠ .disarmed)
    (hst : (s.port rq.port).station = s.dogs.wd1.station) (htok : arg rq 2 2 = dogToken s.dogs.wd1 s.dogs.wd1.station.toNat) :
    bodyWdServe t rq r s
      = if !s.dogs.wd1.first && decide (s.dogs.wd1.deadline < t) then (.bare .timeout, expireDog s .wd1)
        else if !s.dogs.wd1.first && decide (t < s.dogs.wd1.opening) then (.bare .denied, expireDog s .wd1)
        else (.reply .ok (le 4 (dogWord (goodService s .wd1 t) .wd1)), goodService s .wd1 t) :=
  (if_neg hp).trans ((if_neg (by simp [hst])).trans ((if_neg (by simp [hseq])).trans ((if_neg (by simp [hon, htok])).trans
    (if_neg (by simp [hon])))))

theorem dogExpiry_of_late {d : Dog} (ha : yardAlive s = true) (hon : (s.dog d).state ≠ .disarmed)
    (hl : (s.dog d).deadline + 200000 ≤ s.hall) : dogExpiry d s = expireDog s d :=
  if_pos (by simp [ha, hon, hl])

theorem wd0Service_of_wrongToken {seq token : Nat} (hw : yardWorks s = true) (hon : s.dogs.wd0.state ≠ .disarmed)
    (hseq : seq = s.dogs.wd0.seq) (htok : token ≠ dogToken s.dogs.wd0 0) : wd0Service seq token s = expireDog s .wd0 :=
  (if_neg (by simp [hw, hon, hseq])).trans (if_pos (by simpa using htok))

theorem wd0Service_in_window {seq token : Nat} (hw : yardWorks s = true) (hon : s.dogs.wd0.state ≠ .disarmed)
    (hseq : seq = s.dogs.wd0.seq) (htok : token = dogToken s.dogs.wd0 0)
    (ht : s.dogs.wd0.first = true ∨ (s.dogs.wd0.opening ≤ s.hall ∧ s.hall ≤ s.dogs.wd0.deadline)) :
    wd0Service seq token s = goodService s .wd0 s.hall := by
  refine (if_neg (by simp [hw, hon, hseq])).trans ((if_neg (by simp [htok])).trans ?_)
  rcases ht with hfirst | ⟨hopen, hdead⟩
  · exact if_pos hfirst
  · simp [Nat.not_lt.mpr hopen, Nat.not_lt.mpr hdead]

end

/-- The restart of a stopped Yard, where no hall-wide reset waits to be told of. -/
theorem yardRestart_starts {s u w : Chip} (ha : yardAlive s = true) (hstop : s.fw.yardStop = true)
    (hu : u = yardVerify (s.modFw fun f => { f with yardStop := false }))
    (hw : w = tellActivation (if u.fw.recovery then armWd0 (holdInRecovery u) else if s.fw.recovery then armWd0 u else u))
    (hn : w.net.resetEvent = none) : yardRestart s = w := by
  unfold yardRestart
  rw [if_neg (by simp [ha, hstop])]
  dsimp only
  rw [← hu, ← hw, hn]

/-- Settles O32: each service passes the checks before the branch that its clause names. -/
theorem watchdogsServe : Obligations.WatchdogsServe := by
  refine ⟨fun rq s h hp => answers_of rfl h ?challenge, ?arm, ?serve, ?bad,
    fun w s ha hon hl => becomes_of rfl (dogExpiry_of_late ha hon hl),
    fun seq token s hw hon hseq htok => becomes_of rfl (wd0Service_of_wrongToken hw hon hseq htok),
    fun seq token s hw hon hseq htok ht => becomes_of rfl (wd0Service_in_window hw hon hseq htok ht),
    fun u w s ha hstop hu hw hn => becomes_of rfl (yardRestart_starts ha hstop hu hw hn)⟩
  case challenge => exact (if_neg (by simpa using hp)).trans (by simp)
  case arm =>
    rintro rq t s h hp hseq hoff htok _ rfl
    exact serves_of rfl h (bodyWdServe_arms _ (taken_station ..) (by simpa using hp) (by simpa using hseq)
      (by simpa using hoff) (by simpa using htok))
  case serve =>
    rintro rq t s h hp hseq hon hst htok ht _ rfl
    refine serves_of rfl h ((bodyWdServe_of_token _ (by simpa using hp) (by simpa using hseq) (by simpa using hon)
      (by simpa using hst) (by simpa using htok)).trans ?_)
    rw [taken_dogs]
    rcases ht with hfirst | ⟨hopen, hdead⟩
    · simp [hfirst]
    · simp [Nat.not_lt.mpr hopen, Nat.not_lt.mpr hdead]
  case bad =>
    intro rq t s h hp hseq hon hst htok hfirst ht
    refine becomes_of rfl ((serve_of 0x0005 (bodyWdServe t) h).trans ?_)
    rw [bodyWdServe_of_token _ (by simpa using hp) (by simpa using hseq) (by simpa using hon) (by simpa using hst)
      (by simpa using htok)]
    simp only [taken_dogs, hfirst, Bool.not_false, Bool.true_and, decide_eq_true_eq]
    split
    · rfl
    · rw [if_pos (by omega)]
      rfl

end Sys2Proof.Machine
end

section
/-! PROOFS. The firmware opcodes, what ends a verification and an activation, and the maintenance of the memory
(spec/16_tack_room_yard_sketchbook.md, spec/13_stablemate_pair.md). -/

namespace Sys2Proof.Machine

/-! ## What the bodies read of the block when they meet their request -/

section
variable (opcode : Nat) (rq : Request) (s : Chip)

@[simp] theorem taken_fw : (taken opcode rq s).fw = s.fw :=
  taken_reads _ opcode rq s (fun _ _ => rfl) fun _ _ => rfl
@[simp] theorem taken_fwInfoData : fwInfoData (taken opcode rq s) = fwInfoData s :=
  taken_reads _ opcode rq s (fun _ _ => rfl) fun _ _ => rfl
@[simp] theorem taken_activateModeBad (target : Nat) : activateModeBad (taken opcode rq s) target = activateModeBad s target :=
  taken_reads (activateModeBad · target) opcode rq s (fun _ _ => rfl) fun _ _ => rfl

end

/-! ## Staging (R438) -/

section
variable {rq : Request} {s u : Chip}

/-- FW_STAGE_BEGIN of a good length, with no staging and no trial under way. -/
theorem bodyFwStageBegin_opens (r : ReqRef) (ht : arg rq 0 1 ≤ 1) (h4 : arg rq 4 4 % 4 = 0) (hlo : 256 ≤ arg rq 4 4)
    (hhi : arg rq 4 4 ≤ fwSlotSize (arg rq 0 1)) (hst : fwStaging s = false) (htr : s.fw.trial = false)
    (hu : u = (setFwSlot s (arg rq 0 1) (1 - runningSlot s.fw (arg rq 0 1)) fun _ => { valid := .staging }).modFw fun f =>
      { f with stage := .opened, stageTarget := arg rq 0 1, stageLen := arg rq 4 4, staged := [] }) :
    bodyFwStageBegin rq r s = fwWordReply .ok u := by
  subst hu
  exact (if_neg (by omega)).trans ((if_neg (by simp [h4, hlo, hhi])).trans (if_neg (by simp [hst, htr])))

/-- FW_STAGE_WRITE at the next offset, within the length announced. -/
theorem bodyFwStageWrite_appends (r : ReqRef) (h4 : (rq.params.drop 4).length % 4 = 0) (hst : s.fw.stage = .opened)
    (hat : arg rq 0 4 = s.fw.staged.length) (hfit : s.fw.staged.length + (rq.params.drop 4).length ≤ s.fw.stageLen)
    (hu : u = (mramWritten (fwBase s.fw.stageTarget (1 - runningSlot s.fw s.fw.stageTarget) + s.fw.staged.length)
      (rq.params.drop 4).length s).modFw fun f => { f with staged := f.staged ++ rq.params.drop 4 }) :
    bodyFwStageWrite rq r s = fwWordReply .ok u := by
  subst hu
  exact (if_neg (by simpa using h4)).trans ((if_neg (by simp [hst])).trans (if_neg (by simpa [hat] using hfit)))

/-- FW_STAGE_END of a full stage. -/
theorem bodyFwStageEnd_verifies (r : ReqRef) (hst : s.fw.stage = .opened) (hfull : s.fw.staged.length = s.fw.stageLen) :
    bodyFwStageEnd rq r s = fwWordReply .accepted (s.modFw fun f => { f with stage := .verifying, endRef := some r }) :=
  if_neg (by simp [hst, hfull])

/-! ## The activations (R433, R441) -/

/-- An activation whose operation and target exist, and which the mode admits where it is not a CONFIRM, goes to the
mailbox. -/
theorem bodyActivate_offers {op : Nat} (r : ReqRef) (hop : arg rq 0 1 = op) (ht : arg rq 1 1 ≤ 1)
    (hm : op ≠ 2 → activateModeBad s (arg rq 1 1) = false) :
    bodyActivate op rq r s = (.later, offerBox s (.activate op) 0x0D05 rq r) := by
  refine (if_neg (by simp [hop, ht])).trans (if_neg ?_)
  simp only [Bool.and_eq_true, bne_iff_ne, not_and, Bool.not_eq_true]
  exact hm

theorem serve_activate {op : Nat} (h : Admitted 0x0D05 activateRow rq s) (hop : arg rq 0 1 = op) (ht : arg rq 1 1 ≤ 1)
    (hm : op ≠ 2 → activateModeBad s (arg rq 1 1) = false) :
    serve 0x0D05 activateRow (bodyActivate op) rq s
      = offerBox (taken 0x0D05 rq s) (.activate op) 0x0D05 rq (refOf rq s) :=
  serve_later 0x0D05 _ h (bodyActivate_offers _ hop ht (by simpa using hm))

/-- Which of the activations' commands a request is. -/
theorem opIs_of {op : Nat} (k : Nat) (hop : arg rq 0 1 = op) : opIs rq k = (op == k) := by
  rw [← hop]
  rfl

end

/-- Settles O35: each request passes its checks; an activation's operation chooses its command. -/
theorem firmwareOpcodesComplete : Obligations.FirmwareOpcodesComplete := by
  refine ⟨fun rq s h => answers_of rfl h (by simp [bodyFwInfo]), ?begins, ?writes, ?ends,
    fun rq s h hop ht hm => becomes_of rfl ((if_neg ?_).trans (serve_activate h hop ht fun _ => hm)),
    fun rq s h hop ht => becomes_of rfl ((if_pos ?_).trans (serve_activate h hop ht fun hne => absurd rfl hne)),
    fun rq s h hop ht hm => becomes_of rfl ((if_pos ?_).trans (serve_activate h hop ht fun _ => hm))⟩
  case begins =>
    rintro rq s h ht h4 hlo hhi hst htr u rfl
    exact serves_of rfl h (bodyFwStageBegin_opens _ ht h4 hlo hhi (by simpa [fwStaging] using hst) (by simpa using htr)
      (by rw [taken_fw]))
  case writes =>
    rintro rq s h h4 hst hat hfit u rfl
    exact serves_of rfl h (bodyFwStageWrite_appends _ h4 (by simpa using hst) (by simpa using hat) (by simpa using hfit)
      (by rw [taken_fw]))
  case ends =>
    rintro rq s h hst hfull u rfl
    exact serves_of rfl h (bodyFwStageEnd_verifies _ (by simpa using hst) (by simpa using hfull))
  all_goals simp [opIs_of _ hop]

/-! ## The events (R434, R436, R440, R443, R353) -/

section
variable {s u : Chip}

theorem fwVerifyDone_of_verifying {eccBad : Bool} {k n : Nat} {raw : List Byte} (ha : yardAlive s = true)
    (hst : s.fw.stage = .verifying) (hk : k = 1 - runningSlot s.fw s.fw.stageTarget) (hraw : raw = s.fw.staged)
    (hn : n = fwVerify s.otp s.fw.stageTarget (eccBad || mramBad s (fwBase s.fw.stageTarget k) raw.length) raw)
    (hu : u = setFwSlot s s.fw.stageTarget k fun _ =>
      { valid := if n = 0 then .valid else .invalid, result := n, version := field raw 8 4, rollback := field raw 12 4,
        bytes := raw }) :
    fwVerifyDone eccBad s = postFw (u.modFw fun f =>
      { f with stage := if n = 0 then .verified else .none, staged := if n = 0 then raw else [], stageLen := 0,
               endRef := none }) 4 s.fw.stageTarget n
        (allWith s.fw.endRef.toList (if n = 0 then .ok else .configInvalid)) := by
  unfold fwVerifyDone
  rw [if_neg (by simp [ha, hst])]
  dsimp only
  rw [← hraw, ← hk, ← hn, ← hu]

theorem activateRestart_of_due {r : ReqRef} {t a : Nat} (hr : s.fw.restart = some (t, r, a)) (ha : yardAlive s = true)
    (hdue : replyRead s r = true ∨ a + 100000 ≤ s.now)
    (hu : u = s.modFw fun f => { f with told := some (5, t), restart := none }) :
    activateRestart s = if t = 0 then yardStopNow u true else chipReset 8 0 false u := by
  unfold activateRestart
  rw [hr]
  dsimp only
  rw [if_pos (by simp [ha, hdue]), ← hu]

theorem scrubPass_notes {w : Chip} {corrected uncorrectable : List Nat} (ha : yardAlive s = true)
    (hu : u = { s with mram := { bad := (uncorrectable.map mramWord).foldl (fun l a => insertUp a l) s.mram.bad,
                                 scrubTick := s.now } })
    (hw : w = if corrected.isEmpty then u else setFault u 0x1000) :
    scrubPass corrected uncorrectable s = if uncorrectable.isEmpty then w else setFault w 0x1001 := by
  unfold scrubPass
  rw [if_neg (by simp [ha])]
  dsimp only
  rw [← hu, ← hw]

theorem agingExpiry_of_aged {c : AgedClass} (ha : yardAlive s = true) (hc : agedOut s c = true) :
    agingExpiry c s = setFault s (if isScrub c then 0x1003 else 0x1004) :=
  if_pos (by simp [ha, hc])

theorem selftestPass_of_standby {passed : Bool} (ha : yardAlive s = true) (hs : isStandby s = true)
    (hu : u = s.modShadow fun h =>
      { h with selfOk := passed, selfTick := some s.now, selfHall := if passed then s.hall else h.selfHall }) :
    selftestPass passed s = judgeReady (if passed then u else setFault u 0x0C08) := by
  unfold selftestPass
  rw [if_pos (by simp [ha, hs]), ← hu]

end

/-- Settles O36: each event's condition holds, so its action is taken. -/
theorem firmwareEventsAct : Obligations.FirmwareEventsAct :=
  ⟨fun _ _ _ _ _ _ ha hst hk hraw hn hu => becomes_of rfl (fwVerifyDone_of_verifying ha hst hk hraw hn hu),
    fun _ _ _ _ _ hr ha hdue hu => becomes_of rfl (activateRestart_of_due hr ha hdue hu),
    fun _ _ _ _ _ ha hu hw => becomes_of rfl (scrubPass_notes ha hu hw),
    fun _ _ ha hc => becomes_of rfl (agingExpiry_of_aged ha hc),
    fun _ _ _ ha hs hu => becomes_of rfl (selftestPass_of_standby ha hs hu)⟩

end Sys2Proof.Machine
end

section
/-! PROOFS. The recorder: its opcodes, its captures, what it writes and its freeze
(spec/16_tack_room_yard_sketchbook.md). -/

namespace Sys2Proof.Machine

section
variable (opcode : Nat) (rq : Request) (s : Chip)

@[simp] theorem taken_sketch : (taken opcode rq s).sketch = s.sketch :=
  taken_reads _ opcode rq s (fun _ _ => rfl) fun _ _ => rfl
@[simp] theorem taken_recInfoData : recInfoData (taken opcode rq s) = recInfoData s :=
  taken_reads _ opcode rq s (fun _ _ => rfl) fun _ _ => rfl
@[simp] theorem taken_areaUnits (area slot start : Nat) :
    areaUnits (taken opcode rq s) area slot start = areaUnits s area slot start :=
  taken_reads (areaUnits · area slot start) opcode rq s (fun _ _ => rfl) fun _ _ => rfl
@[simp] theorem taken_mramBad (a n : Nat) : mramBad (taken opcode rq s) a n = mramBad s a n :=
  taken_reads (mramBad · a n) opcode rq s (fun _ _ => rfl) fun _ _ => rfl

end

/-! ## The recorder opcodes (R447, R449, R453) -/

/-- REC_READ of units whose words can be read: it answers as many as fit and as were asked for. -/
theorem bodyRecRead_of_readable {rq : Request} (r : ReqRef) {s : Chip} {us out : List (Nat × List Byte × Nat)}
    (hlo : 1 ≤ arg rq 0 1) (hhi : arg rq 0 1 ≤ 4)
    (hslot : arg rq 0 1 = 4 → arg rq 1 1 ≤ 31
      ∧ ((tget s.sketch.slots (arg rq 1 1)).any fun u => u.num % 2 ^ 32 == arg rq 8 4) = true)
    (hus : us = areaUnits s (arg rq 0 1) (arg rq 1 1) (arg rq 4 4))
    (hout : out = us.take (if arg rq 2 2 = 0 then unitsThatFit rq.port 8 (areaSize (arg rq 0 1))
      else min (arg rq 2 2) (unitsThatFit rq.port 8 (areaSize (arg rq 0 1)))))
    (hgood : (out.any fun u => mramBad s u.2.2 (areaSize (arg rq 0 1))) = false) :
    bodyRecRead rq r s = (.reply .ok (le 2 out.length ++ zeros 2 ++ le 4 ((out.head?.map fun u => u.1).getD (arg rq 4 4))
      ++ out.flatMap fun u => u.2.1) (decide (out.length < us.length)), s) := by
  have hheld : (arg rq 0 1 == 4 && (decide (31 < arg rq 1 1)
      || !(tget s.sketch.slots (arg rq 1 1)).any fun u => u.num % 2 ^ 32 == arg rq 8 4)) = false := by
    by_cases h4 : arg rq 0 1 = 4
    · obtain ⟨hs, hh⟩ := hslot h4
      rw [hh]
      simp only [Bool.not_true, Bool.or_false, Bool.and_eq_false_iff, decide_eq_false_iff_not]
      exact .inr (by omega)
    · simp [h4]
  unfold bodyRecRead
  rw [if_neg (by simp; omega), if_neg (by simpa using hheld)]
  dsimp only
  rw [← hus, ← hout, if_neg (by simp [hgood])]

/-- Settles O33: the reads answer from the block before the request was taken; a frozen recorder thaws; the other two act
whatever the block. -/
theorem recorderOpcodesComplete : Obligations.RecorderOpcodesComplete := by
  refine ⟨fun rq s h => answers_of rfl h (by simp [bodyRecInfo]), ?read, ?freeze, ?thaw, ?trigger⟩
  case read =>
    intro rq s h hlo hhi hslot us out hus hout hgood
    exact answers_of_page rfl h (bodyRecRead_of_readable _ hlo hhi (by simpa using hslot) (by simpa using hus) hout
      (by simpa using hgood))
  case freeze =>
    rintro rq s h u rfl
    exact serves_of rfl h rfl
  case thaw =>
    rintro rq s h hp hf u rfl
    exact serves_of rfl h ((if_neg (by simp [hp])).trans (by simp [hf]))
  case trigger =>
    rintro rq s h u rfl
    exact serves_of rfl h rfl

/-! ## Captures, the flush, the summary and the freeze (R442, R446-R449) -/

section
variable {s u v : Chip}

theorem captureTrigger_starts {d : Nat} {cause : TrigCause} {c : CapDef} {g : SeqCfg} {tr : Trig} {cap : Capture}
    (ha : yardAlive s = true) (htr : s.sketch.trigs.find? (fun t => t.defn == d && t.cause == cause) = some tr)
    (hu : u = s.modSketch fun k => { k with trigs := k.trigs.filter fun x => x != tr })
    (hc : c = tget u.img.recs.defs d) (hg : seqInForce u c.seq = some g) (hcap : cap = captureOf u c g tr) :
    captureTrigger d cause s = ringAdvance (u.modSketch fun k => { k with running := k.running ++ [cap] }) c.seq g
      (wrap32 (tr.w + cap.post.length)) := by
  unfold captureTrigger
  rw [htr]
  dsimp only
  rw [if_neg (by simp [ha]), ← hu, ← hc, hg]
  dsimp only
  rw [← hcap]

theorem captureComplete_of_ended {d : Nat} {c : Capture} (hc : s.sketch.running.find? (fun c => c.defn == d) = some c)
    (hend : c.want ≤ c.post.length ∨ (s.seq c.seq).state = .stopped ∨ s.sketch.suspended = true) :
    captureComplete d s = s.modSketch fun k =>
      { k with running := k.running.filter fun x => x.defn != d,
               done := k.done ++ [{ c with truncated := !decide (c.want ≤ c.post.length), tick := s.now }] } := by
  unfold captureComplete
  rw [hc]
  exact if_pos (by simpa [or_assoc] using hend)

/-- An event that became due before the first capture is flushed first. -/
theorem sketchFlush_of_event {good : Bool} {e : RecEvent} (ha : yardAlive s = true) (hf : s.sketch.frozen = false)
    (he : s.sketch.queue.head? = some e) (hc : ∀ c, s.sketch.done.head? = some c → e.tick ≤ c.tick) :
    sketchFlush good s = flushEvent good s := by
  unfold sketchFlush
  rw [if_neg (by simp [ha, hf]), he]
  cases hd : s.sketch.done.head? with
  | none => rfl
  | some c => exact if_pos (hc c hd)

theorem sketchFlush_of_capture {good : Bool} {c : Capture} (ha : yardAlive s = true) (hf : s.sketch.frozen = false)
    (hc : s.sketch.done.head? = some c) (he : ∀ e, s.sketch.queue.head? = some e → ¬ e.tick ≤ c.tick) :
    sketchFlush good s = flushCapture good s := by
  unfold sketchFlush
  rw [if_neg (by simp [ha, hf]), hc]
  cases hq : s.sketch.queue.head? with
  | none => rfl
  | some e => exact if_neg (he e hq)

theorem recSummary_of_due {good : Bool} (hw : yardWorks s = true) (hdue : s.sketch.summaryNext ≤ s.now) :
    recSummary good s = writeSummary good (s.modSketch fun k => { k with summaryNext := s.now + s.img.recs.period * 1000000 }) :=
  if_pos (by simp [hw, hdue])

theorem freezeEffect_of_due {good : Bool} (ha : yardAlive s = true) (hdue : freezeDue s = true)
    (hu : u = flushAllEvents good s) (hv : v = writeEvent good { kind := 0x0A, hall := u.hall, detail := le 1 u.sketch.cause } u) :
    freezeEffect good s = postRec (v.modSketch fun k =>
      { k with pending := none, frozen := true, frozenHall := v.hall, dropFrozen := 0, running := [], trigs := [], done := [],
               lateSet := [] }) 2 0 := by
  unfold freezeEffect
  rw [if_neg (by simp [ha, hdue])]
  dsimp only
  rw [← hu, ← hv]

end

/-- Settles O34: each event's condition holds, so its action is taken. -/
theorem recorderEventsAct : Obligations.RecorderEventsAct := by
  refine ⟨?trigger, fun c d s hc hend => becomes_of rfl (captureComplete_of_ended hc hend),
    fun e good s ha hf he hc => becomes_of rfl (sketchFlush_of_event ha hf he hc),
    fun c good s ha hf hc he => becomes_of rfl (sketchFlush_of_capture ha hf hc he),
    fun good s hw hdue => becomes_of rfl (recSummary_of_due hw hdue),
    fun good u v s ha hdue hu hv => becomes_of rfl (freezeEffect_of_due ha hdue hu hv)⟩
  case trigger =>
    intro u c g tr cap d cause s ha htr hu hc hg hcap
    refine ⟨by rw [hcap, captureOf], by rw [hcap, captureOf], by rw [hcap, captureOf], ?_⟩
    exact becomes_of rfl (captureTrigger_starts ha htr hu hc hg hcap)

end Sys2Proof.Machine
end

section
/-! PROOFS. The configuration image: its opcodes, the commit's copy and flip, and the boundary at which it takes effect
(spec/17_configuration_image.md). -/

namespace Sys2Proof.Machine

/-! ## What the bodies read of the block when they meet their request -/

section
variable (opcode : Nat) (rq : Request) (s : Chip)

@[simp] theorem taken_cfg : (taken opcode rq s).cfg = s.cfg :=
  taken_reads _ opcode rq s (fun _ _ => rfl) fun _ _ => rfl
@[simp] theorem taken_otherSlot : otherSlot (taken opcode rq s) = otherSlot s :=
  taken_reads _ opcode rq s (fun _ _ => rfl) fun _ _ => rfl
@[simp] theorem taken_cfgInfoData : cfgInfoData (taken opcode rq s) = cfgInfoData s :=
  taken_reads _ opcode rq s (fun _ _ => rfl) fun _ _ => rfl
@[simp] theorem taken_cfgSource (src : Nat) : cfgSource (taken opcode rq s) src = cfgSource s src :=
  taken_reads (cfgSource · src) opcode rq s (fun _ _ => rfl) fun _ _ => rfl
@[simp] theorem taken_committing : committing (taken opcode rq s) = committing s :=
  taken_reads _ opcode rq s (fun _ _ => rfl) fun _ _ => rfl
@[simp] theorem taken_stageOpenFor (p : Port) : stageOpenFor (taken opcode rq s) p = stageOpenFor s p :=
  taken_reads (stageOpenFor · p) opcode rq s (fun _ _ => rfl) fun _ _ => rfl
@[simp] theorem taken_commitModeBad : commitModeBad (taken opcode rq s) = commitModeBad s :=
  taken_reads _ opcode rq s (fun _ _ => rfl) fun _ _ => rfl
@[simp] theorem taken_commitRefused (src expected : Nat) :
    commitRefused (taken opcode rq s) src expected = commitRefused s src expected :=
  taken_reads (commitRefused · src expected) opcode rq s (fun _ _ => rfl) fun _ _ => rfl

end

/-! ## The reads (R476, R477) -/

section
variable {rq : Request} {s : Chip}

theorem bodyCfgInfo_of_readable (r : ReqRef) (hm : mramBad s (slotBase s.cfg.slot) 128 = false)
    (ho : mramBad s (slotBase (otherSlot s)) 128 = false) : bodyCfgInfo rq r s = (.reply .ok (cfgInfoData s), s) :=
  if_neg (by simp [hm, ho])

/-- CFG_READ from within an image: the bytes from the offset on that fit and that were asked for. -/
theorem bodyCfgRead_of_readable (r : ReqRef) {raw data : List Byte} {len base : Nat} (hsrc : arg rq 0 1 ≤ 2)
    (hoff : arg rq 4 4 % 4 = 0) (hmost : arg rq 8 2 % 4 = 0) (hs : cfgSource s (arg rq 0 1) = some (raw, len, base))
    (hin : arg rq 4 4 < len)
    (hdata : data = (raw.drop (arg rq 4 4)).take
      (if arg rq 8 2 = 0 then unitsThatFit rq.port 8 4 * 4 else min (arg rq 8 2) (unitsThatFit rq.port 8 4 * 4)))
    (hgood : mramBad s (base + arg rq 4 4) data.length = false) :
    bodyCfgRead rq r s = (.reply .ok (le 4 (arg rq 4 4) ++ le 4 len ++ data)
      (decide (data.length < (raw.drop (arg rq 4 4)).length)), s) := by
  unfold bodyCfgRead
  rw [if_neg (by omega), if_neg (by simp [hoff, hmost]), hs]
  dsimp only
  rw [if_neg (by omega), ← hdata, if_neg (by simp [hgood])]

/-! ## Staging (R467, R468) -/

theorem bodyStageBegin_opens (r : ReqRef) (hlen : lengthGood (arg rq 4 4) = true) (hc : committing s = false)
    (hst : s.cfg.stage = .none ∨ arg rq 0 1 % 2 = 1) :
    bodyStageBegin rq r s = cfgWordReply .ok ((abandonStage s).modCfg fun c =>
      { c with stage := .opened, stagePort := rq.port, stageLen := arg rq 4 4 }) := by
  refine (if_neg (by simp [hlen])).trans (if_neg ?_)
  rcases hst with h | h <;> simp [hc, h]

theorem bodyStageWrite_appends (r : ReqRef) (hopen : stageOpenFor s rq.port = true) (hat : arg rq 0 4 = s.cfg.staged.length)
    (hfit : s.cfg.staged.length + (rq.params.drop 4).length ≤ s.cfg.stageLen) :
    bodyStageWrite rq r s = cfgWordReply .ok
      ((mramWritten (stageBase + s.cfg.staged.length) (rq.params.drop 4).length s).modCfg fun c =>
        { c with staged := c.staged ++ rq.params.drop 4 }) :=
  (if_neg (by simp [hopen])).trans (if_neg (by simpa [hat] using hfit))

theorem bodyStageEnd_verifies (r : ReqRef) (hopen : stageOpenFor s rq.port = true)
    (hfull : s.cfg.staged.length = s.cfg.stageLen) :
    bodyStageEnd rq r s = cfgWordReply .accepted (s.modCfg fun c => { c with stage := .verifying, endRef := some r }) :=
  if_neg (by simp [hopen, hfull])

theorem stageChecked_of_verifying {c : Except CfgCheck (List CfgRec)} {u : Chip} (ha : yardAlive s = true)
    (hst : s.cfg.stage = .verifying) (hc : c = checkStaged s stageBase s.cfg.staged)
    (hu : u = s.modCfg fun x => { x with lastCheck := (failing c).code, endRef := none }) :
    stageChecked s = if passes c then
        postCfg (u.modCfg fun x => { x with stage := .verified }) 1 0 (allWith s.cfg.endRef.toList .ok)
      else postCfg (setFault (closeStage u) 0x1203) 1 (failing c).code (allWith s.cfg.endRef.toList .configInvalid) := by
  unfold stageChecked
  rw [if_neg (by simp [ha, hst])]
  dsimp only
  rw [← hc, ← hu]

/-! ## The commit (R469, R470) -/

/-- CFG_COMMIT of the staged image, where nothing refuses it and the mailbox has room. -/
theorem bodyCfgCommit_enters (r : ReqRef) (hm : commitModeBad s = false) (hsrc : arg rq 0 1 = 1)
    (hr : commitRefused s 1 (arg rq 4 4) = none) (hroom : boxRoom s = true) :
    bodyCfgCommit rq r s = cfgWordReply .accepted (offerBox s .commit 0x0706 rq r) := by
  unfold bodyCfgCommit otherChecked
  simp only [hm, hsrc, hr, hroom, Bool.false_eq_true, if_false, if_true, OfNat.one_ne_ofNat, bne_self_eq_false, Bool.false_and]
  rfl

theorem copyTick_ends {k : CfgCopy} (hk : s.cfg.copying = some k)
    (hend : s.draw % 2 = 1 ∨ k.since + copyTime k.raw.length ≤ s.now) : copyTick s = endCopy k s.drawn := by
  unfold copyTick
  rw [hk]
  exact if_pos (c := (s.draw % 2 == 1 || decide (k.since + copyTime k.raw.length ≤ s.now)) = true) (by simpa using hend)

theorem copyTick_waits {k : CfgCopy} (hk : s.cfg.copying = some k) (hfree : s.draw % 2 ≠ 1)
    (hbound : s.now < k.since + copyTime k.raw.length) : copyTick s = s.drawn := by
  unfold copyTick
  rw [hk]
  exact if_neg (c := (s.draw % 2 == 1 || decide (k.since + copyTime k.raw.length ≤ s.now)) = true) (by simpa [hfree] using hbound)

theorem endCopy_of_checked {k : CfgCopy} {u : Chip} (hu : u = s.modCfg fun c => { c with copying := none })
    (hc : (copyChecked k.src k.raw u).1 = none) :
    endCopy k s = if commitModeBad (copyChecked k.src k.raw u).2
        || commitHeld (copyChecked k.src k.raw u).2 k.src k.expected k.raw then
        postCfg (copyChecked k.src k.raw u).2 3 0 [(k.ref, .aborted)]
      else flipState k.raw k.ref (copyChecked k.src k.raw u).2 := by
  unfold endCopy
  dsimp only
  rw [← hu, hc]

/-! ## The image takes effect (R28, R471) -/

theorem cfgApply_of_later {raw : List Byte} {r : ReqRef} {t : Nat} (hap : s.cfg.apply = some (raw, r, t))
    (ha : yardAlive s = true) (ht : t < s.now) :
    cfgApply s = postCfg (endStage (applyImage (readImage raw) (s.modCfg fun c => { c with apply := none }))) 2 0 [(r, .ok)] := by
  unfold cfgApply
  rw [hap]
  exact if_pos (by simp [ha, ht])

/-- A change that waited for its boundary, and the setpoints that waited for it where nothing else is waited for. -/
theorem atBoundary_of_waiting {f : Chip → Chip} {u : Chip} (hw : setpointsWait s = true) (hf : f s = u) :
    atBoundary f s = if setpointsWait u then u else keepView (applyQueues u) := by
  unfold atBoundary
  rw [hf, hw]
  cases setpointsWait u <;> rfl

theorem setpointsWait_of_apply {x : List Byte × ReqRef × Nat} (h : s.cfg.apply = some x) : setpointsWait s = true := by
  simp [setpointsWait, h]

end

/-- Settles O29: each request and event passes its checks; the image applies at a boundary for which the setpoints have
waited. -/
theorem configurationOpcodesComplete : Obligations.ConfigurationOpcodesComplete := by
  refine ⟨fun rq s h hm ho => answers_of rfl h ?info, ?read, ?begins, ?writes, ?ends,
    fun c u s ha hst hc hu => becomes_of rfl (stageChecked_of_verifying ha hst hc hu), ?commit,
    fun k s hk => ⟨copyTick_ends hk, copyTick_waits hk⟩, fun k s u hu hc => endCopy_of_checked hu hc, ?apply⟩
  case info =>
    have hb := bodyCfgInfo_of_readable (rq := rq) (refOf rq s.chip) (s := taken 0x0701 rq s.chip) (by simpa using hm)
      (by simpa using ho)
    simpa using hb
  case read =>
    intro rq raw len base s h hsrc hoff hmost hs hin data hdata hgood
    exact answers_of_page rfl h (bodyCfgRead_of_readable _ hsrc hoff hmost (by simpa using hs) hin hdata (by simpa using hgood))
  case begins =>
    rintro rq s h hlen hc hst u rfl
    exact serves_of rfl h (bodyStageBegin_opens _ hlen (by simpa using hc) (by simpa using hst))
  case writes =>
    rintro rq s h - hopen hat hfit u rfl
    refine serves_of rfl h ((bodyStageWrite_appends _ (by simpa using hopen) (by simpa using hat) (by simpa using hfit)).trans ?_)
    rw [taken_cfg]
    rfl
  case ends =>
    rintro rq s h hopen hfull u rfl
    exact serves_of rfl h (bodyStageEnd_verifies _ (by simpa using hopen) (by simpa using hfull))
  case commit =>
    rintro rq s h hm hsrc hr hroom u rfl
    exact serves_of rfl h (bodyCfgCommit_enters _ (by simpa using hm) hsrc (by simpa using hr) (by simpa using hroom))
  case apply =>
    rintro raw r t s hap ha ht u hu
    exact becomes_of rfl (atBoundary_of_waiting (setpointsWait_of_apply hap) ((cfgApply_of_later hap ha ht).trans hu.symm))

end Sys2Proof.Machine
end

section
/-! PROOFS. The Nymi ports and the hall time (spec/14_nymi_link_and_hall.md). -/

namespace Sys2Proof.Machine

/-! ## The ports (R376, R378, R379) -/

section
variable {s u v : Chip} {p : Nat}

theorem linkTrain_of_down (hu : u = clearSent s) (ha : yardAlive u = true) (hp : portUsed u p = true)
    (hst : (u.np p).state = .down) :
    linkTrain p s = setNp p .training (u.modNp p fun x =>
      { x with good := 0, near := none, recent := [], lastValid := u.now, helloNext := u.now }) := by
  subst hu
  exact if_pos (by simp [ha, hp, hst])

theorem linkHelloTimer_of_due (hu : u = clearSent s) (ha : yardAlive u = true) (hp : portUsed u p = true)
    (hst : (u.np p).state ≠ .down) (hdue : (u.np p).helloNext ≤ u.now) :
    linkHelloTimer p s = sendOn p (ownFrame u 0x02 neighbourDst (helloPayload u))
      (nextFid (u.modNp p fun x => { x with helloNext := u.now + 100 })) := by
  subst hu
  exact if_pos (by simp [ha, hp, hst, hdue])

/-- A good LINK_HELLO acts on any port that is not DOWN, which has counted it as valid. -/
theorem onFrame_hello {f : Frame} (act : Chip → Chip) (hu : u = clearSent s) (ha : yardAlive u = true)
    (hp : portUsed u p = true) (hst : (u.np p).state ≠ .down) (hty : f.ftype.toNat = 0x02)
    (hlen : lenFits 0x02 f.payload.length = true) (hcrc : f.crc = frameCrc f) (hdst : f.dst.toNat / 2 ^ 14 ≠ 3)
    (hv : v = u.modNp p fun x => { x with lastValid := u.now }) (hhops : f.hops.toNat < 32) :
    onFrame 0x02 p f act s = act v := by
  subst hu hv
  refine (if_neg (by simp [ha, hp, hst])).trans <| (if_neg (by simp [hty, hlen, hcrc])).trans <|
    (if_neg (Nat.not_le.mpr hhops)).trans (if_pos ?_)
  simpa [dstRejected] using hdst

theorem takeHello_of_fitting {f : Frame} {n : Neighbour} {w : Chip} (hn : n = helloOf f.payload) (hs : n.strap ≤ 2)
    (hfit : neighbourFits v p n = true) (hw : w = v.modNp p fun x => { x with near := some n, good := min 3 (x.good + 1) }) :
    takeHello p f v = if 3 ≤ (w.np p).good then setNp p .up w else refreshNet w := by
  subst hn hw
  exact (if_neg (Nat.not_lt.mpr hs)).trans (if_pos hfit)

theorem takeHello_of_other {f : Frame} {n : Neighbour} (hn : n = helloOf f.payload) (hs : n.strap ≤ 2)
    (hfit : neighbourFits v p n = false) :
    takeHello p f v = setNp p .topology (v.modNp p fun x => { x with near := some n, good := 0 }) := by
  subst hn
  exact (if_neg (Nat.not_lt.mpr hs)).trans (if_neg (by simp [hfit]))

theorem takeHello_of_noStrap {f : Frame} (hs : 2 < (helloOf f.payload).strap) : takeHello p f v = v := if_pos hs

theorem npDown_of_cause {c : DownCause} (hu : u = clearSent s) (ha : yardAlive u = true) (hp : portUsed u p = true)
    (hst : (u.np p).state ≠ .down) (hc : downCauseHolds u p c = true) : npDown p c s = barrierCheck (takeDown p u) := by
  subst hu
  exact if_pos (by simp [ha, hp, hst, hc])

theorem crcError_counts (ha : yardAlive u = true) (hp : portUsed u p = true) (hst : (u.np p).state ≠ .down) :
    crcError p u = setFault (u.modNp p fun x => { x with
      crc := sat32 x.crc 1, recent := (u.now :: x.recent.filter fun t => u.now < t + 1000).take 8 }) (0x0D04 + p) :=
  if_pos (by simp [ha, hp, hst])

end

/-- Settles O40: each step's condition holds on the state whose last outputs are cleared; a LINK_HELLO is taken while its
port is not DOWN, and its strap and its place in the tree choose what it does. -/
theorem nymiLinkActs : Obligations.NymiLinkActs := by
  refine ⟨fun u p s hu ha hp hst => becomes_of rfl (linkTrain_of_down hu ha hp hst),
    fun u p s hu ha hp hst hdue => becomes_of rfl (linkHelloTimer_of_due hu ha hp hst hdue), ?fits, ?other, ?noStrap,
    fun u p c s hu ha hp hst hc => becomes_of rfl (npDown_of_cause hu ha hp hst hc), ?crc⟩
  case fits =>
    intro u v n w p f s hu ha hp hst hty hlen hcrc hdst hv hhops hn hs hfit hw
    exact becomes_of rfl ((onFrame_hello _ hu ha hp hst hty hlen hcrc hdst hv hhops).trans (takeHello_of_fitting hn hs hfit hw))
  case other =>
    intro u v n p f s hu ha hp hst hty hlen hcrc hdst hv hhops hn hs hfit
    exact becomes_of rfl ((onFrame_hello _ hu ha hp hst hty hlen hcrc hdst hv hhops).trans (takeHello_of_other hn hs hfit))
  case noStrap =>
    intro u v p f s hu ha hp hst hty hlen hcrc hdst hv hhops hs
    exact becomes_of rfl ((onFrame_hello _ hu ha hp hst hty hlen hcrc hdst hv hhops).trans (takeHello_of_noStrap hs))
  case crc =>
    rintro u p s rfl ha hp hst
    exact becomes_of rfl (crcError_counts ha hp hst)

/-! ## Hall time (R381, R382) -/

theorem timeExchange_of_due {s u : Chip} {q t1 : Nat} (hu : u = refreshNet (clearSent s)) (hq : u.net.time.parent = some q)
    (ha : yardAlive u = true) (hthere : parentThere u = true) (hdue : u.net.time.next ≤ u.now) :
    timeExchange t1 s = sendOn q (ownFrame u 0x03 neighbourDst []) (nextFid (u.modTime fun t =>
      { t with ask := some (u.net.frameId, t1 % 2 ^ 64), last := if t.ask.isSome then none else t.last,
               next := u.now + u.img.hall.timePeriod })) := by
  unfold timeExchange
  dsimp only
  rw [← hu, hq]
  exact if_pos (by simp [ha, hthere, hdue])

section
variable {v w x : Chip} {p q t4 : Nat} {f : Frame} (hask : v.net.time.ask = some (f.fid.toNat, q))
  (hpar : v.net.time.parent = some p)
  (hw : w = if p = 0 then { v with pair := { v.pair with me := { v.pair.me with
    heardHall := field f.payload 0 8 / 256 / 100 * 100 } } } else v)
  (hx : x = w.modTime fun t => { t with ask := none, last := some (q, field f.payload 0 8, t4 % 2 ^ 64) })
include hask hpar hw hx

/-- A TIME_RESP of the request in flight is noted; it completes the exchange before, where there was one. -/
theorem takeTimeResp_of_asked :
    takeTimeResp p f t4 v = v.net.time.last.elim x fun l =>
      if field f.payload 8 8 == 0 then x
      else applyOffset (exchangeOffset l.1 l.2.1 (field f.payload 8 8) l.2.2 (tget x.img.hall.asym p)).1
        (exchangeOffset l.1 l.2.1 (field f.payload 8 8) l.2.2 (tget x.img.hall.asym p)).2 x := by
  unfold takeTimeResp
  rw [hask]
  dsimp only
  rw [if_pos (by simp [hpar]), ← hw, ← hx]
  cases v.net.time.last with
  | none => rfl
  | some l => rfl

theorem takeTimeResp_applies {a1 a2 a4 : Nat} (hlast : v.net.time.last = some (a1, a2, a4)) (h3 : field f.payload 8 8 ≠ 0) :
    takeTimeResp p f t4 v = applyOffset (exchangeOffset a1 a2 (field f.payload 8 8) a4 (tget x.img.hall.asym p)).1
      (exchangeOffset a1 a2 (field f.payload 8 8) a4 (tget x.img.hall.asym p)).2 x := by
  rw [takeTimeResp_of_asked hask hpar hw hx, hlast]
  exact if_neg (by simpa using h3)

theorem takeTimeResp_notes (hno : v.net.time.last = none ∨ field f.payload 8 8 = 0) : takeTimeResp p f t4 v = x := by
  rw [takeTimeResp_of_asked hask hpar hw hx]
  rcases hno with hnone | h3
  · rw [hnone, Option.elim_none]
  · cases v.net.time.last with
    | none => rfl
    | some a => exact if_pos (by simp [h3])

end

/-- Settles O41: the exchange is due; a request acts whenever it is heard; a response is the answer in flight, and what the
exchange before it left decides the rest. -/
theorem hallTimeFramesAct : Obligations.HallTimeFramesAct :=
  ⟨fun _ _ _ _ hu hq ha hthere hdue => becomes_of rfl (timeExchange_of_due hu hq ha hthere hdue),
    fun _ _ _ _ _ _ hh => becomes_of rfl (onFrame_heard _ hh),
    fun _ _ _ _ _ _ _ _ _ _ _ hh hask hpar hw hx hlast h3 =>
      becomes_of rfl ((onFrame_heard _ hh).trans (takeTimeResp_applies hask hpar hw hx hlast h3)),
    fun _ _ _ _ _ _ _ _ hh hask hpar hw hx hno =>
      becomes_of rfl ((onFrame_heard _ hh).trans (takeTimeResp_notes hask hpar hw hx hno))⟩

end Sys2Proof.Machine
end

section
/-! PROOFS. Broadcasts, barriers, schedules and messages at the member that hears them (spec/14_nymi_link_and_hall.md). -/

namespace Sys2Proof.Machine

section
variable {s u v w : Chip} {p : Nat} {f : Frame}

/-! ## Broadcasts and barriers (R386-R388) -/

theorem takeBroadcast_inHall (hh : inHall v = true) :
    takeBroadcast p f v = if climbs v p then climbBroadcast (some p) f v else spreadBroadcast (some p) f v :=
  if_neg (by simp [hh])

theorem takeArrive_gathers {b : Barrier} (hh : inHall v = true)
    (hb : v.net.barrier.filter (fun b => b.openAt.isSome) = some b) :
    takeArrive p f v = barrierCheck (v.modNet fun n => { n with barrier := some { b with
      arrived := (p, { count := field f.payload 4 4, incomplete := field f.payload 2 1 % 2 == 1,
                       conflict := field f.payload 2 1 / 2 % 2 == 1 }) :: b.arrived.filter (fun x => x.1 != p),
      conflict := b.conflict || b.id != field f.payload 0 2 } }) := by
  unfold takeArrive
  dsimp only
  rw [if_neg (by simp [hh]), hb]

theorem takeArrive_climbs (hh : inHall v = true) (hb : v.net.barrier.filter (fun b => b.openAt.isSome) = none) :
    takeArrive p f v = if isRoot v then rootOpens (field f.payload 0 2) v else sendUp (some p) f v := by
  unfold takeArrive
  dsimp only
  rw [if_neg (by simp [hh]), hb]

theorem takeOpen_inHall (hh : inHall v = true) :
    takeOpen p f v = openBarrier (field f.payload 0 2) (sendDown (some p) f v) :=
  if_neg (by simp [hh])

theorem barrierTimeout_of_due {b : Barrier} (hu : u = clearSent s) (hb : u.net.barrier = some b) (ha : yardAlive u = true)
    (hh : inHall u = true) (hs : b.sent = false)
    (hdue : (b.openAt.any fun t => decide (t + u.img.hall.barrierTimeout * 1000 ≤ u.now)) = true) :
    barrierTimeout s = sendAggregate true u := by
  unfold barrierTimeout
  dsimp only
  rw [← hu, hb]
  exact if_pos (by simp only [ha, hh, hs, hdue, Bool.not_false, Bool.and_self])

/-! ## Schedules (R389-R392) -/

theorem takeSchedule_assigned (hh : inHall v = true) (hs : schedAssigned f.payload = true) (hw : w = sendDown (some p) f v) :
    takeSchedule p f v = if w.hall ≤ field f.payload 8 8 then holdSchedule f.payload w
      else if field f.payload 0 1 = 1 then stillDone (field f.payload 8 8) 1 none32 (setFault w 0x0D10)
      else setFault w 0x0D10 := by
  unfold takeSchedule
  rw [if_neg (by simp [hh, hs])]
  dsimp only
  rw [← hw]

theorem takeSchedule_unassigned (hs : schedAssigned f.payload = false) : takeSchedule p f v = v :=
  if_pos (by simp [hs])

theorem takeSchedReq_answers {y : Status} (hr : isRoot v = true) (hw : yardWorks v = true)
    (hy : judgeSchedule v f.payload = y) :
    takeSchedReq f v = routeOn none (replyFrame (if y = .ok then acceptSchedule f.payload v else v) f 0x25
      (le 2 y.code ++ zeros 2)) (if y = .ok then acceptSchedule f.payload v else v) := by
  unfold takeSchedReq
  rw [if_neg (by simp [hr, hw]), hy]
  simp only [beq_iff_eq]

theorem takeSchedAns_ends {a : SchedAsk} {y : Status} (ha : v.net.asks.find? (fun x => x.fid == f.fid.toNat) = some a)
    (hy : statusOfCode (field f.payload 0 2) = some y) :
    takeSchedAns f v = formReply (v.modNet fun n => { n with asks := n.asks.filter fun x => x.fid != a.fid }) a.ref y
      (if y = .ok then le 8 a.at_ else []) := by
  unfold takeSchedAns
  rw [ha, hy]
  simp only [beq_iff_eq]

theorem scheduleAction_acts (hu : u = clearSent s) (ha : yardAlive u = true)
    (hw : w = if u.net.still.any fun x => decide (x.at_ ≤ u.hall) then stillAction u else u) :
    scheduleAction s = w.net.reset.elim w fun x => if x.at_ ≤ w.hall then resetAction x w else w := by
  unfold scheduleAction
  dsimp only
  rw [← hu, if_neg (by simp [ha]), ← hw]
  cases w.net.reset with
  | none => rfl
  | some x => rfl

/-! ## Messages (R380, R393, R394) -/

/-- The statuses of a MESSAGE_ACK that have a meaning. -/
theorem ackStatus_has_meaning {st : Nat} (h : st = Status.ok.code ∨ st = Status.roleChanged.code) :
    ¬ (st != Status.ok.code && st != Status.roleChanged.code) = true := by
  rcases h with rfl | rfl <;> decide

theorem takeAck_of_waiting {a : MsgAsk} (ha : v.net.msgs.find? (fun x => x.fid == f.fid.toNat) = some a)
    (hst : field f.payload 0 2 = Status.ok.code ∨ field f.payload 0 2 = Status.roleChanged.code) :
    takeAck f v = postResult a ((f.payload.drop 4).take 2) (field f.payload 2 2)
      (if field f.payload 0 2 = Status.roleChanged.code then .roleChanged else .ok)
      (v.modNet fun n => { n with msgs := n.msgs.filter fun x => x.fid != f.fid.toNat }) := by
  unfold takeAck
  dsimp only
  rw [if_neg (ackStatus_has_meaning hst), ha]

theorem takeAck_of_none (ha : v.net.msgs.find? (fun x => x.fid == f.fid.toNat) = none)
    (hst : field f.payload 0 2 = Status.ok.code ∨ field f.payload 0 2 = Status.roleChanged.code) :
    takeAck f v = if field f.payload 0 2 = Status.roleChanged.code then resendCap f.fid.toNat (field f.payload 2 2) v
      else v := by
  unfold takeAck
  dsimp only
  rw [if_neg (ackStatus_has_meaning hst), ha]

end

/-- Settles O42: a frame that is heard, and where it is routed delivered, acts, and what the member holds chooses the branch;
the timeouts act on what is overdue. -/
theorem hallEventFramesAct : Obligations.HallEventFramesAct := by
  refine ⟨fun v p f s hf hh => becomes_of rfl ((onFrame_heard _ hf).trans (takeBroadcast_inHall hh)),
    fun v b p f s hf hh hb => becomes_of rfl ((onFrame_heard _ hf).trans (takeArrive_gathers hh hb)),
    fun v p f s hf hh hb => becomes_of rfl ((onFrame_heard _ hf).trans (takeArrive_climbs hh hb)),
    fun v p f s hf hh => becomes_of rfl ((onFrame_heard _ hf).trans (takeOpen_inHall hh)),
    fun v p f s hf hh => becomes_of rfl ((onFrame_heard _ hf).trans (if_pos hh)),
    fun u b s hu hb ha hh hs hdue => becomes_of rfl (barrierTimeout_of_due hu hb ha hh hs hdue),
    fun v w p f s hf hh hs hw => becomes_of rfl ((onFrame_heard _ hf).trans (takeSchedule_assigned hh hs hw)),
    fun v p f s hf hs => becomes_of rfl ((onFrame_heard _ hf).trans (takeSchedule_unassigned hs)),
    fun v y p f s hf hd hr hw hy => becomes_of_delivered rfl hf hd (takeSchedReq_answers hr hw hy),
    fun v a y p f s hf hd ha hy => becomes_of_delivered rfl hf hd (takeSchedAns_ends ha hy),
    fun s => rfl, ?action, fun v p f s hf hd => becomes_of_delivered rfl hf hd rfl,
    fun v a p f s hf hd ha hst => becomes_of_delivered rfl hf hd (takeAck_of_waiting ha hst),
    fun v p f s hf hd ha hst => becomes_of_delivered rfl hf hd (takeAck_of_none ha hst),
    fun s => rfl⟩
  case action =>
    intro u w s hu ha hw
    refine becomes_of rfl ((scheduleAction_acts hu ha hw).trans ?_)
    cases w.net.reset with
    | none => rfl
    | some x => rfl

end Sys2Proof.Machine
end

section
/-! PROOFS. The hall opcodes (spec/14_nymi_link_and_hall.md). -/

namespace Sys2Proof.Machine

/-! ## What the bodies read of the block when they meet their request -/

section
variable (opcode : Nat) (rq : Request) (s : Chip)

@[simp] theorem taken_hallGetData : hallGetData (taken opcode rq s) = hallGetData s :=
  taken_reads _ opcode rq s (fun _ _ => rfl) fun _ _ => rfl
@[simp] theorem taken_hallTimeData : hallTimeData (taken opcode rq s) = hallTimeData s :=
  taken_reads _ opcode rq s (fun _ _ => rfl) fun _ _ => rfl
@[simp] theorem taken_inHall : inHall (taken opcode rq s) = inHall s :=
  taken_reads _ opcode rq s (fun _ _ => rfl) fun _ _ => rfl
@[simp] theorem taken_net : (taken opcode rq s).net = s.net :=
  taken_reads _ opcode rq s (fun _ _ => rfl) fun _ _ => rfl
@[simp] theorem taken_collectStatus : collectStatus (taken opcode rq s) = collectStatus s :=
  taken_reads _ opcode rq s (fun _ _ => rfl) fun _ _ => rfl

end

section
variable {rq : Request} {s v : Chip} (r : ReqRef)

/-! ## Broadcast and barrier (R386, R387) -/

theorem bodyHallBroadcast_sends (hv : v = clearSent s) (hd : hallDenied true v = false) :
    bodyHallBroadcast rq r s = hallWordReply .ok (climbBroadcast none
      (ownFrame v 0x10 dstTree (le 2 (nodeId v) ++ zeros 2 ++ fit 8 rq.params ++ zeros 4)) (nextFid v)) := by
  subst hv
  exact if_neg (by simp [hd])

theorem bodyHallBarrier_arrives (hv : v = clearSent s) (hd : hallDenied true v = false) (hp : participant v = true)
    (hown : (v.net.barrier.any fun b => b.own) = false) :
    bodyHallBarrier rq r s = acceptFirst r (fun c => le 4 (hallWord c)) (arriveHere (arg rq 0 2) r) v := by
  subst hv
  exact (if_neg (by simp [hd, hp])).trans (if_neg (by rw [hown]; decide))

/-! ## Schedules (R389) -/

/-- The payload of a schedule that this member asks for. -/
def schedPayload (v : Chip) (kind act at_ : Nat) : List Byte :=
  le 1 kind ++ le 1 act ++ le 2 (nodeId v) ++ zeros 4 ++ le 8 at_

theorem askSchedule_at_root {kind act at_ : Nat} (hv : v = clearSent s) (hlead : v.hall + minLead v ≤ at_)
    (hd : hallDenied true v = false) (hr : isRoot v = true) (hj : judgeSchedule v (schedPayload v kind act at_) = .ok) :
    askSchedule kind act at_ r s = (.reply .ok (le 8 at_), acceptSchedule (schedPayload v kind act at_) v) := by
  subst hv
  refine (if_neg (Nat.not_lt.mpr hlead)).trans ((if_neg (by simp [hd])).trans ((if_pos hr).trans (if_pos ?_)))
  rw [← schedPayload, hj]
  rfl

theorem askSchedule_elsewhere {kind act at_ : Nat} {f : Frame} (hv : v = clearSent s) (hlead : v.hall + minLead v ≤ at_)
    (hd : hallDenied true v = false) (hr : isRoot v = false)
    (hf : f = { ownFrame v 0x24 (dstActive 0) (schedPayload v kind act at_) with epoch := 0xFFFF#16 }) :
    askSchedule kind act at_ r s = (.later, routeOn none f (nextFid (v.modNet fun n =>
      { n with asks := n.asks ++ [{ fid := v.net.frameId, at_ := at_, ref := r, sent := v.now }] }))) := by
  subst hv hf
  exact (if_neg (Nat.not_lt.mpr hlead)).trans ((if_neg (by simp [hd])).trans (if_neg (by simp [hr])))

theorem bodyStillLife_inHall (hh : inHall s = true) : bodyStillLife rq r s = askSchedule 1 0 (arg rq 0 8) r s :=
  if_neg (by simp [hh])

theorem bodyHallReset_of_action (hh : inHall s = true) (h0 : (arg rq 0 1 % 16) % 4 ≠ 0) (h3 : (arg rq 0 1 % 16) % 4 ≠ 3) :
    bodyHallReset rq r s = askSchedule 2 (arg rq 0 1 % 16) (arg rq 4 8) r s :=
  (if_neg (by simp [hh])).trans (if_neg (by simp only [Bool.or_eq_true, beq_iff_eq, h0, h3, or_self, not_false_eq_true]))

/-! ## The collection (R395, R396) -/

theorem bodyCollectStart_starts (hv : v = clearSent s) (hh : inHall v = true) (hop : arg rq 0 1 = 1)
    (hb : collBusy v.net.coll = false) :
    bodyCollectStart rq r s = acceptFirst r collectStatus askNext (v.modColl fun _ => { at_ := arg rq 4 8, ref := some r }) := by
  subst hv
  exact (if_neg (by simp [hh])).trans ((if_neg (by simp [hop])).trans (if_neg (by simp [hb])))

theorem bodyCollectRead_reads {us : List (List Byte)} {w u : Chip} (hv : v = clearSent s) (hh : inHall v = true)
    (hop : arg rq 0 1 = 2) (hus : us = unitsFit v.net.coll.buf (portLimit rq.port - 4)
      (if arg rq 4 2 = 0 then v.net.coll.buf.length else arg rq 4 2))
    (hw : w = v.modColl fun c => { c with buf := v.net.coll.buf.drop us.length })
    (hu : u = if v.net.coll.state == .waiting then askNext w else w) :
    bodyCollectRead rq r s = (.reply .ok (le 2 us.length ++ zeros 2 ++ us.flatten)
      (!(v.net.coll.buf.drop us.length).isEmpty || collBusy u.net.coll), u) := by
  unfold bodyCollectRead
  dsimp only
  rw [← hv, if_neg (by simp [hh]), if_neg (by simp [hop]), ← hus, ← hw, ← hu]

theorem bodyCollectStatus_tells (hh : inHall s = true) (hop : arg rq 0 1 = 3) :
    bodyCollectStatus rq r s = (.reply .ok (collectStatus s), s) :=
  (if_neg (by simp [hh])).trans (if_neg (by simp [hop]))

theorem bodyCollectCancel_cancels {u : Chip} (hh : inHall s = true) (hop : arg rq 0 1 = 4)
    (hu : u = if collBusy s.net.coll then setColl .cancelled s else s) :
    bodyCollectCancel rq r s = (.reply .ok (collectStatus u), u) := by
  subst hu
  exact (if_neg (by simp [hh])).trans (if_neg (by simp [hop]))

/-! ## Messages (R394) -/

/-- A HALL_SEND to a pair or a node that exists. -/
theorem bodyHallSend_launches {w : Chip} (hv : v = clearSent s) (hh : inHall v = true) (hk : arg rq 0 1 ≤ 1)
    (hn : arg rq 2 2 < if arg rq 0 1 = 0 then 2 * v.img.hall.pairs else v.img.hall.pairs)
    (hw : w = nextFid (v.modNet fun x =>
      { x with msgs := x.msgs ++ [{ fid := v.net.frameId, dst := arg rq 2 2, ref := r, sent := v.now }] })) :
    bodyHallSend rq r s = acceptFirst r (fun _ => le 2 v.net.frameId ++ zeros 2) (launchMessage (sendFrame v rq)) w := by
  subst hv hw
  exact (if_neg (by simp [hh])).trans ((if_neg (Nat.not_lt.mpr hk)).trans (if_neg (Nat.not_le.mpr hn)))

theorem launchMessage_eq (f : Frame) (x : Chip) :
    launchMessage f x = if deliversHere x f = false then routeOn none f x
      else if toActive f && !(isActive x && (f.epoch == 0xFFFF#16 || f.epoch.toNat == x.mode.epoch)) then
        takeAck (ackFrame x f .roleChanged) x
      else takeAck (ackFrame x f .ok) (deliverMessage f x) := by
  unfold launchMessage
  simp only [Bool.not_eq_true']

end

/-- Settles O44: each request passes its checks on the state whose last outputs are cleared. -/
theorem hallOpcodesComplete : Obligations.HallOpcodesComplete := by
  refine ⟨fun rq s h => answers_of rfl h (by simp [bodyHallGet]), fun rq s h => answers_of rfl h (by simp [bodyHallTimeGet]),
    ?broadcast, fun rq v s h hv hd hp hown => becomes_of_later rfl h (bodyHallBarrier_arrives _ hv hd hp hown),
    ?stillAtRoot, fun rq v f s h hv hh hlead hd hr hf => becomes_of_later rfl h ?stillElsewhere,
    ?resetAtRoot, fun rq v f s h hv hh h0 h3 hlead hd hr hf => becomes_of_later rfl h ?resetElsewhere,
    ?start, ?read, ?status, ?cancel, ?send⟩
  case broadcast =>
    rintro rq v s h hv hd u rfl
    exact serves_of rfl h (bodyHallBroadcast_sends _ hv hd)
  case stillAtRoot =>
    rintro rq v s h hv hh hlead hd hr hj u rfl
    exact serves_of rfl h ((bodyStillLife_inHall _ (by simpa using hh)).trans (askSchedule_at_root _ hv hlead hd hr hj))
  case stillElsewhere =>
    exact (bodyStillLife_inHall _ (by simpa using hh)).trans (askSchedule_elsewhere _ hv hlead hd hr hf)
  case resetAtRoot =>
    rintro rq v s h hv hh h0 h3 hlead hd hr hj u rfl
    exact serves_of rfl h ((bodyHallReset_of_action _ (by simpa using hh) h0 h3).trans
      (askSchedule_at_root _ hv hlead hd hr hj))
  case resetElsewhere =>
    exact (bodyHallReset_of_action _ (by simpa using hh) h0 h3).trans (askSchedule_elsewhere _ hv hlead hd hr hf)
  case start =>
    rintro rq v s h hv hh hop hb w rfl
    exact becomes_of_later rfl h (bodyCollectStart_starts _ hv hh hop hb)
  case read =>
    intro rq v us w s h hv hh hop hus hw u hu
    exact serves_of_page rfl h (bodyCollectRead_reads _ hv hh hop hus hw hu)
  case status =>
    rintro rq s h hh hop u rfl
    exact serves_of rfl h ((bodyCollectStatus_tells _ (by simpa using hh) hop).trans (by rw [taken_collectStatus]))
  case cancel =>
    rintro rq s h hh hop u hu
    exact serves_of rfl h (bodyCollectCancel_cancels _ (by simpa using hh) hop (by rw [taken_net]; exact hu))
  case send =>
    rintro rq v f w s h hv hh hk hn hf hw x hx
    rw [hf, hx, ← launchMessage_eq]
    exact becomes_of_later rfl h (bodyHallSend_launches _ hv hh hk hn hw)

end Sys2Proof.Machine
end
